-- ==== Sys2Proof/Word.lean ====
section
/-! DEFINITION. The word types of the module: bytes and 32-bit little-endian register words (R13). -/

namespace Sys2Proof

/-- One byte of a record, a frame, an image or a memory. -/
abbrev Byte := BitVec 8

/-- One register word of BAR0 (R13). -/
abbrev Word := BitVec 32

end Sys2Proof
end

