-- ==== Sys2Proof/Syntax.lean ====
section
/-! DEFINITION. The commands: one constructor for each row of the opcode table, with the values the event carries. -/

namespace Sys2Proof

/-- What the two cores measure in one safety cycle (R371, R421, R422): the densities of DSM0, DSM1, DSM2 at each core and DSM3 in 2^-24 as the
decimation filter gives them (R448), the signed 16-bit code of HALL (R64); the Servitor period by the Gaffer and the Gaffer period by the
Servitor, 10 ns; instructions the Gaffer has retired, the Servitor lag, the trace bytes written, and Exchange RAM words that the Gaffer reads
with an error, corrected or uncorrectable (R287). -/
structure Meas where
  dsm0 : BitVec 25 := 8388608#25
  dsm1 : BitVec 25 := 8388608#25
  dsm2G : BitVec 25 := 8388608#25
  dsm2S : BitVec 25 := 8388608#25
  dsm3 : BitVec 25 := 8388608#25
  hall : BitVec 16 := 0#16
  sByG : BitVec 16 := 50000#16
  gByS : BitVec 16 := 50000#16
  retired : BitVec 24 := 0#24
  lag : BitVec 13 := 0#13
  trace : List Byte := []
  xecc : List (Fin 16384 × Bool) := []
  deriving DecidableEq, Repr

/-- What the start-up tests find (R559): failed store banks as unit and bank, failed spare banks of 512 KiB and of 64 KiB by region,
regions whose working memory fails, failed lanes as region and lane, failed spare lanes, failed scratchpad windows of each core, and whether
the spare window of each core fails. -/
structure StartTests where
  banks : List (Fin 26 × Fin 8) := []
  spareL : BitVec 8 := 0#8
  spareS : BitVec 8 := 0#8
  work : BitVec 8 := 0#8
  lanes : List (Fin 8 × Fin 8) := []
  spareLanes : BitVec 4 := 0#4
  winG : List (Fin 32) := []
  winS : List (Fin 32) := []
  spareWinG : Bool := false
  spareWinS : Bool := false
  deriving DecidableEq, Repr

/-- What is fixed of a companion node, and the master it reports, as it comes to the chain (Tables LNK-5, NODE-12): NH0403 or NH0824,
revision, unique ID, last master ID, trimmed filter corners. -/
structure NodeIdent where
  nh0403 : Bool := false
  rev : BitVec 8 := 0#8
  uid : BitVec 64 := 0#64
  master : BitVec 64 := 0#64
  corners : List (BitVec 16) := []
  deriving DecidableEq, Repr

/-- A frame as it reaches a node (Table LNK-4): received on DN, the LIN, LATE and RSP bits, tag and HOP byte, a reserved opcode in place of the
row's own (0: none), the two CRC bytes, and whether it comes with a code error, without K28.5 before its SOF or with a K character in it. -/
structure NodeRx where
  dn : Bool := false
  lin : Bool := false
  late : Bool := false
  rsp : Bool := false
  tag : BitVec 3 := 0#3
  hop : BitVec 8 := 0#8
  opc : BitVec 8 := 0#8
  crc : BitVec 16 := 0#16
  codeErr : Bool := false
  deriving DecidableEq, Repr

/-- A frame at a node with its payload. -/
structure NodeMsg where
  rx : NodeRx := {}
  payload : List Byte := []
  deriving DecidableEq, Repr

/-- A SWEEP at a node: its payload, and the switches that are closed at that instant, input k in bit k (R220). -/
structure SweepAt where
  payload : List Byte := []
  closed : BitVec 24 := 0#24
  deriving DecidableEq, Repr

/-- A COLLECT_SEG at a node: its payload, the frames that the node has repeated from beyond it, and the 10 ns since the last of them or, with
none, since its turnaround (R203). -/
structure SegAt where
  payload : List Byte := []
  seen : BitVec 8 := 0#8
  quiet : BitVec 16 := 0#16
  deriving DecidableEq, Repr

/-- What a conversion samples: the inputs, and at an NH0403 the shunt voltages of its current inputs in nV (R213, R227). -/
structure ConvAt where
  inputs : List (BitVec 16) := []
  shunt : List Word := []
  deriving DecidableEq, Repr

/-- What the link engine finds at a timeout: whether a retry still fits (R192), and how many nodes LINKOUT reaches if this timeout shows a
break (R201). -/
structure TmoFinding where
  room : Bool := false
  kOut : Fin 129 := 0
  deriving DecidableEq, Repr

/-- What an NH0403 measures up to a data build beside its inputs (R228, R229): the samples of the 16 kS/s stream since the previous conversion
instant, oldest first, as time before this instant in 10 ns and shunt voltage in nV; the time between the two instants in 10 ns; the auxiliary
contacts; the ms since the later of the last build and the last valid hold pair. -/
structure StringData where
  samples : List (Word × Word) := []
  dt : Word := 0#32
  aux : BitVec 3 := 0#3
  since : BitVec 16 := 0#16
  deriving DecidableEq, Repr

/-- What one step of a probe meets (R196): the ENUM arrives at the other port, or the code groups that come back within 200 µs, none for no
reply; the round trip in 2.5 ns. -/
structure ProbeStep where
  arrived : Bool := false
  reply : Option (List (BitVec 10)) := none
  rt : Word := 0#32
  deriving DecidableEq, Repr

/-- What the configuration of a node meets (R214, R217, R234): refused writes as first refused word and status, and the words read back. -/
structure NodeCfg where
  hop : Fin 128 := 0
  refused : List (BitVec 16 × BitVec 8) := []
  words : List (BitVec 16 × BitVec 16) := []
  deriving DecidableEq, Repr

/-- What an enumeration meets (R196): the steps of the probes from OUT and from RET, the SWEEP transit of a closed ring in 10 ns, and the
configuration by node. -/
structure EnumResult where
  outs : List ProbeStep := []
  rets : List ProbeStep := []
  tRing : BitVec 16 := 0#16
  cfg : List NodeCfg := []
  deriving DecidableEq, Repr

/-- What the update of a lane group meets with an error: words of the store as BAR2 offset and uncorrectable (R287), and of the group's working
memory uncorrectable ones in a string's phasor ring and in a cell's window map (R333). -/
structure UpdErrs where
  words : List (BitVec 26 × Bool) := []
  rings : List (Fin 512) := []
  maps : List (BitVec 18) := []
  deriving DecidableEq, Repr

/-- What an epoch close finds: its time after A(N) in µs, the check comparison of each path (R463), lanes that fail their check update as
region and lane (R312), the given entries of the Publication ring as control word,
address and length (R517), the bytes and the write-back time after A(N) in µs of a publication that this close cuts off (R519), corrected and uncorrectable words
as BAR2 offset and uncorrectable (R287), and by region and lane how many cells of an update that has not finished are done (R32, R311). -/
structure CloseInfo where
  us : BitVec 16 := 0#16
  okA : Bool := true
  okB : Bool := true
  lanes : List (Fin 8 × Fin 8) := []
  entries : List (Word × BitVec 64 × Word) := []
  pubBytes : Word := 0#32
  pubUs : Word := 0#32
  ecc : List (BitVec 26 × Bool) := []
  progress : List (List (BitVec 16)) := []
  deriving DecidableEq, Repr

/-- What the tracking loop finds when its lock is in question (R159): the measured and the loop's phase of the last three mains cycles, the
peak amplitude of LINE in mV, whether a zero crossing of LINE or an accepted edge of SYNC_IN has come, for how many ms the source has had
no valid signal, and the tracked frequency in 0.0001 Hz. -/
structure LossObs where
  phases : List (BitVec 16 × BitVec 16) := []
  mv : BitVec 16 := 0#16
  crossing : Bool := true
  ms : BitVec 16 := 0#16
  freq : Word := 500000#32
  deriving DecidableEq, Repr

/-- The commands of the module (opcode table). Operands are the measured values and the choices that come from outside. (DESIGN CHOICE, log 1) -/
inductive Instr where
  /-- VBUS_START (R93): VBUS rises to the 34 V start threshold; stage 0 begins and the start deadlines are counted from this instant. -/
  | vbusStart
  /-- DBG_EN_SAMPLE (R87): DBG_EN is sampled 1 ms after VBUS first reaches 34 V at power-on, and board-test mode is entered if it is high. -/
  | dbgEnSample (high : Bool)
  /-- VOUT33_RETRY (R55): Every 100 ms while VOUT33 is below 3.0 V the module retries the image read, logging 0x0109 on the first failure. -/
  | vout33Retry (mv : BitVec 16)
  /-- BROWN_OUT (R95): VBUS below 32 V for 100 µs switches every output off within 10 µs, stops sweeps, logs 0x0101 with the operating time and powers the main domain down. -/
  | brownOut
  /-- POWER_LOSS (R93): VBUS below 12 V loses the always-on domain, so the next start is a power-on. -/
  | powerLoss
  /-- VBUS_LOW (R93): VBUS below 36 V for 10 ms sets VBUS_LOW and logs 0x0103; 36.5 V for 10 ms clears it and logs 0x0105. `ms`: how long it has been there. -/
  | vbusLow (ms v : BitVec 16)
  /-- VBUS_HIGH (R93): VBUS above 75 V for 10 ms sets VBUS_HIGH and logs 0x0104; 74.5 V for 10 ms clears it and logs 0x0105. `ms`: how long it has been there. -/
  | vbusHigh (ms v : BitVec 16)
  /-- VSW_SUPPLY_LOST (R53): A VSW supply below 32 V for 1 ms marks its channels supply-lost, switches them off and logs 0x0F01. -/
  | vswSupplyLost (n : Fin 4) (v : BitVec 16)
  /-- VSW_SUPPLY_REGAINED (R98): A VSW supply at 34 V or above for 10 ms clears supply-lost and logs 0x0F02 without switching any output on. -/
  | vswSupplyRegained (n : Fin 4) (v : BitVec 16)
  /-- OPTIME_COPY (R97): Every 1 s the operating-time counter is copied to the event log memory. -/
  | optimeCopy
  /-- STAGE_1_ENTRY (R99): The module enters IMAGE once the image is loaded, the start-up injection has passed and HS8–HS15 are at their fail-safe states. -/
  | stage1Entry (t : BitVec 24)
  /-- STAGE_2_ENTRY (R99): The module enters SENTRY once every mapped chain is enumerated or in fault, the first epoch is taken and limit paths A and B are armed. -/
  | stage2Entry (t : BitVec 24)
  /-- STAGE_3_ENTRY (R99): The module enters READY once the state restore is done, the deadline check has passed and the proof-test demands are evaluated, and contactor close becomes permitted. -/
  | stage3Entry (t : BitVec 24)
  /-- RESET_N_LOW (R108): RESET_N low for 20 ms or more resets the module to stage 0, with the coil outputs off at once. -/
  | resetNLow
  /-- RESET_N_RELEASE (R108): Release of RESET_N after a reset restarts the staged start. -/
  | resetNRelease
  /-- STUCK_RESET (R109): RESET_N still low 5 s after its fall restarts the staged start, sets STUCK_RESET_IGNORED and logs 0x0106. -/
  | stuckReset
  /-- STUCK_RESET_CLEAR (R109): RESET_N high for 100 ms without interruption clears STUCK_RESET_IGNORED and makes RESET_N active again. -/
  | stuckResetClear
  /-- RESTART (R111): A session write of 1 to RESTART restarts the module as a RESET_N reset if all contactors are proven open, and is otherwise refused with 0x0107. -/
  | restartModule
  /-- SLEEP_REQ (R113): A write of SLEEP_REQ starts the sleep sequence if its conditions hold, and is otherwise refused with SLEEP_REFUSE and 0x0108. -/
  | sleepReq
  /-- SLEEP_SEQUENCE_DONE (R114): The sleep sequence completes: the nodes are asleep, the state is saved, 0x010A is logged, and VOUT33 and the main domain are switched off. -/
  | sleepSequenceDone
  /-- WAKE_IN_EDGE (R81): A rising edge on WAKE_IN after 10 ms low wakes the module from sleep and runs the full staged start. It falls, or rises after so many ms low. -/
  | wakeInEdge (rise : Option (BitVec 16))
  /-- WAKE_TONE_DETECTED (R115): A wake tone on an OUT or RET receiver of a mapped chain wakes the module, and the chain and port are recorded. -/
  | wakeToneDetected (chain : Fin 64) (ret : Bool)
  /-- WAKE_TIMER_EXPIRY (R115): Expiry of the WAKE_MIN timer in sleep wakes the module. -/
  | wakeTimerExpiry
  /-- LATCHED_WAKE (R116): A wake event latched during the sleep sequence wakes the module within 10 ms after step 5. -/
  | latchedWake
  /-- WAKE_PULSE (R82): A write of WAKE_PULSE sends a 200 ms pulse on WAKE_OUT. -/
  | wakePulse
  /-- WAKE_OUT_PULSE_END (R82): WAKE_OUT switches off when its 200 ms pulse ends. -/
  | wakeOutPulseEnd
  /-- SAVE_STATE (R323): A write of SAVE_STATE saves the compact cell state now, or holds the request until the running save completes. -/
  | saveState
  /-- IMAGE_LOAD (R122): The module reads the slot headers and images, chooses a slot, loads it in one full read, classifies its binding, or enters image recovery. -/
  | imageLoad (density : Word)
  /-- STARTUP_TESTS (R559): The stage-1 march tests of the banks, working memory, lanes and scratchpads complete, and spares are assigned. -/
  | startupTests (t : StartTests)
  /-- STARTUP_INJECTION (R431): The 64 comparator injection patterns run, setting INJ_START_OK and logging 0x0C02, or leaving the pair Faulted with 0x0C03. -/
  | startupInjection (missed : Option (Fin 64)) (eccG : Fin 3) (eccS : Fin 3) (okA : Bool) (okB : Bool)
  /-- LOG_SCAN (R537): The start-up scan of every log slot completes, restoring the next sequence number and the class counts. -/
  | logScan (bad : Option (Fin 65792))
  /-- OPEN (R135): A write of OPEN starts the password comparison, or is ignored with 0x0210 during a lockout, an open session or a running comparison. -/
  | openSession
  /-- PASSWORD_COMPARE_DONE (R138): The password comparison completes, opening a session or counting a failure and starting a lockout at the fifth. -/
  | passwordCompareDone
  /-- CLOSE (R137): A write of CLOSE ends the password session and logs 0x0205. -/
  | closeSession
  /-- SESSION_EXPIRY (R137): 600 s without an accepted RWP write ends the session and logs 0x0205. -/
  | sessionExpiry
  /-- LOCKOUT_END (R138): The end of 900 s of lockout clears LOCKOUT and returns FAIL_COUNT to 0. -/
  | lockoutEnd
  /-- RECOMMISSION (R134): A session write of RECOMMISSION begins binding and rewriting the image, or is refused with 0x020F. -/
  | recommission
  /-- RECOMMISSION_DONE (R134): The rewrite and read-back of the recommissioned image completes, logging 0x020B and clearing FOREIGN_IMAGE, or 0x020A on failure. -/
  | recommissionDone (fail : Option (BitVec 32))
  /-- START (R140): A session write of START in stage 4 begins an update into the target slot, and UPD_STATE becomes 1. -/
  | startUpdate
  /-- VALIDATION_DONE (R140): Validation and the deadline check of the staged image complete, and UPD_STATE becomes 3 or 6. -/
  | validationDone
  /-- COMMIT (R140): A session write of COMMIT in state 3 re-checks the repair state and writes the change log, the magic and the binding. -/
  | commitUpdate
  /-- COMMIT_DONE (R140): The commit read-back completes, and UPD_STATE becomes 5, or 7 after a retried failure. -/
  | commitDone (fail : Option (BitVec 32))
  /-- UPDATE_ABORT (R141): A write of ABORT in IMG_UPD ends a transfer in states 1 to 3, or returns states 5 to 7 to 0. -/
  | updateAbort
  /-- REC_WRITE (R143): A write of REC_WRITE in recovery stages one Exchange RAM chunk into slot 0 and sets REC_BUSY. -/
  | recWrite
  /-- REC_CHUNK_DONE (R143): Staging of a recovery chunk completes and REC_BUSY clears. -/
  | recChunkDone (fail : Option (BitVec 32))
  /-- REC_COMMIT (R143): A write of REC_COMMIT validates the recovery image and then appends, binds and writes slot 0. -/
  | recCommit
  /-- REC_COMMIT_DONE (R143): The recovery commit completes with its read-back, logging 0x020C, or refused or failed. -/
  | recCommitDone (fail : Option (BitVec 32))
  /-- RUN (R144): A write of RUN starts a deadline check on host request where an image is loaded. -/
  | runCheck
  /-- DEADLINE_CHECK_DONE (R148): A deadline check completes, replacing the refusals and figures and applying D_EFF or EXCLUDED after a repair. -/
  | deadlineCheckDone
  /-- SYNC_IN_EDGE (R156): A rising edge on SYNC_IN is timestamped and accepted into tracking, or rejected and counted in REJECTED. -/
  | syncInEdge (sinceUs : Word)
  /-- LOCK_ACQUIRED (R159): Eight consecutive mains cycles within ±256 au lock the tracking loop and log 0x0301. -/
  | lockAcquired (freq : Word) (obs : List (BitVec 16 × BitVec 16)) (mv : BitVec 16)
  /-- LOCK_LOST (R159): A phase error count, a loss-of-signal time or a frequency outside 40 to 70 Hz drops lock, logs 0x0302 and starts free-running. -/
  | lockLost (o : LossObs)
  /-- IMAGE_SOURCE_RESTORED (R161): The image's own source valid for 10 s ends fallback and logs 0x0307. -/
  | imageSourceRestored (phase : BitVec 16)
  /-- FREQUENCY_CLAMP (R164): The mains frequency leaving or re-entering f_min to f_max sets or clears CLAMPED and logs 0x0303 or 0x0304. -/
  | frequencyClamp (freq : Word) (phase : BitVec 16)
  /-- SLIP_RESOLVED (R163): The slip entering ±64 au ends the correction, clears SLEWING and logs 0x0305. -/
  | slipResolved (phase mv : BitVec 16)
  /-- ACQUIRE (R172): A write of ACQUIRE drops lock without counting a loss and restarts acquisition. -/
  | acquireLock
  /-- SRC_OVR (R154): A session write of SRC_OVR changes the active source, drops lock and logs 0x0309. -/
  | srcOvr (v : BitVec 2)
  /-- SCHEDULE_CYCLE_BOUNDARY (R168): At each schedule-angle cycle boundary the test-slot credit grows by T up to 2T. -/
  | scheduleCycleBoundary
  /-- SWEEP_ANGLE (R153): The sweep angle A(N) is reached and SWEEP(N) with both tokens leaves every active chain. -/
  | sweepAngle
  /-- TOKEN_DEADLINE (R241): At A(N) − 10 µs any undelivered token is sent as zero, TOKEN_LATE is set and 0x0607 is logged. -/
  | tokenDeadline (lateA : Bool) (lateB : Bool)
  /-- CLOSE_ANGLE (R168): The close angle is reached, the open test slots are issued from the credit, and the epoch closes if it has not closed yet. -/
  | closeAngle (e : CloseInfo)
  /-- EPOCH_CLOSE (R262): Epoch close N cancels unfinished transactions, swaps the sample-set owners, updates the counts and releases update N. -/
  | epochClose (e : CloseInfo)
  /-- RESPONSE_FRAME (R246): A collection response frame is converted at intake into point records after the plausibility rules and the limit comparison on both paths. -/
  | responseFrame (c : Fin 64) (ret : Bool) (num : BitVec 8) (idle line : List (BitVec 10)) (us : BitVec 16) (room : Bool) (ecc : List (BitVec 26 × Bool))
  /-- TRANSACTION_TIMEOUT (R190): A response SOF not seen 8 µs after its expected time times out, and COLLECT is retried with a new tag within the limits. -/
  | transactionTimeout (c : Fin 64) (tag : Fin 8) (h : Fin 128) (found : TmoFinding)
  /-- TAG_QUARANTINE_END (R189): 100 µs after a timeout the tag returns to the free pool and a waiting command is issued. -/
  | tagQuarantineEnd (c : Fin 64) (tag : Fin 8)
  /-- MAINT_RESPONSE (R245): A response to a maintenance transaction is matched by the link engine and acted on without reaching intake. -/
  | maintResponse (c : Fin 64) (idle line : List (BitVec 10))
  /-- NODE_MUTE (R194): A node silent in 8 consecutive sweeps while a farther node answers is muted and 0x0408 is logged. -/
  | nodeMute (c : Fin 64) (h : Fin 128)
  /-- MUTE_PROBE (R194): Every 64 sweeps a muted node is sent one COLLECT, and 4 valid probe answers unmute it. -/
  | muteProbe (c : Fin 64) (h : Fin 128) (missed : Option (Fin 129))
  /-- UNMUTE_ALL (R194): A write of UNMUTE_ALL collects every muted node of the chain from the next sweep. -/
  | unmuteAll (c : Fin 64)
  /-- ENUMERATION (R196): Enumeration wakes the chain, clears the numbers and probes from each end with ENUM. -/
  | enumeration (c : Fin 64)
  /-- ENUMERATION_DONE (R197): Enumeration of a chain completes with its outcome under Table LNK-8, and the nodes are assigned and configured. -/
  | enumerationDone (c : Fin 64) (r : EnumResult)
  /-- REENUM (R199): A write of REENUM starts re-enumeration at the next epoch close if the chain's strings are proven open, and is otherwise refused with 0x040A. -/
  | reenum (c : Fin 64)
  /-- BREAK_DETECTED (R201): A missing SWEEP at RET, a break mark or two timeouts declare a break, cancel transactions and switch to linear operation. -/
  | breakDetected (c : Fin 64) (kOut : Fin 129) (missed : Bool)
  /-- SEGMENT_COLLECTION_DONE (R200): Collection after a break completes, and the chain moves to SEGMENTED or PARTIAL and logs 0x0405 or 0x0406. -/
  | segmentCollectionDone (c : Fin 64)
  /-- GAP_PROBE (R205): Every 64 sweeps the gap is probed with ENUM from each end, and matching nodes are restored. -/
  | gapProbe (c : Fin 64) (ret : Bool) (reply : Option (List (BitVec 10))) (rt : Word)
  /-- RING_PROBE (R206): Once per sweep ECHO is sent from OUT, and 16 consecutive good probes return the chain to RING. -/
  | ringProbe (c : Fin 64) (good : Bool)
  /-- SWEEP (R231): A node that receives SWEEP(N) evaluates its tokens, schedules its conversion and acts on a valid open token. -/
  | sweepFrame (c : Fin 64) (p : Fin 128) (f : NodeRx) (met : SweepAt)
  /-- BALANCE_GATE (R220): 50 µs before its conversion window an NH0824 freezes its balancing switches, open where the gate is enabled. -/
  | balanceGate (c : Fin 64) (p : Fin 128)
  /-- CONVERSION (R213): A node starts its 40 µs conversion of 32 slots at COMP after the SWEEP SOF, or on receipt of a late SWEEP. -/
  | conversion (c : Fin 64) (p : Fin 128) (met : ConvAt) (err : Bool)
  /-- DATA_BUILD (R211): 2 µs after the end of conversion the node builds its 72 B response data for the sweep. -/
  | dataBuild (c : Fin 64) (p : Fin 128) (d : StringData)
  /-- COLLECT (R211): A node addressed by COLLECT returns its response data of the sweep. -/
  | collectFrame (c : Fin 64) (p : Fin 128) (f : NodeRx)
  /-- COLLECT_SEG (R203): A node in a COLLECT_SEG range sends its response after the frames from beyond it or a timeout. -/
  | collectSeg (c : Fin 64) (p : Fin 128) (f : NodeRx) (met : SegAt)
  /-- ENUM (R183): A node clears its numbers on ENUM HOP 0x00, or takes a number and answers with its identity on ENUM HOP 0xFE. -/
  | enumFrame (c : Fin 64) (p : Fin 128) (f : NodeRx) (payload : List Byte)
  /-- ASSIGN (R231): A node stores its compensation values, token slot and last master ID, and forgets its last accepted epoch. -/
  | assignNode (c : Fin 64) (p : Fin 128) (f : NodeRx) (payload : List Byte)
  /-- ECHO (R181): A node answers an addressed ECHO with its identity, and a broadcast ECHO passes along the chain. -/
  | echoFrame (c : Fin 64) (p : Fin 128) (f : NodeRx)
  /-- READ_REG (R209): A node returns the requested register words with a status byte. -/
  | readReg (c : Fin 64) (p : Fin 128) (f : NodeRx) (payload : List Byte)
  /-- WRITE_REG (R210): A node writes a range of register words all or nothing, answering with a status and the first refused word. -/
  | writeReg (c : Fin 64) (p : Fin 128) (f : NodeRx) (payload : List Byte)
  /-- BAL_SET (R218): An NH0824 takes new duty codes, effective at the end of any freeze. -/
  | balSet (c : Fin 64) (p : Fin 128) (f : NodeRx) (payload : List Byte)
  /-- CTR_SET (R233): An NH0403 sets its driver state, closing only while HOLD is set. -/
  | ctrSet (c : Fin 64) (p : Fin 128) (f : NodeRx) (payload : List Byte) (aux : BitVec 3)
  /-- SELFTEST (R238): A node starts one self-test, or refuses with status 6 while a test runs. -/
  | selftest (c : Fin 64) (p : Fin 128) (f : NodeRx) (payload : List Byte)
  /-- SELFTEST_DONE (R238): A node self-test completes within 180 µs, setting done and pass in TEST_RESULT and TEST_FAIL on failure. -/
  | selftestDone (c : Fin 64) (p : Fin 128) (pass : Bool) (data : List (BitVec 16))
  /-- SLEEP (R222): A node receiving SLEEP with 0xA5 turns its switches off, forgets its numbers and enters sleep within 5 ms. -/
  | sleepFrame (c : Fin 64) (p : Fin 128) (f : NodeRx) (payload : List Byte)
  /-- CLEAR (R210): A node clears ERR_RX, ERR_TOKEN, TEST_FAIL and SC_FAULT. -/
  | clearNode (c : Fin 64) (p : Fin 128) (m : NodeMsg)
  /-- COMM_TIMEOUT (R221): Expiry of the node's communication timeout sets every applied duty to 0 and sets STOPPED. -/
  | commTimeout (c : Fin 64) (p : Fin 128)
  /-- TOKEN_TIMEOUT (R232): No valid hold pair for TOKEN_TO turns all three coil drivers off and sets LATCHED_OPEN and STOPPED. -/
  | tokenTimeout (c : Fin 64) (p : Fin 128)
  /-- SECONDARY_FLAG (R216): A cell beyond a secondary comparator threshold for 100 µs sets its flag until the next collected build. -/
  | secondaryFlag (c : Fin 64) (p : Fin 128) (k : Fin 24) (under : Bool)
  /-- SLEEP_CHECK (R223): Every SLP_PERIOD a sleeping NH0824 converts its inputs and wakes with a tone on a violation. -/
  | sleepCheck (c : Fin 64) (p : Fin 128) (inputs : List (BitVec 16))
  /-- NODE_WAKE_TONE (R224): A node repeats a received wake tone out of its other port and wakes on a tone of 0.5 ms or more. -/
  | nodeWakeTone (c : Fin 64) (p : Fin 128) (dn : Bool) (long : Bool) (ident : NodeIdent)
  /-- NODE_SLEEP_RETURN (R225): A woken node that receives no valid frame within 30 s returns to sleep. -/
  | nodeSleepReturn (c : Fin 64) (p : Fin 128)
  /-- TEST_RESULT_READ (R264): 190 µs after a slot's SELFTEST the engine reads TEST_RESULT and records the run. -/
  | testResultRead (c : Fin 64) (result : Option (BitVec 16 × BitVec 16)) (kOut : Fin 129)
  /-- GO (R266): A write of GO submits a host test request, which is accepted as running or refused with REFUSE and 0x0609. -/
  | testGo (code : BitVec 3) (chain : Fin 64)
  /-- TEST_REQUEST_ABORT (R267): A write of ABORT in SWP_TREQ ends a running test request after its current slot. -/
  | testRequestAbort
  /-- CAMPAIGN_PERIOD_END (R269): A campaign period ends, marking an unfinished run overdue with 0x060A and starting the next period. -/
  | campaignPeriodEnd (e : Fin 32)
  /-- OWNER (R280): A session write to a set's owner field requests a claim or release, pending until the next epoch close, or refused with 0x0704. -/
  | owner (set : Fin 24) (owner : BitVec 2)
  /-- BAR2_WRITE (R279): A host write through BAR2 is stored in a host-owned set, or discarded and logged as a non-owner write. -/
  | bar2Write (off : BitVec 26) (be : BitVec 8) (data : BitVec 64)
  /-- EXCHANGE_RAM_WRITE (R285): A host write to the Exchange RAM is stored, with a same-cycle collision resolved and logged as 0x0702. -/
  | exchangeRamWrite (off : BitVec 16) (be : BitVec 4) (data : Word) (device : Option (BitVec 4 × Word))
  /-- BACKGROUND_TEST_STEP (R560): Every 10 ms the test engine starts the next step of its rotation over the banks, scratchpad windows and log. -/
  | backgroundTestStep (bad : Option (Fin 256)) (ecc : List (BitVec 26 × Bool))
  /-- BANK_TEST_PHASE_END (R289): A bank test phase completes, passing from copy to redirect, test and restore, or making a failed bank's redirection permanent. -/
  | bankTestPhaseEnd (fail : Bool)
  /-- LENT_WINDOW_ACCESS (R561): A Gaffer access to a window being lent stalls, abandons the march test and continues with the restore. -/
  | lentWindowAccess
  /-- WINDOW_STEP_DONE (R562): A scratchpad window step ends, and a failed window is replaced by the spare with lending switched off. -/
  | windowStepDone (fail : Bool)
  /-- LANE_GROUP_UPDATE_DONE (R311): A lane group finishes update N of its region and writes its string aggregates. -/
  | laneGroupUpdateDone (r : Fin 8) (us : BitVec 16) (stepT : BitVec 16) (scanTo : BitVec 18) (ecc : UpdErrs)
  /-- CELL_RESET (R326): A session write of GO in EST_CELLRST initialises the cell at its next selected update and logs 0x080A. -/
  | cellReset (cell : BitVec 18)
  /-- PERIODIC_SAVE (R323): Every 60 s of operating time from stage 3 a save of the compact state starts. -/
  | periodicSave
  /-- SAVE_DONE (R324): A state save completes all regions, or ends on a write error with SAVE_FAIL and 0x0806. -/
  | saveDone (fail : Option (Fin 8))
  /-- STATE_RESTORE_DONE (R325): The stage-3 restore from CS1 completes per region, initialising cells without a usable block. -/
  | stateRestoreDone (mbit : BitVec 16)
  /-- EXCITATION_END (R340): An excitation request ends on expiry, on a state change or when A_exc falls to 0, and the stop messages follow. -/
  | excitationEnd
  /-- EXCITATION_STOP (R340): A write of STOP in EST_EXC_CTRL ends an active excitation request. -/
  | excitationStop
  /-- EXC_EN (R341): A session write of EXC_EN enables excitation requests and ends suspension. -/
  | excEn (on : Bool)
  /-- SOP_SCAN_DONE (R354): A full SOP scan of the cells completes and becomes the last complete scan. -/
  | sopScanDone (us : BitVec 16)
  /-- DERATE_HOLD_END (R357): DERATE_HOLD_S without a further reaction of one direction ends a string's limit-class derating and logs 0x0903. -/
  | derateHoldEnd (n : Fin 512) (discharge : Bool)
  /-- SAFETY_CYCLE (R371): At each 500 µs boundary the cores exchange condition words, take their state decisions and send the cycle's messages. -/
  | safetyCycle (m : Meas)
  /-- SD0_DECISION (R372): A core's SD0 decision switches its own gates off within 2 µs, drives the SD0 line, and the other side follows within 20 µs. -/
  | sd0Decision (servitor : Bool) (code : Fin 32)
  /-- OVERCURRENT (R376): A core's own current above OC_SD0 for OC_SD0_US raises trigger 0x05 for SD0. -/
  | overcurrent (servitor : Bool)
  /-- CHANNEL_DISAGREEMENT (R376): A disagreement of the current or voltage channels lasting CMP_MS raises trigger 0x07 or 0x08. -/
  | channelDisagreement (voltage : Bool)
  /-- FOLLOW_TIMEOUT (R378): A current above its allowed limit for longer than FOLLOW_MS raises trigger 0x06. -/
  | followTimeout (servitor : Bool) (horizon : Fin 3) (amps : Word)
  /-- ENVELOPE_COMPARE (R382): Every 100 µs during SD1 each core compares its current with E(t), and ENV_MS above it raises trigger 0x10. -/
  | envelopeCompare (servitor : Bool) (amps : Word)
  /-- BREAK_CONDITION (R384): Current at or below I_BREAK for BREAK_MS on both cores opens the coils and starts verification at the next boundary. -/
  | breakCondition
  /-- GRACE_END (R384): The end of the grace phase opens the coils under current and logs 0x0A05. -/
  | graceEnd
  /-- VERIFY_TIMEOUT (R388): T_VERIFY_MS after the coils switch off the opening is verified, or trigger 0x15 reports the welded pairs. -/
  | verifyTimeout
  /-- LEHR_DURATION_END (R390): The end of the allowed Lehr duration raises trigger 0x0D or 0x0E. -/
  | lehrDurationEnd
  /-- LEHR_BUDGET_MINUTE (R390): Each minute the Lehr budget record in MRAM is updated. -/
  | lehrBudgetMinute
  /-- LEHR_CLEAR_TIMEOUT (R391): Every Lehr cause clear for 60 s returns the state from LEHR to CLOSED. -/
  | lehrClearTimeout
  /-- OPEN_REQ (R377): A write of OPEN_REQ raises trigger 0x14 for an orderly SD1, or is ignored in RAMPDOWN. -/
  | openReq
  /-- ACK (R374): A write of ACK leaves TRIPPED after SD1 causes only, with a trip test, or is refused with 0x0A0C. -/
  | ackTrip (okA : Bool) (okB : Bool)
  /-- ACK_SD0 (R374): A session write of ACK_SD0 leaves TRIPPED after any cause, with a trip test, or is refused with 0x0A0C. -/
  | ackSd0 (okA : Bool) (okB : Bool)
  /-- MAINT_REQ (R374): A session write of MAINT_REQ enters MAINT from SAFE with all contactors proven open. -/
  | maintReq
  /-- MAINT_EXIT (R374): A write of MAINT_EXIT runs a trip test and leaves MAINT for SAFE, or for TRIPPED with a cause latched. -/
  | maintExit (okA : Bool) (okB : Bool)
  /-- EXCLUDE (R387): A session write of EXCLUDE excludes the string, sets its tokens to open and logs 0x0A0A. -/
  | excludeString (n : Fin 512)
  /-- INCLUDE (R387): A session write of INCLUDE ends a string exclusion whose cause has cleared and logs 0x0A0B. -/
  | includeString (n : Fin 512)
  /-- CLOSE_REQ (R401): A write of CLOSE_REQ starts PRECHARGE if every permissive holds, or is refused with 0x0B01. -/
  | closeReq
  /-- ABORT (R403): A write of ABORT in CTR_CTRL ends the pre-charge with failure code 0x0B. -/
  | abortPrecharge
  /-- JOIN (R416): A write of JOIN in CLOSED or LEHR runs a string through states 0 to 6 against the live bus, or is refused with 0x0B01. -/
  | joinString (n : Fin 512)
  /-- WELD_CLR (R415): A session write of WELD_CLR clears pair welds whose feedback reads open, or is refused with 0x0B08. -/
  | weldClr (mask : BitVec 8)
  /-- WELD_STR_CLR (R415): A session write of WELD_STR_CLR clears a string weld whose auxiliary bits read 0, or is refused with 0x0B08. -/
  | weldStrClr (n : Fin 512)
  /-- AUX_TIMEOUT (R411): A feedback input not following its pair within T_AUX_MS fails the array-phase step. -/
  | auxTimeout
  /-- WELD_CHECK_END (R411): T_WELDCHK_MS after the role-2 pairs go on, V_link still at or below V_SEP passes step A1. -/
  | weldCheckEnd
  /-- PRE_EARLY_CHECK (R411): At T_PRE_EARLY_MS a ratio below PRE_EARLY_PCT fails the pre-charge with code 0x04. -/
  | preEarlyCheck
  /-- PRE_MAX_TIMEOUT (R411): Reaching T_PRE_MAX_MS without a pass fails the pre-charge with code 0x06 or 0x0C. -/
  | preMaxTimeout
  /-- OVERLAP_END (R411): T_OVERLAP_MS after A3 passes the role-3 pair is switched off for step A4. -/
  | overlapEnd
  /-- STR_CLOSE_TIMEOUT (R406): An auxiliary bit not following its driver within STR_T_CLOSE_MS puts the string in state 8, or in state 9 for PRE. -/
  | strCloseTimeout (n : Fin 512)
  /-- STR_PRE_TIMEOUT (R407): The join condition not met within STR_PRE_MS puts the string in state 8 and logs 0x0B05. -/
  | strPreTimeout (n : Fin 512)
  /-- STR_VERIFY_TIMEOUT (R414): STR_VERIFY_MS after open tokens the string goes to state 0 or 10, or to 9 with 0x0B06 if an auxiliary bit remains set. -/
  | strVerifyTimeout (n : Fin 512)
  /-- PRE_COOL_END (R401): PRE_COOL_S after a pre-charge failure permissive bit 12 is met again. -/
  | preCoolEnd
  /-- DIGEST_COMPARE (R427): Both digests of a checkpoint are compared, with the run-time injection, and a pair fault raises trigger 0x09. -/
  | digestCompare (errG : Word) (errS : Word) (skewUs : BitVec 8) (flagged : Bool) (ecc : Fin 3) (eccSide : Bool)
  /-- DIGEST_TIMEOUT (R427): A digest missing 100 µs after the first or after the expected instant is a pair fault. -/
  | digestTimeout (servitor : Bool)
  /-- EXCHANGE_LATE (R422): An exchange record not arrived 100 µs after the cycle start is a late exchange and a pair fault. -/
  | exchangeLate (servitor : Bool)
  /-- BACKSTOP_EXPIRY (R429): Expiry of the backstop switches every coil gate off directly, blocks tokens and logs 0x0C10. -/
  | backstopExpiry
  /-- BACKSTOP_DISARM (R429): Every coil gate off for 1 ms disarms the backstop. -/
  | backstopDisarm
  /-- SPLIT (R435): A session write of SPLIT takes the pair to Split if its conditions hold, or is refused with REFUSE and 0x0C05. -/
  | splitPair
  /-- REJOIN (R438): A session write of REJOIN starts the punty transfer: Rejoining, then the Servitor reload. -/
  | rejoin
  /-- REJOIN_RELOAD_DONE (R438): The Servitor reload completes and the Servitor starts at the next boundary. -/
  | rejoinReloadDone
  /-- CAMP_GO (R437): A session write of CAMP_GO in Split starts the Servitor campaign CAMP_CODE. -/
  | campGo (code : BitVec 3)
  /-- CAMPAIGN_DONE (R437): A Servitor campaign ends with RESULT and DETAIL and logs 0x0C0B. -/
  | campaignDone (clean : Bool) (detail : BitVec 16)
  /-- REPLAY_APPLY (R440): The replay unit applies a recorded halt, resume or write to the Servitor when it reaches the same retire count. -/
  | replayApply
  /-- DSM_LOST (R63): A DSM input without a transition for 256 DSM_CLK periods is declared lost and logged as 0x0C09. -/
  | dsmLost (chan : Fin 6)
  /-- HALL_RANGE_LOST (R65): A Hall reading beyond ±2.45 V for 1 ms declares the Hall channel lost. -/
  | hallRangeLost
  /-- HALL_OPEN_TEST (R65): Every 100 ms one Hall land's pull is switched for one conversion, and 3 consecutive moves above 1 V declare the channel lost. -/
  | hallOpenTest (moved : Bool)
  /-- SIN_FILTER_CHANGE (R449): A safety input channel held for 30 samples takes a new filtered level, and a first opening decides its trigger within 10 µs. -/
  | sinFilterChange (n : Fin 8) (chanB : Bool) (high : Bool)
  /-- DISCREPANCY_TIMEOUT (R451): A discrepancy timer reaching T_DISC_MS latches a discrepancy fault and logs 0x0D02. -/
  | discrepancyTimeout (n : Fin 8)
  /-- TPO_TEST_PULSE (R453): A TPO output switches off for TPO_W_US once per TPO_PER_MS, and the inputs it supplies hold their level. -/
  | tpoTestPulse (tpoB : Bool)
  /-- TPO_PULSE_CHECK (R453): At the end of a TPO pulse the raw levels are checked, and a cross-short latches a discrepancy fault and sets XSHORT. -/
  | tpoPulseCheck (tpoB : Bool) (before : BitVec 16) (atEnd : BitVec 16)
  /-- TPO_CURRENT_LIMIT (R69): A TPO output in current limit for 1 ms switches off and logs 0x0D08. -/
  | tpoCurrentLimit (tpoB : Bool)
  /-- TPO_RETRY (R69): 1 s after a current-limit shutdown the TPO output is retried. -/
  | tpoRetry (tpoB : Bool)
  /-- OFF_PULSE (R458): A coil switch commanded on gives an off-pulse at its due instant, postponed around TPO pulses. -/
  | offPulse (ls : Bool) (k : Fin 8)
  /-- OFF_PULSE_READBACK (R459): The read-back in the last 20 µs of an off-pulse fails if the land stays on, raising trigger 0x16. -/
  | offPulseReadback (ls : Bool) (k : Fin 8) (stayedOn : Bool)
  /-- COIL_READBACK_FAULT (R459): A coil switch reading opposite to its command for 1 ms raises trigger 0x16 and logs 0x0D09. -/
  | coilReadbackFault (ls : Bool) (k : Fin 8) (on : Bool)
  /-- COIL_TESTFAIL_CLEAR (R459): A switch reading at its commanded level for 1 s clears its trigger 0x16 cause. -/
  | coilTestfailClear (ls : Bool) (k : Fin 8)
  /-- PROOF_INTERVAL_EXPIRED (R456): PROOF_INT_H operating hours since the last proof set PROOF_OVERDUE and log 0x0D06. -/
  | proofIntervalExpired (n : Fin 8)
  /-- PROOF_GRACE_EXPIRED (R456): PROOF_GRACE_H further hours without a proof activate Lehr cause kind 5 and log 0x0D07. -/
  | proofGraceExpired (n : Fin 8)
  /-- SAFE_FRAME_ARRIVAL (R474): A received CAN FD or UDP frame is queued for the next boundary, or discarded as transport-invalid or from a foreign peer. -/
  | safeFrameArrival (medium : Fin 4) (ident : Word) (port : BitVec 16) (fd : Bool) (sumOk : Bool) (data : List Byte)
  /-- CONNECT_FRAME_TIMER (R475): Every 100 ms a connecting connection sends a kind-0x00 connect frame with a new sequence. -/
  | connectFrameTimer (n : Fin 16)
  /-- SFL_WATCHDOG_EXPIRY (R477): 2 × T_E cycles without an accepted frame return the connection to connecting, log 0x0E02 and raise trigger 0x0A if critical. -/
  | sflWatchdogExpiry (n : Fin 16)
  /-- IN_PIN_EDGE (R73): An edge on IN8–IN15 reaches the gate of a channel whose source is the IN pin within 10 µs. -/
  | inPinEdge (j : Fin 8) (high : Bool)
  /-- GENERATOR_EDGE (R489): A pulse generator edge switches the channels that name it. -/
  | generatorEdge (g : Fin 8) (on : Bool) (start : Bool)
  /-- ON (R487): A write of ON commands a register-sourced channel, or is discarded with 0x0F0E. -/
  | chanOn (n : Fin 24) (on : Bool)
  /-- CLR (R497): A write of CLR clears LATCHED_OFF, SHED or FW_MISSING of a channel, or is refused with 0x0F0F. -/
  | chanClr (n : Fin 24)
  /-- SW_WD (R491): A key written to SW_WD arms or keeps the serial watchdog, or expires it as a wrong key with 0x0F0A. -/
  | swWd (key : BitVec 16)
  /-- SW_WD_EXPIRY (R491): No correct key within WD_MS expires the serial watchdog, applies the fail-safe states and logs 0x0F09. -/
  | swWdExpiry
  /-- SW_GEN_WRITE (R489): A write to SW_GENg_F or SW_GENg_P takes effect at the generator's next period. -/
  | swGenWrite (g : Fin 8) (phase : Bool) (v : Word)
  /-- CURRENT_LIMITING (R493): An overload makes a channel limit at 12 A within 10 µs, setting LIMITING and logging 0x0F0D. -/
  | currentLimiting (n : Fin 24) (cur : BitVec 12)
  /-- SHED_TIMER (R495): A channel sum above 18 A for 1 s sheds one sheddable channel every 100 ms and logs 0x0F0B. -/
  | shedTimer (cur : List (BitVec 12)) (long : Bool)
  /-- THERMAL_LATCH_SET (R496): A channel at its ΔT or junction limit switches off within 2 µs and logs 0x0F03. -/
  | thermalLatchSet (n : Fin 24) (dt : BitVec 16) (tj : BitVec 16)
  /-- THERMAL_LATCH_CLEAR (R497): A cooled thermal latch clears, and the channel restarts, waits or latches off by its retry budget. -/
  | thermalLatchClear (n : Fin 24) (dt : BitVec 16) (tj : BitVec 16)
  /-- RETRY_WINDOW_EXPIRY (R497): A counted restart leaves the retry window RETRY_WIN_S after it. -/
  | retryWindowExpiry (n : Fin 24)
  /-- CASE_OVERTEMP (R496): A switch-die case sensor above 125 °C logs 0x0F0C. -/
  | caseOvertemp (dieL : Bool) (t : BitVec 16)
  /-- OFF_STATE_CHECK (R499): Every 100 ms an off channel runs its two-step off-state check and sets or clears its findings. -/
  | offStateCheck (n : Fin 24) (step1 : BitVec 16) (step2 : BitVec 16) (other1 : BitVec 16) (other2 : BitVec 16)
  /-- FREEWHEEL_CHECK (R500): 5 to 25 µs after a switch-off the output is read, and a missing free-wheel path sets FW_MISSING and logs 0x0F10. -/
  | freewheelCheck (n : Fin 24) (reading : BitVec 16)
  /-- TAIL (R509): A write of TAIL gives ring entries to the module, or is discarded with 0x1002 if it gives too many. -/
  | ringTail (ring : Fin 64) (tail : BitVec 16)
  /-- RING_ENABLE (R510): A write of ENABLE starts or stops a ring's processing. -/
  | ringEnable (ring : Fin 64) (on : Bool) (intEn : Bool)
  /-- RING_STOP (R511): A write of STOP returns every given entry with STATUS 7 and clears ENABLE. -/
  | ringStop (ring : Fin 64) (ctls : List (BitVec 32))
  /-- RING_DMA_ERROR (R511): A DMA completion error puts the ring in ERROR, sets ERR_ADDR and logs 0x1007. -/
  | ringDmaError (ring : Fin 64) (kind : Fin 4) (addr : BitVec 64)
  /-- NOP (R512): A NOP command entry is returned at once with STATUS 0. -/
  | ringNop (ring : Fin 64) (ctl : Word)
  /-- NODE_READ (R513): A NODE_READ command sends READ_REG as a maintenance transaction and returns the words. -/
  | nodeRead (ring : Fin 64) (ctl : Word) (chain : BitVec 8) (hop : BitVec 8) (addr : BitVec 16) (count : BitVec 8)
  /-- NODE_WRITE (R513): A NODE_WRITE command in a session writes COMM_TO or SLP_PERIOD, or is refused with STATUS 4 and 0x0507. -/
  | nodeWrite (ring : Fin 64) (ctl : Word) (chain : BitVec 8) (hop : BitVec 8) (addr : BitVec 16) (count : BitVec 8) (words : List (BitVec 16))
  /-- NODE_COMMAND_TIMEOUT (R512): A node command without a node response in 8 sweeps is returned with STATUS 5. -/
  | nodeCommandTimeout (ring : Fin 64)
  /-- TIME_ANCHOR (R514): A TIME_ANCHOR command writes record 0x1101 pairing the calendar time with operating time. -/
  | timeAnchor (ring : Fin 64) (ctl : Word) (utc : BitVec 64) (nanos : Word) (quality : BitVec 8)
  /-- PUBLICATION_ANGLE (R169): At A(N) + Q a completed publication has its descriptor written. -/
  | publicationAngle (us : Word)
  /-- PUBLICATION_COMPLETE (R517): A publication's three streams complete and its entry is written back with STATUS 0. -/
  | publicationComplete (us : Word)
  /-- PUBLICATION_ABORT (R519): A write queue full for 1 ms or an incomplete publication at the next close aborts it with STATUS 1 and 0x1005. -/
  | publicationAbort (bytes : Word) (us : Word)
  /-- EVENT_RING_COPY (R521): A log record at or above the ring's class is copied into the next given Event-ring entry. -/
  | eventRingCopy (ring : Fin 64) (ctl : Word)
  /-- BULK_READ (R522): A Bulk-read entry copies BAR2 or log slots into host memory and is written back. -/
  | bulkRead (ring : Fin 64) (ctl : Word) (dest : BitVec 64) (len : Word) (space : BitVec 8) (off : BitVec 64) (ecc : List (BitVec 26 × Bool))
  /-- IMAGE_CHUNK (R523): An Image-transfer entry stages its chunk during receiving, and the LAST entry starts validation. -/
  | imageChunk (ring : Fin 64) (ctl : Word) (addr : BitVec 64) (len : Word) (last : Bool) (data : List Byte) (fail : Option (BitVec 32))
  /-- MSI_X_HOLDOFF_END (R524): At the end of a ring's holdoff one message covers the entries returned meanwhile. -/
  | msiXHoldoffEnd (ring : Fin 64)
  /-- HOST_ICAUSE (R524): A W1C write to HOST_ICAUSE clears cause bits, keeping any that set in the same cycle. -/
  | hostIcause (clear : BitVec 9) (same : BitVec 9)
  /-- HOST_IMASK (R524): A write to HOST_IMASK sets the masks, and unmasking a set cause sends its message. -/
  | hostImask (v : Word)
  /-- PERST_N (R75): PERST_N resets only the endpoint, the rings and the MSI-X state, and logs 0x100A. -/
  | perstN (rise : Option (BitVec 24))
  /-- FUNCTION_LEVEL_RESET (R505): A function-level reset has the effect of PERST_N. -/
  | functionLevelReset
  /-- PCIE_LINK_CHANGE (R106): A change of the link state or of bus mastering moves the module into or out of stage 4 and logs 0x1006. -/
  | pcieLinkChange (link : Option (BitVec 24)) (master : Bool)
  /-- MAC_FRAME_RX (R526): A received host CAN or Ethernet frame is answered, passed to the G2H queue or dropped. -/
  | macFrameRx (medium : Fin 4) (ident : Word) (fd : Bool) (brs : Bool) (data : List Byte)
  /-- EVENT_RECORD (R532): A reported event is written as a log record in three steps, or counted as a repeat of the last record. -/
  | eventRecord (code : BitVec 16) (source : BitVec 24) (params : BitVec 64) (ok : Bool)
  /-- QUEUED_EVENT_WRITE (R544): After a record write completes, the head of the staging queue is written, with 0x1102 after losses. -/
  | queuedEventWrite (ok : Bool)
  /-- LOG_CLEAR (R547): A session write of CLEAR in LOG_CTRL invalidates every slot and writes 0x1105, or is refused with 0x1106. -/
  | logClear
  /-- LOG_RD_IDX (R548): A write of LOG_RD_IDX copies one slot into LOG_RD_DATA0 to LOG_RD_DATA7. -/
  | logRdIdx (slot : BitVec 17)
  /-- LOG_HEAD_SEQ (R549): A read of LOG_HEAD_SEQ latches LOG_TAIL_SEQ and LOG_CNT_OVW. -/
  | logHeadSeq
  /-- PWR_OPTIME_LO (R119): A read of PWR_OPTIME_LO latches the matching high part of the operating time. -/
  | pwrOptimeLo
  /-- ANG_NOW_AU (R172): A read of ANG_NOW_AU latches the matching schedule-angle cycle count. -/
  | angNowAu (au : BitVec 16)
  /-- PAIR_RETIRE_LO (R443): A read of PAIR_RETIRE_LO latches the high part of the Gaffer retire count. -/
  | pairRetireLo
  /-- SNAP_IN (R83): A rising edge on SNAP_IN outside the 1 ms lockout is an accepted snapshot trigger. -/
  | snapIn (sinceUs : BitVec 16)
  /-- TRIG (R554): A write of TRIG is a host snapshot trigger. -/
  | trigSnap
  /-- SNAP_OUT_END (R84): SNAP_OUT falls 10 µs after the last accepted trigger. -/
  | snapOutEnd
  /-- ACK_FIRST (R556): A write of ACK_FIRST clears the first-capture record. -/
  | ackFirst
  /-- REL (R558): A write of REL releases a pinned retention slot into the rotation. -/
  | relSlot (mask : BitVec 4)
  /-- CLAIM (R569): A write of CLAIM gives the debug port to the host if no master holds it. -/
  | claimPort
  /-- RELEASE (R569): A write of RELEASE frees the debug port held by the host. -/
  | releasePort
  /-- TAP_RESET (R569): A TAP reset releases the debug port held by the TAP. -/
  | tapReset
  /-- UNLOCK (R571): A session write of UNLOCK unlocks the debug port and logs 0x1208. -/
  | unlockPort
  /-- LOCK (R571): A write of LOCK locks the debug port. -/
  | lockPort
  /-- HALT (R439): Debug op 1 halts the Gaffer, replayed into the Servitor, or is refused with 0x0C0E. -/
  | haltGaffer (tap : Bool)
  /-- RESUME (R440): Debug op 2 resumes a halted Gaffer through the replay unit. -/
  | resumeGaffer (tap : Bool)
  /-- STEP (R439): Debug op 3 single-steps the halted Gaffer under the intrusive-request conditions. -/
  | stepGaffer (tap : Bool)
  /-- READ_MEMORY (R571): Debug op 4 reads Gaffer memory while the port is unlocked. -/
  | readMemory (tap : Bool) (addr : Word)
  /-- WRITE_MEMORY (R441): Debug op 5 writes Gaffer memory, replayed into the Servitor, or refused if non-replayable. -/
  | writeMemory (tap : Bool) (addr : Word) (data : Word)
  /-- READ_REGISTER (R571): Debug op 6 reads a Gaffer register while unlocked and halted. -/
  | readRegister (tap : Bool) (addr : Word)
  /-- WRITE_REGISTER (R441): Debug op 7 writes a Gaffer register, replayed into the Servitor. -/
  | writeRegister (tap : Bool) (addr : Word) (data : Word)
  /-- SET_BREAKPOINT (R439): Debug op 8 arms a breakpoint under the intrusive-request conditions. -/
  | setBreakpoint (tap : Bool) (addr : Word)
  /-- CLEAR_BREAKPOINT (R439): Debug op 9 disarms a breakpoint. -/
  | clearBreakpoint (tap : Bool) (addr : Word)
  /-- REGISTER_WRITE (R19): A write to a register without a row of its own is applied by field type, discarding undefined codes under R21 and logging RWP attempts outside a session as 0x020E. -/
  | registerWrite (addr : Word) (be : BitVec 4) (data : Word)
  /-- BREAK_MARK (R178): In ring operation, a node whose UP receiver has carried valid characters and then carries none for 1 µs sends K23.7 out of DN for 20 µs and then switches its DN driver off. -/
  | breakMark (c : Fin 64) (p : Fin 128)
  /-- CHANNEL_VALID_AGAIN (R444): A lost DSM or Hall channel becomes valid again, logs 0x0C0A and starts the 1 s clear time of its Lehr cause. -/
  | channelValidAgain (chan : Fin 6)
  /-- NODE_POWER_LOSS (R235): A companion node loses power, losing its register values, its numbers and its coil drive. -/
  | nodePowerLoss (c : Fin 64) (p : Fin 128)
  /-- OVERLOAD_END (R493): The overload on a limiting switch channel ends, so the channel leaves linear current limiting and LIMITING clears. -/
  | overloadEnd (n : Fin 24)
  /-- DIE_TEMPERATURE_MEASUREMENT (R219): Every 10 ms while no SWEEP arrives, an NH0824 measures its die temperature and updates the balancing duty cap. -/
  | dieTemperatureMeasurement (c : Fin 64) (p : Fin 128) (t : BitVec 16)
  /-- ETH_LINK_CHANGE (R528): The PHY link of ETH0 or ETH1 goes up or down, updating ETHn_UP and ETHn_SPEED. -/
  | ethLinkChange (eth1 : Bool) (up : Bool) (speed : BitVec 2)
  /-- CAN_BUS_OFF (R528): A CAN FD controller enters or leaves bus-off, updating CANn_BUSOFF. -/
  | canBusOff (can1 : Bool) (off : Bool)
  deriving DecidableEq, Repr

end Sys2Proof
end

