-- ==== Sys2Proof/Config.lean ====
section
/-! DEFINITION. What one module or its maker fixes, and the values the manual leaves open. Every constant here has no body: nothing can be proved of its value. -/

namespace Sys2Proof.Config

/-- The module unique ID, 128 bits, fixed at manufacture (R24, R579). -/
opaque moduleUid : BitVec 128
/-- The fused binding key; no interface reads it (R131). -/
opaque bindKey : List Byte
/-- Ciost's PCI vendor ID (Table REG-3, Factory). -/
opaque vendorId : BitVec 16
/-- GLOBAL_REV: die, module and safety program revisions (Table REG-3, Factory). -/
opaque revision : BitVec 32
/-- Free value: what a read of Gaffer memory or a Gaffer register gives where the manual states no content (R571).
The argument is the state's count of free values drawn. -/
opaque freeValue : Nat → BitVec 64
/-- Free value: the exponential of R314, which counts where it lies within the relative error of 2^-20 stated there. -/
opaque fexp : Word → Word
/-- Free value: the quotient of two fp32 values, which counts where it lies within what a reciprocal to 1 ulp allows (R314). -/
opaque fdiv : Word → Word → Word
/-- Free value: the square root of R314, which counts where it lies within 1 ulp. -/
opaque fsqrt : Word → Word
/-- Free value: sine of an angle in au as the lock-in takes it; the manual states no accuracy (R331). -/
opaque fsin : Word → Word
/-- Free value: cosine of an angle in au; the manual states no accuracy (R331). -/
opaque fcos : Word → Word
/-- Free value: the phase of an impedance; the manual states no accuracy (R344). -/
opaque fatan2 : Word → Word → Word

/-- Free value: a shunt voltage in nV over a SHUNT_R of 0, in the unit asked for (R227): the manual states no current there. -/
opaque noShunt : Int → Nat → Int
/-- Free value: a supply as it measures where no event has carried it (R119): 0 VBUS in 10 mV, 1 VOUT33 in mV, 2 + n VSWn in 10 mV, and the
operating time in ms. -/
opaque supply : Nat → Nat → BitVec 16
/-- Free value: the mains peak amplitude in mV by cycle of the mains angle, where no event has carried it (R155, R172). -/
opaque amplitude : Nat → BitVec 16
/-- What the TAP gives for IDCODE; the manual states no value (R89). -/
opaque idcode : BitVec 32
/-- Free value: a byte of the safety state block whose encoding the manual does not give (R423): cycle number and offset. -/
opaque blockByte : Nat → Nat → Byte
/-- Which Gaffer addresses are non-replayable: the manual names them by what they are and gives no address (R441). -/
opaque nonReplayable : Word → Bool
/-- Which Gaffer addresses and registers a debug access finds absent: the manual gives no map (Table DIAG-9, RESP 3). -/
opaque gafferFault : Word → Bool

end Sys2Proof.Config
end

