-- ==== Sys2Proof/Machine/Bits.lean ====
section
/-! DEFINITION. Helpers on words, bytes and lists: bit tests, byte order (R13), and the sparse maps that hold registers, stores and memories in one canonical form. -/

namespace Sys2Proof.Machine

/-- 1 for true, 0 for false. -/
def b2n (b : Bool) : Nat := if b then 1 else 0

/-- Bits [lo + w - 1 : lo] of a number. -/
def bitsOf (v lo w : Nat) : Nat := (v >>> lo) % 2 ^ w

/-- The number with bits [lo + w - 1 : lo] replaced by the low `w` bits of `x`. -/
def setBits (v lo w x : Nat) : Nat := v - (bitsOf v lo w) * 2 ^ lo + (x % 2 ^ w) * 2 ^ lo

/-- Two's complement value of a `w`-bit number. -/
def signedOf (w v : Nat) : Int := if v % 2 ^ w ≥ 2 ^ (w - 1) then (v % 2 ^ w : Nat) - (2 ^ w : Nat) else (v % 2 ^ w : Nat)

/-- The low `w` bits of an integer in two's complement. -/
def wrapInt (w : Nat) (x : Int) : Nat := (x % (2 ^ w : Nat)).toNat

/-- Saturation of an integer to the signed 16-bit range (R535). -/
def sat16 (x : Int) : Int := if x < -32768 then -32768 else if x > 32767 then 32767 else x

/-- Saturation of a count at `m`. -/
def satNat (m x : Nat) : Nat := if x > m then m else x

/-- The low `n` bytes of a number, lowest first (R13). -/
def leBytes : Nat → Nat → List Byte
  | 0, _ => []
  | n + 1, v => BitVec.ofNat 8 v :: leBytes n (v / 256)

/-- The number a list of bytes spells, lowest byte first (R13). -/
def ofLe : List Byte → Nat
  | [] => 0
  | b :: bs => b.toNat + 256 * ofLe bs

/-- The number a list of bytes spells, highest byte first. -/
def ofBe (bs : List Byte) : Nat := bs.foldl (fun a b => 256 * a + b.toNat) 0

/-- The low `n` bytes of a number, highest first. -/
def beBytes (n v : Nat) : List Byte := (leBytes n v).reverse

/-- `n` elements from position `i`, padded with `d`. (DEDUCED, log 91) -/
def slice {α : Type} (d : α) (l : List α) (i n : Nat) : List α :=
  let t := (l.drop i).take n
  t ++ List.replicate (n - t.length) d

/-- Element `i` of a list, or `d` past its end. (DEDUCED, log 91) -/
def nth {α : Type} (d : α) : List α → Nat → α
  | [], _ => d
  | x :: _, 0 => x
  | _ :: xs, i + 1 => nth d xs i

/-- The list with element `i` replaced; unchanged past its end. -/
def setNth {α : Type} : List α → Nat → α → List α
  | [], _, _ => []
  | _ :: xs, 0, v => v :: xs
  | x :: xs, i + 1, v => x :: setNth xs i v

/-- A sparse map: the pairs of key and value that differ from the default `d`. (DESIGN CHOICE, log 3) -/
def Sparse.get {α : Type} (d : Nat → α) : List (Nat × α) → Nat → α
  | [], k => d k
  | (a, v) :: m, k => if k = a then v else Sparse.get d m k

/-- Places a pair at its place in a list with rising keys. -/
def Sparse.ins {α : Type} (k : Nat) (v : α) : List (Nat × α) → List (Nat × α)
  | [] => [(k, v)]
  | (a, w) :: m => if k < a then (k, v) :: (a, w) :: m else (a, w) :: Sparse.ins k v m

/-- The map without key `k`. -/
def Sparse.erase {α : Type} (k : Nat) : List (Nat × α) → List (Nat × α)
  | [] => []
  | (a, w) :: m => if a = k then Sparse.erase k m else (a, w) :: Sparse.erase k m

/-- The map with `v` at key `k`; a value equal to the default is not listed. -/
def Sparse.set {α : Type} [DecidableEq α] (d : Nat → α) (m : List (Nat × α)) (k : Nat) (v : α) : List (Nat × α) :=
  if v = d k then Sparse.erase k m else Sparse.ins k v (Sparse.erase k m)

/-- Keys strictly rising from above `lo`, and no value equal to its default. -/
def Sparse.wfFrom {α : Type} [DecidableEq α] (d : Nat → α) : Option Nat → List (Nat × α) → Bool
  | _, [] => true
  | lo, (a, v) :: m => (match lo with | none => true | some l => decide (l < a)) && decide (v ≠ d a) && Sparse.wfFrom d (some a) m

/-- The one canonical form of a sparse map. -/
def Sparse.wf {α : Type} [DecidableEq α] (d : Nat → α) (m : List (Nat × α)) : Bool := Sparse.wfFrom d none m

/-- Writes a run of values at rising keys. -/
def Sparse.setRun {α : Type} [DecidableEq α] (d : Nat → α) (m : List (Nat × α)) (k : Nat) : List α → List (Nat × α)
  | [] => m
  | v :: vs => Sparse.setRun d (Sparse.set d m k v) (k + 1) vs

/-- Reads `n` values at rising keys. -/
def Sparse.getRun {α : Type} (d : Nat → α) (m : List (Nat × α)) (k : Nat) : Nat → List α
  | 0 => []
  | n + 1 => Sparse.get d m k :: Sparse.getRun d m (k + 1) n

end Sys2Proof.Machine
end

