-- ==== Sys2Proof/Machine/Fields.lean ====
section
/-! DEFINITION. The fields of the BAR0 registers, one name each, as the field tables of the chapters give them (R23, R581). -/

namespace Sys2Proof.Machine

/-- A field of a register: the BAR0 address of the word, its lowest bit and its width. -/
structure Fld where
  addr : Nat
  lo : Nat
  w : Nat
  deriving DecidableEq, Repr

namespace R

/-! GLOBAL (Register Map) -/
def GLOBAL_ID : Fld := ⟨0x0, 0, 32⟩
def GLOBAL_ID_VENDOR : Fld := ⟨0x0, 0, 16⟩
def GLOBAL_ID_DEVICE : Fld := ⟨0x0, 16, 16⟩
def GLOBAL_REV : Fld := ⟨0x4, 0, 32⟩
def GLOBAL_REV_DIE_REV : Fld := ⟨0x4, 0, 8⟩
def GLOBAL_REV_MODULE_REV : Fld := ⟨0x4, 8, 8⟩
def GLOBAL_REV_FW_REV : Fld := ⟨0x4, 16, 16⟩
def GLOBAL_UID (i : Nat) : Fld := ⟨0x10 + 0x4 * i, 0, 32⟩
def GLOBAL_STAGE : Fld := ⟨0x20, 0, 32⟩
def GLOBAL_STAGE_STAGE : Fld := ⟨0x20, 0, 3⟩
def GLOBAL_STAGE_BOARD_TEST : Fld := ⟨0x20, 8, 1⟩
def GLOBAL_STAGE_IMAGE_RECOVERY : Fld := ⟨0x20, 9, 1⟩
def GLOBAL_STAGE_FOREIGN_IMAGE : Fld := ⟨0x20, 10, 1⟩
def GLOBAL_STAGE_CHECK_FAILED : Fld := ⟨0x20, 11, 1⟩
def GLOBAL_RESET_CAUSE : Fld := ⟨0x24, 0, 32⟩
def GLOBAL_RESET_CAUSE_CAUSE : Fld := ⟨0x24, 0, 3⟩
def GLOBAL_RESET_CAUSE_WAKE_SRC : Fld := ⟨0x24, 8, 2⟩
def GLOBAL_RESET_CAUSE_TONE_CHAIN : Fld := ⟨0x24, 16, 6⟩
def GLOBAL_RESET_CAUSE_TONE_PORT : Fld := ⟨0x24, 22, 1⟩
def GLOBAL_RESET_CAUSE_STUCK_RESET_IGNORED : Fld := ⟨0x24, 28, 1⟩
def GLOBAL_STATUS : Fld := ⟨0x28, 0, 32⟩
def GLOBAL_STATUS_FAULT : Fld := ⟨0x28, 0, 1⟩
def GLOBAL_STATUS_SAFETY : Fld := ⟨0x28, 4, 3⟩
def GLOBAL_STATUS_TRIPPED : Fld := ⟨0x28, 8, 1⟩
def GLOBAL_STATUS_PAIR_FAULT : Fld := ⟨0x28, 9, 1⟩
def GLOBAL_STATUS_WELD : Fld := ⟨0x28, 10, 1⟩
def GLOBAL_STATUS_REGION : Fld := ⟨0x28, 11, 1⟩
def GLOBAL_STATUS_LOG_FAILED : Fld := ⟨0x28, 12, 1⟩
def GLOBAL_STATUS_LENDING_OFF : Fld := ⟨0x28, 13, 1⟩
def GLOBAL_STATUS_IMAGE : Fld := ⟨0x28, 14, 1⟩
def GLOBAL_STATUS_SUPPLY : Fld := ⟨0x28, 15, 1⟩
def GLOBAL_STATUS_LINK : Fld := ⟨0x28, 16, 1⟩
def GLOBAL_STATUS_OUTPUT : Fld := ⟨0x28, 17, 1⟩
/-! PWR (ch. 03) -/
def PWR_STAT : Fld := ⟨0x1000, 0, 32⟩
def PWR_STAT_VBUS_LOW : Fld := ⟨0x1000, 0, 1⟩
def PWR_STAT_VBUS_HIGH : Fld := ⟨0x1000, 1, 1⟩
def PWR_STAT_VSW_LOST : Fld := ⟨0x1000, 4, 4⟩
def PWR_STAT_VOUT33_OK : Fld := ⟨0x1000, 8, 1⟩
def PWR_STAT_WAKE_IN : Fld := ⟨0x1000, 9, 1⟩
def PWR_STAT_SLEEP_REFUSE : Fld := ⟨0x1000, 16, 3⟩
def PWR_STAT_SLEEP_PENDING : Fld := ⟨0x1000, 19, 1⟩
def PWR_CTRL : Fld := ⟨0x1004, 0, 32⟩
def PWR_CTRL_SLEEP_REQ : Fld := ⟨0x1004, 0, 1⟩
def PWR_CTRL_WAKE_PULSE : Fld := ⟨0x1004, 1, 1⟩
def PWR_CTRL_SAVE_STATE : Fld := ⟨0x1004, 2, 1⟩
def PWR_CTRL_RESTART : Fld := ⟨0x1004, 3, 1⟩
def PWR_WAKE : Fld := ⟨0x1008, 0, 32⟩
def PWR_WAKE_WAKE_MIN : Fld := ⟨0x1008, 0, 11⟩
def PWR_VBUS : Fld := ⟨0x100C, 0, 32⟩
def PWR_VBUS_VBUS : Fld := ⟨0x100C, 0, 16⟩
def PWR_VBUS_VOUT33 : Fld := ⟨0x100C, 16, 16⟩
def PWR_VSW (i : Nat) : Fld := ⟨0x1010 + 0x4 * i, 0, 32⟩
def PWR_VSW_VSW_EVEN (i : Nat) : Fld := ⟨0x1010 + 0x4 * i, 0, 16⟩
def PWR_VSW_VSW_ODD (i : Nat) : Fld := ⟨0x1010 + 0x4 * i, 16, 16⟩
def PWR_OPTIME_LO : Fld := ⟨0x1018, 0, 32⟩
def PWR_OPTIME_HI : Fld := ⟨0x101C, 0, 32⟩
def PWR_OPTIME_HI_OPTIME_HI : Fld := ⟨0x101C, 0, 16⟩
def PWR_CYCLES : Fld := ⟨0x1020, 0, 32⟩
def PWR_CYCLES_CYCLES : Fld := ⟨0x1020, 0, 24⟩
def PWR_STAGE_T (i : Nat) : Fld := ⟨0x1030 + 0x4 * i, 0, 32⟩
def PWR_STAGE_T_T (i : Nat) : Fld := ⟨0x1030 + 0x4 * i, 0, 24⟩
/-! IMG (ch. 04) -/
def IMG_STAT : Fld := ⟨0x2000, 0, 32⟩
def IMG_STAT_SLOT : Fld := ⟨0x2000, 0, 1⟩
def IMG_STAT_TWO_SLOTS : Fld := ⟨0x2000, 1, 1⟩
def IMG_STAT_BIND : Fld := ⟨0x2000, 2, 2⟩
def IMG_STAT_RECOVERY : Fld := ⟨0x2000, 4, 1⟩
def IMG_STAT_SHADOW : Fld := ⟨0x2000, 5, 1⟩
def IMG_STAT_UPD_STATE : Fld := ⟨0x2000, 8, 3⟩
def IMG_STAT_SESSION : Fld := ⟨0x2000, 16, 1⟩
def IMG_STAT_RECOVERY_SESSION : Fld := ⟨0x2000, 17, 1⟩
def IMG_STAT_LOCKOUT : Fld := ⟨0x2000, 18, 1⟩
def IMG_STAT_REC_BUSY : Fld := ⟨0x2000, 19, 1⟩
def IMG_STAT_FAIL_COUNT : Fld := ⟨0x2000, 20, 3⟩
def IMG_ID : Fld := ⟨0x2004, 0, 32⟩
def IMG_REV : Fld := ⟨0x2008, 0, 32⟩
def IMG_LEN : Fld := ⟨0x200C, 0, 32⟩
def IMG_BINDSEQ : Fld := ⟨0x2010, 0, 32⟩
def IMG_CHG_TOTAL : Fld := ⟨0x2014, 0, 32⟩
def IMG_DIGEST (i : Nat) : Fld := ⟨0x2020 + 0x4 * i, 0, 32⟩
def IMG_SESSION : Fld := ⟨0x2040, 0, 32⟩
def IMG_SESSION_OPEN : Fld := ⟨0x2040, 0, 1⟩
def IMG_SESSION_CLOSE : Fld := ⟨0x2040, 1, 1⟩
def IMG_SESSION_RECOMMISSION : Fld := ⟨0x2040, 2, 1⟩
def IMG_SESSION_PW_LEN : Fld := ⟨0x2040, 8, 6⟩
def IMG_TIMERS : Fld := ⟨0x2048, 0, 32⟩
def IMG_TIMERS_SESSION_S : Fld := ⟨0x2048, 0, 16⟩
def IMG_TIMERS_LOCKOUT_S : Fld := ⟨0x2048, 16, 16⟩
def IMG_PW (i : Nat) : Fld := ⟨0x2050 + 0x4 * i, 0, 32⟩
def IMG_UPD : Fld := ⟨0x2080, 0, 32⟩
def IMG_UPD_START : Fld := ⟨0x2080, 0, 1⟩
def IMG_UPD_COMMIT : Fld := ⟨0x2080, 1, 1⟩
def IMG_UPD_ABORT : Fld := ⟨0x2080, 2, 1⟩
def IMG_UPD_RING : Fld := ⟨0x2080, 8, 6⟩
def IMG_UPD_LEN : Fld := ⟨0x2084, 0, 32⟩
def IMG_REC : Fld := ⟨0x2090, 0, 32⟩
def IMG_REC_REC_WRITE : Fld := ⟨0x2090, 0, 1⟩
def IMG_REC_REC_COMMIT : Fld := ⟨0x2090, 1, 1⟩
def IMG_REC_OFF : Fld := ⟨0x2094, 0, 32⟩
def IMG_REC_OFF_OFF : Fld := ⟨0x2094, 0, 24⟩
def IMG_REC_LEN : Fld := ⟨0x2098, 0, 32⟩
def IMG_REC_LEN_LEN : Fld := ⟨0x2098, 0, 17⟩
def IMG_CHECK : Fld := ⟨0x20C0, 0, 32⟩
def IMG_CHECK_RUN : Fld := ⟨0x20C0, 0, 1⟩
def IMG_CHECK_RESULT : Fld := ⟨0x20C0, 1, 2⟩
def IMG_CHECK_TRIGGER : Fld := ⟨0x20C0, 3, 3⟩
def IMG_CHECK_COUNT : Fld := ⟨0x20C0, 8, 6⟩
def IMG_CHECK_OVERFLOW : Fld := ⟨0x20C0, 14, 1⟩
def IMG_CHECK_BUSY : Fld := ⟨0x20C0, 15, 1⟩
def IMG_REF_CODE (i : Nat) : Fld := ⟨0x2100 + 0x8 * i, 0, 32⟩
def IMG_REF_CODE_CODE (i : Nat) : Fld := ⟨0x2100 + 0x8 * i, 0, 16⟩
def IMG_REF_CODE_DETAIL (i : Nat) : Fld := ⟨0x2100 + 0x8 * i, 16, 16⟩
def IMG_REF_MARGIN (i : Nat) : Fld := ⟨0x2104 + 0x8 * i, 0, 32⟩
def IMG_CHAIN (i : Nat) : Fld := ⟨0x2200 + 0x4 * i, 0, 32⟩
def IMG_CHAIN_OCC (i : Nat) : Fld := ⟨0x2200 + 0x4 * i, 0, 16⟩
def IMG_CHAIN_RING_MARGIN (i : Nat) : Fld := ⟨0x2200 + 0x4 * i, 16, 16⟩
def IMG_REGION (i : Nat) : Fld := ⟨0x2300 + 0x4 * i, 0, 32⟩
def IMG_REGION_LOAD (i : Nat) : Fld := ⟨0x2300 + 0x4 * i, 0, 16⟩
def IMG_REGION_LANES (i : Nat) : Fld := ⟨0x2300 + 0x4 * i, 16, 4⟩
def IMG_REGION_D_EFF (i : Nat) : Fld := ⟨0x2300 + 0x4 * i, 20, 2⟩
def IMG_REGION_EXCLUDED (i : Nat) : Fld := ⟨0x2300 + 0x4 * i, 22, 1⟩
/-! ANG (ch. 05) -/
def ANG_STAT : Fld := ⟨0x3000, 0, 32⟩
def ANG_STAT_SRC_ACTIVE : Fld := ⟨0x3000, 0, 2⟩
def ANG_STAT_LOCKED : Fld := ⟨0x3000, 2, 1⟩
def ANG_STAT_SCHED_LOCKED : Fld := ⟨0x3000, 3, 1⟩
def ANG_STAT_CLAMPED : Fld := ⟨0x3000, 4, 1⟩
def ANG_STAT_FALLBACK : Fld := ⟨0x3000, 5, 1⟩
def ANG_STAT_OUT_40_70 : Fld := ⟨0x3000, 6, 1⟩
def ANG_STAT_SLEWING : Fld := ⟨0x3000, 7, 1⟩
def ANG_CTRL : Fld := ⟨0x3004, 0, 32⟩
def ANG_CTRL_ACQUIRE : Fld := ⟨0x3004, 0, 1⟩
def ANG_CTRL_SRC_OVR : Fld := ⟨0x3004, 1, 2⟩
def ANG_FREQ : Fld := ⟨0x3008, 0, 32⟩
def ANG_SFREQ : Fld := ⟨0x300C, 0, 32⟩
def ANG_NOW_AU : Fld := ⟨0x3010, 0, 32⟩
def ANG_NOW_AU_AU : Fld := ⟨0x3010, 0, 16⟩
def ANG_NOW_CYC : Fld := ⟨0x3014, 0, 32⟩
def ANG_SLIP : Fld := ⟨0x3018, 0, 32⟩
def ANG_SLIP_SLIP : Fld := ⟨0x3018, 0, 16⟩
def ANG_SLIP_PHERR : Fld := ⟨0x3018, 16, 16⟩
def ANG_COUNT : Fld := ⟨0x301C, 0, 32⟩
def ANG_COUNT_LOSSES : Fld := ⟨0x301C, 0, 16⟩
def ANG_COUNT_REJECTED : Fld := ⟨0x301C, 16, 16⟩
def ANG_AMPL : Fld := ⟨0x3020, 0, 32⟩
def ANG_AMPL_AMPL : Fld := ⟨0x3020, 0, 16⟩
/-! SWP (ch. 08) -/
def SWP_STAT : Fld := ⟨0x4000, 0, 32⟩
def SWP_STAT_ARMED_A : Fld := ⟨0x4000, 0, 1⟩
def SWP_STAT_ARMED_B : Fld := ⟨0x4000, 1, 1⟩
def SWP_STAT_RUNNING : Fld := ⟨0x4000, 2, 1⟩
def SWP_STAT_LAST_BY_ANGLE : Fld := ⟨0x4000, 3, 1⟩
def SWP_STAT_TOKEN_LATE : Fld := ⟨0x4000, 8, 1⟩
def SWP_EPOCH : Fld := ⟨0x4004, 0, 32⟩
def SWP_CLOSE : Fld := ⟨0x4008, 0, 32⟩
def SWP_CLOSE_CLOSE_US : Fld := ⟨0x4008, 0, 16⟩
def SWP_CLOSE_UNFINISHED : Fld := ⟨0x4008, 16, 8⟩
def SWP_SCHED : Fld := ⟨0x4010, 0, 32⟩
def SWP_SCHED_S : Fld := ⟨0x4010, 0, 3⟩
def SWP_SCHED_P_CODE : Fld := ⟨0x4010, 4, 3⟩
def SWP_SCHED_D : Fld := ⟨0x4010, 8, 3⟩
def SWP_SCHED_T : Fld := ⟨0x4010, 12, 3⟩
def SWP_SCHED_GATE : Fld := ⟨0x4010, 15, 1⟩
def SWP_SCHED_C : Fld := ⟨0x4010, 16, 16⟩
def SWP_SCHED2 : Fld := ⟨0x4014, 0, 32⟩
def SWP_SCHED2_Q : Fld := ⟨0x4014, 0, 16⟩
def SWP_CULLET : Fld := ⟨0x4020, 0, 32⟩
def SWP_CULLET_CULLET : Fld := ⟨0x4020, 0, 19⟩
def SWP_LATEPTS : Fld := ⟨0x4024, 0, 32⟩
def SWP_LATEPTS_LATEPTS : Fld := ⟨0x4024, 0, 19⟩
def SWP_BALPTS : Fld := ⟨0x4028, 0, 32⟩
def SWP_BALPTS_BALPTS : Fld := ⟨0x4028, 0, 19⟩
def SWP_REG (i : Nat) : Fld := ⟨0x4040 + 0x4 * i, 0, 32⟩
def SWP_REG_REG_CULLET (i : Nat) : Fld := ⟨0x4040 + 0x4 * i, 0, 16⟩
def SWP_CNT_DUP : Fld := ⟨0x4060, 0, 32⟩
def SWP_CNT_STALE : Fld := ⟨0x4064, 0, 32⟩
def SWP_CNT_NODEERR : Fld := ⟨0x4068, 0, 32⟩
def SWP_CNT_BYANGLE : Fld := ⟨0x406C, 0, 32⟩
def SWP_CNT_EVA : Fld := ⟨0x4070, 0, 32⟩
def SWP_CNT_EVB : Fld := ⟨0x4074, 0, 32⟩
def SWP_CNT_TOKLATE : Fld := ⟨0x4078, 0, 32⟩
def SWP_LIMLAST (i : Nat) : Fld := ⟨0x4080 + 0x4 * i, 0, 32⟩
def SWP_LIMLAST_POINT (i : Nat) : Fld := ⟨0x4080 + 0x4 * i, 0, 18⟩
def SWP_LIMLAST_CLASS (i : Nat) : Fld := ⟨0x4080 + 0x4 * i, 18, 8⟩
def SWP_LIMLAST_REACTION (i : Nat) : Fld := ⟨0x4080 + 0x4 * i, 26, 2⟩
def SWP_LIMLAST_SEEN (i : Nat) : Fld := ⟨0x4080 + 0x4 * i, 28, 1⟩
def SWP_TREQ : Fld := ⟨0x4100, 0, 32⟩
def SWP_TREQ_GO : Fld := ⟨0x4100, 0, 1⟩
def SWP_TREQ_ABORT : Fld := ⟨0x4100, 1, 1⟩
def SWP_TREQ_CODE : Fld := ⟨0x4100, 8, 3⟩
def SWP_TREQ_CHAIN : Fld := ⟨0x4100, 16, 6⟩
def SWP_TREQ_RANGE : Fld := ⟨0x4104, 0, 32⟩
def SWP_TREQ_RANGE_FIRST_HOP : Fld := ⟨0x4104, 0, 8⟩
def SWP_TREQ_RANGE_LAST_HOP : Fld := ⟨0x4104, 8, 8⟩
def SWP_TREQ_RANGE_DEADLINE_S : Fld := ⟨0x4104, 16, 16⟩
def SWP_TREQ_STAT : Fld := ⟨0x4108, 0, 32⟩
def SWP_TREQ_STAT_STATE : Fld := ⟨0x4108, 0, 3⟩
def SWP_TREQ_STAT_REFUSE : Fld := ⟨0x4108, 3, 3⟩
def SWP_TREQ_STAT_DONE : Fld := ⟨0x4108, 8, 8⟩
def SWP_TREQ_STAT_FAILED : Fld := ⟨0x4108, 16, 8⟩
def SWP_TREQ_STAT_NOT_RUN : Fld := ⟨0x4108, 24, 8⟩
def SWP_TCAMP : Fld := ⟨0x4110, 0, 32⟩
/-! LNK (ch. 06) -/
def LNK_STAT (i : Nat) : Fld := ⟨0x10000 + 0x400 * i, 0, 32⟩
def LNK_STAT_STATE (i : Nat) : Fld := ⟨0x10000 + 0x400 * i, 0, 3⟩
def LNK_STAT_ENUM_CAUSE (i : Nat) : Fld := ⟨0x10000 + 0x400 * i, 3, 3⟩
def LNK_STAT_K_OUT (i : Nat) : Fld := ⟨0x10000 + 0x400 * i, 8, 8⟩
def LNK_STAT_K_RET (i : Nat) : Fld := ⟨0x10000 + 0x400 * i, 16, 8⟩
def LNK_STAT_FAULT_HOP (i : Nat) : Fld := ⟨0x10000 + 0x400 * i, 24, 8⟩
def LNK_CTRL (i : Nat) : Fld := ⟨0x10004 + 0x400 * i, 0, 32⟩
def LNK_CTRL_REENUM (i : Nat) : Fld := ⟨0x10004 + 0x400 * i, 0, 1⟩
def LNK_CTRL_UNMUTE_ALL (i : Nat) : Fld := ⟨0x10004 + 0x400 * i, 1, 1⟩
def LNK_CTRL_HOLD_SEG (i : Nat) : Fld := ⟨0x10004 + 0x400 * i, 2, 1⟩
def LNK_MASTER (i : Nat) : Fld := ⟨0x10008 + 0x400 * i, 0, 32⟩
def LNK_MASTER_ID_MISMATCH (i : Nat) : Fld := ⟨0x10008 + 0x400 * i, 0, 8⟩
def LNK_MASTER_MASTER_CHANGED (i : Nat) : Fld := ⟨0x10008 + 0x400 * i, 8, 8⟩
def LNK_TRANSIT (i : Nat) : Fld := ⟨0x1000C + 0x400 * i, 0, 32⟩
def LNK_TRANSIT_RING_T (i : Nat) : Fld := ⟨0x1000C + 0x400 * i, 0, 16⟩
def LNK_TRANSIT_LAST_T (i : Nat) : Fld := ⟨0x1000C + 0x400 * i, 16, 16⟩
def LNK_CNT_CRC (i : Nat) : Fld := ⟨0x10010 + 0x400 * i, 0, 32⟩
def LNK_CNT_TMO (i : Nat) : Fld := ⟨0x10014 + 0x400 * i, 0, 32⟩
def LNK_CNT_RETRY (i : Nat) : Fld := ⟨0x10018 + 0x400 * i, 0, 32⟩
def LNK_CNT_LATE (i : Nat) : Fld := ⟨0x1001C + 0x400 * i, 0, 32⟩
def LNK_CNT_BREAK (i : Nat) : Fld := ⟨0x10020 + 0x400 * i, 0, 32⟩
def LNK_CNT_TAGWAIT (i : Nat) : Fld := ⟨0x10024 + 0x400 * i, 0, 32⟩
def LNK_MUTE (i : Nat) (j : Nat) : Fld := ⟨0x10040 + 0x400 * i + 0x4 * j, 0, 32⟩
def LNK_UNRCH (i : Nat) (j : Nat) : Fld := ⟨0x10050 + 0x400 * i + 0x4 * j, 0, 32⟩
def LNK_LATE (i : Nat) (j : Nat) : Fld := ⟨0x10060 + 0x400 * i + 0x4 * j, 0, 32⟩
def LNK_HOP (i : Nat) (j : Nat) : Fld := ⟨0x10200 + 0x400 * i + 0x4 * j, 0, 32⟩
def LNK_HOP_COMP_OUT (i : Nat) (j : Nat) : Fld := ⟨0x10200 + 0x400 * i + 0x4 * j, 0, 16⟩
def LNK_HOP_COMP_RET (i : Nat) (j : Nat) : Fld := ⟨0x10200 + 0x400 * i + 0x4 * j, 16, 16⟩
/-! STO (ch. 09) -/
def STO_STAT : Fld := ⟨0x20000, 0, 32⟩
def STO_STAT_XCOLL : Fld := ⟨0x20000, 0, 1⟩
def STO_STAT_REJ : Fld := ⟨0x20000, 1, 1⟩
def STO_STAT_ECC_UE : Fld := ⟨0x20000, 2, 1⟩
def STO_STAT_MIRROR : Fld := ⟨0x20000, 3, 1⟩
def STO_STAT_SPARE_L_USED : Fld := ⟨0x20000, 8, 8⟩
def STO_STAT_SPARE_S_USED : Fld := ⟨0x20000, 16, 8⟩
def STO_STAT_CLAIM_REFUSE : Fld := ⟨0x20000, 24, 2⟩
def STO_OWN_S (i : Nat) : Fld := ⟨0x20010 + 0x4 * i, 0, 32⟩
def STO_OWN_S_OWNER (i : Nat) : Fld := ⟨0x20010 + 0x4 * i, 0, 2⟩
def STO_OWN_S_PEND_OWNER (i : Nat) : Fld := ⟨0x20010 + 0x4 * i, 4, 2⟩
def STO_OWN_S_PEND (i : Nat) : Fld := ⟨0x20010 + 0x4 * i, 6, 1⟩
def STO_OWN_R (i : Nat) : Fld := ⟨0x20050 + 0x4 * i, 0, 32⟩
def STO_OWN_R_OWNER (i : Nat) : Fld := ⟨0x20050 + 0x4 * i, 0, 2⟩
def STO_OWN_R_PEND_OWNER (i : Nat) : Fld := ⟨0x20050 + 0x4 * i, 4, 2⟩
def STO_OWN_R_PEND (i : Nat) : Fld := ⟨0x20050 + 0x4 * i, 6, 1⟩
def STO_XCOLL : Fld := ⟨0x20080, 0, 32⟩
def STO_XCOLL_ADDR : Fld := ⟨0x20080, 0, 16⟩
def STO_XCOLL_COUNT : Fld := ⟨0x20080, 16, 16⟩
def STO_REJ : Fld := ⟨0x20084, 0, 32⟩
def STO_REJ_WRITER : Fld := ⟨0x20084, 0, 2⟩
def STO_REJ_SET : Fld := ⟨0x20084, 2, 5⟩
def STO_REJ_COUNT : Fld := ⟨0x20084, 16, 16⟩
def STO_REJ_OFF : Fld := ⟨0x20088, 0, 32⟩
def STO_REJ_OFF_OFFSET : Fld := ⟨0x20088, 0, 22⟩
def STO_ECC : Fld := ⟨0x2008C, 0, 32⟩
def STO_ECC_CE : Fld := ⟨0x2008C, 0, 16⟩
def STO_ECC_UE : Fld := ⟨0x2008C, 16, 16⟩
def STO_ECC_ADDR : Fld := ⟨0x20090, 0, 32⟩
def STO_ECC_ADDR_ADDR : Fld := ⟨0x20090, 0, 26⟩
def STO_SLOT (i : Nat) : Fld := ⟨0x200A0 + 0x4 * i, 0, 32⟩
def STO_SLOTSTAT : Fld := ⟨0x200B0, 0, 32⟩
def STO_SLOTSTAT_NEXT : Fld := ⟨0x200B0, 0, 2⟩
def STO_SLOTSTAT_PINNED : Fld := ⟨0x200B0, 4, 4⟩
def STO_MIRROR : Fld := ⟨0x200C0, 0, 32⟩
def STO_MIRROR_SET : Fld := ⟨0x200C0, 0, 5⟩
def STO_MIRROR_BANK : Fld := ⟨0x200C0, 5, 3⟩
def STO_MIRROR_MIRROR_PHASE : Fld := ⟨0x200C0, 8, 2⟩
/-! EST (ch. 10 and 11) -/
def EST_STAT : Fld := ⟨0x21000, 0, 32⟩
def EST_STAT_RUNNING : Fld := ⟨0x21000, 0, 1⟩
def EST_STAT_RESTORED : Fld := ⟨0x21000, 1, 1⟩
def EST_STAT_SAVE_BUSY : Fld := ⟨0x21000, 2, 1⟩
def EST_STAT_SAVE_FAIL : Fld := ⟨0x21000, 3, 1⟩
def EST_STAT_LANE_FAIL : Fld := ⟨0x21000, 4, 1⟩
def EST_STAT_OVERRUN : Fld := ⟨0x21000, 5, 1⟩
def EST_STAT_NO_MEMORY : Fld := ⟨0x21000, 6, 1⟩
def EST_STAT_REGION_FAULT : Fld := ⟨0x21000, 8, 8⟩
def EST_STAT_HELD : Fld := ⟨0x21000, 16, 8⟩
def EST_STAT_SPARES_FREE : Fld := ⟨0x21000, 24, 3⟩
def EST_CELLRST : Fld := ⟨0x21008, 0, 32⟩
def EST_CELLRST_CELL : Fld := ⟨0x21008, 0, 18⟩
def EST_CELLRST_GO : Fld := ⟨0x21008, 31, 1⟩
def EST_SAVE : Fld := ⟨0x21010, 0, 32⟩
def EST_SAVE_LAST_KIND : Fld := ⟨0x21010, 0, 2⟩
def EST_SAVE_LAST_RESULT : Fld := ⟨0x21010, 2, 3⟩
def EST_SAVE_REGION : Fld := ⟨0x21010, 8, 4⟩
def EST_SAVE_AGE_S : Fld := ⟨0x21010, 16, 16⟩
def EST_SAVE_SEQ : Fld := ⟨0x21014, 0, 32⟩
def EST_RESTORE : Fld := ⟨0x21018, 0, 32⟩
def EST_RESTORE_REGION_OK : Fld := ⟨0x21018, 0, 8⟩
def EST_RESTORE_REGION_FAIL : Fld := ⟨0x21018, 8, 8⟩
def EST_RESTORE_NON_ORDERLY : Fld := ⟨0x21018, 16, 1⟩
def EST_RESTORE_REV_DIFF : Fld := ⟨0x21018, 17, 1⟩
def EST_RESTORE_ID_DIFF : Fld := ⟨0x21018, 18, 1⟩
def EST_INITCELLS : Fld := ⟨0x2101C, 0, 32⟩
def EST_INITCELLS_CELLS : Fld := ⟨0x2101C, 0, 18⟩
def EST_REG (i : Nat) : Fld := ⟨0x21040 + 0x4 * i, 0, 32⟩
def EST_REG_LANES (i : Nat) : Fld := ⟨0x21040 + 0x4 * i, 0, 4⟩
def EST_REG_OVERRUN_RUN (i : Nat) : Fld := ⟨0x21040 + 0x4 * i, 4, 4⟩
def EST_REG_OVERRUNS (i : Nat) : Fld := ⟨0x21040 + 0x4 * i, 16, 16⟩
def EST_REGT (i : Nat) : Fld := ⟨0x21060 + 0x4 * i, 0, 32⟩
def EST_REGT_LAST_US (i : Nat) : Fld := ⟨0x21060 + 0x4 * i, 0, 16⟩
def EST_REGT_PREDONLY (i : Nat) : Fld := ⟨0x21060 + 0x4 * i, 16, 16⟩
def EST_CNT_GATED : Fld := ⟨0x21080, 0, 32⟩
def EST_CNT_GATERST : Fld := ⟨0x21084, 0, 32⟩
def EST_CNT_NUMRST : Fld := ⟨0x21088, 0, 32⟩
def EST_CNT_SUBST : Fld := ⟨0x2108C, 0, 32⟩
def EST_RIP_STAT : Fld := ⟨0x210A0, 0, 32⟩
def EST_RIP_STAT_OFF_P0 : Fld := ⟨0x210A0, 0, 1⟩
def EST_RIP_STAT_NOT_LOCKED : Fld := ⟨0x210A0, 1, 1⟩
def EST_RIP_STAT_OFF_DEC : Fld := ⟨0x210A0, 8, 8⟩
def EST_RIP_STAT_W : Fld := ⟨0x210A0, 16, 8⟩
def EST_EXC_CTRL : Fld := ⟨0x210B0, 0, 32⟩
def EST_EXC_CTRL_EXC_EN : Fld := ⟨0x210B0, 0, 1⟩
def EST_EXC_CTRL_STOP : Fld := ⟨0x210B0, 1, 1⟩
def EST_EXC_CFG : Fld := ⟨0x210B4, 0, 32⟩
def EST_EXC_CFG_AMP : Fld := ⟨0x210B4, 0, 12⟩
def EST_EXC_CFG_LOW_SHARE : Fld := ⟨0x210B4, 12, 7⟩
def EST_EXC_CFG_WINDOWS : Fld := ⟨0x210B4, 19, 6⟩
def EST_EXC_SPACE : Fld := ⟨0x210B8, 0, 32⟩
def EST_EXC_SPACE_SPACING_S : Fld := ⟨0x210B8, 0, 16⟩
def EST_EXC_STAT : Fld := ⟨0x210BC, 0, 32⟩
def EST_EXC_STAT_STATE : Fld := ⟨0x210BC, 0, 2⟩
def EST_EXC_STAT_STARVED : Fld := ⟨0x210BC, 8, 8⟩
def EST_EXC_STAT_UNANSWERED : Fld := ⟨0x210BC, 16, 2⟩
def EST_CNT_WIN_OK : Fld := ⟨0x210C0, 0, 32⟩
def EST_CNT_WIN_BAD : Fld := ⟨0x210C4, 0, 32⟩
def EST_CNT_WIN_LOWI : Fld := ⟨0x210C8, 0, 32⟩
def EST_CNT_TPHI_OUT : Fld := ⟨0x210CC, 0, 32⟩
/-! SOP (ch. 12) -/
def SOP_STAT : Fld := ⟨0x22000, 0, 32⟩
def SOP_STAT_RESULT_VALID : Fld := ⟨0x22000, 0, 1⟩
def SOP_STAT_LEHR : Fld := ⟨0x22000, 1, 1⟩
def SOP_STAT_STATE_ZERO : Fld := ⟨0x22000, 2, 1⟩
def SOP_STAT_DERATE : Fld := ⟨0x22000, 3, 1⟩
def SOP_STAT_STALE_OUT : Fld := ⟨0x22000, 4, 1⟩
def SOP_STAT_CLOSED : Fld := ⟨0x22000, 8, 10⟩
def SOP_EPOCH : Fld := ⟨0x22004, 0, 32⟩
def SOP_LIM (i : Nat) : Fld := ⟨0x22010 + 0x4 * i, 0, 32⟩
def SOP_VMAX : Fld := ⟨0x22028, 0, 32⟩
def SOP_VMIN : Fld := ⟨0x2202C, 0, 32⟩
def SOP_SCAN : Fld := ⟨0x22030, 0, 32⟩
def SOP_SCAN_SCAN_US : Fld := ⟨0x22030, 0, 16⟩
def SOP_SCAN_SCANS : Fld := ⟨0x22030, 16, 16⟩
def SOP_TIME : Fld := ⟨0x22034, 0, 32⟩
def SOP_TIME_STEP_T : Fld := ⟨0x22034, 0, 16⟩
def SOP_TIME_MISSED : Fld := ⟨0x22034, 16, 16⟩
def SOP_LIMITER : Fld := ⟨0x22038, 0, 32⟩
def SOP_LIMITER_DIS_STRING : Fld := ⟨0x22038, 0, 9⟩
def SOP_LIMITER_CHG_STRING : Fld := ⟨0x22038, 16, 9⟩
def SOP_LIMITER_NONE : Fld := ⟨0x22038, 25, 1⟩
def SOP_LIMITER_CHG_BY_SHARE : Fld := ⟨0x22038, 30, 1⟩
def SOP_LIMITER_BY_SHARE : Fld := ⟨0x22038, 31, 1⟩
def SOP_DERATE (i : Nat) : Fld := ⟨0x22040 + 0x4 * i, 0, 32⟩
/-! DSC (ch. 13) -/
def DSC_STATE : Fld := ⟨0x23000, 0, 32⟩
def DSC_STATE_STATE : Fld := ⟨0x23000, 0, 3⟩
def DSC_STATE_PREV : Fld := ⟨0x23000, 4, 3⟩
def DSC_STATE_SD_KIND : Fld := ⟨0x23000, 8, 2⟩
def DSC_STATE_FAULT_CAUSED : Fld := ⟨0x23000, 10, 1⟩
def DSC_STATE_PHASE : Fld := ⟨0x23000, 12, 3⟩
def DSC_STATE_VERIFY : Fld := ⟨0x23000, 16, 2⟩
def DSC_CAUSE : Fld := ⟨0x23004, 0, 32⟩
def DSC_CAUSE_FIRST : Fld := ⟨0x23004, 0, 8⟩
def DSC_CAUSE_LAST : Fld := ⟨0x23004, 8, 8⟩
def DSC_CAUSE_COUNT : Fld := ⟨0x23004, 16, 8⟩
def DSC_CAUSEMAP (i : Nat) : Fld := ⟨0x23008 + 0x4 * i, 0, 32⟩
def DSC_CTRL : Fld := ⟨0x23010, 0, 32⟩
def DSC_CTRL_OPEN_REQ : Fld := ⟨0x23010, 0, 1⟩
def DSC_CTRL_ACK : Fld := ⟨0x23010, 1, 1⟩
def DSC_CTRL_ACK_SD0 : Fld := ⟨0x23010, 2, 1⟩
def DSC_CTRL_MAINT_REQ : Fld := ⟨0x23010, 3, 1⟩
def DSC_CTRL_MAINT_EXIT : Fld := ⟨0x23010, 4, 1⟩
def DSC_LEHR : Fld := ⟨0x23020, 0, 32⟩
def DSC_LEHR_CAUSES : Fld := ⟨0x23020, 0, 7⟩
def DSC_LEHR_USED_MIN : Fld := ⟨0x23020, 16, 11⟩
def DSC_LEHR_T : Fld := ⟨0x23024, 0, 32⟩
def DSC_LEHR_T_LEFT_MIN : Fld := ⟨0x23024, 0, 16⟩
def DSC_LEHR_T_CLEAR_S : Fld := ⟨0x23024, 16, 8⟩
def DSC_SD1_T : Fld := ⟨0x23030, 0, 32⟩
def DSC_SD1_T_T_MS : Fld := ⟨0x23030, 0, 16⟩
def DSC_SD1_T_RAMP_NO : Fld := ⟨0x23030, 16, 16⟩
def DSC_I (i : Nat) : Fld := ⟨0x23040 + 0x4 * i, 0, 32⟩
def DSC_VBAT (i : Nat) : Fld := ⟨0x23048 + 0x4 * i, 0, 32⟩
def DSC_VLINK : Fld := ⟨0x23050, 0, 32⟩
def DSC_CULLET : Fld := ⟨0x23054, 0, 32⟩
def DSC_CULLET_SHARE : Fld := ⟨0x23054, 0, 16⟩
def DSC_CULLET_RUN : Fld := ⟨0x23054, 16, 8⟩
def DSC_EXCL (i : Nat) : Fld := ⟨0x23060 + 0x4 * i, 0, 32⟩
def DSC_EXCL_CTRL : Fld := ⟨0x230A0, 0, 32⟩
def DSC_EXCL_CTRL_STRING : Fld := ⟨0x230A0, 0, 9⟩
def DSC_EXCL_CTRL_EXCLUDE : Fld := ⟨0x230A0, 16, 1⟩
def DSC_EXCL_CTRL_INCLUDE : Fld := ⟨0x230A0, 17, 1⟩
def DSC_CNT : Fld := ⟨0x230B0, 0, 32⟩
def DSC_CNT_SD0 : Fld := ⟨0x230B0, 0, 16⟩
def DSC_CNT_SD1 : Fld := ⟨0x230B0, 16, 16⟩
/-! CTR (ch. 14) -/
def CTR_STAT : Fld := ⟨0x23100, 0, 32⟩
def CTR_STAT_PHASE : Fld := ⟨0x23100, 0, 4⟩
def CTR_STAT_RESULT : Fld := ⟨0x23100, 4, 2⟩
def CTR_STAT_FAIL_CODE : Fld := ⟨0x23100, 8, 8⟩
def CTR_STAT_PAIRS_ON : Fld := ⟨0x23100, 16, 8⟩
def CTR_STAT_PAIR_WELD : Fld := ⟨0x23100, 24, 8⟩
def CTR_CTRL : Fld := ⟨0x23104, 0, 32⟩
def CTR_CTRL_CLOSE_REQ : Fld := ⟨0x23104, 0, 1⟩
def CTR_CTRL_ABORT : Fld := ⟨0x23104, 1, 1⟩
def CTR_CTRL_JOIN : Fld := ⟨0x23104, 2, 1⟩
def CTR_CTRL_WELD_CLR : Fld := ⟨0x23104, 3, 1⟩
def CTR_CTRL_WELD_STR_CLR : Fld := ⟨0x23104, 4, 1⟩
def CTR_CTRL_PAIR_MASK : Fld := ⟨0x23104, 8, 8⟩
def CTR_CTRL_JOIN_STRING : Fld := ⟨0x23104, 16, 9⟩
def CTR_PERM : Fld := ⟨0x23108, 0, 32⟩
def CTR_FB : Fld := ⟨0x2310C, 0, 32⟩
def CTR_FB_FB_CLOSED : Fld := ⟨0x2310C, 0, 8⟩
def CTR_FB_FB_UNDEC : Fld := ⟨0x2310C, 8, 8⟩
def CTR_PRE : Fld := ⟨0x23110, 0, 32⟩
def CTR_PRE_PRE_MS : Fld := ⟨0x23110, 0, 16⟩
def CTR_PRE_RATIO : Fld := ⟨0x23110, 16, 10⟩
def CTR_COOL : Fld := ⟨0x23114, 0, 32⟩
def CTR_COOL_COOL_S : Fld := ⟨0x23114, 0, 12⟩
def CTR_STRWELD (i : Nat) : Fld := ⟨0x23120 + 0x4 * i, 0, 32⟩
def CTR_NOTJOIN (i : Nat) : Fld := ⟨0x23160 + 0x4 * i, 0, 32⟩
/-! PAIR (ch. 15) -/
def PAIR_STAT : Fld := ⟨0x24000, 0, 32⟩
def PAIR_STAT_MODE : Fld := ⟨0x24000, 0, 3⟩
def PAIR_STAT_INJ_START_OK : Fld := ⟨0x24000, 3, 1⟩
def PAIR_STAT_FAULT : Fld := ⟨0x24000, 4, 1⟩
def PAIR_STAT_FAULT_CAUSE : Fld := ⟨0x24000, 5, 3⟩
def PAIR_STAT_BACKSTOP : Fld := ⟨0x24000, 8, 1⟩
def PAIR_STAT_BACKSTOP_FIRED : Fld := ⟨0x24000, 9, 1⟩
def PAIR_STAT_LAG_MODE : Fld := ⟨0x24000, 10, 1⟩
def PAIR_STAT_CAMPAIGN : Fld := ⟨0x24000, 16, 3⟩
def PAIR_CTRL : Fld := ⟨0x24004, 0, 32⟩
def PAIR_CTRL_SPLIT : Fld := ⟨0x24004, 0, 1⟩
def PAIR_CTRL_REJOIN : Fld := ⟨0x24004, 1, 1⟩
def PAIR_CTRL_CAMP_GO : Fld := ⟨0x24004, 2, 1⟩
def PAIR_CTRL_CAMP_CODE : Fld := ⟨0x24004, 8, 3⟩
def PAIR_CYCLE : Fld := ⟨0x24008, 0, 32⟩
def PAIR_DIG_G : Fld := ⟨0x2400C, 0, 32⟩
def PAIR_DIG_S : Fld := ⟨0x24010, 0, 32⟩
def PAIR_FAULT_CYC : Fld := ⟨0x24014, 0, 32⟩
def PAIR_SKEW : Fld := ⟨0x24018, 0, 32⟩
def PAIR_SKEW_LAST_US : Fld := ⟨0x24018, 0, 8⟩
def PAIR_SKEW_MAX_US : Fld := ⟨0x24018, 8, 8⟩
def PAIR_TB : Fld := ⟨0x2401C, 0, 32⟩
def PAIR_TB_S_BY_G : Fld := ⟨0x2401C, 0, 16⟩
def PAIR_TB_G_BY_S : Fld := ⟨0x2401C, 16, 16⟩
def PAIR_INJ : Fld := ⟨0x24020, 0, 32⟩
def PAIR_INJ_NEXT_BIT : Fld := ⟨0x24020, 0, 5⟩
def PAIR_INJ_NEXT_SIDE : Fld := ⟨0x24020, 5, 1⟩
def PAIR_INJ_DONE : Fld := ⟨0x24020, 16, 16⟩
def PAIR_ECC : Fld := ⟨0x24024, 0, 32⟩
def PAIR_ECC_CE : Fld := ⟨0x24024, 0, 16⟩
def PAIR_ECC_UE : Fld := ⟨0x24024, 16, 16⟩
def PAIR_CHAN : Fld := ⟨0x24028, 0, 32⟩
def PAIR_CHAN_LOST : Fld := ⟨0x24028, 0, 6⟩
def PAIR_MODESTAT : Fld := ⟨0x24030, 0, 32⟩
def PAIR_MODESTAT_ATTEMPTS : Fld := ⟨0x24030, 0, 2⟩
def PAIR_MODESTAT_REFUSE : Fld := ⟨0x24030, 4, 3⟩
def PAIR_CAMP : Fld := ⟨0x24034, 0, 32⟩
def PAIR_CAMP_LAST_CODE : Fld := ⟨0x24034, 0, 3⟩
def PAIR_CAMP_RESULT : Fld := ⟨0x24034, 3, 2⟩
def PAIR_CAMP_DETAIL : Fld := ⟨0x24034, 16, 16⟩
def PAIR_REPLAY : Fld := ⟨0x24040, 0, 32⟩
def PAIR_REPLAY_USED : Fld := ⟨0x24040, 0, 9⟩
def PAIR_REPLAY_REFUSED : Fld := ⟨0x24040, 16, 16⟩
def PAIR_RETIRE_LO : Fld := ⟨0x24044, 0, 32⟩
def PAIR_RETIRE_HI : Fld := ⟨0x24048, 0, 32⟩
def PAIR_RETIRE_HI_RETIRE_HI : Fld := ⟨0x24048, 0, 16⟩
def PAIR_LAG : Fld := ⟨0x2404C, 0, 32⟩
def PAIR_LAG_LAG : Fld := ⟨0x2404C, 0, 13⟩
/-! SIO (ch. 16) -/
def SIO_IN : Fld := ⟨0x25000, 0, 32⟩
def SIO_IN_A_HIGH : Fld := ⟨0x25000, 0, 8⟩
def SIO_IN_B_HIGH : Fld := ⟨0x25000, 8, 8⟩
def SIO_IN_CLOSED : Fld := ⟨0x25000, 16, 8⟩
def SIO_IN_DISC_FAULT : Fld := ⟨0x25000, 24, 8⟩
def SIO_INFAULT : Fld := ⟨0x25004, 0, 32⟩
def SIO_INFAULT_XSHORT_A : Fld := ⟨0x25004, 0, 8⟩
def SIO_INFAULT_XSHORT_B : Fld := ⟨0x25004, 8, 8⟩
def SIO_INFAULT_PROOF_MISSING : Fld := ⟨0x25004, 16, 8⟩
def SIO_INFAULT_PROOF_OVERDUE : Fld := ⟨0x25004, 24, 8⟩
def SIO_PROOF (i : Nat) : Fld := ⟨0x25010 + 0x4 * i, 0, 32⟩
def SIO_PROOF_HOURS_LEFT (i : Nat) : Fld := ⟨0x25010 + 0x4 * i, 0, 16⟩
def SIO_PROOF_STATE (i : Nat) : Fld := ⟨0x25010 + 0x4 * i, 16, 2⟩
def SIO_PROOF_LEHR (i : Nat) : Fld := ⟨0x25010 + 0x4 * i, 18, 1⟩
def SIO_TPO : Fld := ⟨0x25040, 0, 32⟩
def SIO_TPO_TPO_A_ON : Fld := ⟨0x25040, 0, 1⟩
def SIO_TPO_TPO_B_ON : Fld := ⟨0x25040, 1, 1⟩
def SIO_TPO_A_LIMIT : Fld := ⟨0x25040, 2, 1⟩
def SIO_TPO_B_LIMIT : Fld := ⟨0x25040, 3, 1⟩
def SIO_TPO_LIMIT_CNT : Fld := ⟨0x25040, 16, 16⟩
def SIO_OUT : Fld := ⟨0x25050, 0, 32⟩
def SIO_OUT_HS_ON : Fld := ⟨0x25050, 0, 8⟩
def SIO_OUT_LS_ON : Fld := ⟨0x25050, 8, 8⟩
def SIO_OUT_HS_TESTFAIL : Fld := ⟨0x25050, 16, 8⟩
def SIO_OUT_LS_TESTFAIL : Fld := ⟨0x25050, 24, 8⟩
def SIO_TRIP : Fld := ⟨0x25054, 0, 32⟩
def SIO_TRIP_TRIP_A : Fld := ⟨0x25054, 0, 1⟩
def SIO_TRIP_TRIP_B : Fld := ⟨0x25054, 1, 1⟩
def SIO_TRIP_TEST_OK_A : Fld := ⟨0x25054, 2, 1⟩
def SIO_TRIP_TEST_OK_B : Fld := ⟨0x25054, 3, 1⟩
def SIO_TRIP_CHECK_FAIL : Fld := ⟨0x25054, 4, 1⟩
def SIO_TRIP_TRIPS : Fld := ⟨0x25054, 16, 16⟩
/-! SFL (ch. 17) -/
def SFL_STAT : Fld := ⟨0x26000, 0, 32⟩
def SFL_STAT_ESTABLISHED : Fld := ⟨0x26000, 0, 16⟩
def SFL_STAT_LIMIT_UP : Fld := ⟨0x26000, 16, 1⟩
def SFL_CNT : Fld := ⟨0x26004, 0, 32⟩
def SFL_CNT_FOREIGN : Fld := ⟨0x26004, 0, 16⟩
def SFL_CNT_UNSENT : Fld := ⟨0x26004, 16, 16⟩
def SFL_C_STAT (i : Nat) : Fld := ⟨0x26100 + 0x20 * i, 0, 32⟩
def SFL_C_STAT_STATE (i : Nat) : Fld := ⟨0x26100 + 0x20 * i, 0, 2⟩
def SFL_C_STAT_SINCE_MS (i : Nat) : Fld := ⟨0x26100 + 0x20 * i, 16, 16⟩
def SFL_C_CID (i : Nat) : Fld := ⟨0x26104 + 0x20 * i, 0, 32⟩
def SFL_C_SEQ (i : Nat) : Fld := ⟨0x26108 + 0x20 * i, 0, 32⟩
def SFL_C_SEQ_TX (i : Nat) : Fld := ⟨0x26108 + 0x20 * i, 0, 16⟩
def SFL_C_SEQ_RX (i : Nat) : Fld := ⟨0x26108 + 0x20 * i, 16, 16⟩
def SFL_C_ERR (i : Nat) : Fld := ⟨0x2610C + 0x20 * i, 0, 32⟩
def SFL_C_ERR_CHECK (i : Nat) : Fld := ⟨0x2610C + 0x20 * i, 0, 16⟩
def SFL_C_ERR_SEQ (i : Nat) : Fld := ⟨0x2610C + 0x20 * i, 16, 16⟩
def SFL_C_LOSS (i : Nat) : Fld := ⟨0x26110 + 0x20 * i, 0, 32⟩
def SFL_C_LOSS_LOST (i : Nat) : Fld := ⟨0x26110 + 0x20 * i, 0, 16⟩
def SFL_C_LOSS_EXPIRED (i : Nat) : Fld := ⟨0x26110 + 0x20 * i, 16, 8⟩
def SFL_C_LOSS_STALE_ECHO (i : Nat) : Fld := ⟨0x26110 + 0x20 * i, 24, 8⟩
def SFL_C_XPORT (i : Nat) : Fld := ⟨0x26114 + 0x20 * i, 0, 32⟩
def SFL_C_XPORT_TRANSPORT (i : Nat) : Fld := ⟨0x26114 + 0x20 * i, 0, 16⟩
def SFL_C_PEER (i : Nat) : Fld := ⟨0x26118 + 0x20 * i, 0, 32⟩
def SFL_C_PEER_PEER_STATE (i : Nat) : Fld := ⟨0x26118 + 0x20 * i, 0, 8⟩
def SFL_C_PEER_PEER_FLAGS (i : Nat) : Fld := ⟨0x26118 + 0x20 * i, 8, 8⟩
def SFL_C_PEER_PEER_RAMP (i : Nat) : Fld := ⟨0x26118 + 0x20 * i, 16, 16⟩
def SFL_C_PEERI (i : Nat) : Fld := ⟨0x2611C + 0x20 * i, 0, 32⟩
/-! SW (ch. 18) -/
def SW_STAT (i : Nat) : Fld := ⟨0x27000 + 0x80 * i, 0, 32⟩
def SW_STAT_STATE (i : Nat) : Fld := ⟨0x27000 + 0x80 * i, 0, 3⟩
def SW_STAT_CMD (i : Nat) : Fld := ⟨0x27000 + 0x80 * i, 3, 1⟩
def SW_STAT_OUT_ON (i : Nat) : Fld := ⟨0x27000 + 0x80 * i, 4, 1⟩
def SW_STAT_LIMITING (i : Nat) : Fld := ⟨0x27000 + 0x80 * i, 5, 1⟩
def SW_STAT_THERM (i : Nat) : Fld := ⟨0x27000 + 0x80 * i, 6, 1⟩
def SW_STAT_FAILSAFE (i : Nat) : Fld := ⟨0x27000 + 0x80 * i, 7, 1⟩
def SW_STAT_OPEN_LOAD (i : Nat) : Fld := ⟨0x27000 + 0x80 * i, 8, 1⟩
def SW_STAT_SHORT_SUPPLY (i : Nat) : Fld := ⟨0x27000 + 0x80 * i, 9, 1⟩
def SW_STAT_END_GND (i : Nat) : Fld := ⟨0x27000 + 0x80 * i, 10, 1⟩
def SW_STAT_FW_MISSING (i : Nat) : Fld := ⟨0x27000 + 0x80 * i, 11, 1⟩
def SW_STAT_RETRIES_LEFT (i : Nat) : Fld := ⟨0x27000 + 0x80 * i, 16, 4⟩
def SW_CTRL (i : Nat) : Fld := ⟨0x27004 + 0x80 * i, 0, 32⟩
def SW_CTRL_ON (i : Nat) : Fld := ⟨0x27004 + 0x80 * i, 0, 1⟩
def SW_CTRL_CLR (i : Nat) : Fld := ⟨0x27004 + 0x80 * i, 1, 1⟩
def SW_MEAS (i : Nat) : Fld := ⟨0x27008 + 0x80 * i, 0, 32⟩
def SW_MEAS_I (i : Nat) : Fld := ⟨0x27008 + 0x80 * i, 0, 12⟩
def SW_MEAS_DT (i : Nat) : Fld := ⟨0x27008 + 0x80 * i, 16, 16⟩
def SW_CNT (i : Nat) : Fld := ⟨0x2700C + 0x80 * i, 0, 32⟩
def SW_CNT_SHUTDOWNS (i : Nat) : Fld := ⟨0x2700C + 0x80 * i, 0, 16⟩
def SW_CNT_RETRIES (i : Nat) : Fld := ⟨0x2700C + 0x80 * i, 16, 16⟩
def SW_CFG (i : Nat) : Fld := ⟨0x27010 + 0x80 * i, 0, 32⟩
def SW_CFG_SRC (i : Nat) : Fld := ⟨0x27010 + 0x80 * i, 0, 2⟩
def SW_CFG_GEN (i : Nat) : Fld := ⟨0x27010 + 0x80 * i, 2, 3⟩
def SW_CFG_FAILSAFE (i : Nat) : Fld := ⟨0x27010 + 0x80 * i, 5, 2⟩
def SW_CFG_FLAGS (i : Nat) : Fld := ⟨0x27010 + 0x80 * i, 8, 4⟩
def SW_CFG_RETRY_MAX (i : Nat) : Fld := ⟨0x27010 + 0x80 * i, 12, 4⟩
def SW_CFG_DT_LIMIT (i : Nat) : Fld := ⟨0x27010 + 0x80 * i, 16, 8⟩
def SW_WD : Fld := ⟨0x27C00, 0, 32⟩
def SW_WD_KEY : Fld := ⟨0x27C00, 0, 16⟩
def SW_WDSTAT : Fld := ⟨0x27C04, 0, 32⟩
def SW_WDSTAT_STATE : Fld := ⟨0x27C04, 0, 2⟩
def SW_WDSTAT_NEXT : Fld := ⟨0x27C04, 2, 1⟩
def SW_WDSTAT_WRONG : Fld := ⟨0x27C04, 8, 8⟩
def SW_WDSTAT_EXPIRIES : Fld := ⟨0x27C04, 16, 16⟩
def SW_CASE : Fld := ⟨0x27C08, 0, 32⟩
def SW_CASE_CASE_H : Fld := ⟨0x27C08, 0, 16⟩
def SW_CASE_CASE_L : Fld := ⟨0x27C08, 16, 16⟩
def SW_SUM : Fld := ⟨0x27C0C, 0, 32⟩
def SW_SUM_SUM : Fld := ⟨0x27C0C, 0, 16⟩
def SW_SUM_SHED : Fld := ⟨0x27C0C, 16, 8⟩
def SW_SUM_IN : Fld := ⟨0x27C0C, 24, 8⟩
def SW_GEN_F (i : Nat) : Fld := ⟨0x27C20 + 0x8 * i, 0, 32⟩
def SW_GEN_F_FREQ (i : Nat) : Fld := ⟨0x27C20 + 0x8 * i, 0, 16⟩
def SW_GEN_F_DUTY (i : Nat) : Fld := ⟨0x27C20 + 0x8 * i, 16, 16⟩
def SW_GEN_P (i : Nat) : Fld := ⟨0x27C24 + 0x8 * i, 0, 32⟩
def SW_GEN_P_PHASE (i : Nat) : Fld := ⟨0x27C24 + 0x8 * i, 0, 12⟩
/-! RING (ch. 19) -/
def RING_BASE_LO (i : Nat) : Fld := ⟨0x28000 + 0x40 * i, 0, 32⟩
def RING_BASE_LO_BASE_LO (i : Nat) : Fld := ⟨0x28000 + 0x40 * i, 12, 20⟩
def RING_BASE_HI (i : Nat) : Fld := ⟨0x28004 + 0x40 * i, 0, 32⟩
def RING_SIZE (i : Nat) : Fld := ⟨0x28008 + 0x40 * i, 0, 32⟩
def RING_SIZE_LOG2 (i : Nat) : Fld := ⟨0x28008 + 0x40 * i, 0, 4⟩
def RING_TAIL (i : Nat) : Fld := ⟨0x2800C + 0x40 * i, 0, 32⟩
def RING_TAIL_TAIL (i : Nat) : Fld := ⟨0x2800C + 0x40 * i, 0, 16⟩
def RING_HEAD (i : Nat) : Fld := ⟨0x28010 + 0x40 * i, 0, 32⟩
def RING_HEAD_HEAD (i : Nat) : Fld := ⟨0x28010 + 0x40 * i, 0, 16⟩
def RING_CTRL (i : Nat) : Fld := ⟨0x28014 + 0x40 * i, 0, 32⟩
def RING_CTRL_ENABLE (i : Nat) : Fld := ⟨0x28014 + 0x40 * i, 0, 1⟩
def RING_CTRL_STOP (i : Nat) : Fld := ⟨0x28014 + 0x40 * i, 1, 1⟩
def RING_CTRL_INT_EN (i : Nat) : Fld := ⟨0x28014 + 0x40 * i, 2, 1⟩
def RING_STAT (i : Nat) : Fld := ⟨0x28018 + 0x40 * i, 0, 32⟩
def RING_STAT_TYPE (i : Nat) : Fld := ⟨0x28018 + 0x40 * i, 0, 3⟩
def RING_STAT_STATE (i : Nat) : Fld := ⟨0x28018 + 0x40 * i, 4, 2⟩
def RING_STAT_ERR_KIND (i : Nat) : Fld := ⟨0x28018 + 0x40 * i, 8, 3⟩
def RING_CNT (i : Nat) : Fld := ⟨0x2801C + 0x40 * i, 0, 32⟩
def RING_ERR_LO (i : Nat) : Fld := ⟨0x28020 + 0x40 * i, 0, 32⟩
def RING_ERR_HI (i : Nat) : Fld := ⟨0x28024 + 0x40 * i, 0, 32⟩
def RING_MISSED (i : Nat) : Fld := ⟨0x28028 + 0x40 * i, 0, 32⟩
/-! HOST (ch. 19) -/
def HOST_ICAUSE : Fld := ⟨0x29000, 0, 32⟩
def HOST_ICAUSE_CAUSE : Fld := ⟨0x29000, 0, 8⟩
def HOST_ICAUSE_MBOX : Fld := ⟨0x29000, 8, 1⟩
def HOST_IMASK : Fld := ⟨0x29004, 0, 32⟩
def HOST_IMASK_MASK : Fld := ⟨0x29004, 0, 8⟩
def HOST_IMASK_MBOX_MASK : Fld := ⟨0x29004, 8, 1⟩
def HOST_IMASK_MBOX_VEC : Fld := ⟨0x29004, 16, 7⟩
def HOST_PUB_STAT : Fld := ⟨0x29040, 0, 32⟩
def HOST_PUB_STAT_FLAGS : Fld := ⟨0x29040, 0, 16⟩
def HOST_PUB_STAT_RING : Fld := ⟨0x29040, 16, 6⟩
def HOST_PUB_STAT_ACTIVE : Fld := ⟨0x29040, 22, 1⟩
def HOST_PUB_SKIPPED : Fld := ⟨0x29044, 0, 32⟩
def HOST_PUB_ABORTED : Fld := ⟨0x29048, 0, 32⟩
def HOST_PUB_LAST : Fld := ⟨0x2904C, 0, 32⟩
/-! MSIX (PCI Express, R524) -/
def MSIX_ADDR_LO (i : Nat) : Fld := ⟨0x29400 + 0x10 * i, 0, 32⟩
def MSIX_ADDR_HI (i : Nat) : Fld := ⟨0x29404 + 0x10 * i, 0, 32⟩
def MSIX_DATA (i : Nat) : Fld := ⟨0x29408 + 0x10 * i, 0, 32⟩
def MSIX_VCTRL (i : Nat) : Fld := ⟨0x2940C + 0x10 * i, 0, 32⟩
def MSIX_VCTRL_MASKED (i : Nat) : Fld := ⟨0x2940C + 0x10 * i, 0, 1⟩
def MSIX_PBA (i : Nat) : Fld := ⟨0x29C00 + 0x4 * i, 0, 32⟩
/-! LOG (ch. 20) -/
def LOG_STAT : Fld := ⟨0x2A000, 0, 32⟩
def LOG_STAT_FAILED : Fld := ⟨0x2A000, 0, 1⟩
def LOG_STAT_SCAN_DONE : Fld := ⟨0x2A000, 1, 1⟩
def LOG_STAT_CLEAR_BUSY : Fld := ⟨0x2A000, 2, 1⟩
def LOG_STAT_RD_BUSY : Fld := ⟨0x2A000, 3, 1⟩
def LOG_STAT_LOST_SEEN : Fld := ⟨0x2A000, 4, 1⟩
def LOG_STAT_DROP_SEEN : Fld := ⟨0x2A000, 5, 1⟩
def LOG_STAT_QUEUE : Fld := ⟨0x2A000, 8, 5⟩
def LOG_STAT_RETAINED : Fld := ⟨0x2A000, 16, 9⟩
def LOG_CTRL : Fld := ⟨0x2A004, 0, 32⟩
def LOG_CTRL_CLEAR : Fld := ⟨0x2A004, 0, 1⟩
def LOG_CTRL_INT_CLASS : Fld := ⟨0x2A004, 1, 2⟩
def LOG_HEAD_SEQ : Fld := ⟨0x2A008, 0, 32⟩
def LOG_TAIL_SEQ : Fld := ⟨0x2A00C, 0, 32⟩
def LOG_CNT_OVW : Fld := ⟨0x2A010, 0, 32⟩
def LOG_CNT_LOST : Fld := ⟨0x2A014, 0, 32⟩
def LOG_CNT_CRC : Fld := ⟨0x2A018, 0, 32⟩
def LOG_CLEAR_SEQ : Fld := ⟨0x2A01C, 0, 32⟩
def LOG_DROP (i : Nat) : Fld := ⟨0x2A020 + 0x4 * i, 0, 32⟩
def LOG_CLASS (i : Nat) : Fld := ⟨0x2A030 + 0x4 * i, 0, 32⟩
def LOG_CLASS_HELD (i : Nat) : Fld := ⟨0x2A030 + 0x4 * i, 0, 17⟩
def LOG_RD_IDX : Fld := ⟨0x2A080, 0, 32⟩
def LOG_RD_IDX_SLOT : Fld := ⟨0x2A080, 0, 17⟩
def LOG_RD_DATA (i : Nat) : Fld := ⟨0x2A0A0 + 0x4 * i, 0, 32⟩
/-! DIAG (ch. 21) -/
def DIAG_SNAP_CTRL : Fld := ⟨0x2B000, 0, 32⟩
def DIAG_SNAP_CTRL_TRIG : Fld := ⟨0x2B000, 0, 1⟩
def DIAG_SNAP_CTRL_ACK_FIRST : Fld := ⟨0x2B000, 1, 1⟩
def DIAG_SNAP_CTRL_REL : Fld := ⟨0x2B000, 4, 4⟩
def DIAG_SNAP_STAT : Fld := ⟨0x2B004, 0, 32⟩
def DIAG_SNAP_STAT_COUNT : Fld := ⟨0x2B004, 0, 16⟩
def DIAG_SNAP_STAT_LAST_SRC : Fld := ⟨0x2B004, 16, 3⟩
def DIAG_SNAP_STAT_PIN_REFUSED : Fld := ⟨0x2B004, 20, 1⟩
def DIAG_SNAP_STAT_SRC_MAP : Fld := ⟨0x2B004, 24, 7⟩
def DIAG_SNAP_STAT_FIRST_VALID : Fld := ⟨0x2B004, 31, 1⟩
def DIAG_SNAP_FIRST : Fld := ⟨0x2B008, 0, 32⟩
def DIAG_SNAP_FIRST_SRC : Fld := ⟨0x2B008, 0, 3⟩
def DIAG_SNAP_FIRST_EP : Fld := ⟨0x2B00C, 0, 32⟩
def DIAG_SNAP_FIRST_T : Fld := ⟨0x2B010, 0, 32⟩
def DIAG_REP_STAT : Fld := ⟨0x2B040, 0, 32⟩
def DIAG_REP_STAT_RECORD : Fld := ⟨0x2B040, 0, 2⟩
def DIAG_REP_STAT_SPARE_LANES : Fld := ⟨0x2B040, 4, 4⟩
def DIAG_REP_STAT_LANE_REGION : Fld := ⟨0x2B040, 8, 12⟩
def DIAG_REP_STAT_WIN_G : Fld := ⟨0x2B040, 20, 1⟩
def DIAG_REP_STAT_WIN_S : Fld := ⟨0x2B040, 21, 1⟩
def DIAG_REP_SEQ : Fld := ⟨0x2B044, 0, 32⟩
def DIAG_RFAULT (i : Nat) : Fld := ⟨0x2B060 + 0x4 * i, 0, 32⟩
def DIAG_RFAULT_CAUSE (i : Nat) : Fld := ⟨0x2B060 + 0x4 * i, 0, 2⟩
def DIAG_BG_STAT : Fld := ⟨0x2B080, 0, 32⟩
def DIAG_BG_STAT_STEP : Fld := ⟨0x2B080, 0, 9⟩
def DIAG_BG_STAT_ACTIVE : Fld := ⟨0x2B080, 9, 1⟩
def DIAG_BG_STAT_WINDOW : Fld := ⟨0x2B080, 10, 5⟩
def DIAG_BG_STAT_LENDING_OFF : Fld := ⟨0x2B080, 15, 1⟩
def DIAG_BG_ROT : Fld := ⟨0x2B084, 0, 32⟩
def DIAG_BG_ABANDON : Fld := ⟨0x2B088, 0, 32⟩
def DIAG_SN_T_LO : Fld := ⟨0x2B100, 0, 32⟩
def DIAG_SN_T_HI : Fld := ⟨0x2B104, 0, 32⟩
def DIAG_SN_T_HI_T_HI : Fld := ⟨0x2B104, 0, 16⟩
def DIAG_SN_ANG : Fld := ⟨0x2B108, 0, 32⟩
def DIAG_SN_ANG_AU : Fld := ⟨0x2B108, 0, 16⟩
def DIAG_SN_ANG_ANG_STAT : Fld := ⟨0x2B108, 16, 8⟩
def DIAG_SN_CYC : Fld := ⟨0x2B10C, 0, 32⟩
def DIAG_SN_EPOCH : Fld := ⟨0x2B110, 0, 32⟩
def DIAG_SN_SWP : Fld := ⟨0x2B114, 0, 32⟩
def DIAG_SN_SWP_TAGS : Fld := ⟨0x2B114, 0, 10⟩
def DIAG_SN_SWP_DONE : Fld := ⟨0x2B114, 16, 7⟩
def DIAG_SN_SWP_SLOT : Fld := ⟨0x2B114, 24, 2⟩
def DIAG_SN_SWP_PINNED : Fld := ⟨0x2B114, 26, 1⟩
def DIAG_SN_LIMA : Fld := ⟨0x2B118, 0, 32⟩
def DIAG_SN_LIMB : Fld := ⟨0x2B11C, 0, 32⟩
def DIAG_SN_PAIR : Fld := ⟨0x2B120, 0, 32⟩
def DIAG_SN_DIGG : Fld := ⟨0x2B124, 0, 32⟩
def DIAG_SN_DIGS : Fld := ⟨0x2B128, 0, 32⟩
def DIAG_SN_DSC : Fld := ⟨0x2B12C, 0, 32⟩
def DIAG_SN_IA : Fld := ⟨0x2B130, 0, 32⟩
def DIAG_SN_IB : Fld := ⟨0x2B134, 0, 32⟩
def DIAG_SN_SIOIN : Fld := ⟨0x2B138, 0, 32⟩
def DIAG_SN_SIOOUT : Fld := ⟨0x2B13C, 0, 32⟩
def DIAG_SN_TRIP : Fld := ⟨0x2B140, 0, 32⟩
def DIAG_SN_SOP (i : Nat) : Fld := ⟨0x2B150 + 0x4 * i, 0, 32⟩
def DIAG_SN_HOST : Fld := ⟨0x2B170, 0, 32⟩
def DIAG_SN_EST (i : Nat) : Fld := ⟨0x2B180 + 0x4 * i, 0, 32⟩
def DIAG_SN_EST_CELLS (i : Nat) : Fld := ⟨0x2B180 + 0x4 * i, 0, 15⟩
def DIAG_SN_EST_LANES (i : Nat) : Fld := ⟨0x2B180 + 0x4 * i, 16, 4⟩
def DIAG_SN_EST_D_EFF (i : Nat) : Fld := ⟨0x2B180 + 0x4 * i, 20, 2⟩
def DIAG_SN_EST_BUSY (i : Nat) : Fld := ⟨0x2B180 + 0x4 * i, 22, 1⟩
def DIAG_SN_LNK (i : Nat) : Fld := ⟨0x2B200 + 0x4 * i, 0, 32⟩
def DIAG_SN_LNK_STATE (i : Nat) : Fld := ⟨0x2B200 + 0x4 * i, 0, 3⟩
def DIAG_SN_LNK_TAGS (i : Nat) : Fld := ⟨0x2B200 + 0x4 * i, 3, 4⟩
def DIAG_SN_LNK_HOPS (i : Nat) : Fld := ⟨0x2B200 + 0x4 * i, 8, 8⟩
def DIAG_SN_LNK_LAST_US (i : Nat) : Fld := ⟨0x2B200 + 0x4 * i, 16, 16⟩
def DIAG_SN_SW (i : Nat) : Fld := ⟨0x2B300 + 0x4 * i, 0, 32⟩
def DIAG_SN_SW_STATE (i : Nat) : Fld := ⟨0x2B300 + 0x4 * i, 0, 3⟩
def DIAG_SN_SW_OUT_ON (i : Nat) : Fld := ⟨0x2B300 + 0x4 * i, 3, 1⟩
def DIAG_SN_SW_I (i : Nat) : Fld := ⟨0x2B300 + 0x4 * i, 4, 12⟩
def DIAG_SN_SW_THERM (i : Nat) : Fld := ⟨0x2B300 + 0x4 * i, 16, 1⟩
/-! MAC (ch. 19) -/
def MAC_STAT : Fld := ⟨0x2C000, 0, 32⟩
def MAC_STAT_ETH0_UP : Fld := ⟨0x2C000, 0, 1⟩
def MAC_STAT_ETH0_SPEED : Fld := ⟨0x2C000, 1, 2⟩
def MAC_STAT_ETH1_UP : Fld := ⟨0x2C000, 3, 1⟩
def MAC_STAT_ETH1_SPEED : Fld := ⟨0x2C000, 4, 2⟩
def MAC_STAT_CAN0_BUSOFF : Fld := ⟨0x2C000, 6, 1⟩
def MAC_STAT_CAN1_BUSOFF : Fld := ⟨0x2C000, 7, 1⟩
def MAC_HRX (i : Nat) : Fld := ⟨0x2C010 + 0x4 * i, 0, 32⟩
def MAC_HTX (i : Nat) : Fld := ⟨0x2C020 + 0x4 * i, 0, 32⟩
def MAC_HDROP (i : Nat) : Fld := ⟨0x2C030 + 0x4 * i, 0, 32⟩
/-! DIAG (ch. 21) -/
def DIAG_DBG_STAT : Fld := ⟨0x2D000, 0, 32⟩
def DIAG_DBG_STAT_MASTER : Fld := ⟨0x2D000, 0, 2⟩
def DIAG_DBG_STAT_UNLOCKED : Fld := ⟨0x2D000, 2, 1⟩
def DIAG_DBG_STAT_HALTED : Fld := ⟨0x2D000, 3, 1⟩
def DIAG_DBG_STAT_BKPT : Fld := ⟨0x2D000, 4, 1⟩
def DIAG_DBG_CTRL : Fld := ⟨0x2D004, 0, 32⟩
def DIAG_DBG_CTRL_TRACE_EN : Fld := ⟨0x2D004, 0, 1⟩
def DIAG_DBG_CTRL_UNLOCK : Fld := ⟨0x2D004, 1, 1⟩
def DIAG_DBG_CTRL_LOCK : Fld := ⟨0x2D004, 2, 1⟩
def DIAG_DBG_CTRL_CLAIM : Fld := ⟨0x2D004, 3, 1⟩
def DIAG_DBG_CTRL_RELEASE : Fld := ⟨0x2D004, 4, 1⟩
def DIAG_DBG_TRACE : Fld := ⟨0x2D008, 0, 32⟩
def DIAG_DBG_TRACE_WR : Fld := ⟨0x2D008, 0, 14⟩
def DIAG_DBG_TRACE_WRAPS : Fld := ⟨0x2D008, 16, 16⟩
def DIAG_DBG_CMD : Fld := ⟨0x2D010, 0, 32⟩
def DIAG_DBG_CMD_OP : Fld := ⟨0x2D010, 0, 4⟩
def DIAG_DBG_ADDR : Fld := ⟨0x2D014, 0, 32⟩
def DIAG_DBG_DATA : Fld := ⟨0x2D018, 0, 32⟩
def DIAG_DBG_RESP : Fld := ⟨0x2D01C, 0, 32⟩
def DIAG_DBG_RESP_RESP : Fld := ⟨0x2D01C, 0, 2⟩
/-! TRACE (R570) -/
def TRACE_BUF (i : Nat) : Fld := ⟨0x2E000 + 0x4 * i, 0, 32⟩

end R

end Sys2Proof.Machine
end

