-- ==== Sys2Proof/Machine/RegMap.lean ====
section
/-! DEFINITION. The BAR0 register map of Table REG-5: every register with its field kinds, reset values, kept fields and defined codes. -/

namespace Sys2Proof.Machine

/-- How a field takes a host write (Table SCOPE-4). `rwpAct` is an RWP field that starts an action and reads 0. -/
inductive Access where
  | ro
  | rw
  | w1c
  | w1s
  | wo
  | rwp
  | rwpAct
  deriving DecidableEq, Repr

/-- One field: lowest bit, width, kind, reset value, whether a start keeps it (Table REG-2), and the ranges of its
defined codes (an empty list: every code is defined). -/
structure FieldSpec where
  lo : Nat
  w : Nat
  acc : Access
  reset : Nat
  kept : Bool
  codes : List (Nat × Nat)
  deriving DecidableEq, Repr

/-- One register, replicated `c1` times at stride `s1` and `c2` times at stride `s2` within that. -/
structure RegSpec where
  base : Nat
  s1 : Nat
  c1 : Nat
  s2 : Nat
  c2 : Nat
  fields : List FieldSpec
  deriving DecidableEq, Repr

/-- Block GLOBAL (Register Map). -/
def regsGlobal : List RegSpec := [
  -- GLOBAL_ID
  ⟨0x0, 0x1000000, 1, 0x4, 1, [⟨0, 16, .ro, 0, false, []⟩, ⟨16, 16, .ro, 0x6440, false, []⟩]⟩,
  -- GLOBAL_REV
  ⟨0x4, 0x1000000, 1, 0x4, 1, [⟨0, 8, .ro, 0, false, []⟩, ⟨8, 8, .ro, 0, false, []⟩, ⟨16, 16, .ro, 0, false, []⟩]⟩,
  -- GLOBAL_UID
  ⟨0x10, 0x1000000, 1, 0x4, 4, [⟨0, 32, .ro, 0, false, []⟩]⟩,
  -- GLOBAL_STAGE
  ⟨0x20, 0x1000000, 1, 0x4, 1, [⟨0, 3, .ro, 0, false, []⟩, ⟨8, 1, .ro, 0, false, []⟩, ⟨9, 1, .ro, 0, false, []⟩, ⟨10, 1, .ro, 0, false, []⟩, ⟨11, 1, .ro, 0, false, []⟩]⟩,
  -- GLOBAL_RESET_CAUSE
  ⟨0x24, 0x1000000, 1, 0x4, 1, [⟨0, 3, .ro, 0, false, []⟩, ⟨8, 2, .ro, 0, false, []⟩, ⟨16, 6, .ro, 0, false, []⟩, ⟨22, 1, .ro, 0, false, []⟩, ⟨28, 1, .ro, 0, false, []⟩]⟩,
  -- GLOBAL_STATUS
  ⟨0x28, 0x1000000, 1, 0x4, 1, [⟨0, 1, .ro, 0, false, []⟩, ⟨4, 3, .ro, 0, false, []⟩, ⟨8, 1, .ro, 0, false, []⟩, ⟨9, 1, .ro, 0, false, []⟩, ⟨10, 1, .ro, 0, false, []⟩, ⟨11, 1, .ro, 0, false, []⟩, ⟨12, 1, .ro, 0, false, []⟩, ⟨13, 1, .ro, 0, false, []⟩, ⟨14, 1, .ro, 0, false, []⟩, ⟨15, 1, .ro, 0, false, []⟩, ⟨16, 1, .ro, 0, false, []⟩, ⟨17, 1, .ro, 0, false, []⟩]⟩]

/-- Block PWR (ch. 03). -/
def regsPwr : List RegSpec := [
  -- PWR_STAT
  ⟨0x1000, 0x1000000, 1, 0x4, 1, [⟨0, 1, .ro, 0, false, []⟩, ⟨1, 1, .ro, 0, false, []⟩, ⟨4, 4, .ro, 0, false, []⟩, ⟨8, 1, .ro, 0, false, []⟩, ⟨9, 1, .ro, 0, false, []⟩, ⟨16, 3, .ro, 0, false, []⟩, ⟨19, 1, .ro, 0, false, []⟩]⟩,
  -- PWR_CTRL
  ⟨0x1004, 0x1000000, 1, 0x4, 1, [⟨0, 1, .w1s, 0, false, []⟩, ⟨1, 1, .w1s, 0, false, []⟩, ⟨2, 1, .w1s, 0, false, []⟩, ⟨3, 1, .rwpAct, 0, false, []⟩]⟩,
  -- PWR_WAKE
  ⟨0x1008, 0x1000000, 1, 0x4, 1, [⟨0, 11, .rw, 0, false, [(0, 1440)]⟩]⟩,
  -- PWR_VBUS
  ⟨0x100C, 0x1000000, 1, 0x4, 1, [⟨0, 16, .ro, 0, false, []⟩, ⟨16, 16, .ro, 0, false, []⟩]⟩,
  -- PWR_VSW
  ⟨0x1010, 0x1000000, 1, 0x4, 2, [⟨0, 16, .ro, 0, false, []⟩, ⟨16, 16, .ro, 0, false, []⟩]⟩,
  -- PWR_OPTIME_LO
  ⟨0x1018, 0x1000000, 1, 0x4, 1, [⟨0, 32, .ro, 0, true, []⟩]⟩,
  -- PWR_OPTIME_HI
  ⟨0x101C, 0x1000000, 1, 0x4, 1, [⟨0, 16, .ro, 0, true, []⟩]⟩,
  -- PWR_CYCLES
  ⟨0x1020, 0x1000000, 1, 0x4, 1, [⟨0, 24, .ro, 0, true, []⟩]⟩,
  -- PWR_STAGE_T
  ⟨0x1030, 0x1000000, 1, 0x4, 4, [⟨0, 24, .ro, 0xffffff, false, []⟩]⟩]

/-- Block IMG (ch. 04). -/
def regsImg : List RegSpec := [
  -- IMG_STAT
  ⟨0x2000, 0x1000000, 1, 0x4, 1, [⟨0, 1, .ro, 0, false, []⟩, ⟨1, 1, .ro, 0, false, []⟩, ⟨2, 2, .ro, 0, false, []⟩, ⟨4, 1, .ro, 0, false, []⟩, ⟨5, 1, .ro, 0, false, []⟩, ⟨8, 3, .ro, 0, false, []⟩, ⟨16, 1, .ro, 0, false, []⟩, ⟨17, 1, .ro, 0, false, []⟩, ⟨18, 1, .ro, 0, true, []⟩, ⟨19, 1, .ro, 0, false, []⟩, ⟨20, 3, .ro, 0, true, []⟩]⟩,
  -- IMG_ID
  ⟨0x2004, 0x1000000, 1, 0x4, 1, [⟨0, 32, .ro, 0, false, []⟩]⟩,
  -- IMG_REV
  ⟨0x2008, 0x1000000, 1, 0x4, 1, [⟨0, 32, .ro, 0, false, []⟩]⟩,
  -- IMG_LEN
  ⟨0x200C, 0x1000000, 1, 0x4, 1, [⟨0, 32, .ro, 0, false, []⟩]⟩,
  -- IMG_BINDSEQ
  ⟨0x2010, 0x1000000, 1, 0x4, 1, [⟨0, 32, .ro, 0, false, []⟩]⟩,
  -- IMG_CHG_TOTAL
  ⟨0x2014, 0x1000000, 1, 0x4, 1, [⟨0, 32, .ro, 0, false, []⟩]⟩,
  -- IMG_DIGEST
  ⟨0x2020, 0x1000000, 1, 0x4, 8, [⟨0, 32, .ro, 0, false, []⟩]⟩,
  -- IMG_SESSION
  ⟨0x2040, 0x1000000, 1, 0x4, 1, [⟨0, 1, .w1s, 0, false, []⟩, ⟨1, 1, .w1s, 0, false, []⟩, ⟨2, 1, .rwpAct, 0, false, []⟩, ⟨8, 6, .rw, 0, false, [(8, 32)]⟩]⟩,
  -- IMG_TIMERS
  ⟨0x2048, 0x1000000, 1, 0x4, 1, [⟨0, 16, .ro, 0, false, []⟩, ⟨16, 16, .ro, 0, true, []⟩]⟩,
  -- IMG_PW
  ⟨0x2050, 0x1000000, 1, 0x4, 8, [⟨0, 32, .wo, 0, false, []⟩]⟩,
  -- IMG_UPD
  ⟨0x2080, 0x1000000, 1, 0x4, 1, [⟨0, 1, .rwpAct, 0, false, []⟩, ⟨1, 1, .rwpAct, 0, false, []⟩, ⟨2, 1, .rwpAct, 0, false, []⟩, ⟨8, 6, .rwp, 0, false, []⟩]⟩,
  -- IMG_UPD_LEN
  ⟨0x2084, 0x1000000, 1, 0x4, 1, [⟨0, 32, .ro, 0, false, []⟩]⟩,
  -- IMG_REC
  ⟨0x2090, 0x1000000, 1, 0x4, 1, [⟨0, 1, .rwpAct, 0, false, []⟩, ⟨1, 1, .rwpAct, 0, false, []⟩]⟩,
  -- IMG_REC_OFF
  ⟨0x2094, 0x1000000, 1, 0x4, 1, [⟨0, 24, .rwp, 0, false, []⟩]⟩,
  -- IMG_REC_LEN
  ⟨0x2098, 0x1000000, 1, 0x4, 1, [⟨0, 17, .rwp, 0, false, []⟩]⟩,
  -- IMG_CHECK
  ⟨0x20C0, 0x1000000, 1, 0x4, 1, [⟨0, 1, .w1s, 0, false, []⟩, ⟨1, 2, .ro, 0, false, []⟩, ⟨3, 3, .ro, 0, false, []⟩, ⟨8, 6, .ro, 0, false, []⟩, ⟨14, 1, .ro, 0, false, []⟩, ⟨15, 1, .ro, 0, false, []⟩]⟩,
  -- IMG_REF_CODE
  ⟨0x2100, 0x1000000, 1, 0x8, 32, [⟨0, 16, .ro, 0, false, []⟩, ⟨16, 16, .ro, 0, false, []⟩]⟩,
  -- IMG_REF_MARGIN
  ⟨0x2104, 0x1000000, 1, 0x8, 32, [⟨0, 32, .ro, 0, false, []⟩]⟩,
  -- IMG_CHAIN
  ⟨0x2200, 0x1000000, 1, 0x4, 64, [⟨0, 16, .ro, 0, false, []⟩, ⟨16, 16, .ro, 0, false, []⟩]⟩,
  -- IMG_REGION
  ⟨0x2300, 0x1000000, 1, 0x4, 8, [⟨0, 16, .ro, 0, false, []⟩, ⟨16, 4, .ro, 0, false, []⟩, ⟨20, 2, .ro, 0, false, []⟩, ⟨22, 1, .ro, 0, false, []⟩]⟩]

/-- Block ANG (ch. 05). -/
def regsAng : List RegSpec := [
  -- ANG_STAT
  ⟨0x3000, 0x1000000, 1, 0x4, 1, [⟨0, 2, .ro, 0, false, []⟩, ⟨2, 1, .ro, 0, false, []⟩, ⟨3, 1, .ro, 0, false, []⟩, ⟨4, 1, .ro, 0, false, []⟩, ⟨5, 1, .ro, 0, false, []⟩, ⟨6, 1, .ro, 0, false, []⟩, ⟨7, 1, .ro, 0, false, []⟩]⟩,
  -- ANG_CTRL
  ⟨0x3004, 0x1000000, 1, 0x4, 1, [⟨0, 1, .w1s, 0, false, []⟩, ⟨1, 2, .rwp, 0, false, []⟩]⟩,
  -- ANG_FREQ
  ⟨0x3008, 0x1000000, 1, 0x4, 1, [⟨0, 32, .ro, 0, false, []⟩]⟩,
  -- ANG_SFREQ
  ⟨0x300C, 0x1000000, 1, 0x4, 1, [⟨0, 32, .ro, 0, false, []⟩]⟩,
  -- ANG_NOW_AU
  ⟨0x3010, 0x1000000, 1, 0x4, 1, [⟨0, 16, .ro, 0, false, []⟩]⟩,
  -- ANG_NOW_CYC
  ⟨0x3014, 0x1000000, 1, 0x4, 1, [⟨0, 32, .ro, 0, false, []⟩]⟩,
  -- ANG_SLIP
  ⟨0x3018, 0x1000000, 1, 0x4, 1, [⟨0, 16, .ro, 0, false, []⟩, ⟨16, 16, .ro, 0, false, []⟩]⟩,
  -- ANG_COUNT
  ⟨0x301C, 0x1000000, 1, 0x4, 1, [⟨0, 16, .ro, 0, false, []⟩, ⟨16, 16, .ro, 0, false, []⟩]⟩,
  -- ANG_AMPL
  ⟨0x3020, 0x1000000, 1, 0x4, 1, [⟨0, 16, .ro, 0, false, []⟩]⟩]

/-- Block SWP (ch. 08). -/
def regsSwp : List RegSpec := [
  -- SWP_STAT
  ⟨0x4000, 0x1000000, 1, 0x4, 1, [⟨0, 1, .ro, 0, false, []⟩, ⟨1, 1, .ro, 0, false, []⟩, ⟨2, 1, .ro, 0, false, []⟩, ⟨3, 1, .ro, 0, false, []⟩, ⟨8, 1, .w1c, 0, false, []⟩]⟩,
  -- SWP_EPOCH
  ⟨0x4004, 0x1000000, 1, 0x4, 1, [⟨0, 32, .ro, 0, false, []⟩]⟩,
  -- SWP_CLOSE
  ⟨0x4008, 0x1000000, 1, 0x4, 1, [⟨0, 16, .ro, 0, false, []⟩, ⟨16, 8, .ro, 0, false, []⟩]⟩,
  -- SWP_SCHED
  ⟨0x4010, 0x1000000, 1, 0x4, 1, [⟨0, 3, .ro, 0, false, []⟩, ⟨4, 3, .ro, 0, false, []⟩, ⟨8, 3, .ro, 0, false, []⟩, ⟨12, 3, .ro, 0, false, []⟩, ⟨15, 1, .ro, 0, false, []⟩, ⟨16, 16, .ro, 0, false, []⟩]⟩,
  -- SWP_SCHED2
  ⟨0x4014, 0x1000000, 1, 0x4, 1, [⟨0, 16, .ro, 0, false, []⟩]⟩,
  -- SWP_CULLET
  ⟨0x4020, 0x1000000, 1, 0x4, 1, [⟨0, 19, .ro, 0, false, []⟩]⟩,
  -- SWP_LATEPTS
  ⟨0x4024, 0x1000000, 1, 0x4, 1, [⟨0, 19, .ro, 0, false, []⟩]⟩,
  -- SWP_BALPTS
  ⟨0x4028, 0x1000000, 1, 0x4, 1, [⟨0, 19, .ro, 0, false, []⟩]⟩,
  -- SWP_REG
  ⟨0x4040, 0x1000000, 1, 0x4, 8, [⟨0, 16, .ro, 0, false, []⟩]⟩,
  -- SWP_CNT_DUP
  ⟨0x4060, 0x1000000, 1, 0x4, 1, [⟨0, 32, .ro, 0, false, []⟩]⟩,
  -- SWP_CNT_STALE
  ⟨0x4064, 0x1000000, 1, 0x4, 1, [⟨0, 32, .ro, 0, false, []⟩]⟩,
  -- SWP_CNT_NODEERR
  ⟨0x4068, 0x1000000, 1, 0x4, 1, [⟨0, 32, .ro, 0, false, []⟩]⟩,
  -- SWP_CNT_BYANGLE
  ⟨0x406C, 0x1000000, 1, 0x4, 1, [⟨0, 32, .ro, 0, false, []⟩]⟩,
  -- SWP_CNT_EVA
  ⟨0x4070, 0x1000000, 1, 0x4, 1, [⟨0, 32, .ro, 0, false, []⟩]⟩,
  -- SWP_CNT_EVB
  ⟨0x4074, 0x1000000, 1, 0x4, 1, [⟨0, 32, .ro, 0, false, []⟩]⟩,
  -- SWP_CNT_TOKLATE
  ⟨0x4078, 0x1000000, 1, 0x4, 1, [⟨0, 32, .ro, 0, false, []⟩]⟩,
  -- SWP_LIMLAST
  ⟨0x4080, 0x1000000, 1, 0x4, 2, [⟨0, 18, .ro, 0, false, []⟩, ⟨18, 8, .ro, 0, false, []⟩, ⟨26, 2, .ro, 0, false, []⟩, ⟨28, 1, .ro, 0, false, []⟩]⟩,
  -- SWP_TREQ
  ⟨0x4100, 0x1000000, 1, 0x4, 1, [⟨0, 1, .w1s, 0, false, []⟩, ⟨1, 1, .w1s, 0, false, []⟩, ⟨8, 3, .rw, 0, false, []⟩, ⟨16, 6, .rw, 0, false, []⟩]⟩,
  -- SWP_TREQ_RANGE
  ⟨0x4104, 0x1000000, 1, 0x4, 1, [⟨0, 8, .rw, 0, false, []⟩, ⟨8, 8, .rw, 0, false, []⟩, ⟨16, 16, .rw, 0, false, []⟩]⟩,
  -- SWP_TREQ_STAT
  ⟨0x4108, 0x1000000, 1, 0x4, 1, [⟨0, 3, .ro, 0, false, []⟩, ⟨3, 3, .ro, 0, false, []⟩, ⟨8, 8, .ro, 0, false, []⟩, ⟨16, 8, .ro, 0, false, []⟩, ⟨24, 8, .ro, 0, false, []⟩]⟩,
  -- SWP_TCAMP
  ⟨0x4110, 0x1000000, 1, 0x4, 1, [⟨0, 32, .ro, 0, false, []⟩]⟩]

/-- Block LNK (ch. 06). -/
def regsLnk : List RegSpec := [
  -- LNK_STAT
  ⟨0x10000, 0x1000000, 1, 0x400, 64, [⟨0, 3, .ro, 0, false, []⟩, ⟨3, 3, .ro, 0, false, []⟩, ⟨8, 8, .ro, 0, false, []⟩, ⟨16, 8, .ro, 0, false, []⟩, ⟨24, 8, .ro, 0, false, []⟩]⟩,
  -- LNK_CTRL
  ⟨0x10004, 0x1000000, 1, 0x400, 64, [⟨0, 1, .w1s, 0, false, []⟩, ⟨1, 1, .w1s, 0, false, []⟩, ⟨2, 1, .rw, 0, false, []⟩]⟩,
  -- LNK_MASTER
  ⟨0x10008, 0x1000000, 1, 0x400, 64, [⟨0, 8, .ro, 0, false, []⟩, ⟨8, 8, .ro, 0, false, []⟩]⟩,
  -- LNK_TRANSIT
  ⟨0x1000C, 0x1000000, 1, 0x400, 64, [⟨0, 16, .ro, 0, false, []⟩, ⟨16, 16, .ro, 0, false, []⟩]⟩,
  -- LNK_CNT_CRC
  ⟨0x10010, 0x1000000, 1, 0x400, 64, [⟨0, 32, .ro, 0, false, []⟩]⟩,
  -- LNK_CNT_TMO
  ⟨0x10014, 0x1000000, 1, 0x400, 64, [⟨0, 32, .ro, 0, false, []⟩]⟩,
  -- LNK_CNT_RETRY
  ⟨0x10018, 0x1000000, 1, 0x400, 64, [⟨0, 32, .ro, 0, false, []⟩]⟩,
  -- LNK_CNT_LATE
  ⟨0x1001C, 0x1000000, 1, 0x400, 64, [⟨0, 32, .ro, 0, false, []⟩]⟩,
  -- LNK_CNT_BREAK
  ⟨0x10020, 0x1000000, 1, 0x400, 64, [⟨0, 32, .ro, 0, false, []⟩]⟩,
  -- LNK_CNT_TAGWAIT
  ⟨0x10024, 0x1000000, 1, 0x400, 64, [⟨0, 32, .ro, 0, false, []⟩]⟩,
  -- LNK_MUTE
  ⟨0x10040, 0x400, 64, 0x4, 4, [⟨0, 32, .ro, 0, false, []⟩]⟩,
  -- LNK_UNRCH
  ⟨0x10050, 0x400, 64, 0x4, 4, [⟨0, 32, .ro, 0, false, []⟩]⟩,
  -- LNK_LATE
  ⟨0x10060, 0x400, 64, 0x4, 4, [⟨0, 32, .ro, 0, false, []⟩]⟩,
  -- LNK_HOP
  ⟨0x10200, 0x400, 64, 0x4, 128, [⟨0, 16, .ro, 0, false, []⟩, ⟨16, 16, .ro, 0, false, []⟩]⟩]

/-- Block STO (ch. 09). -/
def regsSto : List RegSpec := [
  -- STO_STAT
  ⟨0x20000, 0x1000000, 1, 0x4, 1, [⟨0, 1, .w1c, 0, false, []⟩, ⟨1, 1, .w1c, 0, false, []⟩, ⟨2, 1, .w1c, 0, false, []⟩, ⟨3, 1, .ro, 0, false, []⟩, ⟨8, 8, .ro, 0, false, []⟩, ⟨16, 8, .ro, 0, false, []⟩, ⟨24, 2, .ro, 0, false, []⟩]⟩,
  -- STO_OWN_S, even sets
  ⟨0x20010, 0x1000000, 1, 0x8, 8, [⟨0, 2, .rwp, 0, false, []⟩, ⟨4, 2, .ro, 0, false, []⟩, ⟨6, 1, .ro, 0, false, []⟩]⟩,
  -- STO_OWN_S, odd sets
  ⟨0x20014, 0x1000000, 1, 0x8, 8, [⟨0, 2, .rwp, 1, false, []⟩, ⟨4, 2, .ro, 0, false, []⟩, ⟨6, 1, .ro, 0, false, []⟩]⟩,
  -- STO_OWN_R
  ⟨0x20050, 0x1000000, 1, 0x4, 8, [⟨0, 2, .rwp, 1, false, [(0, 2)]⟩, ⟨4, 2, .ro, 0, false, []⟩, ⟨6, 1, .ro, 0, false, []⟩]⟩,
  -- STO_XCOLL
  ⟨0x20080, 0x1000000, 1, 0x4, 1, [⟨0, 16, .ro, 0, false, []⟩, ⟨16, 16, .ro, 0, false, []⟩]⟩,
  -- STO_REJ
  ⟨0x20084, 0x1000000, 1, 0x4, 1, [⟨0, 2, .ro, 0, false, []⟩, ⟨2, 5, .ro, 0, false, []⟩, ⟨16, 16, .ro, 0, false, []⟩]⟩,
  -- STO_REJ_OFF
  ⟨0x20088, 0x1000000, 1, 0x4, 1, [⟨0, 22, .ro, 0, false, []⟩]⟩,
  -- STO_ECC
  ⟨0x2008C, 0x1000000, 1, 0x4, 1, [⟨0, 16, .ro, 0, false, []⟩, ⟨16, 16, .ro, 0, false, []⟩]⟩,
  -- STO_ECC_ADDR
  ⟨0x20090, 0x1000000, 1, 0x4, 1, [⟨0, 26, .ro, 0, false, []⟩]⟩,
  -- STO_SLOT
  ⟨0x200A0, 0x1000000, 1, 0x4, 4, [⟨0, 32, .ro, 0xffffffff, false, []⟩]⟩,
  -- STO_SLOTSTAT
  ⟨0x200B0, 0x1000000, 1, 0x4, 1, [⟨0, 2, .ro, 0, false, []⟩, ⟨4, 4, .ro, 0, false, []⟩]⟩,
  -- STO_MIRROR
  ⟨0x200C0, 0x1000000, 1, 0x4, 1, [⟨0, 5, .ro, 0, false, []⟩, ⟨5, 3, .ro, 0, false, []⟩, ⟨8, 2, .ro, 0, false, []⟩]⟩]

/-- Block EST (ch. 10 and 11). -/
def regsEst : List RegSpec := [
  -- EST_STAT
  ⟨0x21000, 0x1000000, 1, 0x4, 1, [⟨0, 1, .ro, 0, false, []⟩, ⟨1, 1, .ro, 0, false, []⟩, ⟨2, 1, .ro, 0, false, []⟩, ⟨3, 1, .w1c, 0, false, []⟩, ⟨4, 1, .w1c, 0, false, []⟩, ⟨5, 1, .w1c, 0, false, []⟩, ⟨6, 1, .ro, 0, false, []⟩, ⟨8, 8, .ro, 0, false, []⟩, ⟨16, 8, .ro, 0, false, []⟩, ⟨24, 3, .ro, 0, false, []⟩]⟩,
  -- EST_CELLRST
  ⟨0x21008, 0x1000000, 1, 0x4, 1, [⟨0, 18, .rwp, 0, false, []⟩, ⟨31, 1, .rwpAct, 0, false, []⟩]⟩,
  -- EST_SAVE
  ⟨0x21010, 0x1000000, 1, 0x4, 1, [⟨0, 2, .ro, 0, false, []⟩, ⟨2, 3, .ro, 0, false, []⟩, ⟨8, 4, .ro, 8, false, []⟩, ⟨16, 16, .ro, 0xffff, false, []⟩]⟩,
  -- EST_SAVE_SEQ
  ⟨0x21014, 0x1000000, 1, 0x4, 1, [⟨0, 32, .ro, 0, false, []⟩]⟩,
  -- EST_RESTORE
  ⟨0x21018, 0x1000000, 1, 0x4, 1, [⟨0, 8, .ro, 0, false, []⟩, ⟨8, 8, .ro, 0, false, []⟩, ⟨16, 1, .ro, 0, false, []⟩, ⟨17, 1, .ro, 0, false, []⟩, ⟨18, 1, .ro, 0, false, []⟩]⟩,
  -- EST_INITCELLS
  ⟨0x2101C, 0x1000000, 1, 0x4, 1, [⟨0, 18, .ro, 0, false, []⟩]⟩,
  -- EST_REG
  ⟨0x21040, 0x1000000, 1, 0x4, 8, [⟨0, 4, .ro, 8, false, []⟩, ⟨4, 4, .ro, 0, false, []⟩, ⟨16, 16, .ro, 0, false, []⟩]⟩,
  -- EST_REGT
  ⟨0x21060, 0x1000000, 1, 0x4, 8, [⟨0, 16, .ro, 0, false, []⟩, ⟨16, 16, .ro, 0, false, []⟩]⟩,
  -- EST_CNT_GATED
  ⟨0x21080, 0x1000000, 1, 0x4, 1, [⟨0, 32, .ro, 0, false, []⟩]⟩,
  -- EST_CNT_GATERST
  ⟨0x21084, 0x1000000, 1, 0x4, 1, [⟨0, 32, .ro, 0, false, []⟩]⟩,
  -- EST_CNT_NUMRST
  ⟨0x21088, 0x1000000, 1, 0x4, 1, [⟨0, 32, .ro, 0, false, []⟩]⟩,
  -- EST_CNT_SUBST
  ⟨0x2108C, 0x1000000, 1, 0x4, 1, [⟨0, 32, .ro, 0, false, []⟩]⟩,
  -- EST_RIP_STAT
  ⟨0x210A0, 0x1000000, 1, 0x4, 1, [⟨0, 1, .ro, 0, false, []⟩, ⟨1, 1, .ro, 0, false, []⟩, ⟨8, 8, .ro, 0, false, []⟩, ⟨16, 8, .ro, 0, false, []⟩]⟩,
  -- EST_EXC_CTRL
  ⟨0x210B0, 0x1000000, 1, 0x4, 1, [⟨0, 1, .rwp, 0, false, []⟩, ⟨1, 1, .w1s, 0, false, []⟩]⟩,
  -- EST_EXC_CFG
  ⟨0x210B4, 0x1000000, 1, 0x4, 1, [⟨0, 12, .rwp, 0, false, []⟩, ⟨12, 7, .rwp, 0x32, false, [(1, 100)]⟩, ⟨19, 6, .rwp, 4, false, [(1, 63)]⟩]⟩,
  -- EST_EXC_SPACE
  ⟨0x210B8, 0x1000000, 1, 0x4, 1, [⟨0, 16, .rwp, 0xe10, false, [(60, 65535)]⟩]⟩,
  -- EST_EXC_STAT
  ⟨0x210BC, 0x1000000, 1, 0x4, 1, [⟨0, 2, .ro, 0, false, []⟩, ⟨8, 8, .ro, 0, false, []⟩, ⟨16, 2, .ro, 0, false, []⟩]⟩,
  -- EST_CNT_WIN_OK
  ⟨0x210C0, 0x1000000, 1, 0x4, 1, [⟨0, 32, .ro, 0, false, []⟩]⟩,
  -- EST_CNT_WIN_BAD
  ⟨0x210C4, 0x1000000, 1, 0x4, 1, [⟨0, 32, .ro, 0, false, []⟩]⟩,
  -- EST_CNT_WIN_LOWI
  ⟨0x210C8, 0x1000000, 1, 0x4, 1, [⟨0, 32, .ro, 0, false, []⟩]⟩,
  -- EST_CNT_TPHI_OUT
  ⟨0x210CC, 0x1000000, 1, 0x4, 1, [⟨0, 32, .ro, 0, false, []⟩]⟩]

/-- Block SOP (ch. 12). -/
def regsSop : List RegSpec := [
  -- SOP_STAT
  ⟨0x22000, 0x1000000, 1, 0x4, 1, [⟨0, 1, .ro, 0, false, []⟩, ⟨1, 1, .ro, 0, false, []⟩, ⟨2, 1, .ro, 0, false, []⟩, ⟨3, 1, .ro, 0, false, []⟩, ⟨4, 1, .ro, 0, false, []⟩, ⟨8, 10, .ro, 0, false, []⟩]⟩,
  -- SOP_EPOCH
  ⟨0x22004, 0x1000000, 1, 0x4, 1, [⟨0, 32, .ro, 0, false, []⟩]⟩,
  -- SOP_LIM
  ⟨0x22010, 0x1000000, 1, 0x4, 6, [⟨0, 32, .ro, 0, false, []⟩]⟩,
  -- SOP_VMAX
  ⟨0x22028, 0x1000000, 1, 0x4, 1, [⟨0, 32, .ro, 0, false, []⟩]⟩,
  -- SOP_VMIN
  ⟨0x2202C, 0x1000000, 1, 0x4, 1, [⟨0, 32, .ro, 0, false, []⟩]⟩,
  -- SOP_SCAN
  ⟨0x22030, 0x1000000, 1, 0x4, 1, [⟨0, 16, .ro, 0, false, []⟩, ⟨16, 16, .ro, 0, false, []⟩]⟩,
  -- SOP_TIME
  ⟨0x22034, 0x1000000, 1, 0x4, 1, [⟨0, 16, .ro, 0, false, []⟩, ⟨16, 16, .ro, 0, false, []⟩]⟩,
  -- SOP_LIMITER
  ⟨0x22038, 0x1000000, 1, 0x4, 1, [⟨0, 9, .ro, 0, false, []⟩, ⟨16, 9, .ro, 0, false, []⟩, ⟨25, 1, .ro, 0, false, []⟩, ⟨30, 1, .ro, 0, false, []⟩, ⟨31, 1, .ro, 0, false, []⟩]⟩,
  -- SOP_DERATE
  ⟨0x22040, 0x1000000, 1, 0x4, 16, [⟨0, 32, .ro, 0, false, []⟩]⟩]

/-- Block DSC (ch. 13). -/
def regsDsc : List RegSpec := [
  -- DSC_STATE
  ⟨0x23000, 0x1000000, 1, 0x4, 1, [⟨0, 3, .ro, 0, false, []⟩, ⟨4, 3, .ro, 0, false, []⟩, ⟨8, 2, .ro, 0, false, []⟩, ⟨10, 1, .ro, 0, false, []⟩, ⟨12, 3, .ro, 0, false, []⟩, ⟨16, 2, .ro, 0, false, []⟩]⟩,
  -- DSC_CAUSE
  ⟨0x23004, 0x1000000, 1, 0x4, 1, [⟨0, 8, .ro, 0, false, []⟩, ⟨8, 8, .ro, 0, false, []⟩, ⟨16, 8, .ro, 0, false, []⟩]⟩,
  -- DSC_CAUSEMAP
  ⟨0x23008, 0x1000000, 1, 0x4, 2, [⟨0, 32, .ro, 0, false, []⟩]⟩,
  -- DSC_CTRL
  ⟨0x23010, 0x1000000, 1, 0x4, 1, [⟨0, 1, .w1s, 0, false, []⟩, ⟨1, 1, .w1s, 0, false, []⟩, ⟨2, 1, .rwpAct, 0, false, []⟩, ⟨3, 1, .rwpAct, 0, false, []⟩, ⟨4, 1, .w1s, 0, false, []⟩]⟩,
  -- DSC_LEHR
  ⟨0x23020, 0x1000000, 1, 0x4, 1, [⟨0, 7, .ro, 0, false, []⟩, ⟨16, 11, .ro, 0, true, []⟩]⟩,
  -- DSC_LEHR_T
  ⟨0x23024, 0x1000000, 1, 0x4, 1, [⟨0, 16, .ro, 0, false, []⟩, ⟨16, 8, .ro, 0, false, []⟩]⟩,
  -- DSC_SD1_T
  ⟨0x23030, 0x1000000, 1, 0x4, 1, [⟨0, 16, .ro, 0, false, []⟩, ⟨16, 16, .ro, 0, false, []⟩]⟩,
  -- DSC_I
  ⟨0x23040, 0x1000000, 1, 0x4, 2, [⟨0, 32, .ro, 0, false, []⟩]⟩,
  -- DSC_VBAT
  ⟨0x23048, 0x1000000, 1, 0x4, 2, [⟨0, 32, .ro, 0, false, []⟩]⟩,
  -- DSC_VLINK
  ⟨0x23050, 0x1000000, 1, 0x4, 1, [⟨0, 32, .ro, 0, false, []⟩]⟩,
  -- DSC_CULLET
  ⟨0x23054, 0x1000000, 1, 0x4, 1, [⟨0, 16, .ro, 0, false, []⟩, ⟨16, 8, .ro, 0, false, []⟩]⟩,
  -- DSC_EXCL
  ⟨0x23060, 0x1000000, 1, 0x4, 16, [⟨0, 32, .ro, 0, false, []⟩]⟩,
  -- DSC_EXCL_CTRL
  ⟨0x230A0, 0x1000000, 1, 0x4, 1, [⟨0, 9, .rwp, 0, false, []⟩, ⟨16, 1, .rwpAct, 0, false, []⟩, ⟨17, 1, .rwpAct, 0, false, []⟩]⟩,
  -- DSC_CNT
  ⟨0x230B0, 0x1000000, 1, 0x4, 1, [⟨0, 16, .ro, 0, false, []⟩, ⟨16, 16, .ro, 0, false, []⟩]⟩]

/-- Block CTR (ch. 14). -/
def regsCtr : List RegSpec := [
  -- CTR_STAT
  ⟨0x23100, 0x1000000, 1, 0x4, 1, [⟨0, 4, .ro, 0, false, []⟩, ⟨4, 2, .ro, 0, false, []⟩, ⟨8, 8, .ro, 0, false, []⟩, ⟨16, 8, .ro, 0, false, []⟩, ⟨24, 8, .ro, 0, true, []⟩]⟩,
  -- CTR_CTRL
  ⟨0x23104, 0x1000000, 1, 0x4, 1, [⟨0, 1, .w1s, 0, false, []⟩, ⟨1, 1, .w1s, 0, false, []⟩, ⟨2, 1, .w1s, 0, false, []⟩, ⟨3, 1, .rwpAct, 0, false, []⟩, ⟨4, 1, .rwpAct, 0, false, []⟩, ⟨8, 8, .rwp, 0, false, []⟩, ⟨16, 9, .rw, 0, false, []⟩]⟩,
  -- CTR_PERM
  ⟨0x23108, 0x1000000, 1, 0x4, 1, [⟨0, 32, .ro, 0, false, []⟩]⟩,
  -- CTR_FB
  ⟨0x2310C, 0x1000000, 1, 0x4, 1, [⟨0, 8, .ro, 0, false, []⟩, ⟨8, 8, .ro, 0, false, []⟩]⟩,
  -- CTR_PRE
  ⟨0x23110, 0x1000000, 1, 0x4, 1, [⟨0, 16, .ro, 0, false, []⟩, ⟨16, 10, .ro, 0, false, []⟩]⟩,
  -- CTR_COOL
  ⟨0x23114, 0x1000000, 1, 0x4, 1, [⟨0, 12, .ro, 0, true, []⟩]⟩,
  -- CTR_STRWELD
  ⟨0x23120, 0x1000000, 1, 0x4, 16, [⟨0, 32, .ro, 0, true, []⟩]⟩,
  -- CTR_NOTJOIN
  ⟨0x23160, 0x1000000, 1, 0x4, 16, [⟨0, 32, .ro, 0, false, []⟩]⟩]

/-- Block PAIR (ch. 15). -/
def regsPair : List RegSpec := [
  -- PAIR_STAT
  ⟨0x24000, 0x1000000, 1, 0x4, 1, [⟨0, 3, .ro, 0, false, []⟩, ⟨3, 1, .ro, 0, false, []⟩, ⟨4, 1, .ro, 0, false, []⟩, ⟨5, 3, .ro, 0, false, []⟩, ⟨8, 1, .ro, 0, false, []⟩, ⟨9, 1, .ro, 0, false, []⟩, ⟨10, 1, .ro, 0, false, []⟩, ⟨16, 3, .ro, 0, false, []⟩]⟩,
  -- PAIR_CTRL
  ⟨0x24004, 0x1000000, 1, 0x4, 1, [⟨0, 1, .rwpAct, 0, false, []⟩, ⟨1, 1, .rwpAct, 0, false, []⟩, ⟨2, 1, .rwpAct, 0, false, []⟩, ⟨8, 3, .rwp, 0, false, [(1, 4)]⟩]⟩,
  -- PAIR_CYCLE
  ⟨0x24008, 0x1000000, 1, 0x4, 1, [⟨0, 32, .ro, 0, false, []⟩]⟩,
  -- PAIR_DIG_G
  ⟨0x2400C, 0x1000000, 1, 0x4, 1, [⟨0, 32, .ro, 0, false, []⟩]⟩,
  -- PAIR_DIG_S
  ⟨0x24010, 0x1000000, 1, 0x4, 1, [⟨0, 32, .ro, 0, false, []⟩]⟩,
  -- PAIR_FAULT_CYC
  ⟨0x24014, 0x1000000, 1, 0x4, 1, [⟨0, 32, .ro, 0, false, []⟩]⟩,
  -- PAIR_SKEW
  ⟨0x24018, 0x1000000, 1, 0x4, 1, [⟨0, 8, .ro, 0, false, []⟩, ⟨8, 8, .ro, 0, false, []⟩]⟩,
  -- PAIR_TB
  ⟨0x2401C, 0x1000000, 1, 0x4, 1, [⟨0, 16, .ro, 0, false, []⟩, ⟨16, 16, .ro, 0, false, []⟩]⟩,
  -- PAIR_INJ
  ⟨0x24020, 0x1000000, 1, 0x4, 1, [⟨0, 5, .ro, 0, false, []⟩, ⟨5, 1, .ro, 0, false, []⟩, ⟨16, 16, .ro, 0, false, []⟩]⟩,
  -- PAIR_ECC
  ⟨0x24024, 0x1000000, 1, 0x4, 1, [⟨0, 16, .ro, 0, false, []⟩, ⟨16, 16, .ro, 0, false, []⟩]⟩,
  -- PAIR_CHAN
  ⟨0x24028, 0x1000000, 1, 0x4, 1, [⟨0, 6, .ro, 0, false, []⟩]⟩,
  -- PAIR_MODESTAT
  ⟨0x24030, 0x1000000, 1, 0x4, 1, [⟨0, 2, .ro, 0, false, []⟩, ⟨4, 3, .ro, 0, false, []⟩]⟩,
  -- PAIR_CAMP
  ⟨0x24034, 0x1000000, 1, 0x4, 1, [⟨0, 3, .ro, 0, false, []⟩, ⟨3, 2, .ro, 0, false, []⟩, ⟨16, 16, .ro, 0, false, []⟩]⟩,
  -- PAIR_REPLAY
  ⟨0x24040, 0x1000000, 1, 0x4, 1, [⟨0, 9, .ro, 0, false, []⟩, ⟨16, 16, .ro, 0, false, []⟩]⟩,
  -- PAIR_RETIRE_LO
  ⟨0x24044, 0x1000000, 1, 0x4, 1, [⟨0, 32, .ro, 0, false, []⟩]⟩,
  -- PAIR_RETIRE_HI
  ⟨0x24048, 0x1000000, 1, 0x4, 1, [⟨0, 16, .ro, 0, false, []⟩]⟩,
  -- PAIR_LAG
  ⟨0x2404C, 0x1000000, 1, 0x4, 1, [⟨0, 13, .ro, 0, false, []⟩]⟩]

/-- Block SIO (ch. 16). -/
def regsSio : List RegSpec := [
  -- SIO_IN
  ⟨0x25000, 0x1000000, 1, 0x4, 1, [⟨0, 8, .ro, 0, false, []⟩, ⟨8, 8, .ro, 0, false, []⟩, ⟨16, 8, .ro, 0, false, []⟩, ⟨24, 8, .ro, 0, false, []⟩]⟩,
  -- SIO_INFAULT
  ⟨0x25004, 0x1000000, 1, 0x4, 1, [⟨0, 8, .w1c, 0, false, []⟩, ⟨8, 8, .w1c, 0, false, []⟩, ⟨16, 8, .ro, 0, false, []⟩, ⟨24, 8, .ro, 0, true, []⟩]⟩,
  -- SIO_PROOF
  ⟨0x25010, 0x1000000, 1, 0x4, 8, [⟨0, 16, .ro, 0, true, []⟩, ⟨16, 2, .ro, 0, true, []⟩, ⟨18, 1, .ro, 0, true, []⟩]⟩,
  -- SIO_TPO
  ⟨0x25040, 0x1000000, 1, 0x4, 1, [⟨0, 1, .ro, 0, false, []⟩, ⟨1, 1, .ro, 0, false, []⟩, ⟨2, 1, .ro, 0, false, []⟩, ⟨3, 1, .ro, 0, false, []⟩, ⟨16, 16, .ro, 0, false, []⟩]⟩,
  -- SIO_OUT
  ⟨0x25050, 0x1000000, 1, 0x4, 1, [⟨0, 8, .ro, 0, false, []⟩, ⟨8, 8, .ro, 0, false, []⟩, ⟨16, 8, .ro, 0, false, []⟩, ⟨24, 8, .ro, 0, false, []⟩]⟩,
  -- SIO_TRIP
  ⟨0x25054, 0x1000000, 1, 0x4, 1, [⟨0, 1, .ro, 0, false, []⟩, ⟨1, 1, .ro, 0, false, []⟩, ⟨2, 1, .ro, 0, false, []⟩, ⟨3, 1, .ro, 0, false, []⟩, ⟨4, 1, .ro, 0, false, []⟩, ⟨16, 16, .ro, 0, false, []⟩]⟩]

/-- Block SFL (ch. 17). -/
def regsSfl : List RegSpec := [
  -- SFL_STAT
  ⟨0x26000, 0x1000000, 1, 0x4, 1, [⟨0, 16, .ro, 0, false, []⟩, ⟨16, 1, .ro, 0, false, []⟩]⟩,
  -- SFL_CNT
  ⟨0x26004, 0x1000000, 1, 0x4, 1, [⟨0, 16, .ro, 0, false, []⟩, ⟨16, 16, .ro, 0, false, []⟩]⟩,
  -- SFL_C_STAT
  ⟨0x26100, 0x1000000, 1, 0x20, 16, [⟨0, 2, .ro, 0, false, []⟩, ⟨16, 16, .ro, 0xffff, false, []⟩]⟩,
  -- SFL_C_CID
  ⟨0x26104, 0x1000000, 1, 0x20, 16, [⟨0, 32, .ro, 0, false, []⟩]⟩,
  -- SFL_C_SEQ
  ⟨0x26108, 0x1000000, 1, 0x20, 16, [⟨0, 16, .ro, 0, false, []⟩, ⟨16, 16, .ro, 0, false, []⟩]⟩,
  -- SFL_C_ERR
  ⟨0x2610C, 0x1000000, 1, 0x20, 16, [⟨0, 16, .ro, 0, false, []⟩, ⟨16, 16, .ro, 0, false, []⟩]⟩,
  -- SFL_C_LOSS
  ⟨0x26110, 0x1000000, 1, 0x20, 16, [⟨0, 16, .ro, 0, false, []⟩, ⟨16, 8, .ro, 0, false, []⟩, ⟨24, 8, .ro, 0, false, []⟩]⟩,
  -- SFL_C_XPORT
  ⟨0x26114, 0x1000000, 1, 0x20, 16, [⟨0, 16, .ro, 0, false, []⟩]⟩,
  -- SFL_C_PEER
  ⟨0x26118, 0x1000000, 1, 0x20, 16, [⟨0, 8, .ro, 0, false, []⟩, ⟨8, 8, .ro, 0, false, []⟩, ⟨16, 16, .ro, 0, false, []⟩]⟩,
  -- SFL_C_PEERI
  ⟨0x2611C, 0x1000000, 1, 0x20, 16, [⟨0, 32, .ro, 0, false, []⟩]⟩]

/-- Block SW (ch. 18). -/
def regsSw : List RegSpec := [
  -- SW_STAT
  ⟨0x27000, 0x1000000, 1, 0x80, 24, [⟨0, 3, .ro, 0, false, []⟩, ⟨3, 1, .ro, 0, false, []⟩, ⟨4, 1, .ro, 0, false, []⟩, ⟨5, 1, .ro, 0, false, []⟩, ⟨6, 1, .ro, 0, false, []⟩, ⟨7, 1, .ro, 0, false, []⟩, ⟨8, 1, .ro, 0, false, []⟩, ⟨9, 1, .ro, 0, false, []⟩, ⟨10, 1, .ro, 0, false, []⟩, ⟨11, 1, .ro, 0, false, []⟩, ⟨16, 4, .ro, 0, false, []⟩]⟩,
  -- SW_CTRL
  ⟨0x27004, 0x1000000, 1, 0x80, 24, [⟨0, 1, .rw, 0, false, []⟩, ⟨1, 1, .w1s, 0, false, []⟩]⟩,
  -- SW_MEAS
  ⟨0x27008, 0x1000000, 1, 0x80, 24, [⟨0, 12, .ro, 0, false, []⟩, ⟨16, 16, .ro, 0, false, []⟩]⟩,
  -- SW_CNT
  ⟨0x2700C, 0x1000000, 1, 0x80, 24, [⟨0, 16, .ro, 0, false, []⟩, ⟨16, 16, .ro, 0, false, []⟩]⟩,
  -- SW_CFG
  ⟨0x27010, 0x1000000, 1, 0x80, 24, [⟨0, 2, .ro, 0, false, []⟩, ⟨2, 3, .ro, 0, false, []⟩, ⟨5, 2, .ro, 0, false, []⟩, ⟨8, 4, .ro, 0, false, []⟩, ⟨12, 4, .ro, 0, false, []⟩, ⟨16, 8, .ro, 0, false, []⟩]⟩,
  -- SW_WD
  ⟨0x27C00, 0x1000000, 1, 0x4, 1, [⟨0, 16, .wo, 0, false, []⟩]⟩,
  -- SW_WDSTAT
  ⟨0x27C04, 0x1000000, 1, 0x4, 1, [⟨0, 2, .ro, 0, false, []⟩, ⟨2, 1, .ro, 0, false, []⟩, ⟨8, 8, .ro, 0, false, []⟩, ⟨16, 16, .ro, 0, false, []⟩]⟩,
  -- SW_CASE
  ⟨0x27C08, 0x1000000, 1, 0x4, 1, [⟨0, 16, .ro, 0, false, []⟩, ⟨16, 16, .ro, 0, false, []⟩]⟩,
  -- SW_SUM
  ⟨0x27C0C, 0x1000000, 1, 0x4, 1, [⟨0, 16, .ro, 0, false, []⟩, ⟨16, 8, .ro, 0, false, []⟩, ⟨24, 8, .ro, 0, false, []⟩]⟩,
  -- SW_GEN_F
  ⟨0x27C20, 0x1000000, 1, 0x8, 8, [⟨0, 16, .rw, 0, false, [(50, 2000)]⟩, ⟨16, 16, .rw, 0, false, [(0, 1000)]⟩]⟩,
  -- SW_GEN_P
  ⟨0x27C24, 0x1000000, 1, 0x8, 8, [⟨0, 12, .rw, 0, false, [(0, 3599)]⟩]⟩]

/-- Block RING (ch. 19). -/
def regsRing : List RegSpec := [
  -- RING_BASE_LO
  ⟨0x28000, 0x1000000, 1, 0x40, 64, [⟨12, 20, .rw, 0, false, []⟩]⟩,
  -- RING_BASE_HI
  ⟨0x28004, 0x1000000, 1, 0x40, 64, [⟨0, 32, .rw, 0, false, []⟩]⟩,
  -- RING_SIZE
  ⟨0x28008, 0x1000000, 1, 0x40, 64, [⟨0, 4, .rw, 4, false, [(4, 12)]⟩]⟩,
  -- RING_TAIL
  ⟨0x2800C, 0x1000000, 1, 0x40, 64, [⟨0, 16, .rw, 0, false, []⟩]⟩,
  -- RING_HEAD
  ⟨0x28010, 0x1000000, 1, 0x40, 64, [⟨0, 16, .ro, 0, false, []⟩]⟩,
  -- RING_CTRL
  ⟨0x28014, 0x1000000, 1, 0x40, 64, [⟨0, 1, .rw, 0, false, []⟩, ⟨1, 1, .w1s, 0, false, []⟩, ⟨2, 1, .rw, 0, false, []⟩]⟩,
  -- RING_STAT
  ⟨0x28018, 0x1000000, 1, 0x40, 64, [⟨0, 3, .ro, 0, false, []⟩, ⟨4, 2, .ro, 0, false, []⟩, ⟨8, 3, .ro, 0, false, []⟩]⟩,
  -- RING_CNT
  ⟨0x2801C, 0x1000000, 1, 0x40, 64, [⟨0, 32, .ro, 0, false, []⟩]⟩,
  -- RING_ERR_LO
  ⟨0x28020, 0x1000000, 1, 0x40, 64, [⟨0, 32, .ro, 0, false, []⟩]⟩,
  -- RING_ERR_HI
  ⟨0x28024, 0x1000000, 1, 0x40, 64, [⟨0, 32, .ro, 0, false, []⟩]⟩,
  -- RING_MISSED
  ⟨0x28028, 0x1000000, 1, 0x40, 64, [⟨0, 32, .ro, 0, false, []⟩]⟩]

/-- Block HOST (ch. 19). -/
def regsHost : List RegSpec := [
  -- HOST_ICAUSE
  ⟨0x29000, 0x1000000, 1, 0x4, 1, [⟨0, 8, .w1c, 0, false, []⟩, ⟨8, 1, .w1c, 0, false, []⟩]⟩,
  -- HOST_IMASK
  ⟨0x29004, 0x1000000, 1, 0x4, 1, [⟨0, 8, .rw, 0xff, false, []⟩, ⟨8, 1, .rw, 1, false, []⟩, ⟨16, 7, .rw, 0x7f, false, [(0, 71), (127, 127)]⟩]⟩,
  -- HOST_PUB_STAT
  ⟨0x29040, 0x1000000, 1, 0x4, 1, [⟨0, 16, .ro, 0, false, []⟩, ⟨16, 6, .ro, 0x3f, false, []⟩, ⟨22, 1, .ro, 0, false, []⟩]⟩,
  -- HOST_PUB_SKIPPED
  ⟨0x29044, 0x1000000, 1, 0x4, 1, [⟨0, 32, .ro, 0, true, []⟩]⟩,
  -- HOST_PUB_ABORTED
  ⟨0x29048, 0x1000000, 1, 0x4, 1, [⟨0, 32, .ro, 0, true, []⟩]⟩,
  -- HOST_PUB_LAST
  ⟨0x2904C, 0x1000000, 1, 0x4, 1, [⟨0, 32, .ro, 0xffffffff, false, []⟩]⟩]

/-- Block MSIX (PCI Express, R524). -/
def regsMsix : List RegSpec := [
  -- MSIX_ADDR_LO
  ⟨0x29400, 0x1000000, 1, 0x10, 72, [⟨0, 32, .rw, 0, false, []⟩]⟩,
  -- MSIX_ADDR_HI
  ⟨0x29404, 0x1000000, 1, 0x10, 72, [⟨0, 32, .rw, 0, false, []⟩]⟩,
  -- MSIX_DATA
  ⟨0x29408, 0x1000000, 1, 0x10, 72, [⟨0, 32, .rw, 0, false, []⟩]⟩,
  -- MSIX_VCTRL
  ⟨0x2940C, 0x1000000, 1, 0x10, 72, [⟨0, 1, .rw, 1, false, []⟩]⟩,
  -- MSIX_PBA
  ⟨0x29C00, 0x1000000, 1, 0x4, 3, [⟨0, 32, .ro, 0, false, []⟩]⟩]

/-- Block LOG (ch. 20). -/
def regsLog : List RegSpec := [
  -- LOG_STAT
  ⟨0x2A000, 0x1000000, 1, 0x4, 1, [⟨0, 1, .ro, 0, false, []⟩, ⟨1, 1, .ro, 0, false, []⟩, ⟨2, 1, .ro, 0, false, []⟩, ⟨3, 1, .ro, 0, false, []⟩, ⟨4, 1, .w1c, 0, false, []⟩, ⟨5, 1, .w1c, 0, false, []⟩, ⟨8, 5, .ro, 0, false, []⟩, ⟨16, 9, .ro, 0, false, []⟩]⟩,
  -- LOG_CTRL
  ⟨0x2A004, 0x1000000, 1, 0x4, 1, [⟨0, 1, .rwpAct, 0, false, []⟩, ⟨1, 2, .rw, 2, false, []⟩]⟩,
  -- LOG_HEAD_SEQ
  ⟨0x2A008, 0x1000000, 1, 0x4, 1, [⟨0, 32, .ro, 0, false, []⟩]⟩,
  -- LOG_TAIL_SEQ
  ⟨0x2A00C, 0x1000000, 1, 0x4, 1, [⟨0, 32, .ro, 0, false, []⟩]⟩,
  -- LOG_CNT_OVW
  ⟨0x2A010, 0x1000000, 1, 0x4, 1, [⟨0, 32, .ro, 0, false, []⟩]⟩,
  -- LOG_CNT_LOST
  ⟨0x2A014, 0x1000000, 1, 0x4, 1, [⟨0, 32, .ro, 0, false, []⟩]⟩,
  -- LOG_CNT_CRC
  ⟨0x2A018, 0x1000000, 1, 0x4, 1, [⟨0, 32, .ro, 0, false, []⟩]⟩,
  -- LOG_CLEAR_SEQ
  ⟨0x2A01C, 0x1000000, 1, 0x4, 1, [⟨0, 32, .ro, 0, false, []⟩]⟩,
  -- LOG_DROP
  ⟨0x2A020, 0x1000000, 1, 0x4, 4, [⟨0, 32, .ro, 0, true, []⟩]⟩,
  -- LOG_CLASS
  ⟨0x2A030, 0x1000000, 1, 0x4, 4, [⟨0, 17, .ro, 0, false, []⟩]⟩,
  -- LOG_RD_IDX
  ⟨0x2A080, 0x1000000, 1, 0x4, 1, [⟨0, 17, .rw, 0, false, [(0, 65791)]⟩]⟩,
  -- LOG_RD_DATA
  ⟨0x2A0A0, 0x1000000, 1, 0x4, 8, [⟨0, 32, .ro, 0, false, []⟩]⟩]

/-- Block DIAG (ch. 21). -/
def regsDiag : List RegSpec := [
  -- DIAG_SNAP_CTRL
  ⟨0x2B000, 0x1000000, 1, 0x4, 1, [⟨0, 1, .w1s, 0, false, []⟩, ⟨1, 1, .w1s, 0, false, []⟩, ⟨4, 4, .w1s, 0, false, []⟩]⟩,
  -- DIAG_SNAP_STAT
  ⟨0x2B004, 0x1000000, 1, 0x4, 1, [⟨0, 16, .ro, 0, false, []⟩, ⟨16, 3, .ro, 0, false, []⟩, ⟨20, 1, .w1c, 0, false, []⟩, ⟨24, 7, .ro, 0, false, []⟩, ⟨31, 1, .ro, 0, false, []⟩]⟩,
  -- DIAG_SNAP_FIRST
  ⟨0x2B008, 0x1000000, 1, 0x4, 1, [⟨0, 3, .ro, 0, false, []⟩]⟩,
  -- DIAG_SNAP_FIRST_EP
  ⟨0x2B00C, 0x1000000, 1, 0x4, 1, [⟨0, 32, .ro, 0, false, []⟩]⟩,
  -- DIAG_SNAP_FIRST_T
  ⟨0x2B010, 0x1000000, 1, 0x4, 1, [⟨0, 32, .ro, 0, false, []⟩]⟩,
  -- DIAG_REP_STAT
  ⟨0x2B040, 0x1000000, 1, 0x4, 1, [⟨0, 2, .ro, 0, false, []⟩, ⟨4, 4, .ro, 0, false, []⟩, ⟨8, 12, .ro, 0, false, []⟩, ⟨20, 1, .ro, 0, false, []⟩, ⟨21, 1, .ro, 0, false, []⟩]⟩,
  -- DIAG_REP_SEQ
  ⟨0x2B044, 0x1000000, 1, 0x4, 1, [⟨0, 32, .ro, 0, false, []⟩]⟩,
  -- DIAG_RFAULT
  ⟨0x2B060, 0x1000000, 1, 0x4, 8, [⟨0, 2, .ro, 0, false, []⟩]⟩,
  -- DIAG_BG_STAT
  ⟨0x2B080, 0x1000000, 1, 0x4, 1, [⟨0, 9, .ro, 0, false, []⟩, ⟨9, 1, .ro, 0, false, []⟩, ⟨10, 5, .ro, 0x1f, false, []⟩, ⟨15, 1, .ro, 0, false, []⟩]⟩,
  -- DIAG_BG_ROT
  ⟨0x2B084, 0x1000000, 1, 0x4, 1, [⟨0, 32, .ro, 0, false, []⟩]⟩,
  -- DIAG_BG_ABANDON
  ⟨0x2B088, 0x1000000, 1, 0x4, 1, [⟨0, 32, .ro, 0, false, []⟩]⟩,
  -- DIAG_SN_T_LO
  ⟨0x2B100, 0x1000000, 1, 0x4, 1, [⟨0, 32, .ro, 0, false, []⟩]⟩,
  -- DIAG_SN_T_HI
  ⟨0x2B104, 0x1000000, 1, 0x4, 1, [⟨0, 16, .ro, 0, false, []⟩]⟩,
  -- DIAG_SN_ANG
  ⟨0x2B108, 0x1000000, 1, 0x4, 1, [⟨0, 16, .ro, 0, false, []⟩, ⟨16, 8, .ro, 0, false, []⟩]⟩,
  -- DIAG_SN_CYC
  ⟨0x2B10C, 0x1000000, 1, 0x4, 1, [⟨0, 32, .ro, 0, false, []⟩]⟩,
  -- DIAG_SN_EPOCH
  ⟨0x2B110, 0x1000000, 1, 0x4, 1, [⟨0, 32, .ro, 0, false, []⟩]⟩,
  -- DIAG_SN_SWP
  ⟨0x2B114, 0x1000000, 1, 0x4, 1, [⟨0, 10, .ro, 0, false, []⟩, ⟨16, 7, .ro, 0, false, []⟩, ⟨24, 2, .ro, 0, false, []⟩, ⟨26, 1, .ro, 0, false, []⟩]⟩,
  -- DIAG_SN_LIMA
  ⟨0x2B118, 0x1000000, 1, 0x4, 1, [⟨0, 32, .ro, 0, false, []⟩]⟩,
  -- DIAG_SN_LIMB
  ⟨0x2B11C, 0x1000000, 1, 0x4, 1, [⟨0, 32, .ro, 0, false, []⟩]⟩,
  -- DIAG_SN_PAIR
  ⟨0x2B120, 0x1000000, 1, 0x4, 1, [⟨0, 32, .ro, 0, false, []⟩]⟩,
  -- DIAG_SN_DIGG
  ⟨0x2B124, 0x1000000, 1, 0x4, 1, [⟨0, 32, .ro, 0, false, []⟩]⟩,
  -- DIAG_SN_DIGS
  ⟨0x2B128, 0x1000000, 1, 0x4, 1, [⟨0, 32, .ro, 0, false, []⟩]⟩,
  -- DIAG_SN_DSC
  ⟨0x2B12C, 0x1000000, 1, 0x4, 1, [⟨0, 32, .ro, 0, false, []⟩]⟩,
  -- DIAG_SN_IA
  ⟨0x2B130, 0x1000000, 1, 0x4, 1, [⟨0, 32, .ro, 0, false, []⟩]⟩,
  -- DIAG_SN_IB
  ⟨0x2B134, 0x1000000, 1, 0x4, 1, [⟨0, 32, .ro, 0, false, []⟩]⟩,
  -- DIAG_SN_SIOIN
  ⟨0x2B138, 0x1000000, 1, 0x4, 1, [⟨0, 32, .ro, 0, false, []⟩]⟩,
  -- DIAG_SN_SIOOUT
  ⟨0x2B13C, 0x1000000, 1, 0x4, 1, [⟨0, 32, .ro, 0, false, []⟩]⟩,
  -- DIAG_SN_TRIP
  ⟨0x2B140, 0x1000000, 1, 0x4, 1, [⟨0, 32, .ro, 0, false, []⟩]⟩,
  -- DIAG_SN_SOP
  ⟨0x2B150, 0x1000000, 1, 0x4, 6, [⟨0, 32, .ro, 0, false, []⟩]⟩,
  -- DIAG_SN_HOST
  ⟨0x2B170, 0x1000000, 1, 0x4, 1, [⟨0, 32, .ro, 0, false, []⟩]⟩]

/-- Block DIAG (ch. 21). -/
def regsDiag2 : List RegSpec := [
  -- DIAG_SN_EST
  ⟨0x2B180, 0x1000000, 1, 0x4, 8, [⟨0, 15, .ro, 0, false, []⟩, ⟨16, 4, .ro, 0, false, []⟩, ⟨20, 2, .ro, 0, false, []⟩, ⟨22, 1, .ro, 0, false, []⟩]⟩,
  -- DIAG_SN_LNK
  ⟨0x2B200, 0x1000000, 1, 0x4, 64, [⟨0, 3, .ro, 0, false, []⟩, ⟨3, 4, .ro, 0, false, []⟩, ⟨8, 8, .ro, 0, false, []⟩, ⟨16, 16, .ro, 0, false, []⟩]⟩,
  -- DIAG_SN_SW
  ⟨0x2B300, 0x1000000, 1, 0x4, 24, [⟨0, 3, .ro, 0, false, []⟩, ⟨3, 1, .ro, 0, false, []⟩, ⟨4, 12, .ro, 0, false, []⟩, ⟨16, 1, .ro, 0, false, []⟩]⟩,
  -- DIAG_DBG_STAT
  ⟨0x2D000, 0x1000000, 1, 0x4, 1, [⟨0, 2, .ro, 0, false, []⟩, ⟨2, 1, .ro, 0, false, []⟩, ⟨3, 1, .ro, 0, false, []⟩, ⟨4, 1, .ro, 0, false, []⟩]⟩,
  -- DIAG_DBG_CTRL
  ⟨0x2D004, 0x1000000, 1, 0x4, 1, [⟨0, 1, .rw, 0, false, []⟩, ⟨1, 1, .rwpAct, 0, false, []⟩, ⟨2, 1, .w1s, 0, false, []⟩, ⟨3, 1, .w1s, 0, false, []⟩, ⟨4, 1, .w1s, 0, false, []⟩]⟩,
  -- DIAG_DBG_TRACE
  ⟨0x2D008, 0x1000000, 1, 0x4, 1, [⟨0, 14, .ro, 0, false, []⟩, ⟨16, 16, .ro, 0, false, []⟩]⟩,
  -- DIAG_DBG_CMD
  ⟨0x2D010, 0x1000000, 1, 0x4, 1, [⟨0, 4, .wo, 0, false, [(1, 9)]⟩]⟩,
  -- DIAG_DBG_ADDR
  ⟨0x2D014, 0x1000000, 1, 0x4, 1, [⟨0, 32, .rw, 0, false, []⟩]⟩,
  -- DIAG_DBG_DATA
  ⟨0x2D018, 0x1000000, 1, 0x4, 1, [⟨0, 32, .rw, 0, false, []⟩]⟩,
  -- DIAG_DBG_RESP
  ⟨0x2D01C, 0x1000000, 1, 0x4, 1, [⟨0, 2, .ro, 0, false, []⟩]⟩]

/-- Block MAC (ch. 19). -/
def regsMac : List RegSpec := [
  -- MAC_STAT
  ⟨0x2C000, 0x1000000, 1, 0x4, 1, [⟨0, 1, .ro, 0, false, []⟩, ⟨1, 2, .ro, 0, false, []⟩, ⟨3, 1, .ro, 0, false, []⟩, ⟨4, 2, .ro, 0, false, []⟩, ⟨6, 1, .ro, 0, false, []⟩, ⟨7, 1, .ro, 0, false, []⟩]⟩,
  -- MAC_HRX
  ⟨0x2C010, 0x1000000, 1, 0x4, 4, [⟨0, 32, .ro, 0, false, []⟩]⟩,
  -- MAC_HTX
  ⟨0x2C020, 0x1000000, 1, 0x4, 4, [⟨0, 32, .ro, 0, false, []⟩]⟩,
  -- MAC_HDROP
  ⟨0x2C030, 0x1000000, 1, 0x4, 4, [⟨0, 32, .ro, 0, false, []⟩]⟩]

/-- Block TRACE (R570). -/
def regsTrace : List RegSpec := [
  -- TRACE_BUF
  ⟨0x2E000, 0x1000000, 1, 0x4, 4096, [⟨0, 32, .ro, 0, false, []⟩]⟩]

/-- Every register of Table REG-5. -/
def regMap : List RegSpec :=
  regsGlobal ++ regsPwr ++ regsImg ++ regsAng ++ regsSwp ++ regsLnk ++ regsSto ++ regsEst ++ regsSop ++ regsDsc ++ regsCtr ++ regsPair ++ regsSio ++ regsSfl ++ regsSw ++ regsRing ++ regsHost ++ regsMsix ++ regsLog ++ regsDiag ++ regsDiag2 ++ regsMac ++ regsTrace

end Sys2Proof.Machine
end

