-- ==== Sys2Proof/Machine/State.lean ====
section
/-! DEFINITION. The state of the module as plain data: the registers, the memories, what each unit keeps between commands, the queue of commands, and reset. -/

namespace Sys2Proof.Machine

/-- A wake event held until the sleep sequence ends (R116): 1 WAKE_IN, 2 chain tone, 3 wake timer, with chain and port. -/
structure WakeEvent where
  src : Nat := 0
  chain : Nat := 0
  port : Nat := 0
  deriving DecidableEq, Repr

/-- Supply, sleep and start (chapter 03) beside the PWR and GLOBAL registers. -/
structure PwrState where
  /-- The always-on domain is powered (R92). -/
  alwaysOn : Bool := false
  /-- The main domain is powered (R92). -/
  mainOn : Bool := false
  /-- The module is in sleep (R114). -/
  asleep : Bool := false
  /-- Operating time in ms, 48 bits (R97), held in the always-on domain. -/
  optime : Nat := 0
  /-- Power-cycle count, 24 bits (R96), held in the always-on domain. -/
  cycles : Nat := 0
  /-- Copies of both in the event log memory (R96, R97). -/
  optimeCopy : Nat := 0
  cyclesCopy : Nat := 0
  /-- Operating time [47:32] latched by a read of PWR_OPTIME_LO (R119). -/
  hiLatch : Nat := 0
  /-- Operating time at the reference instant of this start (R100, R111). -/
  refTime : Nat := 0
  /-- RESET_N holds the module in stage 0 (R108). -/
  held : Bool := false
  /-- Board-test mode, until the next power-on (R118). -/
  boardTest : Bool := false
  /-- DBG_EN is still to be sampled in this power-on (R87). -/
  dbgDue : Bool := false
  /-- 0x0109 has been logged in this start (R55). -/
  voutLogged : Bool := false
  /-- A wake event latched during the sleep sequence (R116). -/
  latchedWake : Option WakeEvent := none
  /-- Chains whose tone detectors are armed in sleep, and the wake timer in minutes, 0 off (R114, R115). -/
  tones : BitVec 64 := 0#64
  timer : Nat := 0
  /-- WAKE_OUT drives VBUS level (R82). -/
  wakeOut : Bool := false
  /-- VOUT33 is switched on (R54). -/
  vout33 : Bool := false
  /-- Operating time, plus 1, at which an event carried VBUS, VOUT33, VSW0 to VSW3; 0 for none (R119). -/
  supplyAt : List Nat := [0, 0, 0, 0, 0, 0]
  /-- The last publication before sleep has been taken (Table PWR-5, step 1). -/
  lastPub : Bool := false
  deriving DecidableEq, Repr

/-- Image, session and update (chapter 04) beside the IMG registers. -/
structure ImgState where
  /-- The NOR on CS0, by address; an unlisted byte is erased. -/
  nor : List (Nat × Byte) := []
  /-- Half the NOR density: the slot size (R121); 0 before the SFDP table has been read. -/
  slotSize : Nat := 0
  /-- An image is loaded (R123). -/
  loaded : Bool := false
  /-- The loaded image by image offset; an unlisted byte is erased. -/
  data : List (Nat × Byte) := []
  /-- Its sections: type, offset in the image, length (Table IMG-2). -/
  dir : List (Nat × Nat × Nat) := []
  /-- The module's bind counter in MRAM (R131). -/
  bindCount : Nat := 0
  /-- The password shadow in MRAM: salt and hash, 48 bytes (R136). -/
  shadow : Option (List Byte) := none
  /-- A password comparison runs on these bytes (R135). -/
  comparing : Option (List Byte) := none
  /-- Password bytes written to IMG_PW_0 to IMG_PW_7, which read 0. -/
  pw : List Byte := []
  /-- Operating time at which the session expires (R137). -/
  sessionEnd : Nat := 0
  /-- Operating time at which the lockout ends, held in MRAM (R138). -/
  lockoutEnd : Nat := 0
  /-- NOR address of the slot an update or a recovery stages into (R140). -/
  target : Nat := 0
  /-- The four magic bytes of the staged image, held until COMMIT (R140). -/
  magic : List Byte := []
  /-- A transfer has been started since the start (R134). -/
  started : Bool := false
  /-- The repair record sequence number at validation (R141). -/
  repairSeen : Nat := 0
  /-- A recommissioning is being written (R134). -/
  recomm : Bool := false
  /-- A recovery commit is being written (R143). -/
  recCommit : Bool := false
  /-- Triggers of deadline checks that run or wait, the running one first (R144). -/
  checks : List Nat := []
  /-- The load of this start has been attempted (R122); its stage-3 deadline check has passed (R105). -/
  attempted : Bool := false
  checked : Bool := false
  deriving DecidableEq, Repr

/-- Mains-angle time base (chapter 05) beside the ANG registers. -/
structure AngState where
  /-- Schedule-angle cycle count since stage 1. -/
  cycle : Word := 0#32
  /-- Schedule angle and mains angle within their cycles, in 2^-16 au (R151, R153), and the cycles of the mains angle. -/
  sched : Nat := 0
  mains : Nat := 0
  mainsCyc : Nat := 0
  /-- Settings of the tracking loop from the image: bandwidth in Hz, rate of change held in lock in Hz/s, phase noise in au (Table ANG-1). -/
  loopBw : Nat := 0
  loopRate : Nat := 0
  loopNoise : Nat := 0
  /-- Cycle of the mains angle, plus 1, whose amplitude an event has carried (R155); 0 for none. -/
  amplCyc : Nat := 0
  /-- Cycle count latched by a read of ANG_NOW_AU (R172). -/
  cycLatch : Word := 0#32
  /-- Test-slot credit (R168). -/
  credit : Nat := 0
  /-- A SYNC_IN edge has been accepted since acquisition began (R156). -/
  edgeSeen : Bool := false
  /-- SYNC_IN edges rejected since the last 0x0308 record (R173). -/
  rejects : Nat := 0
  /-- The other source is being tried while free-running (R161). -/
  tryOther : Bool := false
  /-- Slip at the start of the correction in progress, and its operating time (R163). -/
  slipStart : Nat := 0
  slipAt : Nat := 0
  /-- The loop has locked since the start (R160). -/
  everLocked : Bool := false
  deriving DecidableEq, Repr

/-- A command of the link engine that waits for a tag or for its turn in the stream, or holds a tag (R189, R242, R245): the hop index (R7;
of COLLECT_SEG the farthest of its range), the opcode, whether it has left LINKRET, its kind (0 collection, 1 register read, 2 CTR_SET,
3 host command, 4 configuration, 5 self-test, 6 sleep thresholds), its payload, and whether its wait for a tag has been counted. -/
structure WaitCmd where
  hop : Nat := 0
  opcode : Nat := 0
  ret : Bool := false
  kind : Nat := 0
  payload : List Byte := []
  waited : Bool := false
  deriving DecidableEq, Repr

/-- What a transaction tag is doing (R189). (DEDUCED, log 30) -/
inductive TagState where
  | free
  | busy (cmd : WaitCmd)
  | quarantine (cmd : WaitCmd)
  deriving DecidableEq, Repr

/-- One chain's link engine (chapter 06) beside its LNK registers. Hops are counted from 0. -/
structure ChainX where
  /-- The 8 tags (R189). -/
  tags : List TagState := [.free, .free, .free, .free, .free, .free, .free, .free]
  /-- Commands waiting, oldest first. -/
  wait : List WaitCmd := []
  /-- Hops that this sweep collects, fixed at its sweep angle (R194, R205, R242). -/
  due : List Nat := []
  /-- Retries of this sweep, by hop (R192). -/
  tries : List (Nat × Nat) := []
  /-- Token slots as SWEEP of this epoch carried them (R202). -/
  sent : List Byte := []
  /-- The chain has ended an enumeration of this start in ENUM_FAULT (R104). -/
  enumFailed : Bool := false
  /-- SLP_PERIOD of a hop where the host has changed it from 60 minutes (R237). -/
  slp : List (Nat × Nat) := []
  /-- Hops that have answered in this sweep. -/
  answered : List Nat := []
  /-- Hops whose retries are exhausted in this sweep (R192). -/
  failed : List Nat := []
  /-- Hops that have answered from the OUT end and from the RET end in this sweep (R200). -/
  reachOut : List Nat := []
  reachRet : List Nat := []
  /-- Hops whose data showed LATE_CONV in this sweep (Table LNK-15). -/
  lateHops : List Nat := []
  /-- Arrival of the last frame of this sweep after A(N), µs (Table LNK-13). -/
  lastUs : Nat := 0
  /-- Hop of the last timeout with no valid response since (R201). -/
  tmoHop : Option Nat := none
  /-- Consecutive sweeps in which the hop was silent while a farther node answered (R194), by hop. -/
  silent : List (Nat × Nat) := []
  /-- Consecutive valid mute-probe responses, by hop (R194). -/
  probeOk : List (Nat × Nat) := []
  /-- Consecutive good ring probes (R206). -/
  ringOk : Nat := 0
  /-- An accepted REENUM waits for the next epoch close (R199). -/
  reenum : Bool := false
  /-- Every muted node is collected from the next sweep (UNMUTE_ALL). -/
  unmute : Bool := false
  /-- Return to RING at the next sweep (R206). -/
  toRing : Bool := false
  /-- Sweeps spent in SEGMENTED or PARTIAL (0x0407). -/
  segSweeps : Nat := 0
  /-- Next hop of the cyclic register read (R236). -/
  regNext : Nat := 0
  /-- The register read goes next in its alternation with host commands (R513). -/
  hostTurn : Bool := false
  /-- A host command may go in this sweep. -/
  hostGo : Bool := false
  /-- Filter corners read at enumeration, where within tolerance: hop × 4 + code (R214). -/
  corners : List (Nat × Nat) := []
  /-- Hops whose configuration is not verified (R217, R234): a retry goes in every sweep. -/
  cfgBad : List Nat := []
  deriving DecidableEq, Repr

/-- One companion node (chapter 07): its registers and what it holds between frames. -/
structure NodeX where
  /-- 1 NH0824, 2 NH0403; 0 where no node is known to the model. -/
  typ : Nat := 0
  rev : Nat := 0
  uid : BitVec 64 := 0#64
  /-- The node has supply (R235). -/
  powered : Bool := false
  asleep : Bool := false
  outNum : Nat := 0
  retNum : Nat := 0
  lastMaster : BitVec 64 := 0#64
  compOut : Nat := 0
  compRet : Nat := 0
  tokenSlot : Nat := 255
  /-- Byte 0x46 of the latest data, which STATUS bits 7 to 0 repeat (R212). -/
  byte46 : Nat := 0
  /-- Balancing stopped, or the string opened by the token rule (Table NODE-3); a self-test has failed since the last CLEAR. -/
  stopped : Bool := false
  testFail : Bool := false
  scFault : Bool := false
  wakeSelf : Bool := false
  /-- Writable words that have been written since supply came (STRING_NUM: since the last ASSIGN); NO_CONFIG follows from them. -/
  written : List Nat := []
  /-- Die temperature, 0.01 °C, two's complement. -/
  dieT : BitVec 16 := 0#16
  errRx : Nat := 0
  errToken : Nat := 0
  slpCause : Nat := 0
  testResult : Nat := 0
  testData : List Nat := []
  /-- A self-test runs (R238): its code. -/
  testing : Option Nat := none
  /-- Commanded and applied duty codes of cells 0 to 23 (R218). -/
  balCmd : List Nat := []
  balApplied : List Nat := []
  /-- Duty codes that wait for the end of a freeze (R218, R220). -/
  balWait : Option (List Nat) := none
  /-- The balancing switches are frozen, whether open by the gate, and which stand closed (R220). -/
  frozen : Bool := false
  gated : Bool := false
  closed : BitVec 24 := 0#24
  /-- The die-temperature cap of 0 % is held until T falls below 115 °C (Table NODE-6). -/
  hotHold : Bool := false
  /-- Writable words 0x080 to 0x08C, differing from their reset values (Table NODE-12). -/
  words : List (Nat × BitVec 16) := []
  /-- Trimmed filter corners, Factory. -/
  corners : List Nat := []
  /-- Filter code in effect, from CFG at the last SWEEP (R215). -/
  filter : Nat := 0
  /-- Secondary comparator flags held, and those that the last build carried (R216). -/
  scOv : BitVec 24 := 0#24
  scUv : BitVec 24 := 0#24
  sentOv : BitVec 24 := 0#24
  sentUv : BitVec 24 := 0#24
  /-- COLLECT has been answered since the last build. -/
  answered : Bool := false
  /-- Latest SWEEP: received since the last build, its epoch, its LATE bit, its angle and schedule frequency, and the compensation of the port
  it came by (R188); no copy of it is taken again before the next ASSIGN. -/
  swept : Bool := false
  epoch : Word := 0#32
  late : Bool := false
  angle : Nat := 0
  freq : Nat := 0
  comp : Nat := 0
  heard : Bool := false
  /-- The SWEEP flags last received: gate enable and ring operation (Table LNK-6). -/
  gateEn : Bool := false
  ring : Bool := false
  /-- The DN driver was switched off after break marks (R178). -/
  dnOff : Bool := false
  /-- Values of the last conversion: 32 inputs, a converter or reference fault, the gate applied, an input current saturated. -/
  conv : List (BitVec 16) := []
  convErr : Bool := false
  convGate : Bool := false
  convSat : Bool := false
  /-- Current stream of an NH0403 (R228, R229): samples of the phasor window as age in au at the last conversion instant, angle stamp and shunt
  voltage in nV; ages of the earlier conversion instants of an unbroken run of sweeps; angle and frequency of the SWEEP before; the charge not
  yet reported; the zero of the shunt in mA. -/
  stream : List (Nat × Nat × Int) := []
  marks : List Nat := []
  prevAngle : Nat := 0
  prevFreq : Nat := 0
  prevEpoch : Option Word := none
  carry : Int := 0
  zero : Int := 0
  /-- Token age in ms, saturating (Table NODE-8). -/
  tokenAge : Nat := 65535
  /-- Response data of the last build, 72 B. -/
  data : List Byte := []
  /-- Coil drive (POS, NEG, PRE), HOLD and LATCHED_OPEN of an NH0403 (Table NODE-8). -/
  drive : BitVec 3 := 0#3
  hold : Bool := false
  latched : Bool := false
  /-- Token results of the last evaluated SWEEP, A and B (Table NODE-10), and the last accepted epoch. -/
  tokResA : Nat := 0
  tokResB : Nat := 0
  lastEpoch : Option Word := none
  deriving DecidableEq, Repr

/-- Progress of one test campaign entry (R269). -/
structure CampX where
  /-- Operating time at which the period ends; 0 before stage 3. -/
  periodEnd : Nat := 0
  /-- Nodes done in this period, as chain × 128 + hop − 1, and retries by node. -/
  done : List Nat := []
  retries : List (Nat × Nat) := []
  finished : Bool := false
  /-- The period has ended before the run (R269). -/
  late : Bool := false
  deriving DecidableEq, Repr

/-- Gather engine and intake (chapter 08) beside the SWP registers. -/
structure SwpState where
  /-- Epoch number of the next sweep, and of the latest sweep angle. -/
  nextEpoch : Word := 0#32
  epoch : Word := 0#32
  /-- A(N) [15:0] of the latest sweep, the schedule frequency it carried, and whether SCHED_LOCKED was set. -/
  angle : Nat := 0
  angleFreq : Word := 0#32
  angleLocked : Bool := false
  /-- Schedule-angle cycle count at A(N). -/
  cycleAt : Word := 0#32
  /-- A sweep is between its angle and its close; an angle has been reached since the start. -/
  open_ : Bool := false
  any : Bool := false
  /-- The first complete epoch has been taken (Table PWR-3). -/
  first : Bool := false
  /-- Tokens of the Gaffer (bit 0) and of the Servitor (bit 1) that are late for the coming sweep (R241). -/
  lateTok : BitVec 2 := 0#2
  /-- Persistence counters: key path × 2^18 + point (R257). -/
  persist : List (Nat × Nat) := []
  /-- Applied-duty map: key (chain × 128 + hop − 1) × 24 + cell (R260). -/
  duty : List (Nat × Nat) := []
  /-- Open test slots left in this interval (R168). -/
  slots : Nat := 0
  /-- Host test request: its code and chain while it runs (R266). -/
  hostReq : Option (Nat × Nat) := none
  /-- Host test request: nodes still to test, chain × 128 + hop − 1 (R266). -/
  hostTodo : List Nat := []
  /-- Nodes that have refused it (Table SWP-14). -/
  hostRefused : List Nat := []
  /-- Chains on which a campaign goes next in the alternation of R264. -/
  campTurn : List Nat := []
  /-- ABORT waits for the end of the current slot (R267). -/
  abort : Bool := false
  /-- Tests whose result is awaited: chain × 128 + hop − 1, code, and the source: 0 the host, e + 1 campaign entry e. -/
  running : List (Nat × Nat × Nat) := []
  /-- Campaign entries, in entry order. -/
  camps : List CampX := []
  deriving DecidableEq, Repr

/-- A character of the line (R178): data, K28.5, K27.7 and K23.7. -/
inductive LineChar where
  | data (b : Byte)
  | idle
  | sof
  | mark
  deriving DecidableEq, Repr

/-- What leaves the module: a frame on a chain port, a write to host memory, an MSI-X message, a frame on a MAC, a coil or pin
change is a field of its own. The list only grows; nothing in the module reads it. (DESIGN CHOICE, log 90) -/
inductive Output where
  /-- Characters out of a chain port: 0 OUT, 1 RET; a burst of its own, which starts at negative disparity, or part of the ring's stream (R174). -/
  | link (chain : Nat) (port : Nat) (own : Bool) (chars : List LineChar)
  /-- A node's response out of its UP or DN port. -/
  | node (chain : Nat) (hop : Nat) (dn : Bool) (chars : List LineChar)
  /-- A received frame that a node repeats, as it came, out of the other port (R184). -/
  | nodeRepeat (chain : Nat) (hop : Nat) (f : NodeRx) (opc : Nat) (payload : List Byte)
  /-- A wake tone on a chain port, and one that a node sends or repeats. -/
  | tone (chain : Nat) (port : Nat)
  | nodeTone (chain : Nat) (hop : Nat) (dn : Bool)
  /-- Break marks that a node sends, or repeats, out of its DN port (R178). -/
  | breakMark (chain : Nat) (hop : Nat)
  | markRepeat (chain : Nat) (hop : Nat)
  /-- An MSI-X message of a vector. -/
  | msix (vector : Nat)
  /-- A DMA write of a ring: the address and the bytes. -/
  | dma (ring : Nat) (addr : Nat) (bytes : List Byte)
  /-- A CAN frame of a controller: identifier [28:0] with bit 31 extended, FD, bit-rate switch, data. -/
  | can (controller : Nat) (ident : Nat) (fd brs : Bool) (data : List Byte)
  /-- An Ethernet frame of a port, without FCS. -/
  | eth (port : Nat) (bytes : List Byte)
  /-- A pulse on SNAP_OUT. -/
  | snap
  deriving DecidableEq, Repr

/-- A node command that a Command ring has in progress (R513): chain, hop index, opcode of the link, its entry's control word, words asked. -/
structure NodeCmd where
  chain : Nat := 0
  hop : Nat := 0
  opcode : Nat := 0
  ctl : Word := 0#32
  count : Nat := 0
  deriving DecidableEq, Repr

/-- A ring's message hold-off (R524), an Event ring's position (R521), a Command ring's node command. -/
structure RingX where
  /-- The hold-off after the previous message runs. -/
  holdoff : Bool := false
  /-- Entries were returned within the hold-off. -/
  owed : Bool := false
  /-- Next record sequence an Event ring delivers, once it has begun. -/
  pos : Option Word := none
  node : Option NodeCmd := none
  deriving DecidableEq, Repr

/-- The publication in progress (R517, Table HOST-7): its entry, the string store as copied at step 3 of the close and as it
stood at the end of step 8, the figures of the epoch, whether its streams are complete, and whether its publication angle has been reached. -/
structure PubX where
  epoch : Word := 0#32
  ctl : Word := 0#32
  addr : BitVec 64 := 0#64
  len : Word := 0#32
  strings : List (Nat × BitVec 64) := []
  tokens : List (Nat × BitVec 64) := []
  safety : Nat := 0
  flags : Nat := 0
  angle : Nat := 0
  cycle : Word := 0#32
  freq : Word := 0#32
  cullet : Nat := 0
  time : Nat := 0
  done : Bool := false
  angleHit : Bool := false
  deriving DecidableEq, Repr

/-- Host ports (chapter 19) beside the RING, HOST and MAC registers. -/
structure HostState where
  /-- HOST_ICAUSE bits 8 to 0 (R524). -/
  icause : BitVec 9 := 0#9
  /-- MSI-X pending bits of vectors 0 to 71. -/
  pba : BitVec 72 := 0#72
  linkUp : Bool := false
  busMaster : Bool := false
  /-- PERST_N is released. -/
  perstHigh : Bool := false
  rings : List (Nat × RingX) := []
  /-- Exchange RAM words by word index; unlisted words are 0. -/
  xram : List (Nat × Word) := []
  pub : PubX := {}
  /-- Operating times of the last answers to ARP and ICMP echo requests, of ETH0 and ETH1 (R525). -/
  answers : List (Nat × List Nat) := []
  /-- Frames of host traffic waiting in the MAC (R527), oldest first: medium, and the frame as its slot is to hold it. -/
  rxWait : List (Nat × List Byte) := []
  deriving DecidableEq, Repr

/-- One log slot (Table LOG-1). An unlisted slot is all zero. -/
structure LogRec where
  seq : Word := 0#32
  optime : Nat := 0
  cycles : Nat := 0
  cls : Nat := 0
  anchor : Bool := false
  reserve : Bool := false
  repSat : Bool := false
  retained : Bool := false
  code : BitVec 16 := 0#16
  source : BitVec 24 := 0#24
  rep : Nat := 0
  params : BitVec 64 := 0#64
  crc : BitVec 16 := 0#16
  mark : Byte := 0#8
  deriving DecidableEq, Repr

/-- An event as reported: class, code, source, parameters, whether it is an anchor, and its time stamps. -/
structure Event where
  cls : Nat := 0
  code : BitVec 16 := 0#16
  source : BitVec 24 := 0#24
  params : BitVec 64 := 0#64
  anchor : Bool := false
  optime : Nat := 0
  cycles : Nat := 0
  deriving DecidableEq, Repr

/-- A window of R543: the event's code, source and further parameter, its start and the record it repeats. -/
structure LogWindow where
  code : BitVec 16 := 0#16
  source : BitVec 24 := 0#24
  key : Nat := 0
  start : Nat := 0
  slot : Nat := 0
  seq : Word := 0#32
  deriving DecidableEq, Repr

/-- The event recorder (chapter 20). -/
structure LogState where
  /-- Slots 0 to 65,791, in MRAM and the reserve macro. -/
  slots : List (Nat × LogRec) := []
  /-- Next sequence number (R536). -/
  nextSeq : Word := 0#32
  /-- Sequence number of the first record written since the start (R521). -/
  startSeq : Word := 0#32
  /-- A record write is in progress (R532). -/
  busy : Bool := false
  /-- Staging queue, oldest first (R544). -/
  queue : List Event := []
  /-- Losses since the last 0x1102 and the first code lost (R545). -/
  lostRun : Nat := 0
  firstLost : BitVec 16 := 0#16
  lost : Word := 0#32
  ovw : Word := 0#32
  crcBad : Word := 0#32
  clearSeq : Word := 0#32
  /-- LOG_DROPc and the drops since the last 0x1103, by class (R541). -/
  drops : List Nat := [0, 0, 0, 0]
  dropRun : List Nat := [0, 0, 0, 0]
  failed : Bool := false
  scanDone : Bool := false
  lostSeen : Bool := false
  dropSeen : Bool := false
  /-- Retained records written since the last clear (R540). -/
  retainedRun : Nat := 0
  /-- Slot of the last record written (R542). -/
  last : Option Nat := none
  windows : List LogWindow := []
  /-- Latched by a read of LOG_HEAD_SEQ (R549). -/
  tailLatch : Word := 0#32
  ovwLatch : Word := 0#32
  deriving DecidableEq, Repr

/-- The array store (chapter 09) beside the STO registers. -/
structure StoState where
  /-- Point records written in the sample sets: key set × 32,768 + local point (R274). A record that is not listed reads
  as R250 and R251 state for a point without a valid sample since the start. -/
  smp : List (Nat × Option (BitVec 64)) := []
  /-- Set that intake writes, and set of the last closed epoch, by region; 16: none (R263, R281). -/
  cur : List Nat := [0, 2, 4, 6, 8, 10, 12, 14]
  last : List Nat := [1, 3, 5, 7, 9, 11, 13, 15]
  /-- Epoch each sample set was last filled for. -/
  smpEpoch : List (Nat × Word) := []
  /-- Point records in the retention slots: key (region × 4 + slot) × 32,768 + local point (R43). -/
  ret : List (Nat × Option (BitVec 64)) := []
  /-- Epoch each retention slot of a region was last written for: key region × 4 + slot. -/
  retEpoch : List (Nat × Word) := []
  /-- 64-bit words of the state sets' cell records, the string store and the block store: key BAR2 offset / 8. -/
  words : List (Nat × BitVec 64) := []
  /-- Bank test in progress: unit as STO_REJ.SET and bank (R289). -/
  bank : Option (Nat × Nat) := none
  deriving DecidableEq, Repr

/-- One entry of a string charge ring (R303): its epoch, charge in A·s, current, interval in s, and whether it was measured; a
substituted entry holds the charge and current of R304. -/
structure ChargeEntry where
  epoch : Word := 0#32
  q : Word := 0#32
  i : Word := 0#32
  dt : Word := 0#32
  valid : Bool := false
  deriving DecidableEq, Repr

/-- One entry of a phasor ring (Table RIP-2). -/
structure PhEntry where
  epoch : Word := 0#32
  i2re : Word := 0#32
  i2im : Word := 0#32
  i4re : Word := 0#32
  i4im : Word := 0#32
  valid : Bool := false
  deriving DecidableEq, Repr

/-- What the estimator keeps of a cell outside its state record. -/
structure CellX where
  /-- The cell is initialised (R307); its last update, none since the start. -/
  init : Bool := false
  upd : Option Word := none
  /-- Consecutive gated updates, the next measurement passes without the gate (R301), a host reset waits (R326). -/
  gated : Nat := 0
  skipGate : Bool := false
  reset : Bool := false
  /-- Its summary of the last update (Table EST-4), and the cullet age of that update. -/
  summary : List Byte := []
  age : Nat := 0
  /-- Lock-in window under way: its start, the samples added, the filter code of the first, spoiled (R332). -/
  winStart : Option Word := none
  winN : Nat := 0
  winFilter : Nat := 0
  spoiled : Bool := false
  /-- Schedule frequency and epoch of the window's last selected update (R334). -/
  winFreq : Word := 0#32
  /-- Windows since the last valid 2f result, saturating at 255 (Table RIP-2); a valid 2f and a valid 4f result have come. -/
  since2 : Nat := 0
  z2 : Bool := false
  z4 : Bool := false
  /-- Surface temperature last used, and whether there has been one (R342, R345). -/
  ts : Word := 0#32
  tUsed : Bool := false
  deriving DecidableEq, Repr

/-- Cell Estimation Array and ripple unit (chapters 10 and 11) beside the EST registers. -/
structure EstState where
  /-- String charge rings, at most 8 entries, and phasor rings, both by string and newest entry first (R303, R333). -/
  rings : List (Nat × List ChargeEntry) := []
  phs : List (Nat × List PhEntry) := []
  /-- Last valid I_k of a string (R304). -/
  lastI : List (Nat × Word) := []
  /-- Cells' own estimator state, by cell index. -/
  cells : List (Nat × CellX) := []
  /-- Region updates released at the close and not finished: bit r (R311). -/
  busy : BitVec 8 := 0#8
  /-- Cells finished in the last update, by region. -/
  finished : List Nat := [0, 0, 0, 0, 0, 0, 0, 0]
  /-- Epoch of the update in progress, and angle, frequency and lock of its sweep. -/
  updEpoch : Word := 0#32
  updAngle : Nat := 0
  updFreq : Word := 0#32
  updLocked : Bool := false
  /-- Cells that an overrun has left for the next update of their region (R32). -/
  owed : List Nat := []
  /-- Lanes that failed and wait for the next close: region and lane (R312). -/
  lanePend : List (Nat × Nat) := []
  /-- The compact state memory on CS1: by byte address (R322); an unlisted byte is erased. NO_MEMORY is a register. -/
  cs1 : List (Nat × Byte) := []
  /-- CS1 holds two banks (R322); bit r: the bank of the next save of region r. -/
  twoBanks : Bool := false
  bank : BitVec 8 := 0#8
  /-- Save in progress: its kind; a held SAVE_STATE (R323). -/
  saving : Option Nat := none
  held : Bool := false
  /-- Region that the save writes, and whether a sleep save waits for its end (R323, R324). -/
  saveAt : Nat := 0
  sleepNext : Bool := false
  saveSeq : Nat := 0
  /-- Operating time of the next periodic save, and of the last complete save (R323). -/
  nextSave : Nat := 0
  lastSave : Option Nat := none
  /-- The state restore of this start has ended (R325). -/
  restored : Bool := false
  /-- Excitation (R338 to R341): end of the active request, its number, its amplitude; stop messages left; the end of the last
  request; consecutive evaluations at or above LOW_SHARE; AMP and LOW_SHARE of the active request; STOP written since the last close; a message has
  been sent for the active request. -/
  excEnd : Nat := 0
  excNum : BitVec 16 := 0#16
  excAmp : Word := 0#32
  excStops : Nat := 0
  excLast : Option Nat := none
  excLow : Nat := 0
  excCfgAmp : Nat := 0
  excCfgLow : Nat := 0
  excStop : Bool := false
  excSent : Bool := false
  deriving DecidableEq, Repr

/-- Running minima of one string over a scan (R354): six limits, whether a cell has been evaluated, whether one gave 0 under
R353, the first such cell, and by limit the factor flags of the cell that sets it (bit 0 temperature, bit 1 SoC). -/
structure ScanMin where
  lim : List Word := []
  any : Bool := false
  zero : Bool := false
  zeroCell : Nat := 0
  flags : List Nat := []
  deriving DecidableEq, Repr

/-- State of power (chapter 12) beside the SOP registers. -/
structure SopState where
  /-- Minima of the last complete scan, by string (R354). -/
  last : List (Nat × ScanMin) := []
  /-- Strings whose record met an uncorrectable error; their limits are 0 until intake rewrites it (Table STO-4). -/
  hurt : List Nat := []
  /-- Limits of each string at the last step 8, for the ramp of R358, and the strings in the closed set then. -/
  prev : List (Nat × List Word) := []
  prevTime : Nat := 0
  prevClosed : List Nat := []
  /-- Operating times at which a string's derating ends: string × 2 + direction (0 charge, 1 discharge) (R357). -/
  derate : List (Nat × Nat) := []
  /-- Six array limits and two voltage limits of the last step 8, before the pair's factor. -/
  lim : List Word := [0#32, 0#32, 0#32, 0#32, 0#32, 0#32]
  vmax : Word := 0#32
  vmin : Word := 0#32
  /-- The message of kind 0x02 of the last step 8, bytes 0x0C to 0x17. -/
  energy : List Byte := [0, 0, 0, 0, 0, 0, 0, 0, 0, 0, 0, 0]
  /-- Flags 2, 3 and 4 of Table SOP-5 at the last step 8. -/
  flags : Nat := 0
  /-- A result waits to be sent (R364). -/
  fresh : Bool := false
  /-- Factor of the last message, in percent (R363). -/
  factor : Nat := 0
  /-- Epoch closes since the last result (R365). -/
  closes : Nat := 0
  /-- Limits sent, newest first: safety cycle from which they were in force, and the six values (R378). -/
  sent : List (Nat × List Word) := []
  /-- Epoch and flags of the last result, and its number of closed strings. -/
  epoch : Word := 0#32
  /-- Epoch whose step 8 has been released and not finished (R362). -/
  step : Option Word := none
  deriving DecidableEq, Repr

/-- A Lehr cause that is active or counting its clear time (R389): kind, instance, and safety cycles for which it has been clear. -/
structure LehrCause where
  kind : Nat := 0
  inst : Nat := 0
  clear : Nat := 0
  deriving DecidableEq, Repr

/-- Disconnect decisions (chapter 13) beside the DSC registers. -/
structure DscState where
  /-- Condition bits each core has raised since the last boundary (R371): bit n for trigger n, bit 0x20 + k for Lehr kind k. -/
  condG : BitVec 64 := 0#64
  condS : BitVec 64 := 0#64
  /-- The combined word (OR) of the last boundary, for R375. -/
  held : BitVec 64 := 0#64
  /-- Requests that wait for the next boundary (R374): ACK, ACK_SD0 and MAINT_EXIT with what the trip test of each path gives. -/
  ackReq : Option (Bool × Bool) := none
  ack0Req : Option (Bool × Bool) := none
  exitReq : Option (Bool × Bool) := none
  maintReq : Bool := false
  /-- DSM2 as each core measures it (R422). -/
  vlG : Word := 0#32
  vlS : Word := 0#32
  /-- Active Lehr causes (R389), and those known since entry to LEHR (Table DSC-6), as kind × 128 + instance. -/
  lehr : List LehrCause := []
  known : List Nat := []
  /-- Safety cycles since the start of SD1 or SD0, and since the coils were switched off. -/
  sdT : Nat := 0
  offT : Nat := 0
  /-- Each core's own current at the start of SD1 (R381), its envelope compares so far, and those in a row above (R383). -/
  i0A : Word := 0#32
  i0B : Word := 0#32
  envN : List Nat := [0, 0]
  envAbove : List Nat := [0, 0]
  /-- Remaining safety cycles in which SD0 repeats the demand (R380); the last one after an SD1's opening. -/
  demand : Nat := 0
  /-- The coils are off in this disconnection (Table DSC-3, flag bit 2). -/
  coilsOff : Bool := false
  /-- Coil pairs that were on when the coils were switched off (R388). -/
  wasOn : BitVec 8 := 0#8
  /-- The break condition has been reached (R384): opens at the next boundary. -/
  breakDue : Bool := false
  /-- Lehr (R390): minutes of operating time used, as minute numbers, newest first; the allowed minutes and those used in this
  LEHR; the allowed duration was set by the budget. -/
  used : List Nat := []
  allowed : Nat := 0
  minutes : Nat := 0
  byBudget : Bool := false
  /-- Safety cycles for which every Lehr cause has been clear, and the end of its 60 s. -/
  clearT : Nat := 0
  clearDue : Bool := false
  /-- Consecutive epochs at or above CULLET_SD1, and below CULLET_LEHR (R379, Table DSC-5). -/
  runSd1 : Nat := 0
  runClear : Nat := 0
  deriving DecidableEq, Repr

/-- One string's sequencer (Table CTR-4). -/
structure StrX where
  state : Nat := 0
  /-- Drivers last confirmed by a CTR_SET response of status 0 (bits of Table NODE-8), and whether one has come in this state. -/
  acked : Nat := 0
  ackHere : Bool := false
  /-- A CTR_SET is under way, with its drivers; CTR_SETs of this state that have failed. -/
  req : Option Nat := none
  tries : Nat := 0
  /-- Last CONTACTOR byte in valid data, and whether the data of the last closed epoch were valid. -/
  contactor : BitVec 8 := 0#8
  valid : Bool := false
  /-- Last difference of inputs 3 and 2 in 0.1 V, where it was taken (R407). -/
  diff : Nat := 0
  /-- Safety cycles for which every token sent to it has carried the open command or zero (R612). -/
  openT : Nat := 0
  deriving DecidableEq, Repr

/-- Contactor sequencer (chapter 14) beside the CTR registers. -/
structure CtrState where
  strs : List (Nat × StrX) := []
  /-- Strings in lead order that have not been lead (R409), the lead, and the strings of this close. -/
  order : List Nat := []
  lead : Nat := 0
  group : List Nat := []
  /-- Strings of the group that wait for the next sweep (R409). -/
  todo : List Nat := []
  /-- String of a join in progress. -/
  joining : Option Nat := none
  /-- Safety cycles since the present array step began; its wait has ended (R411). -/
  stepT : Nat := 0
  waitOk : Bool := false
  /-- The pre-charge has ended: passed or failed, with its code; at the next boundary it takes effect (R412, R413). -/
  result : Option (Bool × Nat) := none
  /-- ABORT was written in this safety cycle (R403); a close request was (R402). -/
  abort : Bool := false
  closeReq : Bool := false
  /-- Weld findings of this safety cycle (R415): pairs, strings. -/
  freshP : BitVec 8 := 0#8
  freshS : List Nat := []
  /-- String whose CTR_SET went last on a chain, plus 1 (R406). -/
  turns : List (Nat × Nat) := []
  /-- Operating time at which the cool-down ends (R401). -/
  coolEnd : Nat := 0
  deriving DecidableEq, Repr

/-- A frame to be sent on a connection (R480): kind, connection, payload. -/
structure SflMsg where
  kind : Nat := 0
  conn : Nat := 0
  payload : List Byte := []
  deriving DecidableEq, Repr

/-- One connection's own state (R475 to R478). -/
structure SflConn where
  /-- Sequence restart value of the latest connect frame. -/
  restart : Nat := 0
  /-- Send times of the last 256 frames: sequence number and safety-cycle number. -/
  sent : List (Nat × Nat) := []
  /-- Safety cycles since the last watchdog restart, and since the last frame sent. -/
  wd : Option Nat := none
  idle : Nat := 0
  deriving DecidableEq, Repr

/-- Safe frame layer (chapter 17) beside the SFL registers. -/
structure SflState where
  conns : List (Nat × SflConn) := []
  /-- Received frames that wait for the next boundary, oldest first (R474): connection and bytes. -/
  rx : List (Nat × List Byte) := []
  /-- Frames carried over from the last cycle, and frames due in the coming one (R480). -/
  tx : List SflMsg := []
  due : List SflMsg := []
  deriving DecidableEq, Repr

/-- An entry of the replay unit (R440): the Gaffer's retire count, the debug command and its two arguments. -/
structure ReplayEntry where
  retire : Nat := 0
  op : Nat := 0
  addr : Word := 0#32
  data : Word := 0#32
  deriving DecidableEq, Repr

/-- The safety pair (chapter 15) beside the PAIR registers. -/
structure PairState where
  /-- Number k of the safety cycle. -/
  cycle : Word := 0#32
  /-- A cycle is running, and the cycle and digest that the cross-comparison unit holds for its next comparison (R425, R427). -/
  running : Bool := false
  held : Option (Nat × Word) := none
  /-- Retire count of the Gaffer, 48 bits, and its high part as latched (R443). -/
  retire : Nat := 0
  hiLatch : Nat := 0
  replay : List ReplayEntry := []
  /-- Matching checkpoints in Rejoining; the reload has completed (R438). -/
  matched : Nat := 0
  reloaded : Bool := false
  /-- The Gaffer, and the Servitor through the replay unit, are halted. -/
  haltG : Bool := false
  haltS : Bool := false
  /-- A rejoin, a split or an orderly resume waits for the next boundary: the mode to be taken. -/
  nextMode : Option Nat := none
  /-- SPLIT has been written in this safety cycle (R435). -/
  splitReq : Bool := false
  /-- The backstop has been armed once since the start (R429). -/
  armed : Bool := false
  /-- Token delivery is blocked by the backstop (R429). -/
  blocked : Bool := false
  /-- Time-base periods out of range in consecutive cycles, of each core (R421), and checkpoints for which the check waits (R442). -/
  tbG : Nat := 0
  tbS : Nat := 0
  tbWait : Nat := 0
  /-- The Servitor's calibration record in MRAM: Hall zero and DSM3 ratio (R437); those in use since the last rejoin. -/
  hallZero : Int := 0
  dsmRatio : Int := 0
  hallUse : Int := 0
  dsmUse : Int := 0
  /-- Output record of this cycle (R424): messages, and CTR_SET requests as string and request byte. -/
  outMsgs : List SflMsg := []
  outSets : List (Nat × Nat) := []
  /-- Hall land test (R65): the land whose turn it is (HALL_P first), and tests in a row in which each land moved. -/
  hallNext : Bool := false
  hallMoves : List Nat := [0, 0]
  /-- A start-up trip test has failed: stage 1 is held (R462). -/
  tripHeld : Bool := false
  deriving DecidableEq, Repr

/-- Safety inputs and outputs (chapter 16) beside the SIO registers. -/
structure SioState where
  /-- Raw levels of SINnA and SINnB, bit n. -/
  rawA : BitVec 8 := 0#8
  rawB : BitVec 8 := 0#8
  /-- Combined reading of the last safety-cycle boundary: inputs in disagreement. -/
  disagree : BitVec 8 := 0#8
  /-- Discrepancy timers in safety cycles (R451), by input. -/
  discT : List Nat := [0, 0, 0, 0, 0, 0, 0, 0]
  /-- Safety cycles for which both channels have read open together (R452, R455), by input. -/
  bothOpen : List Nat := [0, 0, 0, 0, 0, 0, 0, 0]
  /-- Both channels have read open together for 20 ms since the discrepancy fault was latched (R452). -/
  openSeen : BitVec 8 := 0#8
  /-- The same, since no discrepancy fault was latched (R455). -/
  proofSeen : BitVec 8 := 0#8
  /-- Proof status in MRAM: digest of the image and operating time of the last proof (R456), by input. -/
  proofDigest : List (List Byte) := [[], [], [], [], [], [], [], []]
  proofTime : List Nat := [0, 0, 0, 0, 0, 0, 0, 0]
  /-- Proof mode 1: proven since power-on (Table SIO-4). -/
  proven : BitVec 8 := 0#8
  /-- Commands of the pair to HS0 to HS7 and LS0 to LS7 (R457): the gates that are on. -/
  gateHs : BitVec 8 := 0#8
  gateLs : BitVec 8 := 0#8
  /-- SD0 latches of the two cores (R461). -/
  sd0A : Bool := false
  sd0B : Bool := false
  /-- A TPO output is in its test pulse (R453): bit 0 TPO_A, bit 1 TPO_B. -/
  tpoPulse : BitVec 2 := 0#2
  /-- Coil switches in an off-pulse (R458). -/
  pulseHs : BitVec 8 := 0#8
  pulseLs : BitVec 8 := 0#8
  /-- Coil switches whose trigger 0x16 cause stands: bit k HSk, bit 8 + k LSk (R459). -/
  coilBad : BitVec 16 := 0#16
  /-- Coil lands found to stay on, and to stay off, against their command (R459), in the same order. -/
  stuckOn : BitVec 16 := 0#16
  stuckOff : BitVec 16 := 0#16
  /-- The trip test of a path has failed and its cause stands (R462, R463): bit 0 path A, bit 1 path B. -/
  pathFail : BitVec 2 := 0#2
  deriving DecidableEq, Repr

/-- One switch channel's own state (chapter 18) beside its SW registers. -/
structure SwChan where
  /-- 0, 2 WAIT or 3 LATCHED_OFF (Table SW-2). -/
  latch : Nat := 0
  /-- The supply has just been regained, which switches nothing on; a coil channel stays off until its pair is commanded off (R98). -/
  regained : Bool := false
  /-- The supply has been regained and the command of the source has not changed since: the fail-safe state is in force (R98). -/
  fromSafe : Bool := false
  /-- Operating times, in ms, at which the counted restarts leave the window (R497). -/
  retries : List Nat := []
  /-- Consecutive checks that show, and that do not show, the findings open, short and end to GND (R499). -/
  seen : List Nat := [0, 0, 0]
  gone : List Nat := [0, 0, 0]
  /-- Coil channel: the thermal latch holds it off until its core commands it off (R498). -/
  thermHold : Bool := false
  deriving DecidableEq, Repr

/-- Protected switch channels (chapter 18) beside the SW registers. -/
structure SwState where
  chans : List (Nat × SwChan) := []
  /-- Output levels of the generators, bit g, and the settings in force in the present period: SW_GENg_F and SW_GENg_P (R489). -/
  gen : BitVec 8 := 0#8
  genF : List Word := [0, 0, 0, 0, 0, 0, 0, 0]
  genP : List Word := [0, 0, 0, 0, 0, 0, 0, 0]
  /-- Serial watchdog (R491): operating time of the last correct key. -/
  lastKey : Nat := 0
  /-- Serial watchdog: correct keys since unarmed or expired. -/
  keys : Nat := 0
  /-- Control sources frozen at an expiry (R492): ON bits and IN levels, bit j for HS(8 + j). -/
  frozenOn : BitVec 8 := 0#8
  frozenIn : BitVec 8 := 0#8
  /-- Operating time since which the sum has stayed above 18 A (R495). -/
  overSince : Option Nat := none
  /-- Shedding is in progress (R495). -/
  shedding : Bool := false
  deriving DecidableEq, Repr

/-- One copy of the repair record in MRAM (R564). (DESIGN CHOICE, log 21) -/
structure RepairCopy where
  valid : Bool := false
  seq : Word := 0#32
  /-- DIAG_REP_STAT bits 31 to 4 and the spare banks of STO_STAT bits 23 to 8 of this record. -/
  stat : Word := 0#32
  spares : Word := 0#32
  deriving DecidableEq, Repr

/-- Diagnostics (chapter 21) beside the DIAG registers. -/
structure DiagState where
  /-- Operating time of the last accepted snapshot trigger (R83), and SNAP_OUT. -/
  lastTrig : Option Nat := none
  snapOut : Bool := false
  /-- Pinned epochs, oldest first, with their slots (R44). -/
  pins : List (Word × Nat) := []
  /-- Repair record: two copies, and the fuse map (R564). -/
  repA : RepairCopy := ⟨true, 0#32, 0#32, 0#32⟩
  repB : RepairCopy := ⟨true, 0#32, 0#32, 0#32⟩
  /-- Consecutive abandoned steps of scratchpad windows 4 to 31 (R561). -/
  abandon : List (Nat × Nat) := []
  /-- The phase of the window step in progress: its abandon has been taken. -/
  abandoned : Bool := false
  /-- Stage 1 is held by a start-up failure (R462, R562). -/
  stage1Held : Bool := false
  /-- Next step of the background rotation (R560). -/
  bgNext : Nat := 0
  /-- Start-up tests are complete (R559). -/
  testsDone : Bool := false
  /-- Gaffer memory and registers written through the debug port; a value that nothing has written is free. -/
  gmem : List (Nat × Option Word) := []
  gregs : List (Nat × Option Word) := []
  /-- Breakpoints armed. -/
  bkpts : List Word := []
  /-- TRST_N is high; low, its pull-down included, it holds the TAP in reset (R89). -/
  trstHigh : Bool := false
  deriving DecidableEq, Repr

/-- The whole module, its nodes, and the queue of commands that wait. -/
structure State where
  /-- BAR0 registers that differ from their reset values: byte address and word (R23). -/
  regs : List (Nat × Word) := []
  /-- Commands that wait, first in first out. -/
  pending : List Instr := []
  /-- The model's own count of free values drawn. -/
  free : Nat := 0
  /-- What has left the module, newest first. -/
  out : List Output := []
  pwr : PwrState := {}
  img : ImgState := {}
  ang : AngState := {}
  chains : List (Nat × ChainX) := []
  nodes : List (Nat × NodeX) := []
  swp : SwpState := {}
  sto : StoState := {}
  est : EstState := {}
  sop : SopState := {}
  dsc : DscState := {}
  ctr : CtrState := {}
  pair : PairState := {}
  sio : SioState := {}
  sfl : SflState := {}
  sw : SwState := {}
  host : HostState := {}
  log : LogState := {}
  diag : DiagState := {}
  deriving DecidableEq, Repr

/-- Closed: the spec gives the module no fault that stops it; every condition it names is a register, an event or a mode. -/
inductive Fault where
  /-- Raised by no command; safe. -/
  | impossible
  deriving DecidableEq, Repr

/-- Refusals of the model. -/
inductive Refusal where
  /-- Raised by an arm of `exec` whose command has no meaning yet; safe. -/
  | notModelled (mnemonic : String)
  deriving DecidableEq, Repr

/-- The module without supply: registers at their reset values, memories blank, nothing waiting (R92). (DESIGN CHOICE, log 2) -/
def State.reset : State := {}

end Sys2Proof.Machine
end

