-- ==== Sys2Proof/Machine/Regs.lean ====
section
/-! DEFINITION. Registers and their fields: how every meaning reads and writes them. -/

namespace Sys2Proof.Machine

/-- The register a BAR0 address lies in, if any (Table REG-5). -/
def RegSpec.hit (r : RegSpec) (a : Nat) : Bool :=
  let off := a - r.base
  let rem := off % r.s1
  decide (r.base ≤ a) && decide (off / r.s1 < r.c1) && rem % r.s2 == 0 && decide (rem / r.s2 < r.c2)

/-- The register at a BAR0 address. -/
def lookupReg (a : Nat) : Option RegSpec := regMap.find? (fun r => r.hit a)

/-- The word a list of fields has after reset. -/
def fieldsReset (fs : List FieldSpec) : Nat := fs.foldl (fun acc f => acc + (f.reset % 2 ^ f.w) * 2 ^ f.lo) 0

/-- The reset word of a register address; 0 where Table REG-5 has none. -/
def resetWord (a : Nat) : Word :=
  match lookupReg a with
  | none => 0#32
  | some r => BitVec.ofNat 32 (fieldsReset r.fields)

/-- The word of a register as held. -/
def State.word (s : State) (a : Nat) : Word := Sparse.get resetWord s.regs a

/-- The state with a register word replaced. -/
def State.setWord (s : State) (a : Nat) (w : Word) : State := { s with regs := Sparse.set resetWord s.regs a w }

/-- The value of a register field. -/
def State.get (s : State) (f : Fld) : Nat := bitsOf (s.word f.addr).toNat f.lo f.w

/-- A one-bit field. -/
def State.getB (s : State) (f : Fld) : Bool := s.get f != 0

/-- The state with one register field replaced. -/
def State.put (s : State) (f : Fld) (v : Nat) : State :=
  s.setWord f.addr (BitVec.ofNat 32 (setBits (s.word f.addr).toNat f.lo f.w v))

/-- The state with a one-bit field replaced. -/
def State.putB (s : State) (f : Fld) (b : Bool) : State := s.put f (b2n b)

/-- Writes a list of fields. -/
def State.putAll (s : State) (l : List (Fld × Nat)) : State := l.foldl (fun s p => s.put p.1 p.2) s

/-- A saturating counter raised by `n`. -/
def State.incBy (s : State) (f : Fld) (n : Nat) : State := s.put f (satNat (2 ^ f.w - 1) (s.get f + n))

/-- A saturating counter raised by 1. -/
def State.inc (s : State) (f : Fld) : State := s.incBy f 1

/-- Bit `i` of a field. -/
def State.bit (s : State) (f : Fld) (i : Nat) : Bool := (s.get f).testBit i

/-- Bit `i` of a field replaced. -/
def State.putBit (s : State) (f : Fld) (i : Nat) (b : Bool) : State := s.put f (setBits (s.get f) i 1 (b2n b))

/-- A word register as fp32 or u32. -/
def State.getW (s : State) (f : Fld) : Word := s.word f.addr

/-- A word register replaced. -/
def State.putW (s : State) (f : Fld) (w : Word) : State := s.setWord f.addr w

/-- The main domain is powered and out of stage 0 (R92, R106). -/
def State.stage (s : State) : Nat := s.get R.GLOBAL_STAGE_STAGE

/-- The safety state (Table SCOPE-7). -/
def State.safety (s : State) : Nat := s.get R.DSC_STATE_STATE

end Sys2Proof.Machine
end

