-- ==== Sys2Proof/Machine/Flags.lean ====
section
/-! DEFINITION. The flags of GLOBAL_STATUS and the conditions they show (R580, Table REG-4). -/

namespace Sys2Proof.Machine

/-- A chain's link state is ENUM_FAULT or PARTIAL. -/
def linkBad (p : Nat × Word) : Bool :=
  decide (0x10000 ≤ p.1) && decide (p.1 < 0x20000) && (p.1 - 0x10000) % 0x400 == 0 &&
    (bitsOf p.2.toNat 0 3 == 5 || bitsOf p.2.toNat 0 3 == 6)

/-- A string weld is reported (R415). -/
def State.strWeld (s : State) : Bool := (List.range 16).any (fun m => s.get (R.CTR_STRWELD m) != 0)

/-- A pair or string weld is reported (R415). -/
def State.anyWeld (s : State) : Bool := s.get R.CTR_STAT_PAIR_WELD != 0 || s.strWeld

/-- Bits 8 to 17 of GLOBAL_STATUS, live (Table REG-4). (DEDUCED, log 89) -/
def State.statusFlags (s : State) : Nat :=
  b2n (s.get R.DSC_STATE_STATE == 5)
  + 2 * b2n (s.getB R.PAIR_STAT_FAULT)
  + 4 * b2n s.anyWeld
  + 8 * b2n (s.get R.EST_STAT_REGION_FAULT != 0)
  + 16 * b2n s.log.failed
  + 32 * b2n (s.getB R.DIAG_BG_STAT_LENDING_OFF)
  + 64 * b2n (s.getB R.GLOBAL_STAGE_FOREIGN_IMAGE || s.getB R.GLOBAL_STAGE_CHECK_FAILED)
  + 128 * b2n (s.get R.PWR_STAT_VSW_LOST != 0)
  + 256 * b2n (s.regs.any linkBad)
  + 512 * b2n (s.get R.SIO_OUT_HS_TESTFAIL != 0 || s.get R.SIO_OUT_LS_TESTFAIL != 0 || s.getB R.SIO_TRIP_CHECK_FAIL)

/-- GLOBAL_STATUS, live (R580). -/
def State.globalStatus (s : State) : Nat :=
  b2n (s.statusFlags != 0) + 16 * s.get R.DSC_STATE_STATE + 256 * s.statusFlags

/-- A flag of bits 8 to 17 has risen (R580). -/
def rises (old new : Nat) : Bool := (List.range 10).any (fun i => new.testBit i && !old.testBit i)

end Sys2Proof.Machine
end

