-- ==== Sys2Proof/Machine/Ops.lean ====
section
/-! DEFINITION. Named operations over outputs, interrupt causes and free values, and the outcome of a command; every meaning is written with them. -/

namespace Sys2Proof.Machine

/-- Something leaves the module. (DESIGN CHOICE, log 90) -/
def State.emit (s : State) (o : Output) : State := { s with out := o :: s.out }

/-- A free value and the state that has drawn it. (DESIGN CHOICE, log 7) -/
def State.draw (s : State) : BitVec 64 × State := (Config.freeValue s.free, { s with free := s.free + 1 })

/-- A message on an MSI-X vector (R524): sent, or kept pending while the vector is masked or no message can leave. (DEDUCED, log 83) -/
def State.sendVector (s : State) (v : Nat) : State :=
  if s.getB (R.MSIX_VCTRL_MASKED v) || !(s.host.linkUp && s.host.busMaster) then
    { s with host := { s.host with pba := s.host.pba ||| (1#72 <<< v) } }
  else s.emit (.msix v)

/-- Sets a cause bit of HOST_ICAUSE: a message leaves when an unmasked bit sets (R524). Bit 8 is MBOX. -/
def State.setCause (s : State) (j : Nat) : State :=
  if s.host.icause.getLsbD j then s
  else
    let s' := { s with host := { s.host with icause := s.host.icause ||| (1#9 <<< j) } }
    if j = 8 then
      if s.getB R.HOST_IMASK_MBOX_MASK || decide (72 ≤ s.get R.HOST_IMASK_MBOX_VEC) then s'
      else s'.sendVector (s.get R.HOST_IMASK_MBOX_VEC)
    else if s.bit R.HOST_IMASK_MASK j then s'
    else s'.sendVector (64 + j)

/-- Each rise of a GLOBAL_STATUS flag sets cause bit 0 (R580). (DEDUCED, log 89) -/
def riseCause (old new : State) : State := if rises old.statusFlags new.statusFlags then new.setCause 0 else new

/-- The outcome of a command: its new state, with the fault summary's cause. -/
def finish (old new : State) : Host.Outcome State Fault Refusal := .next (riseCause old new)

/-- A password session is open (R137). -/
def State.session (s : State) : Bool := s.getB R.IMG_STAT_SESSION

/-- Operating time in ms (R97). -/
def State.now (s : State) : Nat := s.pwr.optime

/-- Applies a command only while the main domain is powered. (DESIGN CHOICE, log 6) -/
def whenOn (s : State) (f : State → State) : State := if s.pwr.mainOn then f s else s

/-- A full cycle of an angle, in 2^-16 au (R153). -/
def turn : Nat := 2 ^ 32
/-- The schedule angle in au. -/
def AngState.au (a : AngState) : Nat := a.sched / 65536 % 65536
/-- The slip in au, modulo one cycle: the schedule angle less the mains angle (R151). -/
def AngState.slip (a : AngState) : Nat := (a.sched + turn - a.mains % turn) % turn / 65536

/-- Applies a list of updates in order. -/
def forAll {α : Type} (l : List α) (f : α → State → State) (s : State) : State := l.foldl (fun s a => f a s) s

end Sys2Proof.Machine
end

