-- ==== Sys2Proof/Machine/ImgTab.lean ====
section
/-! DEFINITION. Reading the loaded image: its sections and the records of chapter 04 (Tables IMG-3 to IMG-9). -/

namespace Sys2Proof.Machine

/-- An image as read: bytes by image offset, and the directory as type, offset, length. -/
structure Img where
  data : List (Nat × Byte)
  dir : List (Nat × Nat × Nat)
  deriving DecidableEq, Repr

/-- An unlisted byte of the NOR is erased. (DESIGN CHOICE, log 3) -/
def erased (_ : Nat) : Byte := 0xFF#8

/-- The byte at an image offset. -/
def Img.byte (i : Img) (a : Nat) : Nat := (Sparse.get erased i.data a).toNat

/-- Offset and length of a section. -/
def Img.sec (i : Img) (t : Nat) : Option (Nat × Nat) := (i.dir.find? (fun e => e.1 == t)).map (fun e => e.2)

/-- The section is present. -/
def Img.has (i : Img) (t : Nat) : Bool := (i.sec t).isSome

/-- A byte of a section; 0 beyond it or without it. -/
def Img.u8 (i : Img) (t o : Nat) : Nat :=
  match i.sec t with
  | none => 0
  | some (b, n) => if o < n then i.byte (b + o) else 0

/-- Little-endian values of a section (R13). -/
def Img.u16 (i : Img) (t o : Nat) : Nat := i.u8 t o + 256 * i.u8 t (o + 1)
def Img.u32 (i : Img) (t o : Nat) : Nat := i.u16 t o + 65536 * i.u16 t (o + 2)
def Img.f32 (i : Img) (t o : Nat) : Word := BitVec.ofNat 32 (i.u32 t o)
def Img.i32 (i : Img) (t o : Nat) : Int := signedOf 32 (i.u32 t o)
def Img.bit (i : Img) (t o b : Nat) : Bool := (i.u8 t o).testBit b
def Img.bytes (i : Img) (t o n : Nat) : List Byte := (List.range n).map (fun k => BitVec.ofNat 8 (i.u8 t (o + k)))

/-- The loaded image of a state. -/
def State.tab (s : State) : Img := ⟨s.img.data, s.img.dir⟩

/-! Chain map (Tables IMG-4, IMG-5): chain header and node entry, with hop index h = hop - 1. -/
def Img.chainOn (i : Img) (c : Nat) : Bool := i.bit 1 (2064 * c) 0
def Img.chainRing (i : Img) (c : Nat) : Bool := i.bit 1 (2064 * c) 1
def Img.chainIdCheck (i : Img) (c : Nat) : Bool := i.bit 1 (2064 * c) 2
def Img.nodes (i : Img) (c : Nat) : Nat := i.u8 1 (2064 * c + 1)
def Img.nodeOff (c h : Nat) : Nat := 2064 * c + 16 + 16 * h
def Img.nodeType (i : Img) (c h : Nat) : Nat := i.u8 1 (Img.nodeOff c h)
def Img.nodeFilter (i : Img) (c h : Nat) : Nat := i.u8 1 (Img.nodeOff c h + 1)
def Img.nodeProfile (i : Img) (c h : Nat) : Nat := i.u8 1 (Img.nodeOff c h + 2)
def Img.nodeString (i : Img) (c h : Nat) : Nat := i.u16 1 (Img.nodeOff c h + 4)
def Img.nodeUid (i : Img) (c h : Nat) : Nat := i.u32 1 (Img.nodeOff c h + 8) + 2 ^ 32 * i.u32 1 (Img.nodeOff c h + 12)

/-! String map (Tables IMG-6, CTR-2). -/
def Img.strOn (i : Img) (n : Nat) : Bool := i.bit 2 (32 * n) 0
def Img.strShuntNeg (i : Img) (n : Nat) : Bool := i.bit 2 (32 * n) 1
def Img.strChain (i : Img) (n : Nat) : Nat := i.u8 2 (32 * n + 2)
def Img.strHop (i : Img) (n : Nat) : Nat := i.u8 2 (32 * n + 3)
def Img.strTokenMs (i : Img) (n : Nat) : Nat := i.u16 2 (32 * n + 4)
def Img.strShuntR (i : Img) (n : Nat) : Nat := i.u16 2 (32 * n + 6)
def Img.strMaxChg (i : Img) (n : Nat) : Word := i.f32 2 (32 * n + 12)
def Img.strMaxDis (i : Img) (n : Nat) : Word := i.f32 2 (32 * n + 16)
def Img.strJoinDv (i : Img) (n : Nat) : Nat := i.u16 2 (32 * n + 0x18)
def Img.strPre (i : Img) (n : Nat) : Bool := i.bit 2 (32 * n + 0x1A) 0
def Img.strVerifyMs (i : Img) (n : Nat) : Nat := i.u16 2 (32 * n + 0x1C)

/-- Strings that are enabled. -/
def Img.strings (i : Img) : List Nat := (List.range 512).filter i.strOn

/-! Limit classes and tables (Table IMG-7): path 0 A, 1 B. -/
def Img.classCount (i : Img) (path : Nat) : Nat := i.u16 3 (2 * path)
def Img.classOff (i : Img) (path k : Nat) : Nat := 16 + 16 * ((if path = 0 then 0 else i.classCount 0) + (k - 1))
def Img.classOf (i : Img) (path point : Nat) : Nat := i.u8 (4 + path) point
def Img.classKind (i : Img) (path k : Nat) : Nat := i.u8 3 (i.classOff path k)
def Img.classReaction (i : Img) (path k : Nat) : Nat := i.u8 3 (i.classOff path k + 1)
def Img.classPersist (i : Img) (path k : Nat) : Nat := i.u8 3 (i.classOff path k + 2)
def Img.classLead (i : Img) (path k : Nat) : Bool := i.bit 3 (i.classOff path k + 3) 0
def Img.classLow (i : Img) (path k : Nat) : Int := i.i32 3 (i.classOff path k + 4)
def Img.classHigh (i : Img) (path k : Nat) : Int := i.i32 3 (i.classOff path k + 8)
def Img.classBudget (i : Img) (path k : Nat) : Nat := i.u16 3 (i.classOff path k + 12)
def Img.classDrop (i : Img) (path k : Nat) : Nat := i.u16 3 (i.classOff path k + 14)

/-! Schedule (Table IMG-8). -/
def Img.schedS (i : Img) : Nat := i.u8 7 0
def pAu (code : Nat) : Nat := if code = 0 then 0 else 128 * 2 ^ code
def Img.schedP (i : Img) : Nat := pAu (i.u8 7 1)
def Img.schedD (i : Img) : Nat := i.u8 7 2
def Img.schedSrc (i : Img) : Nat := i.u8 7 3
def Img.fNom (i : Img) : Nat := i.u16 7 4
def Img.fMin (i : Img) : Nat := i.u16 7 6
def Img.fMax (i : Img) : Nat := i.u16 7 8
def Img.schedC (i : Img) : Nat := i.u16 7 10
def Img.schedT (i : Img) : Nat := i.u8 7 12
def Img.schedGate (i : Img) : Bool := i.u8 7 13 == 1
def Img.pubFlags (i : Img) : Nat := i.u16 7 14

/-! Safety parameters (Tables DSC-8, SIO-1, SIO-2, CTR-1): section 0x08. -/
def Img.sp8 (i : Img) (o : Nat) : Nat := i.u8 8 o
def Img.sp16 (i : Img) (o : Nat) : Nat := i.u16 8 o
def Img.spF (i : Img) (o : Nat) : Word := i.f32 8 o
def Img.inFunc (i : Img) (n : Nat) : Nat := i.u8 8 (0x500 + 16 * n)
def Img.inAnti (i : Img) (n : Nat) : Bool := i.bit 8 (0x501 + 16 * n) 0
def Img.inExt (i : Img) (n : Nat) : Bool := i.bit 8 (0x501 + 16 * n) 1
def Img.inDiscMs (i : Img) (n : Nat) : Nat := i.u16 8 (0x502 + 16 * n)
def Img.inProof (i : Img) (n : Nat) : Nat := i.u8 8 (0x504 + 16 * n)
def Img.inProofH (i : Img) (n : Nat) : Nat := i.u16 8 (0x506 + 16 * n)
def Img.inGraceH (i : Img) (n : Nat) : Nat := i.u16 8 (0x508 + 16 * n)
def Img.pairRole (i : Img) (k : Nat) : Nat := i.u8 8 (0x600 + k)
def Img.pairFb (i : Img) (k : Nat) : Nat := i.u8 8 (0x608 + k)
def Img.pcsPrecharge (i : Img) : Bool := i.bit 8 0x626 0
/-- Coil pairs of a role, as a bit map. -/
def Img.roleMask (i : Img) (r : Nat) : Nat := (List.range 8).foldl (fun m k => if i.pairRole k = r then m + 2 ^ k else m) 0

/-! Switch settings (Tables SW-6 to SW-8, SW-4): section 0x09. -/
def Img.swFlags (i : Img) : Nat := i.u8 9 0
def Img.swWdMs (i : Img) : Nat := i.u16 9 2
def Img.swRetryWin (i : Img) : Nat := i.u16 9 4
def Img.swByte (i : Img) (n o : Nat) : Nat := i.u8 9 (0x10 + 16 * n + o)

/-! Safe-frame connections (Table SFL-5): section 0x0B. -/
def Img.cnOff (n : Nat) : Nat := 16 + 32 * n
def Img.cnFlag (i : Img) (n b : Nat) : Bool := i.bit 11 (Img.cnOff n) b
def Img.cnMedium (i : Img) (n : Nat) : Nat := i.u8 11 (Img.cnOff n + 1)
def Img.cnTe (i : Img) (n : Nat) : Nat := i.u16 11 (Img.cnOff n + 2)
def Img.cnKinds (i : Img) (n : Nat) : Nat := i.u8 11 (Img.cnOff n + 8)
def Img.cnTx (i : Img) (n : Nat) : Nat := i.u32 11 (Img.cnOff n + 12)
def Img.cnRx (i : Img) (n : Nat) : Nat := i.u32 11 (Img.cnOff n + 16)
/-- The limit connection (R483: exactly one). -/
def Img.limitConn (i : Img) : Nat := ((List.range 16).find? (fun n => i.cnFlag n 0 && i.cnFlag n 1)).getD 16

/-- Point index of chain c, hop index h and input k (R9). -/
def pointOf (c h k : Nat) : Nat := c * 4096 + h * 32 + k

/-- Host traffic of a medium is enabled (Table HOST-9). -/
def Img.hostOn (i : Img) (m : Nat) : Bool := i.bit 14 0 (if m < 2 then 2 + m else m - 2)
/-- MAC and IPv4 address of an Ethernet port (Table HOST-9). -/
def Img.macAddr (i : Img) (m : Nat) : List Byte := i.bytes 14 (8 + 6 * (m - 2)) 6
def Img.ipAddr (i : Img) (m : Nat) : List Byte := i.bytes 14 (0x14 + 4 * (m - 2)) 4

/-- A CAN frame matches an enabled host filter of its controller (R526). -/
def Img.canFilter (i : Img) (m : Nat) (ident : Nat) : Bool :=
  (List.range 8).any (fun j =>
    let f := i.u32 14 (0x20 + 8 * j)
    let k := i.u32 14 (0x24 + 8 * j)
    f.testBit 31 && bitsOf f 30 1 == m && k.testBit 31 == ident.testBit 31 && bitsOf f 0 29 &&& bitsOf k 0 29 == bitsOf ident 0 29 &&& bitsOf k 0 29)

end Sys2Proof.Machine
end

