-- ==== Sys2Proof/Machine/Crc.lean ====
section
/-! DEFINITION. The check values and digests of the manual: CRC-16 of R180, CRC-32C and CRC-32K of R230, SHA-256 and HMAC-SHA-256 of R127 and R131. -/

namespace Sys2Proof.Machine

/-- One byte through an MSB-first CRC of 16 bits. -/
def crc16Byte (c : BitVec 16) (b : Byte) : BitVec 16 :=
  (List.range 8).foldl (fun (a : BitVec 16) _ => if a.msb then (a <<< 1) ^^^ 0xBAAD#16 else a <<< 1)
    (c ^^^ ((b.setWidth 16) <<< 8))

/-- The CRC of R180: polynomial 0xBAAD, initial value 0xFFFF, MSB first, no reflection, no final XOR. -/
def crc16 (bs : List Byte) : BitVec 16 := bs.foldl crc16Byte 0xFFFF#16

/-- One byte through a reflected 32-bit CRC whose reflected polynomial is `p`. -/
def crc32Byte (p : Word) (c : Word) (b : Byte) : Word :=
  (List.range 8).foldl (fun (a : Word) _ => if a.getLsbD 0 then (a >>> 1) ^^^ p else a >>> 1) (c ^^^ b.setWidth 32)

/-- CRC-32C of R230: polynomial 0x1EDC_6F41, reflected, initial value and final XOR all ones. -/
def crc32c (bs : List Byte) : Word := (bs.foldl (crc32Byte 0x82F63B78#32) 0xFFFFFFFF#32) ^^^ 0xFFFFFFFF#32

/-- CRC-32K of R230: polynomial 0x741B_8CD7 in normal notation, reflected, initial value and final XOR all ones. -/
def crc32k (bs : List Byte) : Word := (bs.foldl (crc32Byte 0xEB31D82E#32) 0xFFFFFFFF#32) ^^^ 0xFFFFFFFF#32

/-- The SHA-256 round constants. -/
def shaK : List Word :=
  [0x428a2f98#32, 0x71374491#32, 0xb5c0fbcf#32, 0xe9b5dba5#32, 0x3956c25b#32, 0x59f111f1#32, 0x923f82a4#32, 0xab1c5ed5#32,
   0xd807aa98#32, 0x12835b01#32, 0x243185be#32, 0x550c7dc3#32, 0x72be5d74#32, 0x80deb1fe#32, 0x9bdc06a7#32, 0xc19bf174#32,
   0xe49b69c1#32, 0xefbe4786#32, 0x0fc19dc6#32, 0x240ca1cc#32, 0x2de92c6f#32, 0x4a7484aa#32, 0x5cb0a9dc#32, 0x76f988da#32,
   0x983e5152#32, 0xa831c66d#32, 0xb00327c8#32, 0xbf597fc7#32, 0xc6e00bf3#32, 0xd5a79147#32, 0x06ca6351#32, 0x14292967#32,
   0x27b70a85#32, 0x2e1b2138#32, 0x4d2c6dfc#32, 0x53380d13#32, 0x650a7354#32, 0x766a0abb#32, 0x81c2c92e#32, 0x92722c85#32,
   0xa2bfe8a1#32, 0xa81a664b#32, 0xc24b8b70#32, 0xc76c51a3#32, 0xd192e819#32, 0xd6990624#32, 0xf40e3585#32, 0x106aa070#32,
   0x19a4c116#32, 0x1e376c08#32, 0x2748774c#32, 0x34b0bcb5#32, 0x391c0cb3#32, 0x4ed8aa4a#32, 0x5b9cca4f#32, 0x682e6ff3#32,
   0x748f82ee#32, 0x78a5636f#32, 0x84c87814#32, 0x8cc70208#32, 0x90befffa#32, 0xa4506ceb#32, 0xbef9a3f7#32, 0xc67178f2#32]

/-- The SHA-256 initial hash. -/
def shaInit : List Word :=
  [0x6a09e667#32, 0xbb67ae85#32, 0x3c6ef372#32, 0xa54ff53a#32, 0x510e527f#32, 0x9b05688c#32, 0x1f83d9ab#32, 0x5be0cd19#32]

/-- Rotation right of a word. -/
def rotr (w : Word) (n : Nat) : Word := (w >>> n) ||| (w <<< (32 - n))

/-- The message schedule, held newest word first, extended by `n` words. -/
def shaExtend : Nat → List Word → List Word
  | 0, ws => ws
  | n + 1, ws =>
    let w2 := nth 0#32 ws 1; let w7 := nth 0#32 ws 6; let w15 := nth 0#32 ws 14; let w16 := nth 0#32 ws 15
    let s0 := rotr w15 7 ^^^ rotr w15 18 ^^^ (w15 >>> 3)
    let s1 := rotr w2 17 ^^^ rotr w2 19 ^^^ (w2 >>> 10)
    shaExtend n ((w16 + s0 + w7 + s1) :: ws)

/-- One SHA-256 round over the eight working words. -/
def shaRound (v : List Word) (kw : Word × Word) : List Word :=
  match v with
  | [a, b, c, d, e, f, g, h] =>
    let t1 := h + (rotr e 6 ^^^ rotr e 11 ^^^ rotr e 25) + ((e &&& f) ^^^ (~~~e &&& g)) + kw.1 + kw.2
    let t2 := (rotr a 2 ^^^ rotr a 13 ^^^ rotr a 22) + ((a &&& b) ^^^ (a &&& c) ^^^ (b &&& c))
    [t1 + t2, a, b, c, d + t1, e, f, g]
  | _ => v

/-- Words of a block, each spelt highest byte first. -/
def beWords : Nat → List Byte → List Word
  | 0, _ => []
  | n + 1, bs => BitVec.ofNat 32 (ofBe (bs.take 4)) :: beWords n (bs.drop 4)

/-- SHA-256 compression of `n` blocks of 64 bytes. -/
def shaBlocks : Nat → List Word → List Byte → List Word
  | 0, h, _ => h
  | n + 1, h, bs =>
    let w := (shaExtend 48 (beWords 16 (bs.take 64)).reverse).reverse
    shaBlocks n (List.zipWith (· + ·) h ((List.zip shaK w).foldl shaRound h)) (bs.drop 64)

/-- SHA-256 of a byte string. -/
def sha256 (m : List Byte) : List Byte :=
  let n := m.length
  let p := m ++ [0x80#8] ++ List.replicate ((119 - n % 64) % 64) 0#8 ++ beBytes 8 (8 * n)
  ((shaBlocks (p.length / 64) shaInit p).map (fun w => beBytes 4 w.toNat)).flatten

/-- HMAC-SHA-256 of a byte string under a key of at most 64 bytes (R131). -/
def hmacSha256 (key m : List Byte) : List Byte :=
  let k := slice 0#8 (if key.length > 64 then sha256 key else key) 0 64
  sha256 (k.map (· ^^^ 0x5C#8) ++ sha256 (k.map (· ^^^ 0x36#8) ++ m))

/-- The Internet checksum of a list of bytes. -/
def inetSum (bs : List Byte) : Nat :=
  let rec_ := (List.range ((bs.length + 1) / 2)).foldl (fun a k => a + 256 * (nth 0#8 bs (2 * k)).toNat + (nth 0#8 bs (2 * k + 1)).toNat) 0
  let fold (x : Nat) : Nat := x % 65536 + x / 65536
  65535 - fold (fold rec_)

end Sys2Proof.Machine
end

