-- ==== Sys2Proof/Machine/Log.lean ====
section
/-! DEFINITION. The event recorder (chapter 20): records, placement, repeats, the staging queue, and the reporting of events. -/

namespace Sys2Proof.Machine

/-- Class of the events of one block, as (event number, class) (R534 and the event tables of the chapters). -/
def classRows (block : Nat) : List (Nat × Nat) :=
  match block with
  | 0x01 => [(0x01, 2), (0x02, 2), (0x03, 1), (0x04, 1), (0x05, 0), (0x06, 2), (0x07, 1), (0x08, 1), (0x09, 2), (0x0A, 0), (0x0B, 0)]
  | 0x02 => [(0x01, 0), (0x02, 2), (0x03, 1), (0x04, 0), (0x05, 0), (0x06, 1), (0x07, 3), (0x08, 0), (0x09, 1), (0x0A, 2), (0x0B, 3), (0x0C, 3), (0x0D, 2), (0x0E, 1), (0x0F, 1), (0x10, 1)]
  | 0x03 => [(0x01, 0), (0x02, 1), (0x03, 1), (0x04, 0), (0x05, 0), (0x06, 1), (0x07, 0), (0x08, 0), (0x09, 0)]
  | 0x04 => [(0x01, 0), (0x02, 2), (0x03, 1), (0x04, 1), (0x05, 2), (0x06, 2), (0x07, 0), (0x08, 1), (0x09, 0), (0x0A, 1), (0x0B, 0)]
  | 0x05 => [(0x01, 1), (0x02, 2), (0x03, 1), (0x04, 3), (0x05, 2), (0x06, 0), (0x07, 1), (0x08, 0), (0x09, 2)]
  | 0x06 => [(0x01, 1), (0x02, 1), (0x03, 3), (0x04, 3), (0x05, 1), (0x06, 1), (0x07, 2), (0x08, 0), (0x09, 0), (0x0A, 1)]
  | 0x07 => [(0x01, 1), (0x02, 1), (0x03, 0), (0x04, 1), (0x06, 2), (0x07, 0), (0x08, 2), (0x09, 2)]
  | 0x08 => [(0x01, 1), (0x02, 2), (0x03, 0), (0x04, 1), (0x05, 1), (0x06, 2), (0x07, 0), (0x08, 1), (0x09, 2), (0x0A, 0), (0x0B, 2), (0x0C, 1), (0x0D, 0), (0x0E, 0), (0x0F, 1), (0x10, 1), (0x11, 0), (0x12, 1)]
  | 0x09 => [(0x01, 1), (0x02, 0), (0x03, 0), (0x04, 1), (0x05, 2)]
  | 0x0A => [(0x01, 3), (0x02, 3), (0x03, 3), (0x04, 3), (0x05, 3), (0x06, 3), (0x07, 3), (0x08, 1), (0x09, 0), (0x0A, 1), (0x0B, 0), (0x0C, 1), (0x0D, 1)]
  | 0x0B => [(0x01, 1), (0x02, 0), (0x03, 0), (0x04, 1), (0x05, 1), (0x06, 3), (0x07, 3), (0x08, 1)]
  | 0x0C => [(0x01, 3), (0x02, 0), (0x03, 3), (0x04, 1), (0x05, 0), (0x06, 0), (0x07, 0), (0x08, 3), (0x09, 2), (0x0A, 0), (0x0B, 0), (0x0C, 0), (0x0D, 1), (0x0E, 1), (0x10, 3)]
  | 0x0D => [(0x01, 3), (0x02, 2), (0x03, 0), (0x04, 2), (0x05, 0), (0x06, 1), (0x07, 1), (0x08, 2), (0x09, 3), (0x0A, 3), (0x0B, 0)]
  | 0x0E => [(0x01, 0), (0x02, 2), (0x03, 1), (0x04, 1), (0x05, 2), (0x06, 0)]
  | 0x0F => [(0x01, 2), (0x02, 0), (0x03, 1), (0x04, 0), (0x05, 2), (0x06, 1), (0x07, 2), (0x08, 2), (0x09, 2), (0x0A, 2), (0x0B, 1), (0x0C, 1), (0x0D, 0), (0x0E, 1), (0x0F, 1), (0x10, 2)]
  | 0x10 => [(0x01, 1), (0x02, 1), (0x03, 0), (0x04, 1), (0x05, 1), (0x06, 0), (0x07, 2), (0x08, 1), (0x09, 1), (0x0A, 0)]
  | 0x11 => [(0x01, 0), (0x02, 1), (0x03, 1), (0x04, 2), (0x05, 3), (0x06, 1)]
  | 0x12 => [(0x01, 0), (0x02, 1), (0x03, 2), (0x04, 0), (0x05, 2), (0x06, 2), (0x07, 1), (0x08, 0), (0x09, 1), (0x0A, 0), (0x0B, 2)]
  | _ => []

/-- The class an event's table gives it; none for a reserved code (R534). -/
def classOf? (code : Nat) : Option Nat := ((classRows (code / 256)).find? (fun p => p.1 == code % 256)).map (fun p => p.2)

/-- Source field (Table LOG-2). -/
def src (kind value : Nat) : Nat := kind * 2 ^ 20 + value

/-- Source of an event of the chip. -/
def chip : Nat := 0

/-- One parameter: its width in bytes and its value (R535). -/
abbrev Par := Nat × Nat

/-- A parameter of one byte. (DEDUCED, log 11) -/
def p1 (v : Nat) : Par := (1, v % 256)
/-- Another quantity: its low 16 bits. (DEDUCED, log 11) -/
def p2 (v : Nat) : Par := (2, v % 65536)
/-- A parameter of `n` bytes whose table gives a bit range. -/
def pn (n v : Nat) : Par := (n, v % 256 ^ n)
/-- A physical value: signed 16-bit, saturating. -/
def pS (x : Int) : Par := (2, wrapInt 16 (sat16 x))

/-- Parameters from byte 0x15 on; one that no longer fits is not recorded (R535). (DEDUCED, log 11) -/
def packPars : Nat → List Par → Nat
  | _, [] => 0
  | room, (n, v) :: ps => if n ≤ room then v + 256 ^ n * packPars (room - n) ps else 0

/-- Number of slots of the log (R530). -/
def logSlots : Nat := 65536
/-- Slots of the log and the reserve log. -/
def allSlots : Nat := 65792

/-- Byte 0x0D of a record (Table LOG-1). -/
def LogRec.flags (r : LogRec) : Nat :=
  r.cls % 4 + 4 * b2n r.anchor + 8 * b2n r.reserve + 16 * b2n r.repSat + 32 * b2n r.retained

/-- Bytes 0x00 to 0x12 of a record. -/
def LogRec.head (r : LogRec) : List Byte :=
  leBytes 4 r.seq.toNat ++ leBytes 6 r.optime ++ leBytes 3 r.cycles ++ leBytes 1 r.flags ++ leBytes 2 r.code.toNat ++ leBytes 3 r.source.toNat

/-- The CRC-16 of a record (R531); since a repeat that sets REP_SAT leaves the CRC (R542), the bit counts as 0 in it. (DEDUCED, log 85) -/
def LogRec.crcOf (r : LogRec) : BitVec 16 := crc16 (({ r with repSat := false }).head ++ leBytes 8 r.params.toNat)

/-- The 32 bytes of a record (Table LOG-1). -/
def LogRec.bytes (r : LogRec) : List Byte :=
  r.head ++ leBytes 2 r.rep ++ leBytes 8 r.params.toNat ++ leBytes 2 r.crc.toNat ++ [r.mark]

/-- A slot is valid: its mark is 0xA5 and its CRC matches (R531). -/
def LogRec.valid (r : LogRec) : Bool := r.mark == 0xA5#8 && r.crc == r.crcOf

/-- An unlisted slot. (DESIGN CHOICE, log 3) -/
def blankRec (_ : Nat) : LogRec := {}

/-- The record in a slot. -/
def LogState.slot (l : LogState) (i : Nat) : LogRec := Sparse.get blankRec l.slots i

/-- Slots with a valid record, with their records, in slot order. -/
def LogState.held (l : LogState) : List (Nat × LogRec) := l.slots.filter (fun p => p.2.valid)

/-- The valid records of the area that takes new records: the log, or the reserve log once it has failed (R550). -/
def LogState.area (l : LogState) : List (Nat × LogRec) :=
  l.held.filter (fun p => if l.failed then decide (logSlots ≤ p.1) else decide (p.1 < logSlots))

/-- The lowest slot from `k` on, below `top`, that a list of rising slots does not name. (DEDUCED, log 85) -/
def lowestFree (top : Nat) : Nat → List Nat → Option Nat
  | k, [] => if k < top then some k else none
  | k, a :: as => if top ≤ k then none else if a = k then lowestFree top (k + 1) as else some k

/-- A number compared under R18 on 32 bits: a before b. -/
def seqBefore (a b : Word) : Bool := decide (0 < (b - a).toNat) && decide ((b - a).toNat < 2 ^ 31)

/-- The record with the lowest sequence number of a list (R536). -/
def oldest : List (Nat × LogRec) → Option (Nat × LogRec)
  | [] => none
  | p :: ps =>
    match oldest ps with
    | none => some p
    | some q => if seqBefore q.2.seq p.2.seq then some q else some p

/-- The victim of R538 at or below class `c`: the oldest overwritable record of the lowest class that holds one. (DEDUCED, log 85) -/
def victimFrom (l : List (Nat × LogRec)) : Nat → Nat → Option (Nat × LogRec)
  | _, 0 => none
  | k, n + 1 =>
    match oldest (l.filter (fun p => p.2.cls == k && !p.2.retained)) with
    | some p => some p
    | none => victimFrom l (k + 1) n

/-- The slot a record of class `c` takes, or none (R538, R539, R550). -/
def LogState.place (l : LogState) (c : Nat) : Option Nat :=
  let a := l.area
  let lo := if l.failed then logSlots else 0
  let hi := if l.failed then allSlots else logSlots
  let capped := !l.failed && decide (c < 3) && decide (61440 ≤ (a.filter (fun p => decide (p.2.cls < 3))).length)
  match (if capped then none else lowestFree hi lo (a.map (fun p => p.1))) with
  | some i => some i
  | none => (victimFrom a 0 (c + 1)).map (fun p => p.1)

/-- LOG_TAIL_SEQ: the lowest sequence number held (R536), 0 where none is. (DESIGN CHOICE, log 119) -/
def LogState.tail (l : LogState) : Word := ((oldest l.held).map (fun p => p.2.seq)).getD 0#32

/-- Events limited to once per window of operating time (R543). -/
def windowed (code : Nat) : Bool :=
  [0x0308, 0x0501, 0x0601, 0x0602, 0x0605, 0x0606, 0x0701, 0x0804, 0x0805, 0x0812, 0x0901, 0x0E03, 0x0F0D, 0x1004, 0x1009, 0x1103].contains code

/-- A window's length: 60 s of operating time. -/
def windowMs : Nat := 60000

/-- The live window of an event: its start is less than 60 s back and its record is still held (R543). -/
def LogState.window (l : LogState) (e : Event) (key : Nat) : Option LogWindow :=
  l.windows.find? (fun w => w.code == e.code && w.source == e.source && w.key == key
    && decide (e.optime < w.start + windowMs) && (l.slot w.slot).valid && (l.slot w.slot).seq == w.seq)

/-- One more repeat of the record in a slot (R542). (DEDUCED, log 85) -/
def LogState.repeatIn (l : LogState) (i : Nat) : LogState :=
  let r := l.slot i
  let r' := if r.rep = 0xFFFF then { r with repSat := true } else { r with rep := r.rep + 1 }
  { l with slots := Sparse.set blankRec l.slots i r' }

/-- The last record written equals an event in code, source and parameters (R542). -/
def LogState.lastEquals (l : LogState) (e : Event) : Option Nat :=
  match l.last with
  | none => none
  | some i =>
    let r := l.slot i
    if r.valid && !r.anchor && !e.anchor && r.code == e.code && r.source == e.source && r.params == e.params then some i else none

/-- The record an event makes (Table LOG-1, R536, R540). -/
def LogState.record (l : LogState) (e : Event) : LogRec :=
  let r : LogRec := {
    seq := l.nextSeq, optime := e.optime, cycles := e.cycles, cls := e.cls, anchor := e.anchor,
    reserve := l.failed, retained := !l.failed && e.cls == 3 && decide (l.retainedRun < 256),
    code := e.code, source := e.source, params := e.params, mark := 0xA5#8 }
  { r with crc := r.crcOf }

/-- Writes an event's record to a slot in the three steps of R532, and counts the occupant that ends (R549). -/
def LogState.writeAt (l : LogState) (i : Nat) (e : Event) : LogState :=
  let r := l.record e
  { l with
    ovw := if (l.slot i).valid then BitVec.ofNat 32 (satNat (2 ^ 32 - 1) (l.ovw.toNat + 1)) else l.ovw
    slots := Sparse.set blankRec l.slots i r
    nextSeq := l.nextSeq + 1#32
    retainedRun := l.retainedRun + b2n r.retained
    last := some i
    busy := true }

/-- The window an event starts, replacing the old one of its code, source and key. -/
def LogState.startWindow (l : LogState) (e : Event) (key i : Nat) : LogState :=
  if windowed e.code.toNat then
    { l with windows := ⟨e.code, e.source, key, e.optime, i, (l.slot i).seq⟩ ::
        l.windows.filter (fun w => !(w.code == e.code && w.source == e.source && w.key == key)) }
  else l

/-- What one attempt to record an event did. -/
inductive Wrote where
  | again
  | record
  | dropped
  deriving DecidableEq, Repr

/-- Records one event: a repeat (R542, R543), a record (R538), or a drop (R541). -/
def LogState.put (l : LogState) (e : Event) (key : Nat) : LogState × Wrote :=
  match (if windowed e.code.toNat then l.window e key else none) with
  | some w => (l.repeatIn w.slot, .again)
  | none =>
    match l.lastEquals e with
    | some i => ((l.repeatIn i).startWindow e key i, .again)
    | none =>
      match l.place e.cls with
      | some i => ((l.writeAt i e).startWindow e key i, .record)
      | none =>
        ({ l with
            drops := setNth l.drops e.cls (satNat (2 ^ 32 - 1) (nth 0 l.drops e.cls + 1)),
            dropRun := setNth l.dropRun e.cls (nth 0 l.dropRun e.cls + 1), dropSeen := true }, .dropped)

/-- Cause 66 for a written record of class INT_CLASS or above, a loss or a drop (R551). -/
def State.logCause (s : State) (cls : Nat) (w : Wrote) : State :=
  match w with
  | .again => s
  | .record => if s.get R.LOG_CTRL_INT_CLASS ≤ cls then s.setCause 2 else s
  | .dropped => s.setCause 2

/-- Records one event, and 0x1103 for its class after a drop (R541). -/
def State.record (s : State) (e : Event) (key : Nat) : State :=
  match s.log.put e key with
  | (l, .dropped) =>
    let s1 := ({ s with log := l }).logCause e.cls .dropped
    if e.code = 0x1103#16 then s1
    else
      let d : Event := {
        cls := 1, code := 0x1103#16, source := 0#24, anchor := false, optime := e.optime, cycles := e.cycles,
        params := BitVec.ofNat 64 (packPars 8 [p1 e.cls, p2 (nth 0 s1.log.dropRun e.cls)]) }
      match s1.log.put d e.cls with
      | (l2, .record) => ({ s1 with log := { l2 with dropRun := setNth l2.dropRun e.cls 0 } }).logCause 1 .record
      | (l2, w) => ({ s1 with log := l2 }).logCause 1 w
  | (l, w) => ({ s with log := l }).logCause e.cls w

/-- The further parameter by which an event's table limits it (R543): the path of 0x0601 and 0x0602, the set of 0x0701,
the medium of 0x1009, the class of 0x1103. -/
def windowKey (e : Event) : Nat :=
  let b := leBytes 8 e.params.toNat
  if e.code = 0x0601#16 || e.code = 0x0602#16 || e.code = 0x1009#16 || e.code = 0x1103#16 then (nth 0#8 b 0).toNat
  else if e.code = 0x0701#16 then (nth 0#8 b 1).toNat
  else 0

/-- An event that finds the queue full is lost; a Safety event displaces the youngest entry that is not Safety (R544). -/
def enqueue (q : List Event) (e : Event) : List Event × Option Event :=
  if q.length < 16 then (q ++ [e], none)
  else if e.cls == 3 then
    match (q.reverse.span (fun x => x.cls == 3)) with
    | (_, []) => (q, some e)
    | (young, d :: rest) => (rest.reverse ++ young.reverse ++ [e], some d)
  else (q, some e)

/-- An event enters the staging queue, or is lost (R544). -/
def State.stageEvent (s : State) (e : Event) : State :=
  match enqueue s.log.queue e with
  | (q, none) => { s with log := { s.log with queue := q } }
  | (q, some d) =>
    ({ s with log := { s.log with
        queue := q, lostSeen := true, lost := BitVec.ofNat 32 (satNat (2 ^ 32 - 1) (s.log.lost.toNat + 1)),
        firstLost := if s.log.lostRun = 0 then d.code else s.log.firstLost, lostRun := s.log.lostRun + 1 } }).setCause 2

/-- The recorder takes an event at once: no record is being written, the scan is complete, nothing waits. -/
def LogState.idle (l : LogState) : Bool := !l.busy && l.scanDone && l.queue.isEmpty

/-- An event reaches the recorder (R542 to R544); events of one command reach it in the order of its meaning. (DEDUCED, log 85) -/
def State.take (s : State) (e : Event) : State :=
  if s.log.idle then s.record e (windowKey e) else s.stageEvent e

/-- The event a block reports. -/
def State.event (s : State) (cls code source params : Nat) : Event :=
  { cls := cls, code := BitVec.ofNat 16 code, source := BitVec.ofNat 24 source, params := BitVec.ofNat 64 params
    anchor := false, optime := s.pwr.optime, cycles := s.pwr.cycles }

/-- A block reports an event with the class of its table (R534). -/
def State.report (s : State) (code source : Nat) (ps : List Par) : State :=
  match classOf? code with
  | none => s
  | some c => s.take (s.event c code source (packPars 8 ps))

/-- Drains the queue once: completes the record in progress, then takes the head (R544); 0x1102 after losses (R545). -/
def State.drainOne (s : State) : State :=
  let s0 := { s with log := { s.log with busy := false } }
  if s.log.scanDone then
    match s.log.queue with
    | e :: q =>
      let s1 := ({ s0 with log := { s0.log with queue := q } }).record e (windowKey e)
      if q.isEmpty && decide (0 < s1.log.lostRun) then
        let d : Event := s1.event 1 0x1102 chip (packPars 8 [p2 s1.log.lostRun, p2 s1.log.firstLost.toNat])
        ({ s1 with log := { s1.log with lostRun := 0 } }).record d 0
      else s1
    | [] => s0
  else s0

/-- Drains the whole queue: 16 entries at most. (DESIGN CHOICE, log 5) (DEDUCED, log 20) -/
def State.drain (s : State) : State := (List.range 17).foldl (fun s _ => s.drainOne) s

/-- The log memory fails (R550): 0x1104 is the first record of the reserve log; the windows of R543, whose records it held, end. (DEDUCED, log 85) -/
def State.logFail (s : State) (slot : Nat) : State :=
  if s.log.failed then s
  else
    let s1 := ({ s with log := { s.log with failed := true, last := none, windows := [] } }).setCause 2
    s1.record (s1.event 2 0x1104 chip (packPars 8 [pn 3 slot])) 0

end Sys2Proof.Machine
end

