-- ==== Sys2Proof/Machine/Angle.lean ====
section
/-! DEFINITION. The mains-angle time base (chapter 05): the two angles, sources, lock, slip, the clamp, and the credit of test slots.
Frequencies are in 0.0001 Hz, angles of the accumulators in 2^-16 au. -/

namespace Sys2Proof.Machine

/-- A frequency as an event parameter, in 0.1 Hz (R535). -/
def parFreq (f : Nat) : Par := pS (f / 1000 : Nat)

/-- The frequency limits of the image. -/
def State.freqMin (s : State) : Nat := s.tab.fMin * 100
def State.freqMax (s : State) : Nat := s.tab.fMax * 100
def State.freqNom (s : State) : Nat := s.tab.fNom * 100

/-- A frequency held within f_min to f_max (R152). -/
def State.clampFreq (s : State) (f : Nat) : Nat := if f < s.freqMin then s.freqMin else if s.freqMax < f then s.freqMax else f
/-- A frequency lies outside f_min to f_max. -/
def State.outside (s : State) (f : Nat) : Bool := decide (f < s.freqMin) || decide (s.freqMax < f)
/-- A frequency lies outside 40 to 70 Hz (R159). -/
def out4070 (f : Nat) : Bool := decide (f < 400000) || decide (700000 < f)

/-- The slip lies within ±64 au (R163). -/
def slipSmall (slip : Nat) : Bool := decide ((signedOf 16 slip).natAbs ≤ 64)
/-- The edge of that range, in 2^-16 au. -/
def slipEdge : Nat := 64 * 65536

/-- The time base tracks: from stage 1, once the image has been loaded (R162). -/
def State.tracking (s : State) : Bool := s.img.loaded && decide (1 ≤ s.stage)

/-- The source the image or the override selects (R154). -/
def State.wantSource (s : State) : Nat := let o := s.get R.ANG_CTRL_SRC_OVR; if o = 0 then s.tab.schedSrc else o - 1
/-- The other of LINE and SYNC_IN. -/
def otherSource (k : Nat) : Nat := 1 - k
/-- A loss of lock is followed by trying the other source (R161). (DEDUCED, log 28) -/
def State.fallsBack (s : State) : Bool := s.tab.u8 7 0x11 == 1
/-- The source that acquisition tries. -/
def State.tried (s : State) : Nat := let a := s.get R.ANG_STAT_SRC_ACTIVE; if s.ang.tryOther then otherSource a else a

/-! Loop settings and phase (R157 to R159). -/

/-- Loop bandwidth in Hz, rate of change held in lock in Hz/s and phase noise in au of the code at 0x10 (Table ANG-1). -/
def Img.loopSet (i : Img) : Nat × Nat × Nat := match i.u8 7 0x10 with | 0 => (2, 1, 16) | 1 => (5, 3, 32) | _ => (10, 10, 64)
/-- The phase offset of a source, in au modulo one cycle (R157, Table ANG-6). -/
def Img.phaseOff (i : Img) (source : Nat) : Nat := i.u16 7 (if source = 0 then 0x12 else 0x14)
/-- A measured phase with the offset of its source: what stands for the mains angle (R157). -/
def Img.phaseOf (i : Img) (source phase : Nat) : Nat := (phase + i.phaseOff source) % 65536
/-- The loop's phase error in one mains cycle: the measured phase, offset, less the loop's own (R157, R159). -/
def Img.phaseErr (i : Img) (source : Nat) (o : BitVec 16 × BitVec 16) : Int := signedOf 16 (i.phaseOf source o.1.toNat + 65536 - o.2.toNat)
/-- Phase errors of successive cycles. -/
def Img.phaseErrs (i : Img) (source : Nat) (l : List (BitVec 16 × BitVec 16)) : List Int := l.map (i.phaseErr source)
/-- PHERR holds the error of the last cycle measured. -/
def State.putErr (s : State) (l : List Int) : State := match l.getLast? with | none => s | some e => s.put R.ANG_SLIP_PHERR (wrapInt 16 e)

/-! The two angles (R151 to R153, R163, R164). -/

/-- The mains angle is set to a measured one; what lies below the au is that of the schedule angle. (DEDUCED, log 95) -/
def State.setMains (s : State) (au : Nat) : State := { s with ang := { s.ang with mains := (au % 65536) * 65536 + s.ang.sched % 65536 } }

/-- The schedule frequency of R163: the tracked frequency with a correction of 1 % by the shorter way round; where the limits remove all
of it, by the other way. -/
def State.schedFreq (s : State) (f slip : Nat) : Nat :=
  let up := s.clampFreq (f + f / 100)
  let dn := s.clampFreq (f - f / 100)
  let short := if (signedOf 16 slip) < 0 then up else dn
  let long := if (signedOf 16 slip) < 0 then dn else up
  if short ≠ s.clampFreq f then short else long

/-- A correction is applied at a frequency: locked, not clamped, the slip beyond ±64 au, and the limits leave one (R163). (DEDUCED, log 28) -/
def State.slews (s : State) (f : Nat) : Bool :=
  s.getB R.ANG_STAT_LOCKED && !s.getB R.ANG_STAT_CLAMPED && !slipSmall s.ang.slip && s.schedFreq f s.ang.slip != s.clampFreq f

/-- Puts the frequency in force, and what follows from it and from the slip: SCHED_LOCKED, SLEWING with its event, and the schedule
frequency (R163, R164). -/
def State.setAngle (s : State) (f : Nat) : State :=
  let slip := s.ang.slip
  let slew := s.slews f
  let s1 := s.putAll [ (R.ANG_FREQ, f), (R.ANG_SLIP_SLIP, slip), (R.ANG_STAT_SCHED_LOCKED, b2n (s.getB R.ANG_STAT_LOCKED && slipSmall slip)),
    (R.ANG_STAT_SLEWING, b2n slew), (R.ANG_SFREQ, if slew then s.schedFreq f slip else s.clampFreq f) ]
  if s.getB R.ANG_STAT_SLEWING then
    (if s.getB R.ANG_STAT_LOCKED && slipSmall slip then s1.report 0x0305 chip [p2 s.ang.slipStart, pS ((s.now - s.ang.slipAt : Nat) : Int)] else s1)
  else if slew then { s1 with ang := { s1.ang with slipStart := slip, slipAt := s.now } } else s1

/-- CLAMPED follows the frequency in force, with its event at each change (R164). -/
def State.evalClamp (s : State) (f : Nat) : State :=
  let out := s.outside f
  if out = s.getB R.ANG_STAT_CLAMPED then s
  else if out then (s.putB R.ANG_STAT_CLAMPED true).report 0x0303 chip [parFreq f, parFreq (s.clampFreq f)]
  else (s.putB R.ANG_STAT_CLAMPED false).report 0x0304 chip [parFreq f]

/-- The slip at which a correction ends on the way from `slip`, moved by `up` less `down`: −64 au while it rises, +64 au while it falls. -/
def slipEntry (slip up down : Nat) : Option Nat :=
  if down < up then (if (2 * turn - slipEdge - slip) % turn ≤ up - down then some (turn - slipEdge) else none)
  else if up < down then (if (turn + slip - slipEdge) % turn ≤ down - up then some slipEdge else none)
  else none

/-- Both angles advance: the schedule angle by `du`, the mains angle by `dm`. A correction ends where the slip enters ±64 au, and the slip
is kept from there on (R163). -/
def AngState.advance (a : AngState) (slewing : Bool) (du dm : Nat) : AngState :=
  let slip := (a.sched + turn - a.mains % turn) % turn
  let sched := (a.sched + du) % turn
  let mains := match (if slewing then slipEntry slip du dm else none) with
    | some x => (sched + turn - x) % turn
    | none => (a.mains + dm) % turn
  { a with sched := sched, mains := mains, mainsCyc := a.mainsCyc + (a.mains + dm) / turn }

/-- Both angles advance, and SLIP and what follows from it are renewed. -/
def State.turnBy (s : State) (du dm : Nat) : State :=
  ({ s with ang := s.ang.advance (s.getB R.ANG_STAT_SLEWING) du dm }).setAngle (s.get R.ANG_FREQ)

/-- The schedule angle reaches a place of its cycle; the mains angle has advanced by its own frequency in the same time (R151, R164). (DEDUCED, log 95) -/
def State.moveTo (s : State) (au : Nat) : State :=
  let du := (au % 65536 * 65536 + turn - s.ang.sched % turn) % turn
  let g := s.get R.ANG_SFREQ
  if au % 65536 = s.ang.au then s else s.turnBy du (if g = 0 then du else du * s.get R.ANG_FREQ / g)

/-- The image is loaded: the time base starts on its source at the nominal frequency, with the loop's settings (R158, R160, R162). -/
def State.startAngle (s : State) : State :=
  let (bw, rate, noise) := s.tab.loopSet
  let s1 := ((s.put R.ANG_STAT_SRC_ACTIVE s.tab.schedSrc).put R.ANG_FREQ s.freqNom).put R.ANG_SFREQ (s.clampFreq s.freqNom)
  { s1 with ang := { s1.ang with loopBw := bw, loopRate := rate, loopNoise := noise } }

/-! Sources and lock (R154 to R161). -/

/-- An edge is accepted (R156): 14.2 to 25.1 ms after the last one while not locked, 0.75 to 1.25 of the tracked period while locked; the
first edge of an acquisition has none before it. -/
def State.edgeOk (s : State) (sinceUs : Nat) : Bool :=
  if s.getB R.ANG_STAT_LOCKED && s.get R.ANG_STAT_SRC_ACTIVE == 1 then
    let x := sinceUs * s.get R.ANG_FREQ
    decide (7500000000 ≤ x) && decide (x ≤ 12500000000)
  else !s.ang.edgeSeen || (decide (14200 ≤ sinceUs) && decide (sinceUs ≤ 25100))

/-- SYNC_IN_EDGE: while SYNC_IN is tracked or tried, an edge is accepted into tracking, or rejected and counted (R156, R173). -/
def syncInEdge (sinceUs : Nat) (s : State) : State :=
  let tracked := s.get R.ANG_STAT_SRC_ACTIVE == 1 || s.fallsBack && (s.ang.tryOther || s.getB R.ANG_STAT_FALLBACK)
  if !s.tracking || !tracked then s
  else if s.edgeOk sinceUs then { s with ang := { s.ang with edgeSeen := true } }
  else
    let n := s.ang.rejects + 1
    let e := s.event 0 0x0308 chip (packPars 8 [p2 n])
    let s1 := s.inc R.ANG_COUNT_REJECTED
    let n1 := if (s.log.window e 0).isSome then n else 0
    ({ s1 with ang := { s1.ang with rejects := n1 } }).take e
def execSyncInEdge (sinceUs : Word) (s : State) : Host.Outcome State Fault Refusal := finish s (whenOn s (syncInEdge sinceUs.toNat))

/-- The loop may lock: eight cycles within ±256 au, and a frequency within 40 to 70 Hz (R159). -/
def lockable (freq : Nat) (errs : List Int) : Bool := errs.length == 8 && errs.all (fun e => decide (e.natAbs ≤ 256)) && !out4070 freq

/-- The peak amplitude of LINE in this cycle of the mains angle, in mV, as an event carries it (R155). -/
def State.putAmpl (s : State) (mv : Nat) : State :=
  let s1 := s.put R.ANG_AMPL_AMPL mv
  { s1 with ang := { s1.ang with amplCyc := s.ang.mainsCyc + 1 } }

/-- LOCK_ACQUIRED: the tracked frequency, the measured and the loop's phase in the last eight mains cycles, the amplitude; the loop locks on the
source it tries (R157, R159, R161). -/
def lockAcquired (freq : Nat) (obs : List (BitVec 16 × BitVec 16)) (mv : Nat) (s : State) : State :=
  let act := s.get R.ANG_STAT_SRC_ACTIVE
  if !s.tracking || s.getB R.ANG_STAT_LOCKED || act = 2 then s
  else
    let dest := s.tried
    let errs := s.tab.phaseErrs dest obs
    let s0 := ((s.putErr errs).putAmpl mv).putB R.ANG_STAT_OUT_40_70 (out4070 freq)
    if !lockable freq errs then s0
    else
      let s1 := ((s0.putB R.ANG_STAT_LOCKED true).put R.ANG_STAT_SRC_ACTIVE dest).setMains (s.tab.phaseOf dest ((obs.getLast?.map Prod.fst).getD 0#16).toNat)
      let s2 := { s1 with ang := { s1.ang with tryOther := false, everLocked := true } }
      let s3 := s2.report 0x0301 chip [p1 dest, parFreq freq]
      let s4 := if dest = act then s3
        else if dest = s.wantSource then (s3.putB R.ANG_STAT_FALLBACK false).report 0x0307 chip [p1 dest]
        else (s3.putB R.ANG_STAT_FALLBACK true).report 0x0306 chip [p1 act, p1 dest]
      (s4.evalClamp freq).setAngle freq
def execLockAcquired (freq : Word) (obs : List (BitVec 16 × BitVec 16)) (mv : BitVec 16) (s : State) : Host.Outcome State Fault Refusal :=
  finish s (whenOn s (lockAcquired freq.toNat obs mv.toNat))

/-- The lock is dropped: the mains angle runs free from the frequency it had (R160, R164). -/
def State.dropLock (s : State) : State :=
  let s1 := s.putB R.ANG_STAT_LOCKED false
  ({ s1 with ang := { s1.ang with edgeSeen := false } }).setAngle (s.get R.ANG_FREQ)

/-- A lock is lost for a cause: 0 phase, 1 signal, 2 a frequency outside 40 to 70 Hz (R159, R161). -/
def State.loseLock (s : State) (cause : Nat) : State :=
  let s1 := (s.dropLock.inc R.ANG_COUNT_LOSSES).report 0x0302 chip [p1 (s.get R.ANG_STAT_SRC_ACTIVE), p1 cause]
  let s2 := if cause = 2 then s1.putB R.ANG_STAT_OUT_40_70 true else s1
  { s2 with ang := { s2.ang with tryOther := s.fallsBack } }

/-- The signal of a source has been invalid for the image's loss time (R159): LINE below 0.5 V peak or without a zero crossing, SYNC_IN
without an accepted edge; `ms` is how long. -/
def Img.signalLost (i : Img) (source : Nat) (o : LossObs) : Bool :=
  ((source == 0 && decide (o.mv.toNat < 500)) || !o.crossing) && decide (100000 * i.u8 7 0x18 ≤ o.ms.toNat * i.fNom)

/-- The cause by which the lock is lost, the first of R159 that holds. -/
def Img.lossCause (i : Img) (source : Nat) (o : LossObs) : Option Nat :=
  let errs := i.phaseErrs source o.phases
  if errs.length == 3 && errs.all (fun e => decide (2048 < e.natAbs)) then some 0
  else if i.signalLost source o then some 1
  else if out4070 o.freq.toNat then some 2 else none

/-- ANG_AMPL as it reads: measured from stage 1, a value that nothing fixes where no event of the cycle has carried it (R155). (DESIGN CHOICE, log 120) -/
def State.ampl (s : State) : Nat :=
  if s.stage = 0 then 0
  else if s.ang.amplCyc = s.ang.mainsCyc + 1 then s.get R.ANG_AMPL_AMPL
  else (Config.amplitude s.ang.mainsCyc).toNat

/-- LOCK_LOST: what the loop finds; the lock goes where it meets a condition of R159. -/
def lockLost (o : LossObs) (s : State) : State :=
  let act := s.get R.ANG_STAT_SRC_ACTIVE
  if !s.getB R.ANG_STAT_LOCKED then s
  else
    let s1 := (s.putErr (s.tab.phaseErrs act o.phases)).putAmpl o.mv.toNat
    match s.tab.lossCause act o with
    | some k => s1.loseLock k
    | none => s1
def execLockLost (o : LossObs) (s : State) : Host.Outcome State Fault Refusal := finish s (whenOn s (lockLost o))

/-- IMAGE_SOURCE_RESTORED: the image's own source has been valid for 10 s, `phase` its measured phase: the fallback ends, or the other
source is no longer tried (R161). (DEDUCED, log 28) -/
def imageSourceRestored (phase : Nat) (s : State) : State :=
  let said (s : State) : State := ({ s with ang := { s.ang with tryOther := false } }).report 0x0307 chip [p1 s.wantSource]
  if s.getB R.ANG_STAT_FALLBACK then
    let s1 := ((s.put R.ANG_STAT_SRC_ACTIVE s.wantSource).putB R.ANG_STAT_FALLBACK false).setMains (s.tab.phaseOf s.wantSource phase)
    (said s1).setAngle (s.get R.ANG_FREQ)
  else if s.ang.tryOther then said s
  else s
def execImageSourceRestored (phase : BitVec 16) (s : State) : Host.Outcome State Fault Refusal := finish s (whenOn s (imageSourceRestored phase.toNat))

/-- FREQUENCY_CLAMP: the mains frequency in force reaches a value, with the measured phase at that instant; outside 40 to 70 Hz the lock is
lost (R159, R164). -/
def frequencyClamp (freq phase : Nat) (s : State) : State :=
  let act := s.get R.ANG_STAT_SRC_ACTIVE
  if !s.tracking then s
  else if !s.getB R.ANG_STAT_LOCKED then (s.evalClamp freq).setAngle freq
  else
    let s1 := ((s.putErr [s.tab.phaseErr act (BitVec.ofNat 16 phase, BitVec.ofNat 16 (s.ang.mains / 65536))]).setMains (s.tab.phaseOf act phase)).putB R.ANG_STAT_OUT_40_70 (out4070 freq)
    let s2 := (s1.evalClamp freq).setAngle freq
    if out4070 freq then s2.loseLock 2 else s2
def execFrequencyClamp (freq : Word) (phase : BitVec 16) (s : State) : Host.Outcome State Fault Refusal :=
  finish s (whenOn s (frequencyClamp freq.toNat phase.toNat))

/-- SLIP_RESOLVED: the measured phase and amplitude at the instant at which the slip enters ±64 au (R163). (DEDUCED, log 28) -/
def slipResolved (phase mv : Nat) (s : State) : State :=
  let act := s.get R.ANG_STAT_SRC_ACTIVE
  let s1 := ((s.putErr [s.tab.phaseErr act (BitVec.ofNat 16 phase, BitVec.ofNat 16 (s.ang.mains / 65536))]).putAmpl mv).setMains (s.tab.phaseOf act phase)
  if !s.getB R.ANG_STAT_SLEWING || !slipSmall s1.ang.slip then s
  else s1.setAngle (s.get R.ANG_FREQ)
def execSlipResolved (phase mv : BitVec 16) (s : State) : Host.Outcome State Fault Refusal := finish s (whenOn s (slipResolved phase.toNat mv.toNat))

/-- ACQUIRE: the lock drops without a loss counted, and acquisition starts afresh on the active source (R172). -/
def acquireLock (s : State) : State :=
  if s.img.loaded then ({ s with ang := { s.ang with tryOther := false } }).dropLock else s

/-- SRC_OVR: the register has taken its value; a change of the active source drops the lock (R154). -/
def srcOvr (s : State) : State :=
  if !s.img.loaded then s
  else
    let dest := s.wantSource
    let s1 := s.report 0x0309 chip [p1 (s.get R.ANG_CTRL_SRC_OVR)]
    if dest = s.get R.ANG_STAT_SRC_ACTIVE then s1
    else
      let s2 := (s1.put R.ANG_STAT_SRC_ACTIVE dest).putB R.ANG_STAT_FALLBACK false
      ({ s2 with ang := { s2.ang with tryOther := false } }).dropLock

/-! What passes. -/

/-- SCHEDULE_CYCLE_BOUNDARY: the schedule angle completes a cycle; the count, and the credit of test slots (R151, R168). (DEDUCED, log 29) -/
def scheduleCycleBoundary (s : State) : State :=
  if !s.img.loaded then s
  else
    let du := turn - s.ang.sched % turn
    let g := s.get R.ANG_SFREQ
    let s1 := s.turnBy du (if g = 0 then du else du * s.get R.ANG_FREQ / g)
    { s1 with ang := { s1.ang with cycle := s1.ang.cycle + 1#32, credit := min (2 * s.tab.schedT) (s1.ang.credit + s.tab.schedT) } }
def execScheduleCycleBoundary (s : State) : Host.Outcome State Fault Refusal := finish s (whenOn s scheduleCycleBoundary)

/-- ANG_NOW_AU: a read of the live schedule angle latches the matching cycle count (R172). -/
def angNowAu (au : Nat) (s : State) : State :=
  let s1 := if s.img.loaded then s.moveTo au else s
  { s1 with ang := { s1.ang with cycLatch := s1.ang.cycle } }

/-- One millisecond of free running: 0.5 Hz/s toward nominal (R160). (DESIGN CHOICE, log 5) (DEDUCED, log 28) -/
def State.drift (s : State) : State :=
  let f := s.get R.ANG_FREQ
  let n := s.freqNom
  if s.getB R.ANG_STAT_LOCKED || f = n then s
  else
    let g := if f < n then min n (f + 5) else max n (f - 5)
    (s.evalClamp g).setAngle g

/-- Advance of an angle in one millisecond at a frequency (R153). -/
def perMs (f : Nat) : Nat := f * turn / 10000000

/-- One millisecond of the time base: the free-running frequency, then both angles (R151, R153, R160). (DESIGN CHOICE, log 5) -/
def State.angleMs (s : State) : State :=
  if !s.tracking then s
  else
    let s1 := s.drift
    s1.turnBy (perMs (s1.get R.ANG_SFREQ)) (perMs (s1.get R.ANG_FREQ))

end Sys2Proof.Machine
end

