-- ==== Sys2Proof/Machine/Fp32.lean ====
section
/-! DEFINITION. fp32 arithmetic of R314: round to nearest even, one rounding per fused multiply-add, subnormal results flushed to zero. Quotients, roots and exponentials are free within the error that R314 allows (log 8). -/

namespace Sys2Proof.Machine

/-- Is the pattern an infinity or a NaN. -/
def Fp.nonFinite (a : Word) : Bool := bitsOf a.toNat 23 8 == 255

/-- Is the pattern a NaN. -/
def Fp.isNan (a : Word) : Bool := Fp.nonFinite a && bitsOf a.toNat 0 23 != 0

/-- The quiet NaN that invalid operations give. -/
def Fp.nan : Word := 0x7FC00000#32

/-- Infinity of a sign. -/
def Fp.inf (neg : Bool) : Word := if neg then 0xFF800000#32 else 0x7F800000#32

/-- The integer significand of a finite pattern, with its sign. -/
def Fp.mant (a : Word) : Int :=
  let e := bitsOf a.toNat 23 8
  let m := bitsOf a.toNat 0 23 + (if e = 0 then 0 else 2 ^ 23)
  if a.msb then -(m : Int) else m

/-- The exponent of two of the significand of a finite pattern. -/
def Fp.expo (a : Word) : Int :=
  let e := bitsOf a.toNat 23 8
  (if e = 0 then 1 else (e : Int)) - 150

/-- Two to an integer power as a numerator and a denominator. -/
def Fp.pow2 (e : Int) : Nat × Nat := if e ≥ 0 then (2 ^ e.toNat, 1) else (1, 2 ^ (-e).toNat)

/-- Rounds the positive rational n / d to fp32, nearest even; a subnormal result is flushed to zero, a too large one is infinite. -/
def Fp.roundPos (neg : Bool) (n d : Nat) : Word :=
  if n = 0 ∨ d = 0 then (if neg then 0x80000000#32 else 0#32)
  else
    let e0 : Int := (Nat.log2 n : Int) - (Nat.log2 d : Int)
    let low := (let p := Fp.pow2 e0; decide (n * p.2 < d * p.1))
    let e := if low then e0 - 1 else e0
    let p := Fp.pow2 (23 - e)
    let num := n * p.1
    let den := d * p.2
    let q := num / den
    let r := num % den
    let q1 := if 2 * r > den ∨ (2 * r = den ∧ q % 2 = 1) then q + 1 else q
    let e1 := if q1 = 2 ^ 24 then e + 1 else e
    let q2 := if q1 = 2 ^ 24 then 2 ^ 23 else q1
    if e1 > 127 then Fp.inf neg
    else if e1 < -126 then (if neg then 0x80000000#32 else 0#32)
    else BitVec.ofNat 32 ((if neg then 2 ^ 31 else 0) + (e1 + 127).toNat * 2 ^ 23 + (q2 - 2 ^ 23))

/-- The fp32 value nearest to the rational n / d. -/
def Fp.ofRat (n : Int) (d : Nat) : Word := Fp.roundPos (decide (n < 0)) n.natAbs d

/-- The fp32 value nearest to a natural number. -/
def Fp.ofNat (n : Nat) : Word := Fp.ofRat n 1

/-- The sign inverted. -/
def Fp.neg (a : Word) : Word := a ^^^ 0x80000000#32

/-- The magnitude. -/
def Fp.abs (a : Word) : Word := a &&& 0x7FFFFFFF#32

/-- a × b + c with a single rounding (R314). (DESIGN CHOICE, log 9) -/
def Fp.fma (a b c : Word) : Word :=
  let pneg := a.msb != b.msb
  let zeroIn := (a &&& 0x7FFFFFFF#32 == 0#32) || (b &&& 0x7FFFFFFF#32 == 0#32)
  if Fp.isNan a || Fp.isNan b || Fp.isNan c then Fp.nan
  else if Fp.nonFinite a || Fp.nonFinite b then
    (if zeroIn || (Fp.nonFinite c && c.msb != pneg) then Fp.nan else Fp.inf pneg)
  else if Fp.nonFinite c then c
  else
    let ep := Fp.expo a + Fp.expo b
    let ec := Fp.expo c
    let e := min ep ec
    let m := Fp.mant a * Fp.mant b * (2 ^ (ep - e).toNat : Nat) + Fp.mant c * (2 ^ (ec - e).toNat : Nat)
    let p := Fp.pow2 e
    if m = 0 then (if pneg && c.msb then 0x80000000#32 else 0#32)
    else Fp.roundPos (decide (m < 0)) (m.natAbs * p.1) p.2

/-- a × b. -/
def Fp.mul (a b : Word) : Word := Fp.fma a b (if a.msb != b.msb then 0x80000000#32 else 0#32)

/-- a + b. -/
def Fp.add (a b : Word) : Word := Fp.fma a 0x3F800000#32 b

/-- a − b. -/
def Fp.sub (a b : Word) : Word := Fp.add a (Fp.neg b)

/-- The order of finite patterns: a key that rises with the value. -/
def Fp.key (a : Word) : Int := if a.msb then -(bitsOf a.toNat 0 31 : Int) else bitsOf a.toNat 0 31

/-- a < b, false where either is a NaN. -/
def Fp.lt (a b : Word) : Bool := !Fp.isNan a && !Fp.isNan b && decide (Fp.key a < Fp.key b)

/-- a ≤ b, false where either is a NaN. -/
def Fp.le (a b : Word) : Bool := !Fp.isNan a && !Fp.isNan b && decide (Fp.key a ≤ Fp.key b)

/-- The lesser value; the first where neither is less. -/
def Fp.min (a b : Word) : Word := if Fp.lt b a then b else a

/-- The greater value; the first where neither is greater. -/
def Fp.max (a b : Word) : Word := if Fp.lt a b then b else a

/-- Limits a value to a range. -/
def Fp.clamp (lo hi a : Word) : Word := if Fp.lt a lo then lo else if Fp.lt hi a then hi else a

/-- The finite value as an exact rational: signed numerator and denominator. -/
def Fp.toRat (a : Word) : Int × Nat :=
  let p := Fp.pow2 (Fp.expo a)
  (Fp.mant a * (p.1 : Nat), p.2)

/-- A subnormal pattern. -/
def Fp.subnormal (a : Word) : Bool := bitsOf a.toNat 23 8 == 0 && bitsOf a.toNat 0 23 != 0

/-- The pattern lies within a relative error of 2^-k of the rational n / d. -/
def Fp.near (k : Nat) (c : Word) (n : Int) (d : Nat) : Bool :=
  let q := Fp.toRat c
  !Fp.nonFinite c && !Fp.subnormal c && decide (2 ^ k * (q.1 * (d : Int) - n * (q.2 : Int)).natAbs ≤ n.natAbs * q.2)

/-- A value free within a relative error of 2^-k of n / d: the offer where it lies within, else the nearest value. -/
def Fp.freeNear (k : Nat) (offer : Word) (n : Int) (d : Nat) : Word := if Fp.near k offer n d then offer else Fp.ofRat n d

/-- a / b: a reciprocal within 1 ulp and a rounded product, so free within 2^-22 of the quotient (R314; DEDUCED, log 8). A quotient
without a finite value is free. (DEDUCED, log 8) -/
def Fp.div (a b : Word) : Word :=
  if Fp.nonFinite a || Fp.nonFinite b || Fp.mant b = 0 then Config.fdiv a b
  else if Fp.mant a = 0 then (if a.msb != b.msb then 0x80000000#32 else 0#32)
  else
    let p := Fp.pow2 (Fp.expo a - Fp.expo b)
    let m := Fp.mant b
    Fp.freeNear 22 (Config.fdiv a b) ((if m < 0 then -Fp.mant a else Fp.mant a) * (p.1 : Nat)) (m.natAbs * p.2)

/-- Integer square root of a number below 4^k, from the bits above k of the root. -/
def isqrtFrom : Nat → Nat → Nat → Nat
  | 0, r, _ => r
  | k + 1, r, n => isqrtFrom k (if (r + 2 ^ k) * (r + 2 ^ k) ≤ n then r + 2 ^ k else r) n

/-- The pattern lies within 1 ulp of the square root of the rational n / d. -/
def Fp.nearRoot (c : Word) (n d : Nat) : Bool :=
  let p := Fp.pow2 (2 * Fp.expo c)
  let m := (Fp.mant c).natAbs
  !c.msb && !Fp.nonFinite c && !Fp.subnormal c && decide (((m - 1) * (m - 1) * p.1) * d ≤ n * p.2) && decide (n * p.2 ≤ ((m + 1) * (m + 1) * p.1) * d)

/-- The square root, free within 1 ulp (R314); of a negative value or of no finite one it is free. (DEDUCED, log 8) -/
def Fp.sqrt (a : Word) : Word :=
  if Fp.mant a = 0 && !Fp.nonFinite a then a
  else if Fp.nonFinite a || a.msb then Config.fsqrt a
  else
    let q := Fp.toRat a
    if Fp.nearRoot (Config.fsqrt a) q.1.natAbs q.2 then Config.fsqrt a
    else
      let e := Fp.expo a
      let m := (Fp.mant a).natAbs * (if e % 2 = 0 then 1 else 2)
      let p := Fp.pow2 ((if e % 2 = 0 then e else e - 1) / 2 - 30)
      Fp.ofRat (isqrtFrom 45 0 (m * 2 ^ 60) * p.1 : Nat) p.2

/-- One of fixed-point arithmetic: 2^100. -/
def expOne : Nat := 2 ^ 100
/-- Sum of the Taylor series of the exponential at u / 2^100 from a term on. -/
def expSum (u : Nat) : Nat → Nat → Nat → Nat
  | 0, _, _ => 0
  | n + 1, k, t => t + expSum u n (k + 1) (t * u / (expOne * (k + 1)))
/-- Squares n times. -/
def expSquare : Nat → Nat → Nat
  | 0, x => x
  | n + 1, x => expSquare n (x * x / expOne)
/-- The exponential of the magnitude of a finite value below 128, in units of 2^-100, to a relative error below 2^-80. -/
def expFix (a : Word) : Nat :=
  let p := Fp.pow2 (Fp.expo a)
  expSquare 8 (expSum ((Fp.mant a).natAbs * p.1 * expOne / (p.2 * 2 ^ 8)) 26 0 expOne)

/-- The exponential, free within a relative error of 2^-20 (R314); of no finite value it is free. (DEDUCED, log 8) -/
def Fp.exp (a : Word) : Word :=
  if Fp.nonFinite a then Config.fexp a
  else if Fp.lt 0x43000000#32 (Fp.abs a) then (if a.msb then 0#32 else Fp.inf false)
  else if a.msb then Fp.freeNear 20 (Config.fexp a) expOne (expFix a)
  else Fp.freeNear 20 (Config.fexp a) (expFix a) expOne

/-- −1, 0 or +1 by sign. -/
def Fp.sgn (a : Word) : Word :=
  if a &&& 0x7FFFFFFF#32 == 0#32 then 0#32 else if a.msb then 0xBF800000#32 else 0x3F800000#32

/-- The value times n / d, rounded to the nearest integer, halves away from zero. -/
def Fp.toIntScaled (a : Word) (n d : Nat) : Int :=
  if Fp.nonFinite a then (if a.msb then -(2 ^ 64 : Nat) else (2 ^ 64 : Nat))
  else
    let p := Fp.pow2 (Fp.expo a)
    let m := Fp.mant a
    let num := m.natAbs * p.1 * n
    let den := p.2 * d
    let q : Nat := if den = 0 then 0 else (2 * num + den) / (2 * den)
    if m < 0 then -(q : Int) else q

end Sys2Proof.Machine
end

