-- ==== Sys2Proof/Machine/Quant.lean ====
section
/-! DEFINITION. Exact comparison of measured fp32 values: conditions of the safety chapters are inequalities over real numbers, taken without rounding. -/

namespace Sys2Proof.Machine

/-- A rational number: numerator and positive denominator. (DEDUCED, log 10) -/
structure Q where
  num : Int
  den : Nat
  deriving DecidableEq, Repr

def Q.ofNat (n : Nat) : Q := ⟨n, 1⟩
/-- The value of a finite fp32 pattern. -/
def Q.ofFp (a : Word) : Q := let p := Fp.toRat a; ⟨p.1, p.2⟩
def Q.abs (a : Q) : Q := ⟨a.num.natAbs, a.den⟩
def Q.add (a b : Q) : Q := ⟨a.num * b.den + b.num * a.den, a.den * b.den⟩
def Q.sub (a b : Q) : Q := ⟨a.num * b.den - b.num * a.den, a.den * b.den⟩
def Q.mul (a b : Q) : Q := ⟨a.num * b.num, a.den * b.den⟩
/-- The value times n / d. -/
def Q.scale (a : Q) (n d : Nat) : Q := ⟨a.num * n, a.den * d⟩
def Q.lt (a b : Q) : Bool := decide (a.num * b.den < b.num * a.den)
def Q.le (a b : Q) : Bool := decide (a.num * b.den ≤ b.num * a.den)
def Q.max (a b : Q) : Q := if a.lt b then b else a
/-- The integer part toward zero of a non-negative value. -/
def Q.floor (a : Q) : Nat := (a.num / (a.den : Int)).toNat

/-- A current in 0.1 A, or a voltage in 0.05 V units scaled by `k` per unit, for an event parameter (R535). -/
def Q.param (a : Q) (k : Nat) : Int := (a.num * k) / (a.den : Int)

end Sys2Proof.Machine
end

