-- ==== Sys2Proof/Machine/Accept.lean ====
section
/-! DEFINITION. Acceptance of an image (R122, R125 to R129, R610 and the field ranges of every section): the refusals of Table IMG-12 other than those of the deadline check. -/

namespace Sys2Proof.Machine

/-- A refusal: code, detail and margin (R146). -/
abbrev Ref := Nat × Nat × Int

/-- A condition that must hold, with the refusal of one that does not. -/
def need (ok : Bool) (code detail : Nat) : List Ref := if ok then [] else [(code, detail, 0)]

/-- A number lies in a range. -/
def within (v lo hi : Nat) : Bool := decide (lo ≤ v) && decide (v ≤ hi)

/-- A finite fp32 value lies between the fp32 values nearest to two rationals. (DEDUCED, log 10) -/
def fpWithin (w : Word) (lo hi : Int × Nat) : Bool := !Fp.nonFinite w && Fp.le (Fp.ofRat lo.1 lo.2) w && Fp.le w (Fp.ofRat hi.1 hi.2)

/-! Raw bytes by image offset. -/
def Img.r16 (i : Img) (a : Nat) : Nat := i.byte a + 256 * i.byte (a + 1)
def Img.r32 (i : Img) (a : Nat) : Nat := i.r16 a + 65536 * i.r16 (a + 2)
def Img.raw (i : Img) (a n : Nat) : List Byte := (List.range n).map (fun k => BitVec.ofNat 8 (i.byte (a + k)))
/-- `n` bytes of a section are 0. -/
def Img.zeros (i : Img) (t o n : Nat) : Bool := (List.range n).all (fun k => i.u8 t (o + k) == 0)

/-! Header and directory (Tables IMG-1, IMG-2). -/
def Img.secCount (i : Img) : Nat := i.r16 6
def Img.len (i : Img) : Nat := i.r32 8
def Img.imgId (i : Img) : Nat := i.r32 12
def Img.rev (i : Img) : Nat := i.r32 16

/-- The refusal of a header: magic, format version, section count, length. -/
def Img.badHeader (i : Img) (slotSize : Nat) : List Ref :=
  if i.raw 0 4 != [0x4E#8, 0x47#8, 0x49#8, 0x4D#8] || i.r16 4 != 1 || !within i.secCount 14 16 then [(0x1000, 0, 0)]
  else if 2 ^ 24 < i.len || slotSize < i.len then [(0x1001, 0, 0)] else []

/-- A directory entry: type, version, offset, length, CRC. -/
structure DirEnt where
  type : Nat
  ver : Nat
  off : Nat
  len : Nat
  crc : Nat
  deriving DecidableEq, Repr

def Img.dirEnt (i : Img) (k : Nat) : DirEnt :=
  let a := 64 + 16 * k
  ⟨i.r16 a, i.r16 (a + 2), i.r32 (a + 4), i.r32 (a + 8), i.r32 (a + 12)⟩

/-- The image with its directory read. -/
def Img.parsed (i : Img) : Img := { i with dir := (List.range i.secCount).map (fun k => let e := i.dirEnt k; (e.type, e.off, e.len)) }

/-- The length Table IMG-3 gives a section of a parsed image. -/
def Img.wantLen (i : Img) (t : Nat) : Nat :=
  match t with
  | 0x01 => 132096 | 0x02 => 16384 | 0x03 => 16 + 16 * (i.u16 3 0 + i.u16 3 2) | 0x04 => 262144 | 0x05 => 262144
  | 0x06 => 64 + 4096 * i.u16 6 0 | 0x07 => 32 | 0x08 => 1792 | 0x09 => 464 | 0x0A => 528 | 0x0B => 528 | 0x0C => 64 | 0x0D => 64
  | 0x0E => 128 | 0x0F => 16 + 16 * i.u16 15 0 | _ => 8208

/-- The directory's refusals (R126). -/
def Img.badDir (i : Img) : List Ref :=
  let n := i.secCount
  let es := (List.range n).map i.dirEnt
  let one (k : Nat) : Bool :=
    let e := i.dirEnt k
    within e.type 1 16 && e.ver == 1 && e.off % 16 == 0 && decide (64 + 16 * n ≤ e.off) && decide (e.off + e.len + 96 ≤ i.len)
      && e.len == i.wantLen e.type
      && (List.range n).all (fun j => let d := i.dirEnt j
          j == k || (d.type != e.type && (decide (d.off + d.len ≤ e.off) || decide (e.off + e.len ≤ d.off)) && (e.type != 16 || decide (d.off ≤ e.off))))
  let faults := ((List.range n).filter (fun k => !one k)).map (fun k => (i.dirEnt k).type % 256)
  let missing := ([1, 2, 3, 4, 5, 6, 7, 8, 9, 10, 11, 12, 13, 16] : List Nat).filter (fun t => !es.any (fun e => e.type == t))
  (faults ++ missing).eraseDups.map (fun t => (0x1200 + t, 0, 0))

/-- Section CRCs and the integrity digest (R125, R126). -/
def Img.badSums (i : Img) : List Ref :=
  ((List.range i.secCount).map i.dirEnt).flatMap (fun e => need ((crc32c (i.raw e.off e.len)).toNat == e.crc) (0x1100 + e.type % 256) 0)
    ++ need (sha256 (i.raw 0 (i.len - 96)) == i.raw (i.len - 96) 32) 0x1002 0

/-! Chain map and string map (R127, R177, R308, R400, R610). -/

/-- One node entry of a chain with n nodes. -/
def Img.nodeOk (i : Img) (c n h : Nat) : Bool :=
  let o := Img.nodeOff c h
  let ty := i.nodeType c h
  if h < n then
    let s := i.nodeString c h
    (ty == 1 || ty == 2) && (if ty == 1 then decide (i.nodeFilter c h ≤ 3) && decide (i.nodeProfile c h < i.u16 6 0) else i.zeros 1 (o + 1) 2)
      && i.zeros 1 (o + 3) 1 && i.zeros 1 (o + 6) 2 && (decide (s ≤ 511) || s == 0xFFFF)
  else i.zeros 1 o 16

/-- One chain (Tables IMG-4, IMG-5, LNK-2). -/
def Img.badChain (i : Img) (c : Nat) : List Ref :=
  let o := 2064 * c
  let n := i.nodes c
  let head := decide (i.u8 1 o < 8) && decide (i.u8 1 (o + 2) < 64) && decide (i.u8 1 (o + 3) < 64) && i.zeros 1 (o + 4) 12
    && (if i.chainOn c then within n 1 128 else n == 0)
    && decide (((List.range 128).filter (fun h => i.nodeType c h == 2)).length ≤ 8)
  need head (0x1300 + c) 0 ++ ((List.range 128).filter (fun h => !i.nodeOk c n h)).map (fun h => (0x1300 + c, h + 1, 0))

/-- Chains on which a node entry names a string. -/
def Img.naming (i : Img) (m : Nat) : List Nat :=
  (List.range 64).filter (fun c => (List.range (i.nodes c)).any (fun h => i.nodeString c h == m))

/-- A string record is used: enabled, or named by a node entry (R610). -/
def Img.strUsed (i : Img) (m : Nat) : Bool := i.strOn m || !(i.naming m).isEmpty
/-- The string whose record, a used one, gives a chain and hop index (R234, R610). -/
def Img.stringAt (i : Img) (c h : Nat) : Option Nat := (List.range 512).find? (fun m => i.strChain m == c && i.strHop m == h + 1 && i.strUsed m)

/-- One string record that is in use (R610). -/
def Img.strOk (i : Img) (m : Nat) : Bool :=
  let o := 32 * m
  let c := i.strChain m
  let h := i.strHop m
  within (i.strTokenMs m) 20 2000 && within (i.strShuntR m) 1000 65535
    && within (i.u16 2 (o + 0x14)) 10 1000 && within (i.u16 2 (o + 0x16)) 10 10000 && within (i.strJoinDv m) 1 1000
    && decide (i.u8 2 (o + 0x1A) < 2) && i.zeros 2 (o + 0x1B) 1 && within (i.strVerifyMs m) 20 2000 && i.zeros 2 (o + 0x1E) 2
    && decide (c < 64) && within h 1 128 && i.nodeType c (h - 1) == 2 && (i.naming m).all (fun d => d == c)

/-- The string map. (DEDUCED, log 25) -/
def Img.badStrings (i : Img) : List Ref :=
  ((List.range 512).filter (fun m => i.strUsed m && !i.strOk m)).map (fun m => (0x1400 + m % 256, m, 0))

/-! Limit classes and tables (R128, R217, R254). -/

def Img.badClass (i : Img) (path k : Nat) : List Ref :=
  need (decide (i.classKind path k ≤ 4) && decide (i.classReaction path k ≤ 3) && within (i.classPersist path k) 1 8
    && decide (i.classLow path k ≤ i.classHigh path k)) (0x1500 + k) path

/-- The kind a class of a point must have, none for an unused point (R254). -/
def Img.pointKind (i : Img) (c h k : Nat) : Option Nat :=
  match i.nodeType c h with
  | 1 => if k < 24 then some 0 else some 1
  | 2 => if k = 0 || k = 1 || k = 6 then some 2 else if k = 2 then some 3 else if k < 8 then some 4 else none
  | _ => none

/-- One point of a table. -/
def Img.badPoint (i : Img) (path c h k : Nat) : List Ref :=
  let cl := i.classOf path (pointOf c h k)
  if cl = 0 then []
  else if i.classCount path < cl then [(0x1600 + c, h + 1, 0)]
  else need (i.pointKind c h k == some (i.classKind path cl)) (0x1804 + path) (c * 128 + h)

/-- Classes of path B and kind 0 that the cells of a block name. -/
def Img.cellClasses (i : Img) (c h : Nat) : List Nat :=
  ((List.range 24).map (fun k => i.classOf 1 (pointOf c h k))).filter (fun cl => cl != 0 && i.classKind 1 cl == 0)

/-- The least of a list of integers, or a default. -/
def leastOf (d : Int) (l : List Int) : Int := l.foldl min d

/-- SC_OV_THR and SC_UV_THR in mV before they are held within the node's ranges (R217); cell limits are in 0.1 mV. -/
def Img.scThr (i : Img) (c h : Nat) : Int × Int :=
  match i.cellClasses c h with
  | [] => (5000, 500)
  | k :: ks =>
    let ov := leastOf (i.classHigh 1 k) (ks.map (i.classHigh 1))
    let uv := -(leastOf (-(i.classLow 1 k)) (ks.map (fun j => -(i.classLow 1 j))))
    (ov / 100 * 10, -((-uv) / 100) * 10)

/-- One node's points on both tables. -/
def Img.badNodePoints (i : Img) (c h : Nat) : List Ref :=
  (List.range 32).flatMap (fun k => i.badPoint 0 c h k ++ i.badPoint 1 c h k)
    ++ (if i.nodeType c h = 1 then let t := i.scThr c h; need (decide (2000 ≤ t.1) && decide (t.2 ≤ 4000)) 0x1805 (c * 128 + h) else [])

def Img.badLimits (i : Img) : List Ref :=
  need (decide (i.classCount 0 ≤ 255) && decide (i.classCount 1 ≤ 255)) 0x1803 0
    ++ ((List.range (i.classCount 0)).flatMap (fun k => i.badClass 0 (k + 1)))
    ++ ((List.range (i.classCount 1)).flatMap (fun k => i.badClass 1 (k + 1)))
    ++ (List.range 64).flatMap (fun c => (List.range 128).flatMap (fun h => i.badNodePoints c h))

/-! Profiles (R308, R310, R346). -/

/-- fp32 fields of a section: offset and range. -/
def Img.fpOk (i : Img) (t b : Nat) (l : List (Nat × (Int × Nat) × (Int × Nat))) : Bool := l.all (fun r => fpWithin (i.f32 t (b + r.1)) r.2.1 r.2.2)

/-- Table EST-2. -/
def Img.profHeadOk (i : Img) : Bool :=
  within (i.u16 6 0) 1 16 && i.zeros 6 2 2 && i.zeros 6 0x39 7 && within (i.u8 6 0x38) 1 255
    && i.fpOk 6 0 [ (0x04, (1, 100), (1, 1)), (0x08, (1, 1000), (1, 1)), (0x0C, (1, 1000), (1, 1)), (0x10, (1, 1000), (1, 1)), (0x14, (1, 10), (2000, 1)),
      (0x18, (1, 1), (10000, 1)), (0x1C, (1, 1), (10000, 1)), (0x20, (3, 1), (20, 1)), (0x24, (0, 1), (1, 10)), (0x28, (0, 1), (2000, 1)),
      (0x2C, (1, 1000), (1, 5)), (0x30, (0, 1), (1, 10)), (0x34, (1, 1), (2000, 1)) ]

/-- Strictly rising fp32 values. -/
def rising : List Word → Bool
  | a :: b :: l => Fp.lt a b && rising (b :: l)
  | _ => true

/-- A φ column is strictly monotonic with a slope of at least 0.01 °/K in every segment (R346). -/
def Img.phiOk (i : Img) (o s : Nat) : Bool :=
  let v (t : Nat) : Q := Q.ofFp (i.f32 6 (o + 0xE40 + (3 * t + s) * 4))
  let tt (t : Nat) : Q := Q.ofFp (i.f32 6 (o + 0x10 + 4 * t))
  let seg (t : Nat) : Q := (v (t + 1)).sub (v t)
  let steep (t : Nat) : Bool := (((tt (t + 1)).sub (tt t)).scale 1 100).le (seg t).abs
  (List.range 7).all steep && ((List.range 7).all (fun t => decide (0 < (seg t).num)) || (List.range 7).all (fun t => decide ((seg t).num < 0)))

/-- Table EST-3 and Table RIP-5. -/
def Img.profOk (i : Img) (p : Nat) : Bool :=
  let o := 64 + 4096 * p
  let f (a : Nat) : Word := i.f32 6 (o + a)
  let dis (t s : Nat) : Word := f (0x060 + (33 * t + s) * 4)
  let chg (t s : Nat) : Word := f (0x480 + (33 * t + s) * 4)
  i.fpOk 6 o [ (0x008, (1, 1), (2000, 1)), (0x00C, (9, 10), (1, 1)), (0x030, (0, 1), (1000, 1)), (0x034, (0, 1), (1, 1)), (0x038, (0, 1), (1, 1)), (0x03C, (0, 1), (1, 1)),
      (0x040, (1, 10000), (1, 10)), (0xEA0, (1, 100), (10, 1)), (0xEA4, (1, 100), (100, 1)), (0xEA8, (1, 1), (10000, 1)), (0xEAC, (0, 1), (1, 1)),
      (0xEB0, (1, 10), (10, 1)), (0xEB4, (1, 10), (500, 1)), (0xEB8, (1, 10), (500, 1)), (0xEBC, (1, 100), (1000, 1)), (0xEC0, (1, 1), (50, 1)) ]
    && (List.range 8).all (fun t => fpWithin (f (0x10 + 4 * t)) (-40, 1) (85, 1)) && rising ((List.range 8).map (fun t => f (0x10 + 4 * t)))
    && !Fp.nonFinite (f 0x44) && !Fp.nonFinite (f 0x48) && Fp.lt (f 0x44) (f 0x48) && i.zeros 6 (o + 0x4C) 20 && i.zeros 6 (o + 0xF40) 192 && i.zeros 6 (o + 0xEC4) 124
    && (List.range 8).all (fun t => (List.range 33).all (fun s => !Fp.nonFinite (dis t s) && !Fp.nonFinite (chg t s) && Fp.le (dis t s) (chg t s)
      && (s == 32 || (Fp.le (dis t s) (dis t (s + 1)) && Fp.le (chg t s) (chg t (s + 1))))))
    && (List.range 8).all (fun t => (List.range 9).all (fun s => (List.range 5).all (fun k =>
      let v := f (0x8A0 + ((9 * t + s) * 5 + k) * 4)
      if k = 2 || k = 4 then fpWithin v (1, 10) (100000, 1) else fpWithin v (1, 1000) (1000, 1))))
    && (List.range 24).all (fun k => fpWithin (f (0xE40 + 4 * k)) (-90, 1) (90, 1)) && (List.range 3).all (fun s => i.phiOk o s)

def Img.badProfiles (i : Img) : List Ref :=
  need i.profHeadOk 0x1806 0xFFFF ++ ((List.range (i.u16 6 0)).filter (fun p => !i.profOk p)).map (fun p => (0x1806, p, 0))

/-! Schedule (R129, R170, R171, R515). -/

/-- au of a sweep interval. -/
def Img.intervalAu (i : Img) : Nat := 65536 / i.schedS + i.schedP
/-- Test slots that fit between close and the next sweep at a frequency in 0.01 Hz (R168). -/
def Img.nFit (i : Img) (f : Nat) : Nat :=
  if f = 0 then 0 else ((i.intervalAu - i.schedC) * 100000000 - 20 * 65536 * f) / (200 * 65536 * f)

def Img.schedOk (i : Img) : Bool :=
  let q := i.u16 7 0x16
  let fl := i.pubFlags
  (i.schedS == 1 || i.schedS == 2 || i.schedS == 4) && decide (i.u8 7 1 ≤ 4) && (i.schedD == 1 || i.schedD == 2 || i.schedD == 4) && decide (i.schedSrc ≤ 2)
    && decide (4000 ≤ i.fMin) && decide (i.fMin ≤ i.fNom) && decide (i.fNom ≤ i.fMax) && decide (i.fMax ≤ 7000)
    && decide (1024 ≤ i.schedC) && decide (i.schedC + 1024 ≤ i.intervalAu) && decide (i.schedT ≤ 4) && decide (i.u8 7 13 ≤ 1)
    && bitsOf fl 3 5 == 0 && (bitsOf fl 0 2 == 0 || bitsOf fl 8 8 != 0)
    && decide (i.u8 7 0x10 ≤ 2) && decide (i.u8 7 0x11 ≤ 1) && (i.schedSrc != 2 || i.u8 7 0x11 == 0) && within (i.u8 7 0x18) 2 50 && i.zeros 7 0x19 7
    && (q == 0 || (decide (i.schedC ≤ q) && decide (q + 1024 ≤ i.intervalAu + i.schedC)))
    && (i.schedT == 0 || decide (i.schedT ≤ i.nFit i.fMax * i.schedS))

/-! Safety parameters (R368, R393, R396 to R399, R447). -/

/-- Integer fields: offset, width in bytes, range. -/
def Img.badInts (i : Img) (t code : Nat) (l : List (Nat × Nat × Nat × Nat)) : List Ref :=
  l.flatMap (fun r => need (within (if r.2.1 = 1 then i.u8 t r.1 else i.u16 t r.1) r.2.2.1 r.2.2.2) code r.1)
/-- fp32 fields, with their offset as detail. -/
def Img.badFps (i : Img) (t code : Nat) (l : List (Nat × (Int × Nat) × (Int × Nat))) : List Ref :=
  l.flatMap (fun r => need (fpWithin (i.f32 t r.1) r.2.1 r.2.2) code r.1)
/-- Reserved bytes, with their first offset as detail. (DEDUCED, log 25) -/
def Img.badZeros (i : Img) (t code : Nat) (l : List (Nat × Nat)) : List Ref := l.flatMap (fun r => need (i.zeros t r.1 r.2) code r.1)

/-- Tables SOP-6 and SOP-7. -/
def Img.badSop (i : Img) : List Ref :=
  let head := i.fpOk 8 0 [(0x00, (0, 1), (1000000, 1)), (0x04, (0, 1), (1000000, 1)), (0x08, (0, 1), (1, 2)), (0x0C, (0, 1), (5, 1)), (0x10, (0, 1), (5, 1)),
      (0x1C, (0, 1), (327675, 100)), (0x20, (0, 1), (327675, 100))]
    && within (i.sp16 0x14) 1 1000 && decide (i.sp8 0x16 ≤ 100) && within (i.sp16 0x18) 1 3600 && within (i.sp8 0x1A) 1 255
    && i.zeros 8 0x17 1 && i.zeros 8 0x1B 1 && i.zeros 8 0x24 28 && i.zeros 8 0x340 192
  let prof (p : Nat) : Bool :=
    let o := 0x40 + 48 * p
    let lo := i.f32 6 (64 + 4096 * p + 0x44)
    let hi := i.f32 6 (64 + 4096 * p + 0x48)
    let vx := i.spF o
    let vn := i.spF (o + 4)
    !Fp.nonFinite vx && !Fp.nonFinite vn && Fp.lt vn vx && Fp.le lo vn && Fp.le vn hi && Fp.le lo vx && Fp.le vx hi
      && (List.range 34).all (fun k => decide (i.sp8 (o + 8 + k) ≤ 200)) && i.zeros 8 (o + 0x2A) 6
  need head 0x1808 0xFFFF ++ ((List.range (i.u16 6 0)).filter (fun p => !prof p)).map (fun p => (0x1808, p, 0))

/-- Table DSC-8. -/
def Img.badDsc (i : Img) : List Ref :=
  i.badFps 8 0x1808 [(0x400, (1, 10), (10000, 1)), (0x404, (1, 1), (10000, 1)), (0x408, (1, 1), (100000, 1)), (0x40C, (0, 1), (10000, 1)), (0x410, (1, 1), (10000, 1)),
      (0x414, (1, 1), (500, 1)), (0x418, (1, 1), (500, 1))]
    ++ i.badInts 8 0x1808 [(0x41C, 2, 10, 1000), (0x41E, 2, 10, 10000), (0x420, 2, 0, 5000), (0x422, 2, 20, 2000), (0x424, 2, 100, 10000), (0x426, 2, 10, 2000),
      (0x428, 2, 10, 2000), (0x42A, 2, 1, 480), (0x42C, 2, 1, 1440), (0x42E, 2, 1, 1000), (0x430, 2, i.sp16 0x42E, 1000), (0x432, 2, 0, 127), (0x434, 1, 0, 50),
      (0x435, 1, 1, 50), (0x436, 1, 1, 100), (0x437, 1, 0, 50), (0x438, 1, 1, 50), (0x439, 1, 1, 100), (0x43A, 1, 1, 255)]
    ++ i.badZeros 8 0x1808 [(0x43B, 197)]

/-- One input record (Table SIO-2). -/
def Img.badInput (i : Img) (n : Nat) : List Ref :=
  let o := 0x500 + 16 * n
  let f := i.inFunc n
  let fl := i.sp8 (o + 1)
  let m := i.inProof n
  need (decide (f ≤ 4)) 0x1808 o
    ++ need (decide (fl < 4) && (f != 0 && f != 3 || fl == 0) && (f != 1 && f != 2 || !fl.testBit 0)) 0x1808 (o + 1)
    ++ need (!(f == 1 || f == 2 || f == 4) || within (i.inDiscMs n) 10 2000) 0x1808 (o + 2)
    ++ need (decide (m ≤ 2) && (f != 0 && f != 3 || m == 0)) 0x1808 (o + 4)
    ++ need (m != 2 || within (i.inProofH n) 1 8760) 0x1808 (o + 6) ++ need (m != 2 || decide (i.inGraceH n ≤ 720)) 0x1808 (o + 8)
    ++ i.badZeros 8 0x1808 [(o + 5, 1), (o + 10, 6)]

/-- Table SIO-1 but for the contactor block. -/
def Img.badSio (i : Img) : List Ref :=
  (List.range 8).flatMap i.badInput
    ++ i.badInts 8 0x1808 [(0x580, 1, 0, 3), (0x582, 2, 100, 2000), (0x584, 2, 100, 1000), (0x590, 2, 50, 300), (0x592, 2, 100, 2000)]
    ++ i.badZeros 8 0x1808 [(0x581, 1), (0x586, 10), (0x594, 108), (0x640, 192)]

/-- Table CTR-1 with R396, R397 and R399. -/
def Img.badCtr (i : Img) : List Ref :=
  let n (r : Nat) : Nat := ((List.range 8).filter (fun k => i.pairRole k == r)).length
  (List.range 8).flatMap (fun k =>
      let fb := i.pairFb k
      let r := i.pairRole k
      need (decide (r ≤ 3)) 0x1808 (0x600 + k)
        ++ need ((decide (fb ≤ 7) && i.inFunc fb == 3) || (fb == 0xFF && r != 1 && r != 2) || (r == 0 && decide (fb ≤ 7))) 0x1808 (0x608 + k))
    ++ need (decide (n 3 ≤ 1) && decide (1 ≤ n 1) && decide (1 ≤ n 2)) 0x1808 0x600
    ++ i.badInts 8 0x1808 [(0x610, 2, 10, 1000), (0x612, 2, 10, 1000), (0x614, 2, 10, 10000), (0x616, 2, 0, 10000),
      (0x618, 2, max 20 (max (i.sp16 0x614 + 1) (i.sp16 0x616 + 1)), 30000), (0x61A, 2, 10, 1000), (0x61C, 2, 0, 3600), (0x61E, 1, 1, 99), (0x61F, 1, 80, 99),
      (0x624, 2, 1, 512), (0x626, 1, 0, 1)]
    ++ i.badFps 8 0x1808 [(0x620, (1, 1), (10000, 1)), (0x628, (1, 1), (500, 1))] ++ i.badZeros 8 0x1808 [(0x627, 1), (0x62C, 20)]
    ++ need (n 3 != 0 || i.pcsPrecharge) 0x1808 0x626

/-! Switch settings (R502). -/

def Img.badSwitch (i : Img) : List Ref :=
  let chan (n : Nat) : Bool :=
    let b (o : Nat) : Nat := i.swByte n o
    let coil := decide (n < 8) || decide (16 ≤ n)
    decide (b 0 ≤ 2) && decide (b 1 ≤ 7) && decide (b 2 ≤ 3) && decide (b 3 < 16) && within (b 4) 30 90 && decide (b 5 ≤ 15) && i.zeros 9 (0x16 + 16 * n) 10
      && (!coil || (b 0 == 0 && b 1 == 0 && b 2 == 0 && b 5 == 0 && bitsOf (b 3) 0 2 == 0))
  let gen (g : Nat) : Bool :=
    let o := 0x190 + 8 * g
    within (i.u16 9 o) 50 2000 && decide (i.u16 9 (o + 2) ≤ 1000)
      && (if i.swFlags.testBit 1 then decide (i.u8 9 (o + 4) ≤ 7) && i.zeros 9 (o + 5) 3 else decide (i.u16 9 (o + 4) ≤ 3599) && i.zeros 9 (o + 6) 2)
  need (decide (i.swFlags < 4) && i.zeros 9 1 1 && within i.swWdMs 10 1000 && within i.swRetryWin 1 3600 && i.zeros 9 6 10) 0x1809 0xFFFF
    ++ ((List.range 24).filter (fun n => !chan n)).map (fun n => (0x1809, n, 0)) ++ ((List.range 8).filter (fun g => !gen g)).map (fun g => (0x1809, 24 + g, 0))

/-! Rings and connections (R482, R483, R508). -/

def Img.ringType (i : Img) (r : Nat) : Nat := i.u8 10 (16 + 8 * r)
def Img.ringClass (i : Img) (r : Nat) : Nat := i.u8 10 (17 + 8 * r)
def Img.badRings (i : Img) : List Ref :=
  let extra (t r : Nat) : Bool := i.ringType r == t && (List.range r).any (fun q => i.ringType q == t)
  need (i.zeros 10 0 16) 0x180A 0
    ++ ((List.range 64).filter (fun r => !(decide (i.ringType r ≤ 5) && decide (i.ringClass r ≤ 3) && (i.ringType r == 3 || i.ringClass r == 0)
      && decide (i.u16 10 (18 + 8 * r) ≤ 10000) && i.zeros 10 (20 + 8 * r) 4) || extra 2 r || extra 5 r)).map (fun r => (0x180A, r, 0))

/-- The MAC of an Ethernet medium is enabled by section 0x0E. -/
def Img.macOn (i : Img) (m : Nat) : Bool := i.has 14 && i.bit 14 0 (m - 2)

/-- One enabled connection record. -/
def Img.connOk (i : Img) (n : Nat) : Bool :=
  let o := Img.cnOff n
  let m := i.cnMedium n
  let can := decide (m < 2)
  decide (i.u8 11 o < 8) && decide (m ≤ 3) && within (i.cnTe n) 5 1000 && i.cnKinds n % 2 == 0 && decide (i.cnKinds n < 32) && i.zeros 11 (o + 9) 3 && i.zeros 11 (o + 0x1A) 6
    && (!can || (bitsOf (i.cnTx n) 29 2 == 0 && bitsOf (i.cnRx n) 29 2 == 0 && i.zeros 11 (o + 0x14) 6))
    && (can || i.macOn m)
    && (!i.cnFlag n 1 || (i.cnFlag n 2 && bitsOf (i.cnKinds n) 1 3 == 7 && decide (4 * i.intervalAu * 100000 < i.cnTe n * 65536 * i.fMin)))
    && (List.range 16).all (fun k => k == n || !i.cnFlag k 0 || i.cnMedium k != m || i.cnRx k != i.cnRx n || (!can && i.cnTx k / 65536 != i.cnTx n / 65536))

def Img.badConns (i : Img) : List Ref :=
  let on := (List.range 16).filter (fun n => i.cnFlag n 0)
  let many (k : Nat) : Bool := decide ((on.filter (fun n => (i.cnKinds n).testBit k)).length ≤ 4)
  need (decide (i.u8 11 0 ≤ 2) && decide (i.u8 11 1 ≤ 3) && decide (i.u8 11 2 ≤ 2) && decide (i.u8 11 3 ≤ 3) && i.zeros 11 4 12
      && (on.filter (fun n => i.cnFlag n 1)).length == 1 && many 1 && many 3) 0x180B 0xFFFF
    ++ (on.filter (fun n => !i.connOk n)).map (fun n => (0x180B, n, 0))

/-! Sense and I/O, MAC settings, test campaigns, change log (R91, R268, R448, R525). -/

def Img.badSense (i : Img) : List Ref :=
  let f (o : Nat) : Word := i.f32 13 o
  let on (b : Nat) : Bool := i.bit 13 0 b
  let scale (o : Nat) : Bool := fpWithin (f o) (1, 100) (1000000, 1)
  let offs (o : Nat) (full : Q) : Bool := !Fp.nonFinite (f o) && (Q.ofFp (f o)).abs.le (full.scale 1 10)
  need (decide (i.u8 13 0 < 32) && i.zeros 13 1 1 && i.zeros 13 0x20 32 && decide (i.u16 13 2 ≤ 1440)
      && (!on 0 || (scale 0x04 && offs 0x08 (Q.ofFp (f 0x04)))) && (!on 1 || scale 0x0C) && (!on 2 || scale 0x10) && (!on 3 || scale 0x14)
      && (!on 4 || (scale 0x18 && offs 0x1C ((Q.ofFp (f 0x18)).scale 5 2)))) 0x180D 0
    ++ need (on 0) 0x1700 0 ++ need (on 4) 0x1701 0

/-- A host filter of a CAN controller accepts an identifier (Table HOST-9). -/
def Img.filterAccepts (i : Img) (j medium ident : Nat) : Bool :=
  let idw := i.u32 14 (0x20 + 8 * j)
  let mk := i.u32 14 (0x24 + 8 * j)
  idw.testBit 31 && bitsOf idw 30 1 == medium && mk.testBit 31 == ident.testBit 31
    && (bitsOf idw 0 29 &&& bitsOf mk 0 29) == (bitsOf ident 0 29 &&& bitsOf mk 0 29)

def Img.badMac (i : Img) : List Ref :=
  if !i.has 14 then []
  else
    need (decide (i.u8 14 0 < 16) && decide (i.u8 14 1 < 16) && decide (i.u8 14 2 < 16) && i.zeros 14 3 1 && decide (i.u8 14 4 < 32) && decide (i.u8 14 5 < 32)
      && i.zeros 14 6 2 && i.zeros 14 0x1C 4 && i.zeros 14 0x60 32) 0x180E 0xFFFF
      ++ ((List.range 8).filter (fun j => (List.range 16).any (fun n => i.cnFlag n 0 && decide (i.cnMedium n < 2) && i.filterAccepts j (i.cnMedium n) (i.cnRx n)))).map
        (fun j => (0x180E, j, 0))

/-! Test campaigns (Table SWP-7). -/
def Img.campCount (i : Img) : Nat := if i.has 15 then i.u16 15 0 else 0
def Img.campCode (i : Img) (e : Nat) : Nat := i.u8 15 (16 + 16 * e)
def Img.campMin (i : Img) (e : Nat) : Nat := i.u16 15 (18 + 16 * e)
def Img.campMask (i : Img) (e : Nat) : Nat := i.u32 15 (20 + 16 * e) + 2 ^ 32 * i.u32 15 (24 + 16 * e)
def Img.badCamps (i : Img) : List Ref :=
  if !i.has 15 then []
  else
    need (within (i.u16 15 0) 1 32 && i.zeros 15 2 14) 0x180F 0xFFFF
      ++ ((List.range (i.u16 15 0)).filter (fun e => !(within (i.campCode e) 1 7 && i.campCode e != 6 && i.zeros 15 (17 + 16 * e) 1
        && within (i.campMin e) 1 65535 && i.zeros 15 (28 + 16 * e) 4))).map (fun e => (0x180F, e, 0))

/-- Field checks of every section, in ascending order of code. -/
def Img.badFields (i : Img) : List Ref :=
  (List.range 64).flatMap i.badChain ++ i.badStrings ++ i.badLimits ++ i.badSense ++ i.badProfiles ++ need i.schedOk 0x1807 0 ++ i.badSop ++ i.badDsc ++ i.badSio
    ++ i.badCtr ++ i.badSwitch ++ i.badRings ++ i.badConns ++ i.badMac ++ i.badCamps ++ need (decide (i.u16 16 4 ≤ 255)) 0x1810 0

/-- Places a refusal by code (R146). -/
def placeRef (r : Ref) : List Ref → List Ref
  | [] => [r]
  | x :: xs => if r.1 < x.1 then r :: x :: xs else x :: placeRef r xs
/-- Refusals in ascending order of code. -/
def sortRefs (l : List Ref) : List Ref := l.foldl (fun a r => placeRef r a) []

/-- Every refusal of an image that the checks of R122 find; none where it is intact. -/
def Img.refusals (i : Img) (slotSize : Nat) : List Ref :=
  match i.badHeader slotSize with
  | r :: _ => [r]
  | [] =>
    match i.parsed.badDir with
    | [] => sortRefs (i.parsed.badSums ++ i.parsed.badFields)
    | l => sortRefs (l ++ i.badSums)

end Sys2Proof.Machine
end

