-- ==== Sys2Proof/Machine/Shared.lean ====
section
/-! DEFINITION. Operations that several blocks share: the records of chains, nodes, strings, connections and channels, the string
store, snapshots, the output precedence of the switch channels, SD0, repair and region faults. -/

namespace Sys2Proof.Machine

/-! What a unit keeps between commands; an unlisted one is blank. -/
def blankChain (_ : Nat) : ChainX := {}
def blankStr (_ : Nat) : StrX := {}
def blankConn (_ : Nat) : SflConn := {}
def blankChan (_ : Nat) : SwChan := {}
def State.chain (s : State) (c : Nat) : ChainX := Sparse.get blankChain s.chains c
def State.setChain (s : State) (c : Nat) (x : ChainX) : State := { s with chains := Sparse.set blankChain s.chains c x }
def State.str (s : State) (n : Nat) : StrX := Sparse.get blankStr s.ctr.strs n
def State.setStr (s : State) (n : Nat) (x : StrX) : State := { s with ctr := { s.ctr with strs := Sparse.set blankStr s.ctr.strs n x } }
def State.conn (s : State) (n : Nat) : SflConn := Sparse.get blankConn s.sfl.conns n
def State.setConn (s : State) (n : Nat) (x : SflConn) : State := { s with sfl := { s.sfl with conns := Sparse.set blankConn s.sfl.conns n x } }
def State.chan (s : State) (n : Nat) : SwChan := Sparse.get blankChan s.sw.chans n
def State.setChan (s : State) (n : Nat) (x : SwChan) : State := { s with sw := { s.sw with chans := Sparse.set blankChan s.sw.chans n x } }

/-! 64-bit words of the state sets' cell records, the string store and the block store, by BAR2 offset (Table STO-2). -/
def zeroWord (_ : Nat) : BitVec 64 := 0#64
def State.sto64 (s : State) (off : Nat) : BitVec 64 := Sparse.get zeroWord s.sto.words (off / 8)
def State.setSto64 (s : State) (off : Nat) (w : BitVec 64) : State :=
  { s with sto := { s.sto with words := Sparse.set zeroWord s.sto.words (off / 8) w } }
/-- `n` bytes of a record as a little-endian number; the bytes lie in one word. -/
def State.stoGet (s : State) (off n : Nat) : Nat := bitsOf (s.sto64 off).toNat (8 * (off % 8)) (8 * n)
def State.stoPut (s : State) (off n v : Nat) : State :=
  s.setSto64 off (BitVec.ofNat 64 (setBits (s.sto64 off).toNat (8 * (off % 8)) (8 * n) v))
def State.stoPutBytes (s : State) (off : Nat) : List Byte → State
  | [] => s
  | b :: bs => (s.stoPut off 1 b.toNat).stoPutBytes (off + 1) bs

/-- A count by key; an unlisted one is 0. -/
def zeroNat (_ : Nat) : Nat := 0

/-! Supplies (R119). -/

/-- A supply as its PWR register gives it now: as the event of this millisecond carried it, else a value that nothing fixes. (DESIGN CHOICE, log 105) -/
def State.supply (s : State) (ch : Nat) (held : Nat) : Nat := if nth 0 s.pwr.supplyAt ch = s.now + 1 then held else (Config.supply ch s.now).toNat
/-- An event has carried a supply. -/
def State.measured (s : State) (ch : Nat) : State := { s with pwr := { s.pwr with supplyAt := setNth s.pwr.supplyAt ch (s.now + 1) } }
/-- Voltage of VSWn in 10 mV (Table PWR-11). -/
def vswField (n : Nat) : Fld := if n % 2 = 0 then R.PWR_VSW_VSW_EVEN (n / 2) else R.PWR_VSW_VSW_ODD (n / 2)
def State.vsw (s : State) (n : Nat) : Nat := s.supply (2 + n) (s.get (vswField n))
def State.setVsw (s : State) (n v : Nat) : State := (s.put (vswField n) v).measured (2 + n)
/-- VBUS in 10 mV and VOUT33 in mV (Table PWR-10). -/
def State.setVbus (s : State) (v : Nat) : State := (s.put R.PWR_VBUS_VBUS v).measured 0
def State.setVout33 (s : State) (mv : Nat) : State := (s.put R.PWR_VBUS_VOUT33 mv).measured 1

/-! Sample sets: records by set and local point (R274). -/
def smpNone (_ : Nat) : Option (BitVec 64) := none
/-- A point record from its parts (Table STO-6). -/
def mkRec (value epoch flags age toff : Nat) : BitVec 64 :=
  BitVec.ofNat 64 (value % 65536 + 65536 * (epoch % 65536) + 2 ^ 32 * (flags % 256) + 2 ^ 40 * (age % 256) + 2 ^ 48 * (toff % 65536))
/-- A point is populated (R250). -/
def Img.populated (i : Img) (p : Nat) : Bool :=
  let c := p / 4096
  let h := p / 32 % 128
  i.chainOn c && decide (h < i.nodes c) && (i.nodeType c h == 1 || decide (p % 32 < 8))
/-- The record of a point without a valid sample since the start (R250, R251). (DEDUCED, log 49) -/
def State.bareRec (s : State) (set l : Nat) : BitVec 64 :=
  let e := (Sparse.get (fun _ => 0#32) s.sto.smpEpoch set).toNat
  if s.tab.populated (set / 2 * 32768 + l) then mkRec 0 e 4 255 0 else mkRec 0 e 0 255 0
def State.smp (s : State) (set l : Nat) : BitVec 64 := (Sparse.get smpNone s.sto.smp (set * 32768 + l)).getD (s.bareRec set l)
def State.setSmp (s : State) (set l : Nat) (w : BitVec 64) : State :=
  { s with sto := { s.sto with smp := Sparse.set smpNone s.sto.smp (set * 32768 + l) (some w) } }
/-- Set that intake writes for a region, and set of the last closed epoch (R263, R281). -/
def State.curSet (s : State) (r : Nat) : Nat := nth 16 s.sto.cur r
def State.lastSet (s : State) (r : Nat) : Nat := nth 16 s.sto.last r

/-- BAR2 offset of the string record's byte `o` (R274). -/
def strOff (n o : Nat) : Nat := 0x2400000 + 256 * n + o
/-- BAR2 offset of the block record's byte `o` of chain c, hop index h. -/
def blkOff (c h o : Nat) : Nat := 0x2480000 + (c * 128 + h) * 64 + o
/-- BAR2 offset of byte `o` of the state record of a cell index. -/
def cellOff (cell o : Nat) : Nat := (cell / 24576) * 0x400000 + (cell % 24576) * 128 + o
def State.strF (s : State) (n o : Nat) : Word := BitVec.ofNat 32 (s.stoGet (strOff n o) 4)
/-- An fp32 field takes a value; one that is not finite leaves the last valid value (R14). -/
def State.stoPutFp (s : State) (off : Nat) (w : Word) : State := if Fp.nonFinite w then s else s.stoPut off 4 w.toNat
def State.setStrF (s : State) (n o : Nat) (w : Word) : State := s.stoPutFp (strOff n o) w
def State.cellF (s : State) (cell o : Nat) : Word := BitVec.ofNat 32 (s.stoGet (cellOff cell o) 4)
def State.setCellF (s : State) (cell o : Nat) (w : Word) : State := s.stoPutFp (cellOff cell o) w

/-- Offset of a BAR0 register within its block (Table SCOPE-5), as events 0x020E, 0x1001 and 0x1002 give it. -/
def blockOff (a : Nat) : Nat := if 0x10000 ≤ a && a < 0x20000 then a - 0x10000 else a % 0x1000

/-! Regions and chains. -/
def regionOf (c : Nat) : Nat := c / 8
def State.linkState (s : State) (c : Nat) : Nat := s.get (R.LNK_STAT_STATE c)
/-- Bit h of a per-hop map of a chain. -/
def State.hopBit (s : State) (f : Nat → Nat → Fld) (c h : Nat) : Bool := s.bit (f c (h / 32)) (h % 32)
def State.putHop (s : State) (f : Nat → Nat → Fld) (c h : Nat) (b : Bool) : State := s.putBit (f c (h / 32)) (h % 32) b
/-- Transactions in flight on a chain. -/
def ChainX.inFlight (x : ChainX) : Nat := (x.tags.filter (fun t => match t with | .busy _ => true | _ => false)).length
/-- A hop is addressed from LINKRET: the chain has a ring that is not in operation, and the hop lies beyond the nodes reached from OUT (R59, R242). -/
def State.fromRet (s : State) (c h : Nat) : Bool := s.tab.chainRing c && s.linkState c != 2 && decide (s.get (R.LNK_STAT_K_OUT c) ≤ h)
/-- Hops that a sweep collects: mapped, not muted, not unreachable (R194, R200). -/
def State.sweepHops (s : State) (c : Nat) : List Nat :=
  (List.range (s.tab.nodes c)).filter (fun h => !s.hopBit R.LNK_MUTE c h && !s.hopBit R.LNK_UNRCH c h)
/-- The chain takes part in sweeps. -/
def State.active (s : State) (c : Nat) : Bool := let st := s.linkState c; decide (2 ≤ st) && decide (st ≠ 6)
/-- Every hop that the sweep collects has answered or failed. -/
def State.chainDone (s : State) (c : Nat) : Bool :=
  let x := s.chain c
  x.due.all (fun h => x.answered.contains h || x.failed.contains h)

/-- Strings excluded: bit of DSC_EXCLm (R387). -/
def State.excluded (s : State) (n : Nat) : Bool := s.bit (R.DSC_EXCL (n / 32)) (n % 32)
/-- The closed set: strings in state 6 while the safety state is CLOSED or LEHR (R404). -/
def State.closedSet (s : State) : List Nat :=
  if s.safety = 2 || s.safety = 4 then s.tab.strings.filter (fun n => (s.str n).state == 6) else []

/-- A deadline check is requested; it waits while one runs (R144). (DEDUCED, log 26) -/
def State.requestCheck (s : State) (trigger : Nat) : State :=
  ({ s with img := { s.img with checks := s.img.checks ++ [trigger] } }).putB R.IMG_CHECK_BUSY true

/-! Snapshots (R554 to R557). -/

/-- One chain's word of the capture set. -/
def State.snLnk (s : State) (c : Nat) : Nat :=
  let x := s.chain c
  s.linkState c + 8 * satNat 8 x.inFlight + 256 * satNat 255 (x.answered.length + x.failed.length) + 65536 * s.get (R.LNK_TRANSIT_LAST_T c)

/-- The capture set of Table DIAG-6, but for the slot pinned. -/
def State.captureList (s : State) : List (Fld × Nat) :=
  [ (R.DIAG_SN_T_LO, s.now), (R.DIAG_SN_T_HI, s.now / 2 ^ 32),
    (R.DIAG_SN_ANG, s.ang.au % 65536 + 65536 * (s.get R.ANG_STAT % 256)), (R.DIAG_SN_CYC, s.ang.cycle.toNat),
    (R.DIAG_SN_EPOCH, s.swp.epoch.toNat),
    (R.DIAG_SN_LIMA, s.get (R.SWP_LIMLAST 0)), (R.DIAG_SN_LIMB, s.get (R.SWP_LIMLAST 1)),
    (R.DIAG_SN_PAIR, s.get R.PAIR_CYCLE), (R.DIAG_SN_DIGG, s.get R.PAIR_DIG_G), (R.DIAG_SN_DIGS, s.get R.PAIR_DIG_S),
    (R.DIAG_SN_DSC, s.get R.DSC_STATE), (R.DIAG_SN_IA, s.get (R.DSC_I 0)), (R.DIAG_SN_IB, s.get (R.DSC_I 1)),
    (R.DIAG_SN_SIOIN, s.get R.SIO_IN), (R.DIAG_SN_SIOOUT, s.get R.SIO_OUT), (R.DIAG_SN_TRIP, s.get R.SIO_TRIP),
    (R.DIAG_SN_HOST, s.get R.HOST_PUB_LAST) ]
  ++ (List.range 6).map (fun n => (R.DIAG_SN_SOP n, s.get (R.SOP_LIM n)))
  ++ (List.range 8).map (fun r => (R.DIAG_SN_EST r, nth 0 s.est.finished r + 65536 * s.get (R.IMG_REGION_LANES r)
        + 2 ^ 20 * s.get (R.IMG_REGION_D_EFF r) + 2 ^ 22 * b2n (s.est.busy.getLsbD r)))
  ++ (List.range 64).map (fun c => (R.DIAG_SN_LNK c, s.snLnk c))
  ++ (List.range 24).map (fun n => (R.DIAG_SN_SW n, s.get (R.SW_STAT_STATE n) + 8 * s.get (R.SW_STAT_OUT_ON n)
        + 16 * s.get (R.SW_MEAS_I n) + 65536 * s.get (R.SW_STAT_THERM n)))

/-- The retention slot that update N writes or has written (R44, R557). (DEDUCED, log 86) -/
def State.slotFor (s : State) (n : Word) : Nat :=
  ((List.range 4).find? (fun k => s.get (R.STO_SLOT k) == n.toNat)).getD (s.get R.STO_SLOTSTAT_NEXT)

/-- Pins the epoch of the latest sweep angle (R44, R557): the state, and the slot if this pinned one. (DEDUCED, log 86) -/
def State.pin (s : State) : State × Option Nat :=
  if !s.swp.any || s.diag.pins.any (fun p => p.1 == s.swp.epoch) then (s, none)
  else if 2 ≤ s.diag.pins.length then
    ((s.putB R.DIAG_SNAP_STAT_PIN_REFUSED true).report 0x1202 chip [p2 s.swp.epoch.toNat], none)
  else
    let k := s.slotFor s.swp.epoch
    (({ s with diag := { s.diag with pins := s.diag.pins ++ [(s.swp.epoch, k)] } }).putBit R.STO_SLOTSTAT_PINNED k true, some k)

/-- An accepted snapshot trigger with the sources that fall in its cycle, lowest first (R555, R556, R84). (DEDUCED, log 86) -/
def State.capture (s : State) (srcs : List Nat) : State :=
  let low := srcs.headD 0
  let (s1, slot) := s.pin
  let s2 := s1.putAll s.captureList
  let chainsDone := ((List.range 64).filter (fun c => s.active c && s.chainDone c)).length
  let tags := (List.range 64).foldl (fun n c => n + (s.chain c).inFlight) 0
  let s3 := s2.putAll [ (R.DIAG_SN_SWP_TAGS, tags), (R.DIAG_SN_SWP_DONE, chainsDone), (R.DIAG_SN_SWP_SLOT, slot.getD 0),
    (R.DIAG_SN_SWP_PINNED, b2n slot.isSome), (R.DIAG_SNAP_STAT_LAST_SRC, low),
    (R.DIAG_SNAP_STAT_SRC_MAP, srcs.foldl (fun m k => m + 2 ^ (k - 1)) 0) ]
  let s4 := s3.inc R.DIAG_SNAP_STAT_COUNT
  let s5 := if s4.getB R.DIAG_SNAP_STAT_FIRST_VALID then s4
    else s4.putAll [ (R.DIAG_SNAP_STAT_FIRST_VALID, 1), (R.DIAG_SNAP_FIRST_SRC, low), (R.DIAG_SNAP_FIRST_EP, s.swp.epoch.toNat),
      (R.DIAG_SNAP_FIRST_T, s.now) ]
  let s6 := ({ s5 with diag := { s5.diag with lastTrig := some s.now, snapOut := true } }).emit .snap
  (s6.setCause 3).report 0x1201 chip [p1 low, p2 s.swp.epoch.toNat, p1 (slot.getD 0)]

/-- A snapshot trigger: none is accepted before stage 1 (R554). -/
def State.snap (s : State) (source : Nat) : State := if 1 ≤ s.stage then s.capture [source] else s

/-! Outputs of the switch channels (Table SW-1). -/

/-- The VSW supply of a channel: 0 to 3, and the pair's supply for a low side (R52). -/
def supplyOf (n : Nat) : Nat := if n < 16 then n / 4 else (n - 16) / 4

/-- The outputs are off by row 1 of Table SW-1, or in image recovery (R102). -/
def State.outputsOff (s : State) : Bool :=
  !s.pwr.mainOn || s.stage == 0 || s.pwr.boardTest || s.pwr.asleep || s.getB R.GLOBAL_STAGE_IMAGE_RECOVERY

/-- The serial watchdog governs a channel and is unarmed or expired (R491). -/
def State.wdGoverns (s : State) (n : Nat) : Bool :=
  s.bit (R.SW_CFG_FLAGS n) 0 && (s.get R.SW_WDSTAT_STATE == 0 || s.get R.SW_WDSTAT_STATE == 2)

/-- Level of the generator a channel names. -/
def State.genLevel (s : State) (n : Nat) : Bool := s.sw.gen.getLsbD (s.get (R.SW_CFG_GEN n))

/-- Command of the control source of HS8 to HS15 (R487); `frozen` takes the levels held at a watchdog expiry (R492). -/
def State.sourceCmd (s : State) (n : Nat) (frozen : Bool) : Bool :=
  match s.get (R.SW_CFG_SRC n) with
  | 0 => if frozen then s.sw.frozenOn.getLsbD (n - 8) else s.getB (R.SW_CTRL_ON n)
  | 1 => if frozen then s.sw.frozenIn.getLsbD (n - 8) else s.bit R.SW_SUM_IN (n - 8)
  | _ => s.genLevel n

/-- Fail-safe state of a channel (R492). -/
def State.failSafe (s : State) (n : Nat) : Bool :=
  match s.get (R.SW_CFG_FAILSAFE n) with
  | 0 => false
  | 1 => true
  | 2 => s.get R.SW_WDSTAT_STATE == 2 && s.stage != 1 && s.sourceCmd n true
  | _ => s.genLevel n

/-- Row 7 of Table SW-1 applies to a channel of HS8 to HS15. -/
def State.inFailSafe (s : State) (n : Nat) : Bool := s.stage == 1 || s.wdGoverns n

/-- The command in force for HS8 to HS15. -/
def State.loadCmd (s : State) (n : Nat) : Bool := if s.inFailSafe n || (s.chan n).fromSafe then s.failSafe n else s.sourceCmd n false

/-- The output of HS8 to HS15 under Table SW-1. -/
def State.loadOn (s : State) (n : Nat) : Bool :=
  !s.outputsOff && !s.bit R.PWR_STAT_VSW_LOST (supplyOf n) && !s.getB (R.SW_STAT_THERM n) && (s.chan n).latch == 0
    && !s.getB (R.SW_STAT_FW_MISSING n) && !s.bit R.SW_SUM_SHED (n - 8) && !(s.chan n).regained && s.loadCmd n

/-- The command of the pair to a coil channel: its pair is commanded on (R457). -/
def State.coilCmd (s : State) (n : Nat) : Bool := s.bit R.CTR_STAT_PAIRS_ON (if n < 16 then n else n - 16)

/-- The gate of a coil channel under Table SW-1, R429 and R436. -/
def State.coilOn (s : State) (n : Nat) : Bool :=
  let ls := decide (16 ≤ n)
  !s.outputsOff && s.stage != 1 && !s.bit R.PWR_STAT_VSW_LOST (supplyOf n) && !(s.chan n).regained && !s.getB (R.SW_STAT_THERM n) && !(s.chan n).thermHold
    && !(if ls then s.getB R.SIO_TRIP_TRIP_B || s.sio.sd0B else s.getB R.SIO_TRIP_TRIP_A || s.sio.sd0A)
    && !s.getB R.PAIR_STAT_BACKSTOP_FIRED && !(ls && s.get R.PAIR_STAT_MODE == 2) && s.coilCmd n

/-- STATE of SWn_STAT (Table SW-9). -/
def State.chanState (s : State) (n : Nat) (on : Bool) : Nat :=
  if (n < 16 && s.bit R.PWR_STAT_VSW_LOST (supplyOf n)) then 4
  else if (s.chan n).latch != 0 then (s.chan n).latch
  else if 8 ≤ n && n < 16 && s.bit R.SW_SUM_SHED (n - 8) then 5
  else b2n on

/-- Puts one channel's status in force. -/
def State.settleChan (s : State) (n : Nat) : State :=
  let coil := decide (n < 8) || decide (16 ≤ n)
  let on := if coil then s.coilOn n else s.loadOn n
  let s1 := s.putAll [ (R.SW_STAT_STATE n, s.chanState n on), (R.SW_STAT_CMD n, b2n (if coil then s.coilCmd n else s.loadCmd n)),
    (R.SW_STAT_OUT_ON n, b2n on), (R.SW_STAT_FAILSAFE n, b2n (!coil && !s.outputsOff && (s.inFailSafe n || (s.chan n).fromSafe))) ]
  if on then s1 else s1.putB (R.SW_STAT_LIMITING n) false

/-- The pair's command reaches a coil channel: one commanded off is no longer held off by a regained supply, nor, with its latch cleared, by a thermal
shutdown; one commanded on with its latch set is held off by it (R98, R498). -/
def State.commandChan (s : State) (on : Bool) (n : Nat) : State :=
  let x := s.chan n
  let therm := s.getB (R.SW_STAT_THERM n)
  s.setChan n { x with regained := x.regained && on, thermHold := if on then x.thermHold || therm else x.thermHold && therm }

/-- The pair's commands to the coil pairs. -/
def State.setPairs (s : State) (mask : Nat) : State :=
  (forAll (List.range 8) (fun k s => (s.commandChan (mask.testBit k) k).commandChan (mask.testBit k) (16 + k)) s).put R.CTR_STAT_PAIRS_ON mask

/-- The coil gates that are on, bit k: high sides from channel 0, low sides from channel 16. -/
def State.gates (s : State) (base : Nat) : Nat :=
  (List.range 8).foldl (fun m k => m + 2 ^ k * s.get (R.SW_STAT_OUT_ON (base + k))) 0

/-- Levels of eight coil lands: on while the gate is on and gives no off-pulse, but for lands found stuck. -/
def SioState.landLevels (x : SioState) (gates pulses base : Nat) : Nat :=
  let g := BitVec.ofNat 8 gates &&& ~~~(BitVec.ofNat 8 pulses)
  ((g ||| BitVec.ofNat 8 (x.stuckOn.toNat >>> base)) &&& ~~~(BitVec.ofNat 8 (x.stuckOff.toNat >>> base))).toNat

/-- Every output takes the state that Table SW-1 gives it, and the coil lands read accordingly. -/
def State.settle (s : State) : State :=
  let s1 := (List.range 24).foldl State.settleChan s
  let hs := s1.gates 0
  let ls := s1.gates 16
  let s2 := { s1 with sio := { s1.sio with gateHs := BitVec.ofNat 8 hs, gateLs := BitVec.ofNat 8 ls } }
  s2.putAll [ (R.SIO_OUT_HS_ON, s2.sio.landLevels hs s2.sio.pulseHs.toNat 0), (R.SIO_OUT_LS_ON, s2.sio.landLevels ls s2.sio.pulseLs.toNat 8) ]

/-! Conditions of the pair, SD0 and the hardware trips. -/

/-- A set of trigger codes as a word. -/
def codes (l : List Nat) : BitVec 64 := l.foldl (fun w c => w ||| (1#64 <<< c)) 0#64
/-- Triggers that react with SD0. -/
def sd0Codes : BitVec 64 := codes [0x01, 0x03, 0x05, 0x10, 0x11, 0x12]

/-- The pair is Split: the Gaffer alone runs the safety function (R436). -/
def State.alone (s : State) : Bool := s.get R.PAIR_STAT_MODE == 2

/-- A core raises a condition bit of Table DSC-2 or DSC-5 in its word for the coming cycle (R371). -/
def State.raise (s : State) (servitor : Bool) (n : Nat) : State :=
  if servitor then { s with dsc := { s.dsc with condS := s.dsc.condS ||| (1#64 <<< n) } }
  else { s with dsc := { s.dsc with condG := s.dsc.condG ||| (1#64 <<< n) } }

/-- Both cores raise a condition bit. -/
def State.raiseBoth (s : State) (n : Nat) : State := (s.raise false n).raise true n

/-- A core decides SD0 (R372): the gates of both sides go off and both cores latch it; in MAINT the cause only latches (R375). -/
def State.sd0 (s : State) (servitor : Bool) (code : Nat) : State :=
  let s1 := (s.raise servitor code).snap 5
  if s.safety = 6 then s1
  else ({ s1 with sio := { s1.sio with sd0A := true, sd0B := true } }).settle

/-- A hardware trip on a path sets its latch and reaches its core as an SD0 decision (R258, R461). -/
def State.trip (s : State) (pathB : Bool) : State :=
  let f := if pathB then R.SIO_TRIP_TRIP_B else R.SIO_TRIP_TRIP_A
  let s1 := if s.getB f then s else ((s.putB f true).inc R.SIO_TRIP_TRIPS).snap (if pathB then 4 else 3)
  s1.settle.sd0 pathB 0x01

/-! Repair and region fault (R564 to R566). -/

/-- Every permanent repair rewrites both copies of the record (R564) and triggers the deadline check (R565). (DESIGN CHOICE, log 21) -/
def State.repaired (s : State) : State :=
  let seq := s.getW R.DIAG_REP_SEQ + 1#32
  let s1 := (s.putW R.DIAG_REP_SEQ seq).put R.DIAG_REP_STAT_RECORD 0
  let c : RepairCopy := ⟨true, seq, s1.getW R.DIAG_REP_STAT, s1.getW R.STO_STAT &&& 0xFFFF00#32⟩
  ({ s1 with diag := { s1.diag with repA := c, repB := c } }).requestCheck 2

/-- A region is excluded (R568): an update of it in progress is given up (R36). -/
def State.excludeRegion (s : State) (r : Nat) : State :=
  let b := s.est.busy &&& ~~~(1#8 <<< r)
  ({ s with est := { s.est with busy := b, owed := s.est.owed.filter (fun c => decide (c / 24576 ≠ r)) } }).putB (R.IMG_REGION_EXCLUDED r) true

/-- A region enters region fault on a cause of Table DIAG-4 (R566). -/
def State.regionFault (s : State) (r cause : Nat) : State :=
  let s1 := (s.putBit R.EST_STAT_REGION_FAULT r true).put (R.DIAG_RFAULT_CAUSE r) cause
  let s2 := if cause = 2 then s1.excludeRegion r
    else if cause = 3 then
      (if s1.get (R.IMG_REGION_D_EFF r) < 2 then s1.inc (R.IMG_REGION_D_EFF r) else s1.excludeRegion r).put (R.EST_REG_OVERRUN_RUN r) 0
    else s1
  (s2.setCause 0).report 0x1206 (src 5 r) [p1 cause, p1 (s2.get (R.IMG_REGION_D_EFF r))]

/-! Debug port (R571, R572). -/

/-- The debug port locks. -/
def State.lockDebug (s : State) : State :=
  if s.getB R.DIAG_DBG_STAT_UNLOCKED then
    ((s.putB R.DIAG_DBG_STAT_UNLOCKED false).putB R.PAIR_STAT_LAG_MODE false).report 0x1208 chip [p1 (s.get R.DIAG_DBG_STAT_MASTER)]
  else s

/-- Every breakpoint is disarmed. -/
def State.disarm (s : State) : State := ({ s with diag := { s.diag with bkpts := [] } }).putB R.DIAG_DBG_STAT_BKPT false

/-- The Gaffer resumes, and the Servitor through the replay unit: Halted returns to Paired at the next boundary (R440, Table PAIR-4). -/
def State.resumeCores (s : State) : State :=
  let s1 := { s with pair := { s.pair with haltG := false, haltS := false, nextMode := if s.get R.PAIR_STAT_MODE = 4 then some 1 else s.pair.nextMode } }
  (s1.putB R.DIAG_DBG_STAT_HALTED false).report 0x0C0C chip [pn 6 s.pair.retire]

/-- What the end of a password session does to the debug port (R571, R572). -/
def State.debugSessionEnd (s : State) : State :=
  if s.getB R.DIAG_DBG_STAT_HALTED || s.getB R.DIAG_DBG_STAT_BKPT then
    let s1 := s.disarm
    let s2 := if s.getB R.DIAG_DBG_STAT_HALTED then s1.resumeCores else s1
    s2.lockDebug.report 0x1209 chip []
  else s.lockDebug

/-- The password session ends: cause 0 CLOSE, 1 expiry (R137). -/
def State.endSession (s : State) (cause : Nat) : State :=
  let s1 := (s.putB R.IMG_STAT_SESSION false).putB R.IMG_STAT_RECOVERY_SESSION false
  s1.debugSessionEnd.report 0x0205 chip [p1 cause]

end Sys2Proof.Machine
end

