-- ==== Sys2Proof/Machine/Deadline.lean ====
section
/-! DEFINITION. The deadline check (R144 to R148): exact arithmetic over the chain map, the schedule and the working lanes. -/

namespace Sys2Proof.Machine

/-- A quotient rounded up. -/
def ceilDiv (n d : Nat) : Nat := (n + d - 1) / d
/-- A rational rounded toward minus infinity. -/
def floorQ (n : Int) (d : Nat) : Int := n / (d : Int)

/-- Chain time in 1/8 µs: 34.375 µs a node (R145). -/
def Img.tChain8 (i : Img) (c : Nat) : Nat := if i.chainOn c then i.nodes c * 275 else 0
/-- Time of `a` au at a frequency in 0.01 Hz, as a fraction of µs. -/
def auTime (a f : Nat) : Int × Nat := ((a * 100000000 : Nat), 65536 * f)
/-- a − b/8 µs − k/10 µs, as a fraction of µs. -/
def lessEighths (a : Int × Nat) (b k : Nat) : Int × Nat := (a.1 * 40 - ((b * 5 + k * 4) * a.2 : Nat), a.2 * 40)

/-- A margin that must not be negative, as a refusal where it is. -/
def refIf (m : Int × Nat) (code detail : Nat) : List Ref := if m.1 < 0 then [(code, detail, floorQ m.1 m.2)] else []

/-- Node types a campaign test applies to (Table NODE-14). -/
def testApplies (code ty : Nat) : Bool :=
  match code with
  | 1 | 2 | 4 | 5 => ty == 1
  | 3 => ty == 1 || ty == 2
  | 6 | 7 => ty == 2
  | _ => false

/-- Nodes of a chain that a test applies to. -/
def Img.applicable (i : Img) (c code : Nat) : Nat := ((List.range (i.nodes c)).filter (fun h => testApplies code (i.nodeType c h))).length

/-- Campaign entries that include a chain. -/
def Img.campsOn (i : Img) (c : Nat) : List Nat := (List.range i.campCount).filter (fun e => (i.campMask e).testBit c)

/-- Node runs per hour on a chain over 2^16 · period products, as a fraction (R269). -/
def Img.runsPerHour (i : Img) (c : Nat) : Nat × Nat :=
  (i.campsOn c).foldl (fun a e => (a.1 * i.campMin e + i.applicable c (i.campCode e) * 60 * a.2, a.2 * i.campMin e)) (0, 1)

/-- Code 0x06cc: the runs an hour in 0.01 % of the limit 0.8 · T · f_min · 3,600, as the worked examples of chapter 25 give them. -/
def Img.campRef (i : Img) (c : Nat) : List Ref :=
  if (i.campsOn c).isEmpty then []
  else
    let cap5 := 4 * i.schedT * i.fMin * 36
    let (n, d) := i.runsPerHour c
    if i.schedT = 0 then [(0x600 + c, 0, -2147483648)]
    else refIf ((10000 * (cap5 * d : Nat) : Int) - (10000 * 5 * n : Nat), cap5 * d) (0x600 + c) 0

/-- The refusals of one chain. -/
def Img.chainRefs (i : Img) (c : Nat) : List Ref :=
  let t := i.tChain8 c
  let ival := auTime i.intervalAu i.fMax
  let ct := auTime i.schedC i.fMax
  refIf (68000 * ival.1 - (10000 * t * ival.2 : Nat), (8 * ival.1).toNat) (0x100 + c) 0
    ++ refIf (lessEighths ct t 0) (0x800 + c) 0
    ++ (if i.chainRing c then refIf (lessEighths ct (2 * t) 500) (0x700 + c) 0 else [])
    ++ ((List.range 512).filter (fun m => i.strUsed m && i.strChain m == c)).flatMap (fun m =>
      let a := auTime i.intervalAu i.fMin
      let lim := (((i.strTokenMs m * 1000 * a.2 : Nat) : Int) - a.1, a.2)
      if lim.1 ≤ 0 then [(0x500 + c, m, floorQ (lim.1 - (a.2 : Int)) a.2)] else [])
    ++ i.campRef c

/-- Cells of a region: 24 for each NH0824. -/
def Img.cells (i : Img) (r : Nat) : Nat :=
  24 * ((List.range 8).foldl (fun n k => n + ((List.range (i.nodes (8 * r + k))).filter (fun h => i.nodeType (8 * r + k) h == 1)).length) 0)

/-- Estimator load of a region in 0.01 %, as a fraction; the denominator is 0 with no lane left. -/
def Img.loadQ (i : Img) (r lanes d : Nat) : Nat × Nat := (i.cells r * 480 * 65536 * i.fMax, i.intervalAu * 4000000 * d * lanes)

/-- The load is at most 90 %. -/
def Img.loadOk (i : Img) (r lanes d : Nat) : Bool := let q := i.loadQ r lanes d; i.cells r == 0 || (q.2 != 0 && decide (q.1 ≤ 9000 * q.2))

def Img.loadRef (i : Img) (r lanes d : Nat) : List Ref :=
  let q := i.loadQ r lanes d
  if i.loadOk r lanes d then []
  else if q.2 = 0 then [(0x200 + r, lanes, -2147483648)] else refIf ((9000 * q.2 : Nat) - (q.1 : Int), q.2) (0x200 + r) lanes

/-- Chains on which a class appears in its table. -/
def Img.classChains (i : Img) (path k : Nat) : List Nat :=
  (List.range 64).filter (fun c => (List.range 4096).any (fun x => i.classOf path (4096 * c + x) == k))

/-- The chain of the longest chain time, the first of equals. -/
def Img.worstChain (i : Img) : List Nat → Nat
  | [] => 0
  | c :: cs => cs.foldl (fun w d => if i.tChain8 w < i.tChain8 d then d else w) c

/-- Codes 0x03kk and 0x04kk. -/
def Img.budgetRef (i : Img) (path k : Nat) : List Ref :=
  let cs := i.classChains path k
  if i.classBudget path k = 0 || cs.isEmpty then []
  else
    let w := i.worstChain cs
    let a := auTime (i.classPersist path k * i.intervalAu) i.fMin
    refIf (lessEighths (((i.classBudget path k * 100 * a.2 : Nat) : Int) - a.1, a.2) (2 * i.tChain8 w) 11) (0x300 + 0x100 * path + k) w

/-- Limits a margin to signed 32 bits (R146). -/
def sat32 (x : Int) : Int := if x < -2147483648 then -2147483648 else if x > 2147483647 then 2147483647 else x

/-- Every refusal of a run, in ascending order of code; `lanes` and `d` give a region's working lanes and decimation. -/
def Img.deadline (i : Img) (lanes d : Nat → Nat) : List Ref :=
  sortRefs (((List.range 64).filter i.chainOn).flatMap i.chainRefs
    ++ (List.range 8).flatMap (fun r => i.loadRef r (lanes r) (d r))
    ++ (List.range 2).flatMap (fun p => (List.range (i.classCount p)).flatMap (fun k => i.budgetRef p (k + 1))))

/-- Occupancy at f_max in 0.01 %, rounded up (R147). -/
def Img.occ (i : Img) (c : Nat) : Nat :=
  satNat 0xFFFF (ceilDiv (i.tChain8 c * 10000 * (65536 * i.fMax)) (8 * (i.intervalAu * 100000000)))

/-- Ring-recovery margin in µs, saturating; 0 without a ring. -/
def Img.ringMargin (i : Img) (c : Nat) : Int :=
  if i.chainOn c && i.chainRing c then
    let m := lessEighths (auTime i.schedC i.fMax) (2 * i.tChain8 c) 500
    let v := floorQ m.1 m.2
    if v < -32767 then -32767 else if v > 32767 then 32767 else v
  else 0

/-- Load of a region in 0.01 %, rounded up. -/
def Img.loadFig (i : Img) (r lanes d : Nat) : Nat :=
  let q := i.loadQ r lanes d
  if i.cells r = 0 then 0 else if q.2 = 0 then 0xFFFF else satNat 0xFFFF (ceilDiv q.1 q.2)

/-- Lists refusals in IMG_REF0 to IMG_REF31, with COUNT, OVERFLOW, RESULT and TRIGGER (R146). -/
def State.listRefs (s : State) (trigger : Nat) (refs : List Ref) : State :=
  let s1 := s.putAll [ (R.IMG_CHECK_RESULT, if refs.isEmpty then 1 else 2), (R.IMG_CHECK_TRIGGER, trigger),
    (R.IMG_CHECK_COUNT, satNat 32 refs.length), (R.IMG_CHECK_OVERFLOW, b2n (decide (32 < refs.length))) ]
  s1.putAll ((List.range 32).flatMap (fun n =>
    let r := nth (0, 0, 0) refs n
    [ (R.IMG_REF_CODE_CODE n, r.1), (R.IMG_REF_CODE_DETAIL n, r.2.1), (R.IMG_REF_MARGIN n, wrapInt 32 (sat32 r.2.2)) ]))

/-- Decimation of the code of D_EFF. -/
def dOf (code : Nat) : Nat := 2 ^ code
/-- D_EFF of a decimation. -/
def dCode (d : Nat) : Nat := if d = 4 then 2 else if d = 2 then 1 else 0

/-- One run: its refusals and the state with all check results replaced (R144, R146). `own` names the loaded image, whose regions run at
D_EFF; an image at acceptance runs at its own D. -/
def State.runCheckOn (s : State) (i : Img) (own : Bool) (trigger : Nat) : List Ref × State :=
  let lanes := fun r => s.get (R.IMG_REGION_LANES r)
  let d := fun r => if own then dOf (s.get (R.IMG_REGION_D_EFF r)) else i.schedD
  let refs := i.deadline lanes d
  let s1 := s.listRefs trigger refs
  let s2 := s1.putAll ((List.range 64).flatMap (fun c => [ (R.IMG_CHAIN_OCC c, i.occ c), (R.IMG_CHAIN_RING_MARGIN c, wrapInt 16 (i.ringMargin c)) ]))
  let s3 := s2.putAll ((List.range 8).map (fun r => (R.IMG_REGION_LOAD r, i.loadFig r (lanes r) (d r))))
  let s4 := match refs with
    | [] => s3
    | r :: _ => s3.report 0x020D chip [p1 trigger, p2 r.1, pS r.2.2]
  (refs, s4.setCause 5)

/-- After a repair a failed region is taken at each higher D in turn, and excluded where it fails at D = 4 (R148, R566, R568). (DEDUCED, log 26) -/
def State.raiseD (s : State) (r : Nat) : State :=
  let lanes := s.get (R.IMG_REGION_LANES r)
  let ds := ([1, 2] : List Nat).filter (fun k => decide (s.get (R.IMG_REGION_D_EFF r) < k))
  match ds.find? (fun k => s.tab.loadOk r lanes (dOf k)) with
  | some k => (s.put (R.IMG_REGION_D_EFF r) k).put (R.IMG_REGION_LOAD r) (s.tab.loadFig r lanes (dOf k))
  | none => s.excludeRegion r

/-- DEADLINE_CHECK_DONE: the running check of the loaded image ends; one that waits begins (R144, R148, R105). (DEDUCED, log 26) -/
def deadlineCheckDone (s : State) : State :=
  match s.img.checks with
  | [] => s
  | t :: more =>
    let s0 := ({ s with img := { s.img with checks := more } }).putB R.IMG_CHECK_BUSY (!more.isEmpty)
    if !s.img.loaded then s0
    else
      let (refs, s1) := s0.runCheckOn s0.tab true t
      let bad := !refs.isEmpty
      if t = 1 then (if bad then s1.putB R.GLOBAL_STAGE_CHECK_FAILED true else { s1 with img := { s1.img with checked := true } })
      else if t = 2 then forAll ((refs.filter (fun r => r.1 / 256 == 2)).map (fun r => r.1 % 256)) (fun r s => s.raiseD r) s1
      else if t = 5 && bad then ({ s1 with img := { s1.img with recomm := false } }).report 0x020F chip [p1 3]
      else s1
def execDeadlineCheckDone (s : State) : Host.Outcome State Fault Refusal := finish s (whenOn s deadlineCheckDone)

/-- RUN: a check on host request, where an image is loaded (R144). -/
def runCheck (s : State) : State := if s.img.loaded then s.requestCheck 3 else s

end Sys2Proof.Machine
end

