-- ==== Sys2Proof/Machine/Switch.lean ====
section
/-! DEFINITION. Protected switch channels (chapter 18) and the switch supplies (R53, R98). -/

namespace Sys2Proof.Machine

/-- A current of 4 mA per LSB in 0.1 A. -/
def deciAmp (cur : Nat) : Int := (cur * 4 / 100 : Nat)

/-- A coil switch fails: its finding, trigger 0x16 of its core and event 0x0D09 (R459). Low sides are the Servitor's. Findings: 0 off-pulse, 1 on while
commanded off, 2 off while commanded on, 3 short to supply, 4 missing free-wheel path. (DESIGN CHOICE, log 113) (DEDUCED, log 88) -/
def State.coilFail (s : State) (ls : Bool) (k finding : Nat) : State :=
  let f := if ls then R.SIO_OUT_LS_TESTFAIL else R.SIO_OUT_HS_TESTFAIL
  let i := if ls then 8 + k else k
  let s1 := s.putBit f k true
  let s2 := { s1 with sio := { s1.sio with coilBad := s1.sio.coilBad ||| (1#16 <<< i) } }
  (s2.raise ls 0x16).report 0x0D09 (src 8 ((if ls then 0x200 else 0x100) + k)) [p2 ((if ls then 0x200 else 0x100) + k), p1 finding]

/-- Restarts of a channel that have not left the window (R497). -/
def State.liveRetries (s : State) (n : Nat) : List Nat := (s.chan n).retries.filter (fun t => decide (s.now < t))

/-- Drops the restarts that have left the window, and shows the budget. -/
def State.purgeRetries (s : State) (n : Nat) : State :=
  let l := s.liveRetries n
  (s.setChan n { s.chan n with retries := l }).put (R.SW_STAT_RETRIES_LEFT n) (s.get (R.SW_CFG_RETRY_MAX n) - l.length)

/-- A channel of HS8 to HS15 in WAIT with its latch cleared restarts, waits or latches off (Table SW-2). -/
def State.tryRestart (s : State) (n : Nat) : State :=
  if (s.chan n).latch == 2 && !s.getB (R.SW_STAT_THERM n) then
    let s1 := s.purgeRetries n
    if s1.get (R.SW_STAT_RETRIES_LEFT n) = 0 then
      (s1.setChan n { s1.chan n with latch := 3 }).report 0x0F05 (src 7 n) [p2 (s1.get (R.SW_CNT_SHUTDOWNS n))]
    else if s1.loadCmd n then
      let x := s1.chan n
      let s2 := (s1.setChan n { x with latch := 0, retries := x.retries ++ [s1.now + 1000 * s1.tab.swRetryWin] }).inc (R.SW_CNT_RETRIES n)
      let left := s1.get (R.SW_STAT_RETRIES_LEFT n) - 1
      (s2.put (R.SW_STAT_RETRIES_LEFT n) left).report 0x0F04 (src 7 n) [p1 left]
    else s1
  else s

/-- The command of a channel's source has changed: it is followed from now on (R98), and a channel in WAIT may restart. -/
def State.touch (s : State) (n : Nat) : State := (s.setChan n { s.chan n with regained := false, fromSafe := false }).tryRestart n

/-- Channels 8 to 15 that satisfy a test, by their present settings. -/
def loadChans (p : Nat → Bool) : List Nat := ((List.range 8).map (fun j => j + 8)).filter p

/-- IN_PIN_EDGE: the level of IN(8 + j) changes (R73, R488). -/
def inPinEdge (j : Nat) (high : Bool) (s : State) : State :=
  let s1 := s.putBit R.SW_SUM_IN j high
  (if s.get (R.SW_CFG_SRC (8 + j)) = 1 then s1.touch (8 + j) else s1).settle
def execInPinEdge (j : Fin 8) (high : Bool) (s : State) : Host.Outcome State Fault Refusal := finish s (whenOn s (inPinEdge j high))

/-- Writes to a generator are held after an expiry while it runs a frozen channel (R492). -/
def State.genHeld (s : State) (g : Nat) : Bool :=
  s.get R.SW_WDSTAT_STATE == 2 &&
    !(loadChans (fun n => s.bit (R.SW_CFG_FLAGS n) 0 && s.get (R.SW_CFG_FAILSAFE n) == 2 && s.get (R.SW_CFG_SRC n) == 2 && s.get (R.SW_CFG_GEN n) == g)).isEmpty

/-- GENERATOR_EDGE: an edge of generator g; at the start of a period its written settings come into force (R489). Duty 0 holds the
output off and duty 1,000 holds it on. The instants of the edges, which frequency, duty and phase set, are when the command comes. (DEDUCED, log 94) -/
def generatorEdge (g : Nat) (on start : Bool) (s : State) : State :=
  if s.stage = 0 then s
  else
    let s1 := if start && !s.genHeld g then
        { s with sw := { s.sw with genF := setNth s.sw.genF g (s.getW (R.SW_GEN_F g)), genP := setNth s.sw.genP g (s.getW (R.SW_GEN_P g)) } }
      else s
    let duty := bitsOf (nth 0#32 s1.sw.genF g).toNat 16 16
    let lv := if duty = 0 then false else if duty = 1000 then true else on
    let s2 := { s1 with sw := { s1.sw with gen := BitVec.ofNat 8 (setBits s1.sw.gen.toNat g 1 (b2n lv)) } }
    (forAll (loadChans (fun n => s2.get (R.SW_CFG_GEN n) == g && (s2.get (R.SW_CFG_SRC n) == 2 || s2.get (R.SW_CFG_FAILSAFE n) == 3)))
      (fun n s => s.touch n) s2).settle
def execGeneratorEdge (g : Fin 8) (on start : Bool) (s : State) : Host.Outcome State Fault Refusal :=
  finish s (whenOn s (generatorEdge g on start))

/-- A write to ON (R487): taken by a register-sourced channel of HS8 to HS15; otherwise discarded, a write of 1 with 0x0F0E. (DEDUCED, log 78) -/
def State.writeOn (s : State) (n : Nat) (on : Bool) : State :=
  if 8 ≤ n && n < 16 && s.get (R.SW_CFG_SRC n) == 0 then
    if s.getB (R.SW_CTRL_ON n) == on then s else ((s.putB (R.SW_CTRL_ON n) on).touch n).settle
  else if on then s.report 0x0F0E (src 7 n) [p1 n, p1 (s.get (R.SW_CFG_SRC n))]
  else s

/-- CLR for LATCHED_OFF (Table SW-2); causes of 0x0F0F: 1 latch set, 2 safety state. (DESIGN CHOICE, log 113) -/
def State.clrLatch (s : State) (n : Nat) : State :=
  if (s.chan n).latch = 3 then
    if s.getB (R.SW_STAT_THERM n) then s.report 0x0F0F (src 7 n) [p1 n, p1 1]
    else (s.setChan n { s.chan n with latch := 0, retries := [] }).put (R.SW_STAT_RETRIES_LEFT n) (s.get (R.SW_CFG_RETRY_MAX n))
  else s

/-- CLR for SHED (R495). -/
def State.clrShed (s : State) (n : Nat) : State := if 8 ≤ n && n < 16 then s.putBit R.SW_SUM_SHED (n - 8) false else s

/-- CLR for FW_MISSING (R500): on a coil channel only in SAFE or MAINT. (DESIGN CHOICE, log 113) -/
def State.clrFw (s : State) (n : Nat) : State :=
  if s.getB (R.SW_STAT_FW_MISSING n) then
    if (8 ≤ n && n < 16) || s.safety = 0 || s.safety = 6 then s.putB (R.SW_STAT_FW_MISSING n) false
    else s.report 0x0F0F (src 7 n) [p1 n, p1 2]
  else s

/-- A write of CLR (R495, R497, R500). -/
def State.clr (s : State) (n : Nat) : State := (((s.clrLatch n).clrShed n).clrFw n).settle

/-- The serial watchdog expires (R491): cause 68, its event, whose source is the chip, and the sources frozen for fail-safe state last (R492). (DEDUCED, log 78) -/
def State.wdExpire (s : State) (code : Nat) (ps : List Par) : State :=
  let on := (List.range 8).foldl (fun m j => m + 2 ^ j * s.get (R.SW_CTRL_ON (8 + j))) 0
  let s1 := { s with sw := { s.sw with keys := 0, frozenOn := BitVec.ofNat 8 on, frozenIn := BitVec.ofNat 8 (s.get R.SW_SUM_IN) } }
  ((((s1.put R.SW_WDSTAT_STATE 2).put R.SW_WDSTAT_NEXT 0).inc R.SW_WDSTAT_EXPIRIES).setCause 4 |>.report code chip ps).settle

/-- The key expected next. (DEDUCED, log 78) -/
def State.wdKey (s : State) : Nat := if s.getB R.SW_WDSTAT_NEXT then 0xA5A5 else 0x5A5A

/-- WD_MS have passed since the last correct key. -/
def State.wdLate (s : State) : Bool := decide (s.sw.lastKey + s.tab.swWdMs ≤ s.now)

/-- A key written to SW_WD (R491): a late one leaves the expiry standing; a wrong one before the arming begins the arming anew. (DEDUCED, log 78) -/
def State.wdWrite (s : State) (key : Nat) : State :=
  let st := s.get R.SW_WDSTAT_STATE
  if st = 3 then s
  else if st = 1 && s.wdLate then s.wdExpire 0x0F09 [p2 (s.now - s.sw.lastKey)]
  else if key = s.wdKey then
    if st = 1 then ({ s with sw := { s.sw with lastKey := s.now } }).putB R.SW_WDSTAT_NEXT (!s.getB R.SW_WDSTAT_NEXT)
    else if s.sw.keys = 0 then ({ s with sw := { s.sw with keys := 1, lastKey := s.now } }).put R.SW_WDSTAT_NEXT 1
    else if !s.wdLate then
      let s1 := (({ s with sw := { s.sw with keys := 2, lastKey := s.now } }).put R.SW_WDSTAT_NEXT 0).put R.SW_WDSTAT_STATE 1
      (forAll (loadChans (fun _ => true)) (fun n s => s.tryRestart n) s1).settle
    else ({ s with sw := { s.sw with keys := 0 } }).put R.SW_WDSTAT_NEXT 0
  else
    let s1 := s.inc R.SW_WDSTAT_WRONG
    if st = 1 then s1.wdExpire 0x0F0A [p2 key]
    else (({ s1 with sw := { s1.sw with keys := 0 } }).put R.SW_WDSTAT_NEXT 0).setCause 4

/-- SW_WD_EXPIRY: no correct key within WD_MS of the last while armed (R491). -/
def swWdExpiry (s : State) : State :=
  if s.get R.SW_WDSTAT_STATE = 1 && s.wdLate then s.wdExpire 0x0F09 [p2 (s.now - s.sw.lastKey)] else s
def execSwWdExpiry (s : State) : Host.Outcome State Fault Refusal := finish s (whenOn s swWdExpiry)

/-- CURRENT_LIMITING: an overload makes a channel that is on limit at 12 A (R493). -/
def currentLimiting (n cur : Nat) (s : State) : State :=
  if s.getB (R.SW_STAT_OUT_ON n) then
    ((s.putB (R.SW_STAT_LIMITING n) true).put (R.SW_MEAS_I n) cur).report 0x0F0D (src 7 n) [pS (deciAmp cur)]
  else s
def execCurrentLimiting (n : Fin 24) (cur : BitVec 12) (s : State) : Host.Outcome State Fault Refusal :=
  finish s (whenOn s (currentLimiting n cur.toNat))

/-- OVERLOAD_END: the overload of a limiting channel ends (R493). -/
def overloadEnd (n : Nat) (s : State) : State := s.putB (R.SW_STAT_LIMITING n) false
def execOverloadEnd (n : Fin 24) (s : State) : Host.Outcome State Fault Refusal := finish s (whenOn s (overloadEnd n))

/-- The sheddable channel with the highest reported current, the lower channel on a tie (R495). (DEDUCED, log 79) -/
def State.shedNext (s : State) : Option Nat :=
  (loadChans (fun n => s.bit (R.SW_CFG_FLAGS n) 1 && s.getB (R.SW_STAT_OUT_ON n))).foldl
    (fun best n => match best with
      | none => some n
      | some b => if s.get (R.SW_MEAS_I b) < s.get (R.SW_MEAS_I n) then some n else some b) none

/-- Reported channel currents and their sum (R494, R495). (DEDUCED, log 79) -/
def State.measureCurrents (s : State) (cur : List Nat) : State :=
  let s1 := s.putAll ((List.range 24).map (fun n => (R.SW_MEAS_I n, nth 0 cur n)))
  s1.put R.SW_SUM_SUM (((List.range 24).foldl (fun m n => m + nth 0 cur n) 0) * 4 / 10)

/-- SHED_TIMER: the currents as reported, and whether their sum has stayed above 18 A for 1 s: one channel is shed (R495). (DEDUCED, log 79) -/
def shedTimer (cur : List Nat) (long : Bool) (s : State) : State :=
  let mA := ((List.range 24).foldl (fun m n => m + nth 0 cur n) 0) * 4
  let s1 := s.measureCurrents cur
  let sheds := decide (16000 < mA) && (s.sw.shedding || (long && decide (18000 < mA)))
  if sheds then
    match s1.shedNext with
    | none => { s1 with sw := { s1.sw with shedding := false } }
    | some n =>
      let s2 := ({ s1 with sw := { s1.sw with shedding := true } }).putBit R.SW_SUM_SHED (n - 8) true
      (s2.report 0x0F0B (src 7 n) [p2 (s2.get R.SW_SUM_SUM)]).settle
  else { s1 with sw := { s1.sw with shedding := false } }
def execShedTimer (cur : List (BitVec 12)) (long : Bool) (s : State) : Host.Outcome State Fault Refusal :=
  finish s (whenOn s (shedTimer (cur.map BitVec.toNat) long))

/-- ΔT at or above DT_LIMIT, or the junction at 175 °C or above (R496); both in 0.1. -/
def State.thermTrips (s : State) (n : Nat) (dt tj : Int) : Bool :=
  decide ((10 * s.get (R.SW_CFG_DT_LIMIT n) : Nat) ≤ dt) || decide (1750 ≤ tj)

/-- THERMAL_LATCH_SET: the comparators switch the channel off and set its latch (R496, R497, R498). -/
def thermalLatchSet (n : Nat) (dt tj : Int) (s : State) : State :=
  if s.thermTrips n dt tj && !s.getB (R.SW_STAT_THERM n) then
    let coil := decide (n < 8) || decide (16 ≤ n)
    let x := s.chan n
    let s1 := s.setChan n { x with
      latch := if !coil && s.getB (R.SW_STAT_OUT_ON n) && x.latch == 0 then 2 else x.latch
      thermHold := x.thermHold || (coil && s.coilCmd n) }
    let s2 := ((s1.putB (R.SW_STAT_THERM n) true).put (R.SW_MEAS_DT n) (wrapInt 16 dt)).inc (R.SW_CNT_SHUTDOWNS n)
    ((s2.setCause 7).report 0x0F03 (src 7 n) [pS dt, pS tj, pS (deciAmp (s2.get (R.SW_MEAS_I n)))]).settle
  else s
def execThermalLatchSet (n : Fin 24) (dt tj : BitVec 16) (s : State) : Host.Outcome State Fault Refusal :=
  finish s (whenOn s (thermalLatchSet n dt.toInt tj.toInt))

/-- THERMAL_LATCH_CLEAR: ΔT at or below DT_LIMIT - 15 K and the junction at 160 °C or below clear the latch (R496, Table SW-2, R498). -/
def thermalLatchClear (n : Nat) (dt tj : Int) (s : State) : State :=
  if s.getB (R.SW_STAT_THERM n) && decide (dt ≤ (10 * s.get (R.SW_CFG_DT_LIMIT n) : Nat) - 150) && decide (tj ≤ 1600) then
    let s1 := (s.putB (R.SW_STAT_THERM n) false).put (R.SW_MEAS_DT n) (wrapInt 16 dt)
    let coil := decide (n < 8) || decide (16 ≤ n)
    (if coil then s1.setChan n { s1.chan n with thermHold := (s1.chan n).thermHold && s1.coilCmd n } else s1.tryRestart n).settle
  else s
def execThermalLatchClear (n : Fin 24) (dt tj : BitVec 16) (s : State) : Host.Outcome State Fault Refusal :=
  finish s (whenOn s (thermalLatchClear n dt.toInt tj.toInt))

/-- RETRY_WINDOW_EXPIRY: restarts whose RETRY_WIN_S have passed leave the window (R497). -/
def retryWindowExpiry (n : Nat) (s : State) : State := s.purgeRetries n
def execRetryWindowExpiry (n : Fin 24) (s : State) : Host.Outcome State Fault Refusal := finish s (whenOn s (retryWindowExpiry n))

/-- CASE_OVERTEMP: a case sensor reads above 125 °C (R496); the event's source is the chip. (DEDUCED, log 78) -/
def caseOvertemp (dieL : Bool) (t : Int) (s : State) : State :=
  let s1 := s.put (if dieL then R.SW_CASE_CASE_L else R.SW_CASE_CASE_H) (wrapInt 16 t)
  if 1250 < t then (s1.setCause 7).report 0x0F0C chip [p1 (b2n dieL), pS t] else s1
def execCaseOvertemp (dieL : Bool) (t : BitVec 16) (s : State) : Host.Outcome State Fault Refusal :=
  finish s (whenOn s (caseOvertemp dieL t.toInt))

/-- One finding of an off-state check: set after 3 consecutive checks that show it, cleared after 3 that do not (R499).
`i` is 0 open, 1 short to supply, 2 end to GND. The event is logged at each setting. -/
def State.finding (s : State) (n i : Nat) (f : Fld) (shows : Bool) (code : Nat) (ps : List Par) : State :=
  let x := s.chan n
  let seen := if shows then satNat 3 (nth 0 x.seen i + 1) else 0
  let gone := if shows then 0 else satNat 3 (nth 0 x.gone i + 1)
  let s1 := s.setChan n { x with seen := setNth x.seen i seen, gone := setNth x.gone i gone }
  if seen = 3 && !s.getB f then (s1.putB f true).report code (src 7 n) ps
  else if gone = 3 then s1.putB f false
  else s1

/-- A short to supply newly found on a land of a pair with a role raises trigger 0x16 (R499). -/
def State.shortTrips (old new : State) (n : Nat) : State :=
  let k := if n < 16 then n else n - 16
  if !old.getB (R.SW_STAT_SHORT_SUPPLY n) && new.getB (R.SW_STAT_SHORT_SUPPLY n) && new.tab.pairRole k != 0 then
    new.coilFail (decide (16 ≤ n)) k 3
  else new

/-- OFF_STATE_CHECK of HS8 to HS15: readings of the two steps in mV (Table SW-3). -/
def offCheckLoad (n a b : Nat) (s : State) : State :=
  let s1 := s.finding n 1 (R.SW_STAT_SHORT_SUPPLY n) (decide (6000 ≤ a)) 0x0F07 [p1 n, pS a]
  s1.finding n 0 (R.SW_STAT_OPEN_LOAD n) (decide (a < 6000) && decide (4000 ≤ b) && decide (b < 6000)) 0x0F06 [pS b]

/-- OFF_STATE_CHECK of coil pair k, which either of its channels may begin: step 1 and step 2 on HSk and on LSk in mV (Table SW-3). -/
def offCheckPair (k a1 a2 b1 b2 : Nat) (s : State) : State :=
  let h := k
  let l := 16 + k
  let opens := decide (4000 ≤ a2) && decide (b2 ≤ 2000)
  let gnd := decide (a2 ≤ 2000) && decide (b2 ≤ 2000)
  let s1 := s.shortTrips (s.finding h 1 (R.SW_STAT_SHORT_SUPPLY h) (decide (6000 ≤ a1)) 0x0F07 [p1 h, pS a1]) h
  let s2 := s1.shortTrips (s1.finding l 1 (R.SW_STAT_SHORT_SUPPLY l) (decide (6000 ≤ b1)) 0x0F07 [p1 l, pS b1]) l
  let s3 := (s2.finding h 0 (R.SW_STAT_OPEN_LOAD h) opens 0x0F06 [pS a2]).finding l 0 (R.SW_STAT_OPEN_LOAD l) opens 0x0F06 [pS b2]
  (s3.finding h 2 (R.SW_STAT_END_GND h) gnd 0x0F08 [p1 k]).finding l 2 (R.SW_STAT_END_GND l) gnd 0x0F08 [p1 k]

/-- OFF_STATE_CHECK: a channel with record bit 2 that is off is checked; a coil pair while both its switches are off (R499). -/
def offStateCheck (n a1 a2 b1 b2 : Nat) (s : State) : State :=
  if !s.bit (R.SW_CFG_FLAGS n) 2 then s
  else if 8 ≤ n && n < 16 then (if s.getB (R.SW_STAT_OUT_ON n) then s else offCheckLoad n a1 a2 s)
  else
    let k := if n < 16 then n else n - 16
    if s.getB (R.SW_STAT_OUT_ON k) || s.getB (R.SW_STAT_OUT_ON (16 + k)) then s else offCheckPair k a1 a2 b1 b2 s
def execOffStateCheck (n : Fin 24) (step1 step2 other1 other2 : BitVec 16) (s : State) : Host.Outcome State Fault Refusal :=
  finish s (whenOn s (offStateCheck n step1.toNat step2.toNat other1.toNat other2.toNat))

/-- FREEWHEEL_CHECK: the land read 5 to 25 µs after a switch-off, in 0.1 V (R500). -/
def freewheelCheck (n : Nat) (v : Int) (s : State) : State :=
  let missing := if n < 16 then decide (v < -30) else decide ((s.vsw (supplyOf n) + 300 : Nat) < 10 * v)
  if s.bit (R.SW_CFG_FLAGS n) 3 && missing && !s.getB (R.SW_STAT_FW_MISSING n) then
    let s1 := (s.putB (R.SW_STAT_FW_MISSING n) true).report 0x0F10 (src 7 n) [pS v]
    (if 8 ≤ n && n < 16 then s1 else s1.coilFail (decide (16 ≤ n)) (if n < 16 then n else n - 16) 4).settle
  else s
def execFreewheelCheck (n : Fin 24) (reading : BitVec 16) (s : State) : Host.Outcome State Fault Refusal :=
  finish s (whenOn s (freewheelCheck n reading.toInt))

/-- VSW_SUPPLY_LOST: a supply below 32 V for 1 ms marks its channels supply-lost (R53). -/
def vswLost (n v : Nat) (s : State) : State :=
  if v < 3200 && !s.bit R.PWR_STAT_VSW_LOST n then
    let s1 := (s.setVsw n v).putBit R.PWR_STAT_VSW_LOST n true
    (s1.report 0x0F01 (src 7 (0x100 + n)) [p1 n, pS v]).settle
  else s.setVsw n v
def execVswSupplyLost (n : Fin 4) (v : BitVec 16) (s : State) : Host.Outcome State Fault Refusal := finish s (whenOn s (vswLost n v.toNat))

/-- A channel's supply has been regained: a channel of HS8 to HS15 starts from its fail-safe state, a coil channel that is commanded on waits
until its pair has been commanded off (R98). (DEDUCED, log 107) -/
def State.regainChan (s : State) (n : Nat) : State :=
  if 8 ≤ n && n < 16 then s.setChan n { s.chan n with regained := true, fromSafe := true }
  else s.setChan n { s.chan n with regained := s.coilCmd n }

/-- A millisecond after a regain, which switches nothing on, the channels of HS8 to HS15 take their commands. (DEDUCED, log 107) -/
def State.regainMs (s : State) : State :=
  if s.sw.chans.any (fun p => decide (8 ≤ p.1) && decide (p.1 < 16) && p.2.regained) then
    (forAll (loadChans (fun _ => true)) (fun n s => s.setChan n { s.chan n with regained := false }) s).settle
  else s

/-- VSW_SUPPLY_REGAINED: a supply at 34 V for 10 ms clears supply-lost and switches nothing on (R98). -/
def vswRegained (n v : Nat) (s : State) : State :=
  if s.bit R.PWR_STAT_VSW_LOST n && decide (3400 ≤ v) then
    let s1 := (s.setVsw n v).putBit R.PWR_STAT_VSW_LOST n false
    let s2 := forAll ((List.range 24).filter (fun m => supplyOf m == n)) (fun m s => s.regainChan m) s1
    (s2.report 0x0F02 (src 7 (0x100 + n)) [p1 n]).settle
  else s.setVsw n v
def execVswSupplyRegained (n : Fin 4) (v : BitVec 16) (s : State) : Host.Outcome State Fault Refusal :=
  finish s (whenOn s (vswRegained n v.toNat))

/-- The switch settings of the image come into force at entry to stage 1: channel records, generators, the watchdog (R489, R490, R502, R503). -/
def State.loadSwitch (s : State) : State :=
  let i := s.tab
  let compat := i.swFlags.testBit 1
  let s1 := s.putAll ((List.range 24).flatMap (fun n =>
    [ (R.SW_CFG_SRC n, i.swByte n 0), (R.SW_CFG_GEN n, i.swByte n 1), (R.SW_CFG_FAILSAFE n, i.swByte n 2), (R.SW_CFG_FLAGS n, i.swByte n 3),
      (R.SW_CFG_DT_LIMIT n, i.swByte n 4), (R.SW_CFG_RETRY_MAX n, i.swByte n 5), (R.SW_STAT_RETRIES_LEFT n, i.swByte n 5) ]))
  let s2 := s1.putAll ((List.range 8).flatMap (fun g =>
    [ (R.SW_GEN_F_FREQ g, i.u16 9 (0x190 + 8 * g)), (R.SW_GEN_F_DUTY g, i.u16 9 (0x192 + 8 * g)),
      (R.SW_GEN_P_PHASE g, if compat then 450 * i.u8 9 (0x194 + 8 * g) else i.u16 9 (0x194 + 8 * g)) ]))
  let s3 := { s2 with sw := { s2.sw with
    genF := (List.range 8).map (fun g => s2.getW (R.SW_GEN_F g)), genP := (List.range 8).map (fun g => s2.getW (R.SW_GEN_P g)) } }
  s3.put R.SW_WDSTAT_STATE (if i.swFlags.testBit 0 then 0 else 3)

end Sys2Proof.Machine
end

