-- ==== Sys2Proof/Machine/SafetyIo.lean ====
section
/-! DEFINITION. Safety inputs, test pulses, coil off-pulses, proof tests and trip tests (chapter 16). -/

namespace Sys2Proof.Machine

/-- Filtered levels of an input's channels. -/
def State.levelA (s : State) (n : Nat) : Bool := s.bit R.SIO_IN_A_HIGH n
def State.levelB (s : State) (n : Nat) : Bool := s.bit R.SIO_IN_B_HIGH n

/-- Both channels read their closed levels (R446). -/
def State.readsClosed (s : State) (n : Nat) : Bool := s.levelA n && (if s.tab.inAnti n then !s.levelB n else s.levelB n)
/-- Both channels read their open levels (R446). -/
def State.readsOpen (s : State) (n : Nat) : Bool := !s.levelA n && (if s.tab.inAnti n then s.levelB n else !s.levelB n)
/-- The input is in disagreement (R446). -/
def State.readsApart (s : State) (n : Nat) : Bool := !s.readsClosed n && !s.readsOpen n
/-- A discrepancy fault is latched (R451). -/
def State.discFault (s : State) (n : Nat) : Bool := s.bit R.SIO_IN_DISC_FAULT n
/-- Functions 1, 2 and 4 carry a discrepancy timer (R451). -/
def State.timed (s : State) (n : Nat) : Bool := let f := s.tab.inFunc n; f == 1 || f == 2 || f == 4
/-- The input counts as closed: an input with a latched discrepancy fault counts as open (R452). -/
def State.inputClosed (s : State) (n : Nat) : Bool := s.readsClosed n && !s.discFault n

/-- CLOSED of one input, of any function, and the feedback of the pairs that name it (R397, R446). (DEDUCED, log 73) -/
def State.refreshInput (s : State) (n : Nat) : State :=
  let s1 := s.putBit R.SIO_IN_CLOSED n (s.inputClosed n)
  forAll ((List.range 8).filter (fun k => s1.tab.pairRole k != 0 && s1.tab.pairFb k == n))
    (fun k s => (s.putBit R.CTR_FB_FB_CLOSED k (!s.levelA n && !s.levelB n)).putBit R.CTR_FB_FB_UNDEC k (s.levelA n != s.levelB n)) s1

/-- The channel's level is held by a test pulse of its own supply (R453). -/
def State.heldByPulse (s : State) (n : Nat) (chanB : Bool) : Bool :=
  s.sio.tpoPulse.getLsbD (b2n chanB) && !s.tab.inExt n

/-- The channel's contacts have lost their supply: its TPO output is switched off by its current limit (R69). -/
def State.unsupplied (s : State) (n : Nat) (chanB : Bool) : Bool := s.getB (if chanB then R.SIO_TPO_B_LIMIT else R.SIO_TPO_A_LIMIT) && !s.tab.inExt n

/-- SIN_FILTER_CHANGE: a channel takes a new filtered level, and the core whose channel opens decides its trigger (R449);
in Split the Servitor decides nothing (R436). (DEDUCED, log 63) -/
def sinFilterChange (n : Nat) (chanB high : Bool) (s : State) : State :=
  if s.heldByPulse n chanB || (high && s.unsupplied n chanB) then s
  else
    let f := if chanB then R.SIO_IN_B_HIGH else R.SIO_IN_A_HIGH
    let was := s.bit f n
    let closed := s.readsClosed n
    let s1 := ({ s with sio := { s.sio with
        rawA := if chanB then s.sio.rawA else BitVec.ofNat 8 (setBits s.sio.rawA.toNat n 1 (b2n high))
        rawB := if chanB then BitVec.ofNat 8 (setBits s.sio.rawB.toNat n 1 (b2n high)) else s.sio.rawB } }).putBit f n high
    let s2 := s1.refreshInput n
    let fn := s.tab.inFunc n
    if was && !high && (fn == 1 || fn == 2) then
      let s3 := if closed then s2.report 0x0D01 (src 8 n) [p1 n, p1 (b2n chanB)] else s2
      if chanB && s.alone then s3 else if fn = 1 then s3.sd0 chanB 0x03 else s3.raise chanB 0x04
    else s2
def execSinFilterChange (n : Fin 8) (chanB high : Bool) (s : State) : Host.Outcome State Fault Refusal :=
  finish s (whenOn s (sinFilterChange n chanB high))

/-- A discrepancy fault is latched (R451, R453); a feedback input carries none, whatever a test pulse finds on it (R452). (DEDUCED, log 73) -/
def State.latchDisc (s : State) (n : Nat) : State :=
  if s.timed n then
    let s1 := s.putBit R.SIO_IN_DISC_FAULT n true
    let off (b : BitVec 8) : BitVec 8 := BitVec.ofNat 8 (setBits b.toNat n 1 0)
    let s2 := { s1 with sio := { s1.sio with openSeen := off s1.sio.openSeen, proofSeen := off s1.sio.proofSeen, bothOpen := setNth s1.sio.bothOpen n 0 } }
    (s2.refreshInput n).report 0x0D02 (src 8 n) [p1 n, pS (nth 0 s.sio.discT n / 2 : Nat)]
  else s

/-- DISCREPANCY_TIMEOUT: the timer reaches T_DISC_MS while the combined word shows the input in disagreement (R451); not in Split (R436). -/
def discrepancyTimeout (n : Nat) (s : State) : State :=
  if s.sio.disagree.getLsbD n && !s.discFault n && s.get R.PAIR_STAT_MODE != 2 then
    ({ s with sio := { s.sio with discT := setNth s.sio.discT n (2 * s.tab.inDiscMs n) } }).latchDisc n
  else s
def execDiscrepancyTimeout (n : Fin 8) (s : State) : Host.Outcome State Fault Refusal := finish s (whenOn s (discrepancyTimeout n))

/-- TPO_TEST_PULSE: from stage 1 on an enabled TPO output that is on switches off for TPO_W_US (R49, R453). -/
def tpoTestPulse (b : Bool) (s : State) : State :=
  let f := if b then R.SIO_TPO_TPO_B_ON else R.SIO_TPO_TPO_A_ON
  if (s.tab.sp8 0x580).testBit (b2n b) && s.getB f && decide (1 ≤ s.stage) then
    ({ s with sio := { s.sio with tpoPulse := s.sio.tpoPulse ||| (1#2 <<< b2n b) } }).putB f false
  else s
def execTpoTestPulse (tpoB : Bool) (s : State) : Host.Outcome State Fault Refusal := finish s (whenOn s (tpoTestPulse tpoB))

/-- A cross-short found on a channel (R453). (DEDUCED, log 73) -/
def State.crossShort (s : State) (n : Nat) (chanB : Bool) : State :=
  let s1 := s.putBit (if chanB then R.SIO_INFAULT_XSHORT_B else R.SIO_INFAULT_XSHORT_A) n true
  let s2 := s1.report 0x0D04 (src 8 n) [p1 n, p1 (b2n chanB)]
  if s2.discFault n then s2 else s2.latchDisc n

/-- The checks of one input at the end of a pulse of TPO_A (`b` false) or TPO_B: raw levels before it and in its last 100 µs. -/
def State.pulseInput (s : State) (b : Bool) (before atEnd n : Nat) : State :=
  if s.tab.inFunc n == 0 || s.tab.inExt n then s
  else
    let own := if b then n + 8 else n
    let other := if b then n else n + 8
    let s1 := if before.testBit own && atEnd.testBit own then s.crossShort n b else s
    if before.testBit other && !atEnd.testBit other && s.getB (if b then R.SIO_TPO_TPO_A_ON else R.SIO_TPO_TPO_B_ON) then s1.crossShort n (!b) else s1

/-- TPO_PULSE_CHECK: the end of a test pulse; `before` and `atEnd` hold channel A of input n in bit n and channel B in bit 8 + n (R453). (DEDUCED, log 73) -/
def tpoPulseCheck (b : Bool) (before atEnd : Nat) (s : State) : State :=
  if s.sio.tpoPulse.getLsbD (b2n b) then
    let s1 := ({ s with sio := { s.sio with tpoPulse := s.sio.tpoPulse &&& ~~~(1#2 <<< b2n b) } }).putB (if b then R.SIO_TPO_TPO_B_ON else R.SIO_TPO_TPO_A_ON) true
    forAll (List.range 8) (fun n s => s.pulseInput b before atEnd n) s1
  else s
def execTpoPulseCheck (tpoB : Bool) (before atEnd : BitVec 16) (s : State) : Host.Outcome State Fault Refusal :=
  finish s (whenOn s (tpoPulseCheck tpoB before.toNat atEnd.toNat))

/-- An input is supplied from its TPO outputs (R70). -/
def State.fromTpo (s : State) (n : Nat) : Bool := !s.tab.inExt n

/-- TPO_CURRENT_LIMIT: a TPO output that is on, or in its test pulse, and in current limit for 1 ms switches off, and every input that it supplies
reads low (R69). (DEDUCED, log 108) -/
def tpoCurrentLimit (b : Bool) (s : State) : State :=
  if !s.getB (if b then R.SIO_TPO_TPO_B_ON else R.SIO_TPO_TPO_A_ON) && !s.sio.tpoPulse.getLsbD (b2n b) then s
  else
  let s1 := (s.putB (if b then R.SIO_TPO_B_LIMIT else R.SIO_TPO_A_LIMIT) true).putB (if b then R.SIO_TPO_TPO_B_ON else R.SIO_TPO_TPO_A_ON) false
  let s2 := { s1 with sio := { s1.sio with tpoPulse := s1.sio.tpoPulse &&& ~~~(1#2 <<< b2n b) } }
  let s3 := (s2.inc R.SIO_TPO_LIMIT_CNT).report 0x0D08 chip [p1 (b2n b)]
  forAll ((List.range 8).filter (fun n => s.fromTpo n)) (fun n s => sinFilterChange n b false s) s3
def execTpoCurrentLimit (tpoB : Bool) (s : State) : Host.Outcome State Fault Refusal := finish s (whenOn s (tpoCurrentLimit tpoB))

/-- TPO_RETRY: 1 s after a current-limit shutdown the output is retried (R69), but in board-test mode (R88). -/
def tpoRetry (b : Bool) (s : State) : State :=
  let f := if b then R.SIO_TPO_B_LIMIT else R.SIO_TPO_A_LIMIT
  if s.getB f && !s.pwr.boardTest then (s.putB f false).putB (if b then R.SIO_TPO_TPO_B_ON else R.SIO_TPO_TPO_A_ON) true else s
def execTpoRetry (tpoB : Bool) (s : State) : Host.Outcome State Fault Refusal := finish s (whenOn s (tpoRetry tpoB))

/-- Marks a coil switch as in an off-pulse, or out of it. -/
def State.setPulse (s : State) (ls : Bool) (k : Nat) (b : Bool) : State :=
  if ls then { s with sio := { s.sio with pulseLs := BitVec.ofNat 8 (setBits s.sio.pulseLs.toNat k 1 (b2n b)) } }
  else { s with sio := { s.sio with pulseHs := BitVec.ofNat 8 (setBits s.sio.pulseHs.toNat k 1 (b2n b)) } }

/-- OFF_PULSE: a coil switch that is on gives its off-pulse (R458). -/
def offPulse (ls : Bool) (k : Nat) (s : State) : State :=
  if (if ls then s.sio.gateLs else s.sio.gateHs).getLsbD k then (s.setPulse ls k true).settle else s
def execOffPulse (ls : Bool) (k : Fin 8) (s : State) : Host.Outcome State Fault Refusal := finish s (whenOn s (offPulse ls k))

/-- OFF_PULSE_READBACK: the end of an off-pulse; it fails where the land stayed at its on level (R458, R459). -/
def offPulseReadback (ls : Bool) (k : Nat) (stayedOn : Bool) (s : State) : State :=
  if (if ls then s.sio.pulseLs else s.sio.pulseHs).getLsbD k then
    let s1 := s.setPulse ls k false
    (if stayedOn then s1.coilFail ls k 0 else s1).settle
  else s
def execOffPulseReadback (ls : Bool) (k : Fin 8) (stayedOn : Bool) (s : State) : Host.Outcome State Fault Refusal :=
  finish s (whenOn s (offPulseReadback ls k stayedOn))

/-- COIL_READBACK_FAULT: a coil switch reads opposite to its command for 1 ms outside its pulses (R459). -/
def coilReadbackFault (ls : Bool) (k : Nat) (on : Bool) (s : State) : State :=
  let gate := (if ls then s.sio.gateLs else s.sio.gateHs).getLsbD k
  let pulse := (if ls then s.sio.pulseLs else s.sio.pulseHs).getLsbD k
  if gate == on || pulse then s
  else
    let i := if ls then 8 + k else k
    let s1 := { s with sio := { s.sio with
      stuckOn := if on then s.sio.stuckOn ||| (1#16 <<< i) else s.sio.stuckOn
      stuckOff := if on then s.sio.stuckOff else s.sio.stuckOff ||| (1#16 <<< i) } }
    (s1.coilFail ls k (if on then 1 else 2)).settle
def execCoilReadbackFault (ls : Bool) (k : Fin 8) (on : Bool) (s : State) : Host.Outcome State Fault Refusal :=
  finish s (whenOn s (coilReadbackFault ls k on))

/-- COIL_TESTFAIL_CLEAR: the switch has read at its commanded level for 1 s; its cause clears and its finding is kept (R459). (DEDUCED, log 88) -/
def coilTestfailClear (ls : Bool) (k : Nat) (s : State) : State :=
  let m := ~~~(1#16 <<< (if ls then 8 + k else k))
  ({ s with sio := { s.sio with coilBad := s.sio.coilBad &&& m, stuckOn := s.sio.stuckOn &&& m, stuckOff := s.sio.stuckOff &&& m } }).settle
def execCoilTestfailClear (ls : Bool) (k : Fin 8) (s : State) : Host.Outcome State Fault Refusal := finish s (whenOn s (coilTestfailClear ls k))

/-- The integrity digest of the loaded image, 32 bytes. -/
def State.digest (s : State) : List Byte := (List.range 8).flatMap (fun n => leBytes 4 (s.get (R.IMG_DIGEST n)))

/-- A proof of an input satisfies its demand (Table SIO-4, R456). (DEDUCED, log 73) -/
def State.satisfyProof (s : State) (n : Nat) : State :=
  let m := s.tab.inProof n
  if m = 0 then s
  else
    let s1 := if m = 1 then { s with sio := { s.sio with proven := s.sio.proven ||| (1#8 <<< n) } }
      else { s with sio := { s.sio with proofDigest := setNth s.sio.proofDigest n s.digest, proofTime := setNth s.sio.proofTime n s.now } }
    let s2 := (((s1.put (R.SIO_PROOF_STATE n) 2).putB (R.SIO_PROOF_LEHR n) false).putBit R.SIO_INFAULT_PROOF_MISSING n false).putBit R.SIO_INFAULT_PROOF_OVERDUE n false
    s2.report 0x0D05 (src 8 n) [p1 n, p1 m]

/-- PROOF_INTERVAL_EXPIRED: PROOF_INT_H hours since the last proof (R456). -/
def proofIntervalExpired (n : Nat) (s : State) : State :=
  if s.tab.inProof n = 2 && s.get (R.SIO_PROOF_STATE n) == 2 && decide (nth 0 s.sio.proofTime n + 3600000 * s.tab.inProofH n ≤ s.now) then
    ((s.put (R.SIO_PROOF_STATE n) 3).putBit R.SIO_INFAULT_PROOF_OVERDUE n true).report 0x0D06 (src 8 n) [p1 n]
  else s
def execProofIntervalExpired (n : Fin 8) (s : State) : Host.Outcome State Fault Refusal := finish s (whenOn s (proofIntervalExpired n))

/-- PROOF_GRACE_EXPIRED: PROOF_GRACE_H further hours without a proof (R456). -/
def proofGraceExpired (n : Nat) (s : State) : State :=
  if s.get (R.SIO_PROOF_STATE n) = 3 && decide (nth 0 s.sio.proofTime n + 3600000 * (s.tab.inProofH n + s.tab.inGraceH n) ≤ s.now) then (s.putB (R.SIO_PROOF_LEHR n) true).report 0x0D07 (src 8 n) [p1 n] else s
def execProofGraceExpired (n : Fin 8) (s : State) : Host.Outcome State Fault Refusal := finish s (whenOn s (proofGraceExpired n))

/-- One input's proof-test demand as evaluated for stage 3 (Table SIO-4, R99). -/
def State.evalProof (s : State) (n : Nat) : State :=
  match s.tab.inProof n with
  | 0 => (s.put (R.SIO_PROOF_STATE n) 0).putBit R.SIO_INFAULT_PROOF_MISSING n false
  | 1 =>
    let ok := s.sio.proven.getLsbD n
    (s.put (R.SIO_PROOF_STATE n) (if ok then 2 else 1)).putBit R.SIO_INFAULT_PROOF_MISSING n (!ok)
  | _ =>
    let ok := nth [] s.sio.proofDigest n == s.digest
    (s.put (R.SIO_PROOF_STATE n) (if ok then (if s.bit R.SIO_INFAULT_PROOF_OVERDUE n then 3 else 2) else 1)).putBit R.SIO_INFAULT_PROOF_MISSING n (!ok)

/-- One input at a safety-cycle boundary: its discrepancy timer, in cycles since the boundary that first showed the disagreement, the clearing of its
fault, and its proof, which a Split anywhere in it makes void (R451, R452, R455). (DEDUCED, log 73) -/
def State.inputCycle (s : State) (n : Nat) : State :=
  if s.tab.inFunc n = 0 then s
  else
    let split := s.get R.PAIR_STAT_MODE == 2
    let apart := s.timed n && s.readsApart n && !split
    let open_ := if s.readsOpen n then nth 0 s.sio.bothOpen n + 1 else 0
    let seen := decide (41 ≤ open_)
    let timer := if s.sio.disagree.getLsbD n then satNat (2 * s.tab.inDiscMs n) (nth 0 s.sio.discT n + 1) else 0
    let setIf (c : Bool) (b : BitVec 8) : BitVec 8 := if c then b ||| (1#8 <<< n) else b
    let clr (b : BitVec 8) : BitVec 8 := b &&& ~~~(1#8 <<< n)
    let x := { s.sio with
      disagree := if apart then setIf true s.sio.disagree else clr s.sio.disagree
      discT := setNth s.sio.discT n (if apart then timer else 0)
      bothOpen := setNth s.sio.bothOpen n (satNat 41 open_)
      openSeen := setIf (seen && s.discFault n) s.sio.openSeen
      proofSeen := if split then clr s.sio.proofSeen else setIf (seen && !s.discFault n) s.sio.proofSeen }
    let s1 := { s with sio := x }
    if apart && !s.discFault n && s.sio.disagree.getLsbD n && decide (2 * s.tab.inDiscMs n ≤ timer) then s1.latchDisc n
    else if s1.readsClosed n then
      let s2 := { s1 with sio := { s1.sio with openSeen := clr x.openSeen, proofSeen := clr x.proofSeen } }
      if s.discFault n then
        if x.openSeen.getLsbD n then
          (((s2.putBit R.SIO_IN_DISC_FAULT n false).refreshInput n)).report 0x0D03 (src 8 n) [p1 n]
        else s1
      else if x.proofSeen.getLsbD n && !split then s2.satisfyProof n
      else s2
    else s1

/-- The safety inputs at a safety-cycle boundary. -/
def State.inputsCycle (s : State) : State := forAll (List.range 8) (fun n s => s.inputCycle n) s

/-- A test of one path: trip test or check comparison (R462, R463). (DEDUCED, log 74) -/
def State.pathResult (s : State) (pathB ok : Bool) : State :=
  if ok then { s with sio := { s.sio with pathFail := s.sio.pathFail &&& ~~~(1#2 <<< b2n pathB) } }
  else
    let s1 := { s with sio := { s.sio with pathFail := s.sio.pathFail ||| (1#2 <<< b2n pathB) } }
    (s1.raise pathB 0x16).report 0x0D0A (src 11 (b2n pathB)) [p1 (b2n pathB)]

/-- A trip test of both paths, with every coil gate off (R462). (DEDUCED, log 74) -/
def State.tripTest (s : State) (okA okB : Bool) : State :=
  let s1 := (s.putB R.SIO_TRIP_TEST_OK_A okA).putB R.SIO_TRIP_TEST_OK_B okB
  (s1.pathResult false okA).pathResult true okB

/-- The check comparisons at an epoch close (R463). (DEDUCED, log 74) -/
def State.checkCompare (s : State) (okA okB : Bool) : State :=
  let s1 := if okA && okB then s else s.putB R.SIO_TRIP_CHECK_FAIL true
  (if okA then s1 else s1.pathResult false false) |> (fun t => if okB then t else t.pathResult true false)

end Sys2Proof.Machine
end

