-- ==== Sys2Proof/Machine/Contactor.lean ====
section
/-! DEFINITION. Contactor sequencing and pre-charge (chapter 14): permissives, the string phase, the array phase, verification and welds. -/

namespace Sys2Proof.Machine

/-! Measurements as each core has them; `b` false is the Gaffer. -/

/-- A sense channel of PAIR_CHAN (Table PAIR-9) is enabled in the image (Table SIO-3). -/
def Img.senseOn (i : Img) (b : Nat) : Bool := i.bit 13 0 (if b = 5 then 4 else if 3 ≤ b then b - 1 else b)
/-- A sense channel is declared lost. -/
def State.lost (s : State) (b : Nat) : Bool := s.bit R.PAIR_CHAN_LOST b
/-- A sense channel gives a value. -/
def State.chanOk (s : State) (b : Nat) : Bool := s.tab.senseOn b && !s.lost b
/-- The array current a core works with: its own, or the other's while its own is lost (R383, R389). -/
def State.curOf (s : State) (b : Bool) : Option Q :=
  let own := if b then 5 else 0
  let other := if b then 0 else 5
  if s.chanOk own then some (Q.ofFp (s.getW (R.DSC_I (b2n b))))
  else if s.chanOk other then some (Q.ofFp (s.getW (R.DSC_I (1 - b2n b)))) else none
/-- A core's own battery-side voltage: DSM1 or DSM3. -/
def State.vbatOf (s : State) (b : Bool) : Option Q :=
  if s.chanOk (if b then 4 else 1) then some (Q.ofFp (s.getW (R.DSC_VBAT (b2n b)))) else none
/-- The link voltage a core works with: its DSM2, or the other's while its own is lost (R388, R389). -/
def State.vlinkOf (s : State) (b : Bool) : Option Q :=
  let v (c : Bool) : Word := if c then s.dsc.vlS else s.dsc.vlG
  let idx (c : Bool) : Nat := if c then 3 else 2
  if s.chanOk (idx b) then some (Q.ofFp (v b)) else if s.chanOk (idx (!b)) then some (Q.ofFp (v (!b))) else none
/-- A value of the safety parameters as a rational. -/
def Img.spQ (i : Img) (o : Nat) : Q := Q.ofFp (i.spF o)

/-- V_link ≤ V_SEP on a core; false without a value, so that with a disabled DSM2 permissive 13 and WELD_CLR are not met, while the comparison
of permissive 6 has nothing to compare. (DESIGN CHOICE, log 103) -/
def State.linkLow (s : State) (b : Bool) : Bool := match s.vlinkOf b with | none => false | some v => v.le (s.tab.spQ 0x418)
/-- V_link > V_SEP on a core; false without a value. -/
def State.linkHigh (s : State) (b : Bool) : Bool := match s.vlinkOf b with | none => false | some v => (s.tab.spQ 0x418).lt v
/-- The ratio V_link / V_bat of a core against p percent: at or above it. -/
def State.ratioGe (s : State) (b : Bool) (p : Nat) : Bool :=
  match s.vlinkOf b, s.vbatOf b with
  | some l, some v => (v.scale p 100).le l
  | _, _ => false
/-- The ratio of a core is below p percent. -/
def State.ratioLt (s : State) (b : Bool) (p : Nat) : Bool :=
  match s.vlinkOf b, s.vbatOf b with
  | some l, some v => l.lt (v.scale p 100)
  | _, _ => false

/-! Feedback inputs (R397). -/

def State.fbClosed (s : State) (k : Nat) : Bool := s.bit R.CTR_FB_FB_CLOSED k
def State.fbOpen (s : State) (k : Nat) : Bool := !s.fbClosed k && !s.bit R.CTR_FB_FB_UNDEC k
/-- Pairs of a mask that name a feedback input. -/
def Img.fbPairs (i : Img) (mask : Nat) : List Nat :=
  (List.range 8).filter (fun k => mask.testBit k && i.pairRole k != 0 && decide (i.pairFb k ≤ 7))
def State.allClosed (s : State) (mask : Nat) : Bool := (s.tab.fbPairs mask).all s.fbClosed
def State.allOpen (s : State) (mask : Nat) : Bool := (s.tab.fbPairs mask).all s.fbOpen

/-! String records and states. -/

/-- The chain of a string and the hop index of its node. -/
def Img.strNode (i : Img) (n : Nat) : Nat × Nat := (i.strChain n, i.strHop n - 1)
/-- Auxiliary contacts of a string, POS, NEG, PRE as bits 0 to 2 (Table NODE-8). -/
def StrX.aux (x : StrX) : Nat := bitsOf x.contactor.toNat 3 3

/-- A string enters a sequencer state (Table CTR-4): its record (Table STO-9) and the maps of Table CTR-10 follow. -/
def State.strTo (s : State) (n st : Nat) : State :=
  let x := s.str n
  if x.state = st then s
  else
    let s1 := s.setStr n { x with state := st, ackHere := false, tries := 0, acked := if st = 7 then 0 else x.acked }
    let s2 := (s1.stoPut (strOff n 0x94) 1 st).stoPut (strOff n 0x98) 4 (s.get R.SWP_EPOCH)
    (s2.putBit (R.CTR_STRWELD (n / 32)) (n % 32) (st == 9)).putBit (R.CTR_NOTJOIN (n / 32)) (n % 32) (st == 8)

/-- A string weld is reported (R405, R408, R414, R415). -/
def State.strWelds (s : State) (n : Nat) : State :=
  let s1 := s.strTo n 9
  ({ s1 with ctr := { s1.ctr with freshS := n :: s1.ctr.freshS } }).report 0x0B06 (src 6 n) [p1 (s.str n).aux]

/-- A string is not joined: 1 CTR_SET failed, 2 an auxiliary contact did not follow, 3 join condition not met (R406, R407). (DESIGN CHOICE, log 113) -/
def State.notJoined (s : State) (n cause : Nat) : State :=
  (s.strTo n 8).report 0x0B05 (src 6 n) [p1 cause, pS ((s.str n).diff : Nat)]

/-- Drivers a state commands (Table CTR-4), without PRE where it is not fitted. -/
def wantOf (pre : Bool) (st : Nat) : Nat :=
  let w := match st with | 2 => 2 | 3 => 6 | 4 => 7 | 5 => 3 | 6 => 3 | _ => 0
  if pre then w else w - 4 * bitsOf w 2 1
def State.want (s : State) (n : Nat) : Nat := wantOf (s.tab.strPre n) (s.str n).state

/-- A string is closable (Table CTR-3, bit 11): a chain that has ended an enumeration in fault keeps its strings from closing until a later start (R104). -/
def State.closable (s : State) (n : Nat) : Bool :=
  s.tab.strOn n && !s.excluded n && (s.str n).state != 9 && s.linkState (s.tab.strChain n) != 6 && !(s.chain (s.tab.strChain n)).enumFailed

/-- Every string opens and every coil pair goes off (R380, steps 1 and 2). -/
def State.openAll (s : State) : State :=
  let s1 := forAll (s.tab.strings.filter (fun n => decide (1 ≤ (s.str n).state) && decide ((s.str n).state ≤ 6))) (fun n s => s.strTo n 7) s
  (({ s1 with ctr := { s1.ctr with joining := none } }).setPairs 0).put R.CTR_STAT_PHASE 0 |>.settle

/-- Pair welds are reported (R388, R413). -/
def State.pairWelds (s : State) (mask : Nat) : State :=
  let m := bitsOf mask 0 8
  ({ s with ctr := { s.ctr with freshP := s.ctr.freshP ||| BitVec.ofNat 8 m } }).put R.CTR_STAT_PAIR_WELD (s.get R.CTR_STAT_PAIR_WELD ||| m)

/-! Token commands (R404, R415). -/

/-- The pair sends the hold command to a string: states 1 to 6, not excluded, no weld of it and none of a pair, in stage 3 or 4, and no core
has decided SD0 (R380). -/
def State.tokenHold (s : State) (n : Nat) : Bool :=
  let st := (s.str n).state
  !s.sio.sd0A && !s.sio.sd0B &&
  decide (1 ≤ st) && decide (st ≤ 6) && !s.excluded n && s.get R.CTR_STAT_PAIR_WELD == 0 && decide (3 ≤ s.stage) && s.safety != 6

/-- R612 for one string. (DEDUCED, log 68) -/
def State.strProven (s : State) (n : Nat) : Bool :=
  let x := s.str n
  if x.valid then (x.state == 0 || x.state == 8 || x.state == 10) && x.aux == 0
  else x.state != 9 && decide (102 * s.tab.strTokenMs n + 100 ≤ 50 * x.openT)

/-- All contactors are proven open (R612). (DEDUCED, log 68) -/
def State.provenOpen (s : State) : Bool :=
  if s.stage < 3 then decide (s.pwr.refTime + 2100 ≤ s.now)
  else
    s.get R.CTR_STAT_PAIRS_ON == 0 && s.get R.SIO_OUT_HS_ON == 0 && s.get R.SIO_OUT_LS_ON == 0 && s.get R.CTR_STAT_PAIR_WELD == 0
      && s.allOpen 255 && s.tab.strings.all s.strProven
/-- The strings of one chain are proven open (R199). -/
def State.chainProven (s : State) (c : Nat) : Bool :=
  if s.stage < 3 then decide (s.pwr.refTime + 2100 ≤ s.now)
  else (s.tab.strings.filter (fun n => s.tab.strChain n == c)).all s.strProven

/-! Permissives (Table CTR-3). -/

/-- Seconds of cool-down left, rounded up (Table CTR-9). -/
def State.coolLeft (s : State) : Nat := (s.ctr.coolEnd - s.now + 999) / 1000

/-- The permissives of bits 0 to 13. (DEDUCED, log 65) -/
def State.permits (s : State) : List Bool :=
  let i := s.tab
  [ decide (3 ≤ s.stage), !s.getB R.GLOBAL_STAGE_FOREIGN_IMAGE,
    s.safety == 0 && s.get (R.DSC_CAUSEMAP 0) == 0 && s.get (R.DSC_CAUSEMAP 1) == 0,
    s.get R.PAIR_STAT_MODE == 1,
    (List.range 8).all (fun n => (if i.inFunc n == 1 || i.inFunc n == 2 then s.inputClosed n else true)
      && (i.inProof n == 0 || decide (2 ≤ s.get (R.SIO_PROOF_STATE n)))),
    s.chanOk 0 && s.chanOk 5,
    [1, 2, 3, 4].all (fun b => !s.tab.senseOn b || !s.lost b) && [false, true].all (fun b => match s.vlinkOf b, s.vbatOf b with
      | some l, some v => l.le (v.add (i.spQ 0x418))
      | _, _ => true),
    (List.range 8).all (fun k => i.pairRole k == 0 || !s.bit R.PWR_STAT_VSW_LOST (supplyOf k)),
    s.allOpen 255,
    !s.anyWeld,
    s.getB R.SFL_STAT_LIMIT_UP,
    decide (i.sp16 0x624 ≤ (i.strings.filter s.closable).length),
    decide (s.ctr.coolEnd ≤ s.now),
    i.pcsPrecharge || (s.linkLow false && s.linkLow true) ]

/-- CTR_PERM, live (R401). (DEDUCED, log 65) -/
def State.ctrPerm (s : State) : Nat :=
  let l := s.permits
  (List.range 14).foldl (fun m k => m + 2 ^ k * b2n (nth false l k)) 0 + 2 ^ 31 * b2n (l.all id)
/-- The lowest permissive not met. (DEDUCED, log 65) -/
def State.lowestUnmet (s : State) : Nat := ((List.range 14).find? (fun k => !nth false s.permits k)).getD 14

/-! The pre-charge. -/

/-- The pre-charge ends without closing (R413): result 2 failed, 3 aborted. (DEDUCED, log 67) -/
def State.failPre (s : State) (code result : Nat) : State :=
  let s1 := (s.openAll.put R.CTR_STAT_RESULT result).put R.CTR_STAT_FAIL_CODE code
  let v (q : Option Q) : Par := match q with | none => pS 0 | some x => pS (x.param 10)
  let s2 := s1.report 0x0B04 chip [p1 code, v (s.vlinkOf false), v (s.vbatOf false)]
  let s3 := { s2 with ctr := { s2.ctr with coolEnd := s.now + 1000 * s.tab.sp16 0x61C, result := some (false, code) } }
  let s4 := if code = 3 then s3.pairWelds (s.tab.roleMask 1 + s.tab.roleMask 3)
    else if code = 9 then s3.pairWelds (s.tab.roleMask 3) else s3
  if code = 3 || code = 9 then s4.raiseBoth 0x15 else s4

/-- CTR_PRE at the end of A2 (Table CTR-9). (DEDUCED, log 67) -/
def State.endA2 (s : State) : State :=
  let r := match s.vlinkOf false, s.vbatOf false with
    | some l, some v => (l.num * 1000 * v.den / (l.den * v.num)).toNat
    | _, _ => 0
  (s.put R.CTR_PRE_PRE_MS (satNat 0xFFFF (s.ctr.stepT / 2))).put R.CTR_PRE_RATIO (satNat 0x3FF r)

/-- A step of the array phase begins: 3 A1, 4 A2, 5 A3, 6 A4 (Table CTR-5). -/
def State.startStep (s : State) (ph : Nat) : State :=
  let i := s.tab
  let on := s.get R.CTR_STAT_PAIRS_ON
  let add := if ph = 3 then i.roleMask 2 else if ph = 4 then i.roleMask 3 else if ph = 5 && !i.pcsPrecharge then i.roleMask 1 else 0
  let s1 := { s with ctr := { s.ctr with stepT := 0, waitOk := false } }
  ((s1.put R.CTR_STAT_PHASE ph).setPairs (on ||| add)).settle

/-- The array phase has a role-3 pair to pass (R399, R411). -/
def Img.usesPre (i : Img) : Bool := !i.pcsPrecharge && i.roleMask 3 != 0

/-- The pre-charge has passed (R412); no failure code belongs to it. (DEDUCED, log 67) -/
def State.passPre (s : State) : State :=
  ({ s with ctr := { s.ctr with result := some (true, 0) } }).putAll [(R.CTR_STAT_PHASE, 0), (R.CTR_STAT_RESULT, 1), (R.CTR_STAT_FAIL_CODE, 0)]

/-- The array phase at a boundary (Table CTR-5): passes by AND of the cores, failures by OR. -/
def State.arrayCycle (s : State) : State :=
  let i := s.tab
  let s := { s with ctr := { s.ctr with stepT := s.ctr.stepT + 1 } }
  match s.get R.CTR_STAT_PHASE with
  | 3 =>
    if !i.pcsPrecharge && !s.ctr.waitOk && (s.linkHigh false || s.linkHigh true) then s.failPre 3 2
    else if s.allClosed (i.roleMask 2) && (i.pcsPrecharge || s.ctr.waitOk) then s.startStep (if i.usesPre then 4 else 5)
    else s
  | 4 =>
    let tooHigh (b : Bool) : Bool := match s.curOf b with | none => false | some c => (i.spQ 0x620).lt c.abs
    let hit (b : Bool) : Bool := s.ratioGe b (i.sp8 0x61F)
    if tooHigh false || tooHigh true then s.endA2.failPre 7 2
    else if s.ctr.stepT < 2 * i.sp16 0x616 then (if hit false || hit true then s.endA2.failPre 5 2 else s)
    else if hit false && hit true then s.endA2.startStep 5
    else s
  | 5 =>
    let on := decide (s.get R.CTR_STAT_PAIRS_ON &&& i.roleMask 1 ≠ 0)
    if !on then
      let near (b : Bool) : Bool := match s.vlinkOf b, s.vbatOf b with
        | some l, some v => (v.sub l).abs.le (i.spQ 0x628)
        | _, _ => false
      if near false && near true then
        (({ s with ctr := { s.ctr with stepT := 0 } }).setPairs (s.get R.CTR_STAT_PAIRS_ON ||| i.roleMask 1)).settle
      else s
    else if s.allClosed (i.roleMask 1) then (if i.usesPre then s.startStep 6 else s.passPre)
    else s
  | 6 => if s.ctr.waitOk && s.allOpen (i.roleMask 3) then s.passPre else s
  | _ => s

/-- WELD_CHECK_END: T_WELDCHK_MS after the role-2 pairs went on with V_link at or below V_SEP (R411). -/
def weldCheckEnd (s : State) : State :=
  if s.get R.CTR_STAT_PHASE = 3 then
    if !s.tab.pcsPrecharge && (s.linkHigh false || s.linkHigh true) then s.failPre 3 2
    else { s with ctr := { s.ctr with waitOk := true } }
  else s
def execWeldCheckEnd (s : State) : Host.Outcome State Fault Refusal := finish s (whenOn s weldCheckEnd)

/-- AUX_TIMEOUT: T_AUX_MS after a pair was switched, a feedback that has not followed fails the step (R411). -/
def auxTimeout (s : State) : State :=
  let i := s.tab
  match s.get R.CTR_STAT_PHASE with
  | 3 => if s.allClosed (i.roleMask 2) then s else s.failPre 2 2
  | 4 => if s.allClosed (i.roleMask 3) then s else s.endA2.failPre 0x0D 2
  | 5 => if s.get R.CTR_STAT_PAIRS_ON &&& i.roleMask 1 = 0 || s.allClosed (i.roleMask 1) then s else s.failPre 8 2
  | 6 => if !s.ctr.waitOk || s.allOpen (i.roleMask 3) then s else s.failPre 9 2
  | _ => s
def execAuxTimeout (s : State) : Host.Outcome State Fault Refusal := finish s (whenOn s auxTimeout)

/-- PRE_EARLY_CHECK: at T_PRE_EARLY_MS of A2 a ratio below PRE_EARLY_PCT on a core fails with code 0x04 (R411). -/
def preEarlyCheck (s : State) : State :=
  let p := s.tab.sp8 0x61E
  if s.get R.CTR_STAT_PHASE = 4 && (s.ratioLt false p || s.ratioLt true p) then s.endA2.failPre 4 2 else s
def execPreEarlyCheck (s : State) : Host.Outcome State Fault Refusal := finish s (whenOn s preEarlyCheck)

/-- PRE_MAX_TIMEOUT: T_PRE_MAX_MS without a pass fails A2 with 0x06, and the wait of A3 for the PCS with 0x0C (R411). -/
def preMaxTimeout (s : State) : State :=
  match s.get R.CTR_STAT_PHASE with
  | 4 => s.endA2.failPre 6 2
  | 5 => if s.tab.pcsPrecharge && s.get R.CTR_STAT_PAIRS_ON &&& s.tab.roleMask 1 = 0 then s.failPre 0x0C 2 else s
  | _ => s
def execPreMaxTimeout (s : State) : Host.Outcome State Fault Refusal := finish s (whenOn s preMaxTimeout)

/-- OVERLAP_END: T_OVERLAP_MS after A3 passed the role-3 pair goes off (R411). -/
def overlapEnd (s : State) : State :=
  if s.get R.CTR_STAT_PHASE = 6 && !s.ctr.waitOk then
    let on := s.get R.CTR_STAT_PAIRS_ON
    (({ s with ctr := { s.ctr with waitOk := true, stepT := 0 } }).setPairs (on - (on &&& s.tab.roleMask 3))).settle
  else s
def execOverlapEnd (s : State) : Host.Outcome State Fault Refusal := finish s (whenOn s overlapEnd)

/-- PRE_COOL_END: PRE_COOL_S has elapsed since the last pre-charge failure (R401). -/
def preCoolEnd (s : State) : State := { s with ctr := { s.ctr with coolEnd := s.now } }
def execPreCoolEnd (s : State) : Host.Outcome State Fault Refusal := finish s (whenOn s preCoolEnd)

/-- ABORT in CTR_CTRL is held for the boundary, where it wins over a pass (R403). -/
def abortReq (s : State) : State := { s with ctr := { s.ctr with abort := true } }
/-- CLOSE_REQ is held for the boundary (R401, R402). -/
def closeReq (s : State) : State := { s with ctr := { s.ctr with closeReq := true } }

/-! The string phase. -/

/-- The pre-close check of R405 selects a string. -/
def State.selectStr (s : State) (n : Nat) : State := if (s.str n).aux ≠ 0 then s.strWelds n else s.strTo n 1

/-- Orders closable strings by battery-side voltage, then by number (R409). -/
def placeStr (s : State) (n : Nat) : List Nat → List Nat
  | [] => [n]
  | m :: ms =>
    let a := Q.ofFp (s.strF n 8)
    let b := Q.ofFp (s.strF m 8)
    if a.lt b || (a.le b && b.le a && decide (n < m)) then n :: m :: ms else m :: placeStr s n ms

/-- The next lead: strings at state 0 in order, until one passes the pre-close check. (DEDUCED, log 66) -/
def leadFrom : List Nat → State → State
  | [], s => { s with ctr := { s.ctr with order := [], lead := 512 } }
  | n :: ns, s =>
    if (s.str n).state = 0 then
      let s1 := s.selectStr n
      if (s1.str n).state = 1 then { s1 with ctr := { s1.ctr with order := ns, lead := n } } else leadFrom ns s1
    else leadFrom ns s

/-- The string phase ends (R410). -/
def State.endStrings (s : State) : State :=
  let six := (s.ctr.group.filter (fun n => (s.str n).state == 6)).length
  if six < s.tab.sp16 0x624 then s.failPre 1 2 else s.startStep 3

/-- A close request is accepted (R401, R409): the lead is the string at position (m - 1) div 2. -/
def State.acceptClose (s : State) : State :=
  let s1 := forAll (s.tab.strings.filter (fun n => (s.str n).state == 8)) (fun n s => s.strTo n 0) s
  let l := (s1.tab.strings.filter s1.closable).foldl (fun l n => placeStr s1 n l) []
  let p := (l.length - 1) / 2
  let s2 := { s1 with ctr := { s1.ctr with group := l, todo := [] } }
  let s3 := leadFrom (l.drop p ++ l.take p) (s2.put R.CTR_STAT_PHASE 1)
  let s4 := s3.report 0x0B02 chip [p2 s3.ctr.lead]
  if s4.ctr.lead = 512 then s4.endStrings else s4

/-- The join condition of the last closed epoch (R407): VALID samples of inputs 2 and 3; their difference in 0.1 V. -/
def State.joinDiff (s : State) (n : Nat) : Option Nat :=
  let c := s.tab.strNode n
  let set := s.lastSet (regionOf c.1)
  let rec_ (k : Nat) : Nat := (s.smp set ((pointOf c.1 c.2 k) % 32768)).toNat
  let a := rec_ 2
  let b := rec_ 3
  if a.testBit 32 && b.testBit 32 && bitsOf a 16 16 == s.get R.SWP_EPOCH % 65536 && bitsOf b 16 16 == s.get R.SWP_EPOCH % 65536 then
    some ((signedOf 16 (bitsOf b 0 16) - signedOf 16 (bitsOf a 0 16)).natAbs)
  else none

/-- The join condition is met: the difference of the raw codes, 0.05 V each (Table NODE-7), against JOIN_DV in 0.1 V. -/
def State.joinOk (s : State) (n : Nat) : Bool := match s.joinDiff n with | none => false | some d => decide (d ≤ 2 * s.tab.strJoinDv n)

/-- One string at an epoch close (Table CTR-4). -/
def State.strEpoch (s : State) (n : Nat) : State :=
  let x0 := s.str n
  let s := s.setStr n { x0 with diff := match s.joinDiff n with | none => x0.diff | some d => d / 2 }
  let x := s.str n
  let pre := s.tab.strPre n
  match x.state with
  | 0 => if s.excluded n then s.strTo n 10 else s
  | 8 => if s.excluded n then s.strTo n 10 else s
  | 10 => if s.excluded n then s else s.strTo n 0
  | 7 => if x.valid && x.aux == 0 then s.strTo n (if s.excluded n then 10 else 0) else s
  | 1 => if x.valid && x.contactor.getLsbD 6 then s.strTo n 2 else s
  | 2 =>
    if x.valid && x.aux.testBit 1 then
      (if pre then s.strTo n 3 else if s.joinOk n then s.strTo n 4 else s)
    else s
  | 3 => if x.valid && s.joinOk n then s.strTo n 4 else s
  | 4 => if x.valid && x.aux.testBit 0 then s.strTo n (if pre then 5 else 6) else s
  | 5 => if x.valid && !x.aux.testBit 2 then s.strTo n 6 else s
  | _ => s

/-- CTR_SETs of one epoch: at most one per chain, strings taking turns in ascending number (R406). -/
def State.issueCtrSet (s : State) (c : Nat) : State :=
  let need := s.tab.strings.filter (fun n => s.tab.strChain n == c && (s.str n).req.isNone && decide ((s.str n).tries ≤ 3) && (s.str n).acked != s.want n)
  let last := Sparse.get (fun _ => 0) s.ctr.turns c
  match (need.find? (fun n => decide (last ≤ n))).or need.head? with
  | none => s
  | some n =>
    let w := s.want n
    let s1 := s.setStr n { s.str n with req := some w }
    let s2 := { s1 with
      ctr := { s1.ctr with turns := Sparse.set (fun _ => 0) s1.ctr.turns c (n + 1) }
      pair := { s1.pair with outSets := s1.pair.outSets ++ [(n, w)] } }
    let cmd : WaitCmd := { hop := s.tab.strHop n - 1, opcode := 0x43, kind := 2, payload := [BitVec.ofNat 8 w, ~~~(BitVec.ofNat 8 w)] }
    s2.setChain c { s2.chain c with wait := (s2.chain c).wait ++ [cmd] }

/-- A response to the CTR_SET of a string, or none (R406). (DEDUCED, log 66) -/
def State.ctrSetDone (s : State) (n : Nat) (status : Option Nat) : State :=
  let x := s.str n
  match x.req with
  | none => s
  | some w =>
    let here := w == s.want n
    if status = some 0 then s.setStr n { x with req := none, acked := w, ackHere := here }
    else
      let s1 := s.setStr n { x with req := none, tries := if here then x.tries + 1 else x.tries }
      let retry := (status == some 5 || status.isNone) && decide (x.tries < 3)
      if here && !retry && decide (1 ≤ x.state) && decide (x.state ≤ 6) then s1.notJoined n 1 else s1

/-- The other closable strings once the lead has reached state 6: those at rest start, and the phase ends when all have ended (R409, R410). -/
def State.othersEpoch (s : State) : State :=
  let ready := s.ctr.todo.filter (fun n => (s.str n).state == 0)
  let s1 := forAll ready (fun n s => s.selectStr n) { s with ctr := { s.ctr with todo := s.ctr.todo.filter (fun n => (s.str n).state == 7) } }
  if s1.ctr.todo.isEmpty && s1.ctr.group.all (fun n => let st := (s1.str n).state; st == 6 || 8 ≤ st) then s1.endStrings else s1

/-- The string phase and a join after the strings of an epoch have moved (R409, R410, R416). -/
def State.phaseEpoch (s : State) : State :=
  match s.get R.CTR_STAT_PHASE with
  | 1 =>
    let st := (s.str s.ctr.lead).state
    if st = 6 then
      (({ s with ctr := { s.ctr with todo := s.ctr.group.filter (fun n => n != s.ctr.lead) } }).put R.CTR_STAT_PHASE 2).othersEpoch
    else if st = 7 || st = 8 || st = 9 || st = 10 then
      let s1 := leadFrom s.ctr.order s
      if s1.ctr.lead = 512 then s1.endStrings else s1
    else s
  | 2 => s.othersEpoch
  | 7 =>
    match s.ctr.joining with
    | none => s
    | some n =>
      let st := (s.str n).state
      if st = 6 || 7 ≤ st then ({ s with ctr := { s.ctr with joining := none } }).put R.CTR_STAT_PHASE 0 else s
  | _ => s

/-- The contactor sequencer at an epoch close: strings, phase, CTR_SETs. -/
def State.ctrEpoch (s : State) : State :=
  let s1 := forAll s.tab.strings (fun n s => s.strEpoch n) s
  let s2 := s1.phaseEpoch
  let chains := (s.tab.strings.map s.tab.strChain).eraseDups
  let s3 := forAll chains (fun c s => s.issueCtrSet c) s2
  forAll s3.tab.strings (fun n s => (s.stoPut (strOff n 0x94) 1 (s.str n).state).stoPut (strOff n 0x98) 4 (s.get R.SWP_EPOCH)) s3

/-- STR_CLOSE_TIMEOUT: STR_T_CLOSE_MS after the CTR_SET response an auxiliary bit has not followed its driver (R406, R408). -/
def strCloseTimeout (n : Nat) (s : State) : State :=
  let x := s.str n
  if x.state = 5 then (if x.aux.testBit 2 then s.strWelds n else s)
  else if decide (2 ≤ x.state) && decide (x.state ≤ 4) && x.ackHere && x.acked == s.want n && x.aux &&& s.want n ≠ s.want n then s.notJoined n 2
  else s
def execStrCloseTimeout (n : Fin 512) (s : State) : Host.Outcome State Fault Refusal := finish s (whenOn s (strCloseTimeout n))

/-- STR_PRE_TIMEOUT: STR_PRE_MS after entering state 3 the join condition has not been met (R407). (DEDUCED, log 66) -/
def strPreTimeout (n : Nat) (s : State) : State :=
  let st := (s.str n).state
  if (st = 3 || (st = 2 && !s.tab.strPre n)) && !s.joinOk n then s.notJoined n 3 else s
def execStrPreTimeout (n : Fin 512) (s : State) : Host.Outcome State Fault Refusal := finish s (whenOn s (strPreTimeout n))

/-- STR_VERIFY_TIMEOUT: STR_VERIFY_MS after the first SWEEP with open tokens (R414). -/
def strVerifyTimeout (n : Nat) (s : State) : State :=
  if (s.str n).state = 7 then
    if (s.str n).aux = 0 then s.strTo n (if s.excluded n then 10 else 0) else s.strWelds n
  else s
def execStrVerifyTimeout (n : Fin 512) (s : State) : Host.Outcome State Fault Refusal := finish s (whenOn s (strVerifyTimeout n))

/-- JOIN of a string in CLOSED or LEHR (R416). -/
def joinReq (n : Nat) (s : State) : State :=
  let st := (s.str n).state
  if (s.safety = 2 || s.safety = 4) && (st = 0 || st = 8) && s.closable n && s.ctr.joining.isNone && s.get R.PAIR_STAT_MODE == 1 then
    let s1 := (({ s with ctr := { s.ctr with joining := some n } }).put R.CTR_STAT_PHASE 7).strTo n 0
    let s2 := s1.selectStr n
    if (s2.str n).state = 1 then s2 else ({ s2 with ctr := { s2.ctr with joining := none } }).put R.CTR_STAT_PHASE 0
  else s.report 0x0B01 chip [p1 11]

/-- WELD_CLR for the pairs of a mask (R415); reasons: 1 state, 2 feedback or link voltage, 3 a finding in the same cycle. (DESIGN CHOICE, log 113) -/
def weldClrReq (mask : Nat) (s : State) : State :=
  if s.safety = 5 || s.safety = 6 then
    let m := bitsOf mask 0 8 &&& s.get R.CTR_STAT_PAIR_WELD
    let ok (k : Nat) : Bool := !s.ctr.freshP.getLsbD k && s.allOpen (2 ^ k) && s.linkLow false && s.linkLow true
    let clear := (List.range 8).foldl (fun a k => if m.testBit k && ok k then a + 2 ^ k else a) 0
    let s1 := if clear = 0 then s
      else (s.put R.CTR_STAT_PAIR_WELD (s.get R.CTR_STAT_PAIR_WELD - clear)).report 0x0B07 chip [p1 clear]
    if m = clear then s1 else s1.report 0x0B08 chip [p1 (if m &&& s.ctr.freshP.toNat ≠ 0 then 3 else 2)]
  else s.report 0x0B08 chip [p1 1]

/-- WELD_STR_CLR for a string (R415); reasons: 1 state, 3 a finding in the same cycle, 4 auxiliary bits. (DESIGN CHOICE, log 113) -/
def weldStrClrReq (n : Nat) (s : State) : State :=
  if !(s.safety = 5 || s.safety = 6) then s.report 0x0B08 chip [p1 1]
  else if (s.str n).state ≠ 9 then s
  else if s.ctr.freshS.contains n then s.report 0x0B08 chip [p1 3]
  else if !(s.str n).valid || (s.str n).aux ≠ 0 then s.report 0x0B08 chip [p1 4]
  else (s.strTo n (if s.excluded n then 10 else 0)).report 0x0B07 chip [p2 n]

/-- The contactor sequencer at a boundary before the state decision: ABORT, lost permissives, the array phase (R402, R403, R411). Bits 8 and 13,
which the array phase itself changes, count in the string phase alone. (DEDUCED, log 67) -/
def State.ctrCycle (s : State) : State :=
  let ph := s.get R.CTR_STAT_PHASE
  if s.safety = 1 && 1 ≤ ph && ph ≤ 6 then
    let p := s.permits
    let kept := [0, 1, 4, 5, 6, 7, 9, 10, 11, 12] ++ (if ph ≤ 2 then [8, 13] else [])
    if s.ctr.abort then s.failPre 0x0B 3
    else if !kept.all (fun k => nth false p k) then s.failPre 1 2
    else s.arrayCycle
  else if s.safety = 1 && s.ctr.abort && s.ctr.result = some (true, 0) then s.failPre 0x0B 3
  else s

end Sys2Proof.Machine
end

