-- ==== Sys2Proof/Machine/Sfl.lean ====
section
/-! DEFINITION. The safe frame layer (chapter 17): frames, connections, watchdogs and the sending order. -/

namespace Sys2Proof.Machine

/-- Connection identity (R471): CRC-32C over the module unique ID and the connection key. -/
def cidOf (i : Img) (n : Nat) : Word := crc32c (leBytes 16 Config.moduleUid.toNat ++ leBytes 4 (i.u32 11 (Img.cnOff n + 4)))

/-- Bytes 0x00 to 0x27 of a module frame (Table SFL-1). -/
def frameHead (n kind seq echo : Nat) (connect : Bool) (payload : List Byte) (time : Nat) : List Byte :=
  leBytes 1 (n % 16 + 16) ++ leBytes 1 kind ++ leBytes 2 seq ++ leBytes 2 echo ++ leBytes 1 payload.length ++ leBytes 1 (b2n connect)
    ++ slice 0#8 payload 0 24 ++ leBytes 4 time ++ leBytes 4 0

/-- A frame with both check values (R471). -/
def frameOf (cid : Word) (head : List Byte) : List Byte :=
  let m := leBytes 4 cid.toNat ++ head
  head ++ leBytes 4 (crc32c m).toNat ++ leBytes 4 (crc32k m).toNat

/-- The Servitor forms its check value: not while the pair is Split or Rejoining (R436, R472). (DEDUCED, log 77) -/
def State.servitorRuns (s : State) : Bool := let m := s.get R.PAIR_STAT_MODE; m != 2 && m != 3

/-- The Ethernet frame of a safe frame (R468): one unfragmented IPv4 UDP datagram without options, from the module's address to that of the
connection record, with a valid UDP checksum; the fields of the IP header that the manual leaves open are taken from `v`. (DESIGN CHOICE, log 115) -/
def Img.udpFrame (i : Img) (n : Nat) (v : BitVec 64) (f : List Byte) : List Byte :=
  let m := i.cnMedium n
  let ports := beBytes 2 (i.cnTx n % 65536) ++ beBytes 2 (i.cnTx n / 65536)
  let addrs := i.ipAddr m ++ i.bytes 11 (Img.cnOff n + 0x10) 4
  let size := beBytes 2 (8 + f.length)
  let sum := inetSum (addrs ++ [0#8, 17#8] ++ size ++ ports ++ size ++ [0#8, 0#8] ++ f)
  let head (sum : Nat) : List Byte := [0x45#8, (v >>> 16).setWidth 8] ++ beBytes 2 (28 + f.length) ++ beBytes 2 (v.toNat % 65536)
    ++ [if v.getLsbD 24 then 0x40#8 else 0#8, 0#8, (v >>> 32).setWidth 8, 17#8] ++ beBytes 2 sum ++ addrs
  i.bytes 11 (Img.cnOff n + 0x14) 6 ++ i.macAddr m ++ [0x08#8, 0x00#8] ++ head (inetSum (head 0)) ++ ports ++ size
    ++ beBytes 2 (if sum = 0 then 65535 else sum) ++ f

/-- A safe frame leaves on its medium (R467, R468): a CAN FD frame, with bit-rate switch where the image sets a data bit rate, or a datagram. -/
def State.sendSafe (s : State) (n : Nat) (f : List Byte) : State :=
  let m := s.tab.cnMedium n
  if m < 2 then s.emit (.can m (s.tab.cnTx n) true (s.tab.u8 11 (2 * m + 1) != 0) f)
  else let (v, s1) := s.draw; s1.emit (.eth (m - 2) (s.tab.udpFrame n v f))

/-- Sends one message on its connection (R470, R473, R475). Kind 0x00 restarts the module's sequence. -/
def State.sendMsg (s : State) (m : SflMsg) : State :=
  if !s.servitorRuns then (s.inc R.SFL_CNT_UNSENT).report 0x0E05 (src 10 m.conn) [p1 m.conn, p1 m.kind, p1 1]
  else
    let x := s.conn m.conn
    let connect := decide (m.kind = 0)
    let seq := if connect then (x.restart + 0x4000) % 65536 else (s.get (R.SFL_C_SEQ_TX m.conn) + 1) % 65536
    let pay := if connect then leBytes 2 seq ++ leBytes 2 0 else m.payload
    let head := frameHead m.conn m.kind seq (s.get (R.SFL_C_SEQ_RX m.conn)) connect pay (s.now % 2 ^ 32)
    let s1 := s.setConn m.conn { x with
      restart := if connect then seq else x.restart
      sent := ((seq, s.pair.cycle.toNat) :: x.sent).take 256
      idle := 0 }
    (s1.put (R.SFL_C_SEQ_TX m.conn) seq).sendSafe m.conn (frameOf (s.getW (R.SFL_C_CID m.conn)) head)

/-- Order of kinds within a cycle (R480). -/
def kindRank (k : Nat) : Nat := if k = 3 then 0 else if k = 1 then 1 else if k = 2 then 2 else if k = 4 then 3 else if k = 0 then 4 else 5

/-- Places a message in the sending order of a cycle. -/
def placeMsg (m : SflMsg) : List SflMsg → List SflMsg
  | [] => [m]
  | x :: xs => if kindRank m.kind * 16 + m.conn < kindRank x.kind * 16 + x.conn then m :: x :: xs else x :: placeMsg m xs

/-- A carried frame of kind 0x01 or 0x02 is replaced by a newer one of its kind and connection. -/
def renew (due : List SflMsg) (m : SflMsg) : SflMsg :=
  if m.kind = 1 || m.kind = 2 then ((due.find? (fun d => d.kind == m.kind && d.conn == m.conn)).getD m) else m

/-- The frames of a cycle in order: those carried over, then those due (R480). -/
def sendOrder (carried due : List SflMsg) : List SflMsg :=
  let fresh := due.filter (fun d => !((d.kind == 1 || d.kind == 2) && carried.any (fun c => c.kind == d.kind && c.conn == d.conn)))
  carried.map (renew due) ++ fresh.foldl (fun l m => placeMsg m l) []

/-- A frame may leave on its connection: a connect frame once the connection connects, any other in state 2 (R475). (DEDUCED, log 75) -/
def State.mayLeave (s : State) (m : SflMsg) : Bool :=
  let st := s.get (R.SFL_C_STAT_STATE m.conn)
  if m.kind = 0 then st != 0 else st == 2

/-- At most 8 frames leave in a cycle; the rest is carried (R480). (DEDUCED, log 75) (DEDUCED, log 77) -/
def State.sendFrames (s : State) : State :=
  let l := (sendOrder s.sfl.tx s.sfl.due).filter s.mayLeave
  let now := l.take 8
  let s1 := { s with sfl := { s.sfl with tx := l.drop 8, due := [] }, pair := { s.pair with outMsgs := now } }
  forAll now (fun m s => s.sendMsg m) s1

/-- A message falls due in the coming cycle. -/
def State.addMsg (s : State) (m : SflMsg) : State := { s with sfl := { s.sfl with due := s.sfl.due ++ [m] } }

/-- Connections that carry a kind: enabled, with the kind's bit, and established (Table SFL-5, R475). -/
def State.carriers (s : State) (kind : Nat) : List Nat :=
  (List.range 16).filter (fun n => s.tab.cnFlag n 0 && (s.tab.cnKinds n).testBit kind && s.get (R.SFL_C_STAT_STATE n) == 2)

/-- A message falls due on every connection that carries its kind. -/
def State.addKind (s : State) (kind : Nat) (payload : List Byte) : State :=
  forAll (s.carriers kind) (fun n s => s.addMsg ⟨kind, n, payload⟩) s

/-- Life frames of the cycle (R478): no other frame sent for T_E / 4. -/
def State.lifeFrames (s : State) : State :=
  forAll ((List.range 16).filter (fun n => s.get (R.SFL_C_STAT_STATE n) == 2 && decide (s.tab.cnTe n ≤ 2 * (s.conn n).idle)
      && !(s.sfl.due ++ s.sfl.tx).any (fun m => m.conn == n)))
    (fun n s => s.addMsg ⟨5, n, []⟩) s

/-- SFL_STAT after a change of a connection's state. -/
def State.setConnState (s : State) (n st : Nat) : State :=
  let s1 := (s.put (R.SFL_C_STAT_STATE n) st).putBit R.SFL_STAT_ESTABLISHED n (st == 2)
  if n = s.tab.limitConn then s1.putB R.SFL_STAT_LIMIT_UP (st == 2) else s1

/-- The connection's watchdog restarts (R477). (DEDUCED, log 75) -/
def State.restartWd (s : State) (n : Nat) : State := s.setConn n { s.conn n with wd := some 0 }

/-- Both cores' check values of a received frame match (R474); in Split the Gaffer's alone is verified (R436). (DEDUCED, log 76) -/
def State.checksOk (s : State) (n : Nat) (f : List Byte) : Bool :=
  let m := leBytes 4 (s.getW (R.SFL_C_CID n)).toNat ++ f.take 40
  ofLe (slice 0#8 f 40 4) == (crc32c m).toNat && (!s.servitorRuns || ofLe (slice 0#8 f 44 4) == (crc32k m).toNat)

/-- A byte of a frame. -/
def fb (f : List Byte) (i : Nat) : Nat := (nth 0#8 f i).toNat

/-- The header of a peer frame is in order: connection, version, direction, length, reserved bits, a kind a peer sends (Tables SFL-1, SFL-2). (DEDUCED, log 76) -/
def headerOk (n : Nat) (f : List Byte) : Bool :=
  fb f 0 == n + 16 && decide (fb f 6 ≤ 24) && decide (fb f 7 < 4) && fb f 7 / 2 == 1 && ofLe (slice 0#8 f 36 4) == 0
    && ((fb f 1 == 0 && fb f 7 % 2 == 1) || (fb f 1 == 0x81 && fb f 7 % 2 == 0))

/-- Peer status is recorded, and logged on change of the peer's state (R479). -/
def State.peerStatus (s : State) (n : Nat) (f : List Byte) : State :=
  if fb f 1 = 0x81 then
    let old := s.get (R.SFL_C_PEER_PEER_STATE n)
    let s1 := s.putAll [ (R.SFL_C_PEER_PEER_STATE n, fb f 8), (R.SFL_C_PEER_PEER_FLAGS n, fb f 9), (R.SFL_C_PEER_PEER_RAMP n, ofLe (slice 0#8 f 10 2)),
      (R.SFL_C_PEERI n, ofLe (slice 0#8 f 12 4)) ]
    if fb f 8 = old then s1 else s1.report 0x0E06 (src 10 n) [p1 n, p1 (fb f 8)]
  else s

/-- The echo names a frame sent more than T_E ago (R476), or one that is no longer recorded. (DEDUCED, log 76) -/
def State.staleEcho (s : State) (n echo : Nat) : Bool :=
  match (s.conn n).sent.find? (fun p => p.1 == echo) with
  | none => true
  | some p => decide (2 * s.tab.cnTe n < (s.pair.cycle - BitVec.ofNat 32 p.2).toNat)

/-- A frame with good checks reaches an established connection (R475, R476). -/
def State.inEstablished (s : State) (n : Nat) (f : List Byte) : State :=
  let seq := ofLe (slice 0#8 f 2 2)
  if fb f 7 % 2 = 1 then
    (((s.put (R.SFL_C_SEQ_RX n) seq).restartWd n).addMsg ⟨0, n, []⟩).report 0x0E04 (src 10 n) [p1 n, p2 seq]
  else
    let d := (seq + 65536 - s.get (R.SFL_C_SEQ_RX n)) % 65536
    if 1 ≤ d && d ≤ 256 then
      let s1 := ((s.incBy (R.SFL_C_LOSS_LOST n) (d - 1)).put (R.SFL_C_SEQ_RX n) seq)
      let s2 := if s.staleEcho n (ofLe (slice 0#8 f 4 2)) then s1.inc (R.SFL_C_LOSS_STALE_ECHO n) else s1.restartWd n
      s2.peerStatus n f
    else s.inc (R.SFL_C_ERR_SEQ n)

/-- A received frame is presented to both cores at a boundary (R474). (DEDUCED, log 76) -/
def State.presentFrame (s : State) (n : Nat) (f : List Byte) : State :=
  match s.get (R.SFL_C_STAT_STATE n) with
  | 0 => s
  | st =>
    if !(s.checksOk n f && headerOk n f) then s.inc (R.SFL_C_ERR_CHECK n)
    else if st = 2 then s.inEstablished n f
    else if fb f 7 % 2 = 1 && ofLe (slice 0#8 f 4 2) == (s.conn n).restart then
      let s1 := ((s.setConnState n 2).put (R.SFL_C_SEQ_RX n) (ofLe (slice 0#8 f 2 2))).restartWd n
      s1.report 0x0E01 (src 10 n) [p1 n, p1 (s.tab.cnMedium n)]
    else s

/-- The frame layer at the start of a safety cycle: counters of the connections, then the queued frames in order of arrival. -/
def State.sflReceive (s : State) : State :=
  let s1 := forAll (List.range 16) (fun n s =>
    if s.get (R.SFL_C_STAT_STATE n) = 0 then s
    else s.setConn n { s.conn n with wd := (s.conn n).wd.map (fun w => satNat 131070 (w + 1)), idle := satNat 4000 ((s.conn n).idle + 1) }) s
  forAll s1.sfl.rx (fun p s => s.presentFrame p.1 p.2) { s1 with sfl := { s1.sfl with rx := [] } }

/-- SINCE_MS of a connection (Table SFL-8). -/
def State.sinceMs (s : State) (n : Nat) : Nat := match (s.conn n).wd with | none => 0xFFFF | some w => satNat 0xFFFF (w / 2)

/-- The enabled connection a received frame belongs to: its CAN identifier, or its source address and port (R481). -/
def State.matchConn (s : State) (medium ident port : Nat) : Option Nat :=
  (List.range 16).find? (fun n => s.tab.cnFlag n 0 && s.tab.cnMedium n == medium && s.tab.cnRx n == ident
    && (medium < 2 || s.tab.cnTx n / 65536 == port))

/-- SAFE_FRAME_ARRIVAL: a frame on a medium with its identifier or source address and port, whether it is a CAN FD frame of 48 bytes
or a datagram as R468 asks, and its bytes (R467, R468, R474, R481). A CAN frame that a host filter accepts goes to host software alone (R526). A
foreign frame names connection 0 as its source. (DEDUCED, log 76) -/
def safeFrameArrival (medium ident port : Nat) (fd sumOk : Bool) (data : List Byte) (s : State) : State :=
  if s.stage = 0 then s
  else
    match s.matchConn medium ident port with
    | none =>
      if medium < 2 && s.tab.hostOn medium && s.tab.canFilter medium ident then s
      else
      let s1 := s.inc R.SFL_CNT_FOREIGN
      s1.report 0x0E03 (src 10 0) [p1 medium, pn 4 ident, p2 (s1.get R.SFL_CNT_FOREIGN)]
    | some n =>
      if fd && sumOk && data.length == 48 then { s with sfl := { s.sfl with rx := s.sfl.rx ++ [(n, data)] } }
      else s.inc (R.SFL_C_XPORT_TRANSPORT n)
def execSafeFrameArrival (medium : Fin 4) (ident : Word) (port : BitVec 16) (fd sumOk : Bool) (data : List Byte) (s : State) :
    Host.Outcome State Fault Refusal :=
  finish s (whenOn s (safeFrameArrival medium ident.toNat port.toNat fd sumOk data))

/-- CONNECT_FRAME_TIMER: a connecting connection's connect frame falls due (R475). -/
def connectFrameTimer (n : Nat) (s : State) : State :=
  if s.get (R.SFL_C_STAT_STATE n) = 1 then s.addMsg ⟨0, n, []⟩ else s
def execConnectFrameTimer (n : Fin 16) (s : State) : Host.Outcome State Fault Refusal := finish s (whenOn s (connectFrameTimer n))

/-- 2 × T_E cycles have passed since the watchdog's restart. -/
def State.wdDue (s : State) (n : Nat) : Bool := match (s.conn n).wd with | none => true | some w => decide (2 * s.tab.cnTe n ≤ w)

/-- SFL_WATCHDOG_EXPIRY: the watchdog of an established connection expires (R477, R485). -/
def sflWatchdogExpiry (n : Nat) (s : State) : State :=
  if s.get (R.SFL_C_STAT_STATE n) = 2 && s.wdDue n then
    let crit := s.tab.cnFlag n 2
    let s1 := ((s.setConnState n 1).inc (R.SFL_C_LOSS_EXPIRED n)).report 0x0E02 (src 10 n) [p1 n, p1 (b2n crit), p2 (s.sinceMs n)]
    if crit then
      let s2 := s1.setCause 0
      if s.safety = 1 || s.safety = 2 || s.safety = 3 || s.safety = 4 then s2.raiseBoth 0x0A else s2
    else s1
  else s
def execSflWatchdogExpiry (n : Fin 16) (s : State) : Host.Outcome State Fault Refusal := finish s (whenOn s (sflWatchdogExpiry n))

/-- The connection identities are formed when the image is loaded (R471). -/
def State.loadSfl (s : State) : State :=
  s.putAll (((List.range 16).filter (fun n => s.tab.cnFlag n 0)).map (fun n => (R.SFL_C_CID n, (cidOf s.tab n).toNat)))

/-- In stage 3 each enabled connection begins to connect (R475). -/
def State.startSfl (s : State) : State :=
  forAll ((List.range 16).filter (fun n => s.tab.cnFlag n 0)) (fun n s => s.setConnState n 1) s

end Sys2Proof.Machine
end

