-- ==== Sys2Proof/Machine/Limits.lean ====
section
/-! DEFINITION. What the pair applies to the state-of-power result, and the messages it sends (R363 to R367, R378). -/

namespace Sys2Proof.Machine

/-- The pair's factor in percent (R363), 0 while a weld is reported (R415), and bits 0 and 1 of Table SOP-5. (DEDUCED, log 54) -/
def State.factor (s : State) : Nat × Nat :=
  if s.anyWeld then (0, 2)
  else if s.safety = 2 then (100, 0)
  else if s.safety = 4 then (s.tab.sp8 0x439, 1)
  else (0, 2)

/-- A limit times the factor. -/
def scaleLim (l : Word) (pct : Nat) : Word :=
  if pct = 0 then 0#32 else if pct = 100 then l else Fp.mul l (Fp.ofRat pct 100)

/-- A limit of a message: 0.1 A units in 24 bits, saturating (R366). -/
def lim24 (l : Word) : List Byte := leBytes 3 (satNat 0xFFFFFF (Fp.toIntScaled l 10 1).toNat)

/-- The payload of kind 0x01 (Table SOP-3). -/
def limitPayload (flags epoch : Nat) (lim : List Word) : List Byte :=
  [0x01#8] ++ leBytes 1 flags ++ leBytes 2 epoch ++ lim.flatMap lim24 ++ leBytes 2 0

/-- The payload of kind 0x02 (Table SOP-4); `tail` holds bytes 0x0C to 0x17. -/
def energyPayload (flags epoch : Nat) (vmax vmin : Word) (tail : List Byte) : List Byte :=
  [0x02#8] ++ leBytes 1 flags ++ leBytes 2 epoch ++ leBytes 4 vmax.toNat ++ leBytes 4 vmin.toNat ++ tail

/-- Limits in force at some time in the last FOLLOW_MS, for R378: those newer than the window, and the one in force at its start. -/
def keepSent (now ms : Nat) : List (Nat × List Word) → List (Nat × List Word)
  | [] => []
  | p :: ps => if p.1 + 2 * ms ≤ now then [p] else p :: keepSent now ms ps

/-- Both limit messages fall due (R364), with the registers of R369. `extra` adds flags: 0x20 under R365, 0x40 for a repeat. -/
def State.sendLimits (s : State) (extra : Nat) : State :=
  let (pct0, fl) := s.factor
  let zero := extra.testBit 5
  let pct := if zero then 0 else pct0
  let lims := s.sop.lim.map (fun l => scaleLim l pct)
  let flags := fl + s.sop.flags + extra
  let e := s.sop.epoch.toNat
  let s1 := (s.addKind 1 (limitPayload flags e lims)).addKind 2 (energyPayload flags e s.sop.vmax s.sop.vmin s.sop.energy)
  let s2 := s1.putAll ((List.range 6).map (fun n => (R.SOP_LIM n, (nth 0#32 lims n).toNat)))
  let s3 := s2.putAll [ (R.SOP_VMAX, s.sop.vmax.toNat), (R.SOP_VMIN, s.sop.vmin.toNat), (R.SOP_STAT_LEHR, bitsOf fl 0 1), (R.SOP_STAT_STATE_ZERO, bitsOf fl 1 1) ]
  { s3 with sop := { s3.sop with
      fresh := false
      factor := pct0
      sent := keepSent s.pair.cycle.toNat (s.tab.sp16 0x426) ((s.pair.cycle.toNat, lims) :: s.sop.sent) } }

/-- Limit messages of a safety cycle: a new result (R364), a changed factor (R364), or no result for 4 closes (R365). -/
def State.limitCycle (s : State) : State :=
  if s.sop.fresh then (s.putB R.SOP_STAT_STALE_OUT false).sendLimits 0
  else if 4 ≤ s.sop.closes && !s.getB R.SOP_STAT_STALE_OUT then
    ((s.putB R.SOP_STAT_STALE_OUT true).sendLimits 0x20).report 0x0905 chip [p2 s.sop.epoch.toNat]
  else if s.factor.1 ≠ s.sop.factor && s.getB R.SOP_STAT_RESULT_VALID then
    s.sendLimits (0x40 + (if s.getB R.SOP_STAT_STALE_OUT then 0x20 else 0))
  else s

/-- The allowed magnitude of R378: the largest limit in force in the last FOLLOW_MS, with FOLLOW_REL and FOLLOW_ABS. -/
def State.allowedCurrent (s : State) (idx : Nat) : Q :=
  let m := (keepSent s.pair.cycle.toNat (s.tab.sp16 0x426) s.sop.sent).foldl (fun q p => q.max (Q.ofFp (nth 0#32 p.2 idx))) (Q.ofNat 0)
  (m.scale (100 + s.tab.sp8 0x437) 100).add (s.tab.spQ 0x40C)

/-- FOLLOW_TIMEOUT: on a core, the current (horizon 0), its 10 s mean (1) or its 60 s mean (2) has exceeded its allowed value for
longer than FOLLOW_MS in CLOSED or LEHR (R378). -/
def followTimeout (servitor : Bool) (horizon : Nat) (amps : Word) (s : State) : State :=
  let q := Q.ofFp amps
  let idx := 2 * horizon + (if q.num < 0 then 0 else 1)
  if (s.safety = 2 || s.safety = 4) && (s.allowedCurrent idx).lt q.abs then s.raise servitor 0x06 else s
def execFollowTimeout (servitor : Bool) (horizon : Fin 3) (amps : Word) (s : State) : Host.Outcome State Fault Refusal :=
  finish s (whenOn s (followTimeout servitor horizon.val amps))

end Sys2Proof.Machine
end

