-- ==== Sys2Proof/Machine/Pair.lean ====
section
/-! DEFINITION. The safety pair (chapter 15): the safety state block and its digest, the cross-comparison, the backstop, the pair modes, campaigns, and the sense channels. -/

namespace Sys2Proof.Machine

/-! The safety state block and the output record (R423, R424). -/

/-- An exchange record (R422): condition word, own current, own battery-side voltage, DSM2, 4 reserved bytes. -/
def State.exchange (s : State) (servitor : Bool) : List Byte :=
  leBytes 8 (if servitor then s.dsc.condS else s.dsc.condG).toNat ++ leBytes 4 (s.getW (R.DSC_I (b2n servitor))).toNat
    ++ leBytes 4 (s.getW (R.DSC_VBAT (b2n servitor))).toNat ++ leBytes 4 (if servitor then s.dsc.vlS else s.dsc.vlG).toNat ++ leBytes 4 0

/-- Bytes of the block whose encoding the manual leaves open are free values of the cycle number. (DESIGN CHOICE, log 7) (DESIGN CHOICE, log 69) -/
def State.freeBytes (s : State) (o n : Nat) : List Byte := (List.range n).map (fun i => Config.blockByte s.pair.cycle.toNat (o + i))

/-- A map of one bit per string, 64 B. -/
def stringBits (p : Nat → Bool) : List Byte :=
  (List.range 64).map (fun j => BitVec.ofNat 8 ((List.range 8).foldl (fun m b => m + 2 ^ b * b2n (p (8 * j + b))) 0))

/-- The token commands, 2 bits a string. -/
def State.tokenBits (s : State) : List Byte :=
  (List.range 128).map (fun j => BitVec.ofNat 8 ((List.range 4).foldl (fun m b => m + 4 ^ b * (if s.tab.strOn (4 * j + b) && s.tokenHold (4 * j + b) then 3 else 0)) 0))

/-- The safety state block of the cycle (Table PAIR-2). (DESIGN CHOICE, log 69) -/
def State.block (s : State) : List Byte :=
  leBytes 4 s.pair.cycle.toNat ++ leBytes 1 s.safety ++ leBytes 1 (s.get R.DSC_STATE_SD_KIND + 4 * s.get R.DSC_STATE_PHASE)
    ++ leBytes 1 (s.get R.PAIR_STAT_MODE) ++ [0#8] ++ s.exchange false ++ s.exchange true
    ++ leBytes 8 (s.dsc.condG ||| s.dsc.condS).toNat ++ leBytes 8 (s.dsc.condG &&& s.dsc.condS).toNat
    ++ leBytes 4 (s.get R.DSC_CAUSE) ++ leBytes 4 (s.get (R.DSC_CAUSEMAP 0)) ++ leBytes 4 (s.get (R.DSC_CAUSEMAP 1)) ++ leBytes 4 0
    ++ s.freeBytes 0x58 152 ++ leBytes 16 0
    ++ (List.range 512).map (fun n => BitVec.ofNat 8 (s.str n).state) ++ s.tokenBits
    ++ stringBits s.excluded ++ stringBits (fun n => (s.str n).state == 9) ++ List.replicate 1024 0#8

/-- A message slot of the output record. -/
def SflMsg.slot (m : SflMsg) : List Byte := leBytes 1 m.conn ++ leBytes 1 m.kind ++ leBytes 2 0 ++ slice 0#8 m.payload 0 24

/-- The output record of the cycle (Table PAIR-3). -/
def State.outRecord (s : State) : List Byte :=
  leBytes 4 (s.get R.CTR_STAT_PAIRS_ON) ++ leBytes 4 s.swp.nextEpoch.toNat
    ++ slice 0#8 (s.pair.outMsgs.flatMap SflMsg.slot) 0 224 ++ slice 0#8 (s.pair.outSets.flatMap (fun p => leBytes 2 p.1 ++ leBytes 1 p.2)) 0 24

/-- The checkpoint digest (R425). -/
def State.checkpoint (s : State) : Word := crc32c (s.block ++ s.outRecord)

/-- The boundary ends cycle k, whose digest is held for the comparison, and begins the next; the first cycle of a start is cycle 0. (DEDUCED, log 70) -/
def State.nextCycle (s : State) : State :=
  { s with pair := { s.pair with
      held := if s.pair.running then some (s.pair.cycle.toNat, s.checkpoint) else none
      cycle := if s.pair.running then s.pair.cycle + 1#32 else s.pair.cycle
      running := true, outSets := [] } }

/-- The cycle that the last boundary ended. -/
def PairState.prevCycle (p : PairState) : Nat := (p.cycle - 1#32).toNat

/-! Pair faults (R427 to R429). -/

/-- The mode that a boundary will take; after a pair fault none but Faulted (R428). -/
def State.setNextMode (s : State) (m : Nat) : State :=
  if s.getB R.PAIR_STAT_FAULT && m != 5 then s else { s with pair := { s.pair with nextMode := some m } }

/-- The backstop is armed at a pair fault, once in a start (R429). -/
def State.armBackstop (s : State) : State :=
  if s.pair.armed then s else ({ s with pair := { s.pair with armed := true } }).putB R.PAIR_STAT_BACKSTOP true

/-- A pair fault of cycle k (R427): recorded once; a lower cause of the same cycle takes its place. -/
def State.pairFault (s : State) (k cause : Nat) : State :=
  if s.getB R.PAIR_STAT_FAULT then
    if s.get R.PAIR_FAULT_CYC = k && cause < s.get R.PAIR_STAT_FAULT_CAUSE then s.put R.PAIR_STAT_FAULT_CAUSE cause else s
  else
    let s1 := s.putAll [(R.PAIR_STAT_FAULT, 1), (R.PAIR_STAT_FAULT_CAUSE, cause), (R.PAIR_FAULT_CYC, k)]
    let s2 := (s1.raiseBoth 0x09).report 0x0C01 chip [p1 cause, p2 k, p2 (s.get R.PAIR_DIG_G), p2 (s.get R.PAIR_DIG_S)]
    (((s2.snap 7).setCause 0).setNextMode 5).armBackstop

/-- A failed attempt of the punty transfer (R438). -/
def State.rejoinFail (s : State) (k : Nat) : State :=
  let n := s.get R.PAIR_MODESTAT_ATTEMPTS + 1
  let s1 := { s.put R.PAIR_MODESTAT_ATTEMPTS n with pair := { s.pair with matched := 0, reloaded := false } }
  if n < 3 then s1 else (s1.report 0x0C08 chip [p2 k]).pairFault k 6

/-- A late digest or a late exchange of cycle k (R422, R427). -/
def State.lateDigest (s : State) (k : Nat) : State :=
  let s1 := s.put R.PAIR_SKEW_LAST_US 255
  match s.get R.PAIR_STAT_MODE with
  | 2 => s
  | 4 => s
  | 3 => if s.pair.reloaded then s1.rejoinFail k else s
  | _ => s1.pairFault k 2

/-- The cross-comparison unit compares (R427, R436, R442): not in Split or Halted, nor before the Servitor has been reloaded. -/
def State.compares (s : State) : Bool :=
  let m := s.get R.PAIR_STAT_MODE
  s.getB R.PAIR_STAT_INJ_START_OK && m != 2 && m != 4 && (m != 3 || s.pair.reloaded)

/-- The run-time injection of checkpoint k (R432); `flagged` is what the unit answers. (DEDUCED, log 70) -/
def State.injectAt (s : State) (k : Nat) (flagged : Bool) : State :=
  if 1024 ≤ k && k % 1024 == 0 then
    let j := k / 1024
    let s1 := s.putAll [(R.PAIR_INJ_NEXT_BIT, (j / 2) % 32), (R.PAIR_INJ_NEXT_SIDE, j % 2)]
    if flagged then s1.inc R.PAIR_INJ_DONE else s1
  else s

/-- Causes of a pair fault that a comparison finds, lowest first: mismatch, injection missed, uncorrectable error. -/
def compareCauses (k : Nat) (same flagged : Bool) (ecc : Nat) : List Nat :=
  (if same then [] else [1]) ++ (if 1024 ≤ k && k % 1024 == 0 && !flagged then [3] else []) ++ (if ecc = 2 then [4] else [])

/-- An SD0 decision stands beside the checkpoint: decided since the last boundary, or taken at it (R373). (DEDUCED, log 70) -/
def State.besideSd0 (s : State) : Bool :=
  (s.dsc.condG ||| s.dsc.condS) &&& sd0Codes != 0#64 || (s.get R.DSC_STATE_SD_KIND == 2 && s.dsc.sdT == 0)

/-- A checkpoint of which both digests are held, with what it does to the mode (R427, R428, R434, R438). A mismatch that falls together with an SD0
decision is no pair fault (R373). (DEDUCED, log 70) -/
def State.judge (s : State) (k : Nat) (same : Bool) (found : List Nat) : State :=
  let mode := s.get R.PAIR_STAT_MODE
  let causes := if s.besideSd0 then found.filter (fun c => c != 1) else found
  if mode = 5 then s
  else if mode = 3 then
    let s1 :=
      if !same then s.rejoinFail k
      else if 2 ≤ s.pair.matched + 1 then
        (({ s with pair := { s.pair with matched := s.pair.matched + 1 } }).setNextMode 1).report 0x0C07 chip [p1 (s.get R.PAIR_MODESTAT_ATTEMPTS)]
      else { s with pair := { s.pair with matched := s.pair.matched + 1 } }
    match causes.filter (fun c => c != 1) with
    | [] => s1
    | c :: _ => s1.pairFault k c
  else
    match causes with
    | c :: _ => s.pairFault k c
    | [] => if mode = 0 && same then s.setNextMode 1 else s

/-- The ECC of the holding registers (R433): 0 no error, 1 corrected, 2 uncorrectable. -/
def State.holdingEcc (s : State) (ecc : Nat) (side : Bool) : State :=
  if ecc = 1 then (s.inc R.PAIR_ECC_CE).report 0x0C04 chip [p1 (b2n side)]
  else if ecc = 2 then s.inc R.PAIR_ECC_UE else s

/-- DIGEST_COMPARE: both digests of the held cycle k are there. `errG` and `errS` are what each core's digest differs by from that of the
block, `skewUs` the time between them, `flagged` the unit's answer to an injection of this checkpoint, `ecc` what the registers' ECC finds. (DESIGN CHOICE, log 69) -/
def digestCompare (errG errS : Word) (skewUs : Nat) (flagged : Bool) (ecc : Nat) (eccSide : Bool) (s : State) : State :=
  match s.pair.held with
  | none => s
  | some (k, d) =>
    if !s.compares then s
    else
      let s0 := { s with pair := { s.pair with held := none } }
      let s1 := s0.putAll [(R.PAIR_CYCLE, k), (R.PAIR_DIG_G, (d ^^^ errG).toNat), (R.PAIR_DIG_S, (d ^^^ errS).toNat),
        (R.PAIR_SKEW_LAST_US, skewUs), (R.PAIR_SKEW_MAX_US, max skewUs (s.get R.PAIR_SKEW_MAX_US))]
      let s2 := s1.holdingEcc ecc eccSide
      if 100 < skewUs then s2.lateDigest k
      else (s2.injectAt k flagged).judge k (errG == errS) (compareCauses k (errG == errS) flagged ecc)
def execDigestCompare (errG errS : Word) (skewUs : BitVec 8) (flagged : Bool) (ecc : Fin 3) (eccSide : Bool) (s : State) :
    Host.Outcome State Fault Refusal :=
  finish s (whenOn s (digestCompare errG errS skewUs.toNat flagged ecc.val eccSide))

/-- DIGEST_TIMEOUT: no digest of the held cycle from a core within 100 µs after the unit's own expected instant (R427). -/
def digestTimeout (_servitor : Bool) (s : State) : State :=
  match s.pair.held with
  | none => s
  | some (k, _) =>
    if s.compares && s.get R.PAIR_STAT_MODE != 5 then ({ s with pair := { s.pair with held := none } }).lateDigest k else s
def execDigestTimeout (servitor : Bool) (s : State) : Host.Outcome State Fault Refusal := finish s (whenOn s (digestTimeout servitor))

/-- EXCHANGE_LATE: an exchange record has not arrived 100 µs after the receiving core's cycle start; handled as a late digest (R422). -/
def exchangeLate (_servitor : Bool) (s : State) : State :=
  if s.compares && s.get R.PAIR_STAT_MODE != 5 then s.lateDigest s.pair.cycle.toNat else s
def execExchangeLate (servitor : Bool) (s : State) : Host.Outcome State Fault Refusal := finish s (whenOn s (exchangeLate servitor))

/-- The backstop expires (R429): it acts only if a coil gate is still on. -/
def backstopExpiry (s : State) : State :=
  if s.getB R.PAIR_STAT_BACKSTOP then
    let s1 := s.putB R.PAIR_STAT_BACKSTOP false
    let on := s.sio.gateHs.toNat + 256 * s.sio.gateLs.toNat
    if on = 0 then s1
    else
      let s2 := ({ s1 with pair := { s1.pair with blocked := true } }).putB R.PAIR_STAT_BACKSTOP_FIRED true
      (s2.settle.report 0x0C10 chip [p2 on]).setCause 0
  else s
def execBackstopExpiry (s : State) : Host.Outcome State Fault Refusal := finish s (whenOn s backstopExpiry)

/-- BACKSTOP_DISARM: every coil gate has been off for 1 ms (R429). -/
def backstopDisarm (s : State) : State :=
  if s.sio.gateHs = 0#8 && s.sio.gateLs = 0#8 then s.putB R.PAIR_STAT_BACKSTOP false else s
def execBackstopDisarm (s : State) : Host.Outcome State Fault Refusal := finish s (whenOn s backstopDisarm)

/-- STARTUP_INJECTION: the 64 patterns of R431 with the first one missed and the errors that the registers' ECC finds on each side
(0 none, 1 corrected, 2 uncorrectable, R433); the trip test of both paths follows where they pass (R462). (DEDUCED, log 70) -/
def startupInjection (missed : Option Nat) (eccG eccS : Nat) (okA okB : Bool) (s : State) : State :=
  if s.stage = 0 && !s.pwr.boardTest && s.get R.PAIR_STAT_MODE = 0 && !s.getB R.PAIR_STAT_INJ_START_OK then
    let s1 := (s.holdingEcc eccG false).holdingEcc eccS true
    if missed.isNone && eccG ≠ 2 && eccS ≠ 2 then
      let s2 := ((s1.putB R.PAIR_STAT_INJ_START_OK true).report 0x0C02 chip []).tripTest okA okB
      { s2 with pair := { s2.pair with tripHeld := !(okA && okB) } }
    else
      let p := missed.getD (if eccG = 2 then 0 else 1)
      ((s1.put R.PAIR_STAT_MODE 5).report 0x0C03 chip [p1 p, p1 (p % 2)]).setCause 0
  else s
def execStartupInjection (missed : Option (Fin 64)) (eccG eccS : Fin 3) (okA okB : Bool) (s : State) : Host.Outcome State Fault Refusal :=
  finish s (whenOn s (startupInjection (missed.map Fin.val) eccG.val eccS.val okA okB))

/-! Split, campaigns and rejoin (R435 to R438). -/

/-- SPLIT is held for the boundary, where it is judged with what else the cycle brought (R434, R435). -/
def splitReq (s : State) : State := { s with pair := { s.pair with splitReq := true } }

/-- Condition 2 of R435. -/
def State.splitOpen (s : State) : Bool :=
  s.get R.CTR_STAT_PAIRS_ON == 0 && s.allOpen 255
    && s.tab.strings.all (fun n => let x := s.str n; (x.state == 0 || x.state == 8 || x.state == 10) && x.valid && x.aux == 0)

/-- The first condition of R435 that fails, 0 where all hold. (DEDUCED, log 63) -/
def State.splitRefusal (s : State) (trigger : Bool) : Nat :=
  if !(s.safety == 0 || s.safety == 6) then 1
  else if !s.splitOpen then 2
  else if s.get R.PAIR_STAT_MODE ≠ 1 then 3
  else if trigger || s.ctr.closeReq then 4 else 0

/-- A split request at the boundary. (DEDUCED, log 63) -/
def State.judgeSplit (s : State) (trigger : Bool) : State :=
  if s.pair.splitReq then
    let c := s.splitRefusal trigger
    let s1 := { s with pair := { s.pair with splitReq := false } }
    if c = 0 then (s1.put R.PAIR_STAT_MODE 2).settle.report 0x0C05 chip [p1 0]
    else (s1.put R.PAIR_MODESTAT_REFUSE c).report 0x0C05 chip [p1 c]
  else s

/-- A campaign ends (R437): RESULT 1 pass, 2 fail, 3 aborted. -/
def State.endCampaign (s : State) (result detail : Nat) : State :=
  let code := s.get R.PAIR_STAT_CAMPAIGN
  let s1 := s.putAll [(R.PAIR_STAT_CAMPAIGN, 0), (R.PAIR_CAMP_LAST_CODE, code), (R.PAIR_CAMP_RESULT, result), (R.PAIR_CAMP_DETAIL, detail)]
  s1.report 0x0C0B chip [p1 code, p1 result, p2 detail]

/-- REJOIN in Split (R437, R438); the DETAIL of an aborted campaign is a free value. (DESIGN CHOICE, log 114) -/
def rejoinReq (s : State) : State :=
  if s.get R.PAIR_STAT_MODE = 2 then
    let s1 := if s.get R.PAIR_STAT_CAMPAIGN = 0 then s else let (v, s0) := s.draw; s0.endCampaign 3 (v.toNat % 2 ^ 16)
    let s2 := { s1.put R.PAIR_MODESTAT_ATTEMPTS 0 with pair := { s1.pair with
      matched := 0
      reloaded := false
      hallUse := s1.pair.hallZero
      dsmUse := s1.pair.dsmRatio } }
    (s2.setNextMode 3).report 0x0C06 chip [p1 1]
  else s

/-- REJOIN_RELOAD_DONE: the Servitor has been reloaded from the Gaffer's checkpoint image (R438). -/
def rejoinReloadDone (s : State) : State :=
  if s.get R.PAIR_STAT_MODE = 3 then { s with pair := { s.pair with reloaded := true, matched := 0 } } else s
def execRejoinReloadDone (s : State) : Host.Outcome State Fault Refusal := finish s (whenOn s rejoinReloadDone)

/-- CAMP_GO with a campaign code, in Split with none running (R437); RESULT and DETAIL read 0 until the campaign ends. (DESIGN CHOICE, log 114) -/
def campGo (code : Nat) (s : State) : State :=
  if s.get R.PAIR_STAT_MODE = 2 && s.get R.PAIR_STAT_CAMPAIGN = 0 && 1 ≤ code && code ≤ 4 then
    s.putAll [(R.PAIR_STAT_CAMPAIGN, code), (R.PAIR_CAMP_LAST_CODE, code), (R.PAIR_CAMP_RESULT, 0), (R.PAIR_CAMP_DETAIL, 0)]
  else s

/-- The pass criterion of Table PAIR-6: an offset of at most 2 % of 2.5 V at 5 V / 65,536 a step, a ratio within 0.98 to 1.02, no failing input;
of the march test what it found. (DEDUCED, log 125) -/
def campPass (code : Nat) (clean : Bool) (detail : Nat) : Bool :=
  match code with
  | 2 => decide ((signedOf 16 detail).natAbs ≤ 655)
  | 3 => decide ((signedOf 16 detail).natAbs ≤ 2000)
  | 4 => detail == 0
  | _ => clean

/-- CAMPAIGN_DONE: the running campaign ends; a passed calibration is stored in the Servitor's record (R437). `clean` is what the march test found. -/
def campaignDone (clean : Bool) (detail : Nat) (s : State) : State :=
  let code := s.get R.PAIR_STAT_CAMPAIGN
  let pass := campPass code clean detail
  if code = 0 then s
  else
    let s1 := if pass && code = 2 then { s with pair := { s.pair with hallZero := signedOf 16 detail } }
      else if pass && code = 3 then { s with pair := { s.pair with dsmRatio := signedOf 16 detail } } else s
    s1.endCampaign (if pass then 1 else 2) detail
def execCampaignDone (clean : Bool) (detail : BitVec 16) (s : State) : Host.Outcome State Fault Refusal :=
  finish s (whenOn s (campaignDone clean detail.toNat))

/-- REPLAY_APPLY: the Servitor reaches the retire count of the oldest entry and takes it (R440). -/
def replayApply (s : State) : State :=
  match s.pair.replay with
  | [] => s
  | e :: es =>
    let s1 := { s with pair := { s.pair with
      replay := es
      haltS := if e.op = 1 then true else if e.op = 2 then false else s.pair.haltS } }
    s1.put R.PAIR_REPLAY_USED es.length
def execReplayApply (s : State) : Host.Outcome State Fault Refusal := finish s (whenOn s replayApply)

/-! Sense channels (R63, R65). -/

/-- The core that reads a channel of PAIR_CHAN. -/
def chanCore (b : Nat) : Nat := if b < 3 then 0 else 1

/-- A channel in use is declared lost. -/
def State.loseChan (s : State) (b : Nat) : State :=
  if s.tab.senseOn b && !s.lost b then (s.putBit R.PAIR_CHAN_LOST b true).report 0x0C09 chip [p1 b, p1 (chanCore b)] else s

/-- DSM_LOST: a DSM input without a transition for 256 clock periods (R63). -/
def dsmLost (b : Nat) (s : State) : State := if b < 5 then s.loseChan b else s
def execDsmLost (chan : Fin 6) (s : State) : Host.Outcome State Fault Refusal := finish s (whenOn s (dsmLost chan))

/-- HALL_RANGE_LOST: a Hall reading beyond ±2.45 V for 1 ms (R65). -/
def hallRangeLost (s : State) : State := s.loseChan 5
def execHallRangeLost (s : State) : Host.Outcome State Fault Refusal := finish s (whenOn s hallRangeLost)

/-- HALL_OPEN_TEST: the land whose turn it is has moved by more than 1 V, or not; 3 in a row declare the channel lost (R65). -/
def hallOpenTest (moved : Bool) (s : State) : State :=
  let l := b2n s.pair.hallNext
  let n := if moved then nth 0 s.pair.hallMoves l + 1 else 0
  let s1 := { s with pair := { s.pair with hallNext := !s.pair.hallNext, hallMoves := setNth s.pair.hallMoves l (satNat 3 n) } }
  if 3 ≤ n then s1.loseChan 5 else s1
def execHallOpenTest (moved : Bool) (s : State) : Host.Outcome State Fault Refusal := finish s (whenOn s (hallOpenTest moved))

/-- CHANNEL_VALID_AGAIN: a lost channel is valid again (Table PAIR-11). -/
def channelValidAgain (b : Nat) (s : State) : State :=
  if s.lost b then (s.putBit R.PAIR_CHAN_LOST b false).report 0x0C0A chip [p1 b, p1 (chanCore b)] else s
def execChannelValidAgain (chan : Fin 6) (s : State) : Host.Outcome State Fault Refusal := finish s (whenOn s (channelValidAgain chan))

/-! The pair at a boundary. -/

/-- The time-base check of a cycle (R421, R442): periods in 10 ns; 4 in a row outside 490 to 510 µs are a pair fault. -/
def State.timeBase (s : State) (sByG gByS : Nat) : State :=
  let s1 := (s.put R.PAIR_TB_S_BY_G sByG).put R.PAIR_TB_G_BY_S gByS
  let bad (p : Nat) : Bool := decide (p < 49000) || decide (51000 < p)
  let m := s.get R.PAIR_STAT_MODE
  if s.pair.tbWait ≠ 0 then { s1 with pair := { s1.pair with tbWait := s.pair.tbWait - 1, tbG := 0, tbS := 0 } }
  else
    let g := if bad sByG then satNat 4 (s.pair.tbG + 1) else 0
    let h := if bad gByS then satNat 4 (s.pair.tbS + 1) else 0
    let s2 := { s1 with pair := { s1.pair with tbG := g, tbS := h } }
    if (g = 4 || h = 4) && m != 2 && m != 5 then s2.pairFault s.pair.prevCycle 5 else s2

/-- The mode that waits is taken at the boundary (R434). -/
def State.takeMode (s : State) : State :=
  match s.pair.nextMode with
  | none => s
  | some m =>
    let s1 := { s with pair := { s.pair with nextMode := none, tbWait := if s.get R.PAIR_STAT_MODE = 4 then 5 else s.pair.tbWait } }
    (s1.put R.PAIR_STAT_MODE m).settle

end Sys2Proof.Machine
end

