-- ==== Sys2Proof/Machine/Disconnect.lean ====
section
/-! DEFINITION. Disconnect decisions (chapter 13): triggers, causes, SD0, SD1, verification, exclusion and Lehr mode. -/

namespace Sys2Proof.Machine

/-! Triggers by class (Table DSC-2). -/

/-- Triggers that react with SD1, the orderly 0x14 among them. -/
def sd1Codes : BitVec 64 := codes [0x02, 0x04, 0x06, 0x07, 0x08, 0x09, 0x0A, 0x0B, 0x0C, 0x0D, 0x0E, 0x0F, 0x13, 0x14, 0x16]
/-- The weld trigger. -/
def weldCode : BitVec 64 := codes [0x15]
/-- Triggers that act in SAFE, TRIPPED and MAINT (R376). -/
def standingCodes : BitVec 64 := codes [0x01, 0x02, 0x03, 0x04, 0x05, 0x07, 0x08, 0x09, 0x10, 0x12, 0x15, 0x16]
/-- A set of codes has a member. -/
def some? (w : BitVec 64) : Bool := w != 0#64

/-- A code of a set that is raised, lowest first. -/
def lowest (w : BitVec 64) : Option Nat := (List.range 64).find? (fun k => w.getLsbD k)
/-- The most severe code: SD0, then SD1 and weld, then Lehr, and the lowest among equals (R373). (DEDUCED, log 58) -/
def mostSevere (w : BitVec 64) : Nat :=
  ((lowest (w &&& sd0Codes)).or ((lowest (w &&& (sd1Codes ||| weldCode))).or (lowest w))).getD 0

/-! Conditions a boundary evaluates on its own state. -/

/-- A limit class of a reaction has a counter at its persistence (R257). -/
def State.limitStands (s : State) (reaction : Nat) : Bool :=
  s.swp.persist.any (fun p =>
    let path := p.1 / 2 ^ 18
    let k := s.tab.classOf path (p.1 % 2 ^ 18)
    k != 0 && s.tab.classReaction path k == reaction && decide (s.tab.classPersist path k ≤ p.2))

/-- An input of a function does not count as closed (R449, R452); in Split the Gaffer judges it by its own channel (R436). (DEDUCED, log 63) -/
def State.inputOpen (s : State) (func : Nat) : Bool :=
  (List.range 8).any (fun n => s.tab.inFunc n == func && (if s.alone then !s.levelA n || s.discFault n else !s.inputClosed n))

/-- A core's own current is above OC_SD0 now. -/
def State.overNow (s : State) : Bool :=
  [false, true].any (fun b => s.chanOk (if b then 5 else 0) && (s.tab.spQ 0x408).lt (Q.ofFp (s.getW (R.DSC_I (b2n b)))).abs)

/-- The current channels disagree now (trigger 0x07). -/
def State.currentsApart (s : State) : Bool :=
  let a := Q.ofFp (s.getW (R.DSC_I 0))
  let b := Q.ofFp (s.getW (R.DSC_I 1))
  s.chanOk 0 && s.chanOk 5 && ((s.tab.spQ 0x410).max ((a.abs.max b.abs).scale (s.tab.sp8 0x438) 100)).lt (a.sub b).abs

/-- The battery-side voltage channels disagree now (trigger 0x08). -/
def State.voltagesApart (s : State) : Bool :=
  s.chanOk 1 && s.chanOk 4 && (s.tab.spQ 0x414).lt ((Q.ofFp (s.getW (R.DSC_VBAT 0))).sub (Q.ofFp (s.getW (R.DSC_VBAT 1)))).abs

/-- A critical connection is not established (trigger 0x0A). -/
def State.connectionDown (s : State) : Bool := (List.range 16).any (fun n => s.tab.cnFlag n 0 && s.tab.cnFlag n 2 && s.get (R.SFL_C_STAT_STATE n) != 2)

/-! Lehr causes (Table DSC-5). -/

/-- A cause's identity: its kind and its instance. -/
def LehrCause.id (c : LehrCause) : Nat := c.kind * 128 + c.inst

/-- A sense channel that is in use and lost: 0 DSM0, 1 DSM1, 2 and 3 DSM2 at each core, 4 DSM3, 5 HALL. -/
def State.lostOn (s : State) (b : Nat) : Bool := s.tab.senseOn b && s.lost b

/-- The conditions of Table DSC-5 that hold now, as kind × 128 + instance. -/
def State.lehrNow (s : State) : List Nat :=
  let volts := s.chanOk 1 && s.chanOk 4
  (if s.lostOn 5 && s.chanOk 0 then [0] else []) ++ (if s.lostOn 0 && s.chanOk 5 then [128] else [])
    ++ (if s.lostOn 1 && s.chanOk 4 then [257] else []) ++ (if s.lostOn 4 && s.chanOk 1 then [259] else [])
    ++ ((List.range 64).filter (fun c => s.tab.chainOn c && s.tab.chainRing c && s.linkState c == 4)).map (fun c => 384 + c)
    ++ (if s.tab.sp8 0x43A ≤ s.get R.DSC_CULLET_RUN && s.tab.sp8 0x43A ≠ 0 then [512] else [])
    ++ ((List.range 8).filter (fun n => s.getB (R.SIO_PROOF_LEHR n))).map (fun n => 640 + n)
    ++ (if s.lostOn 2 && volts then [768] else []) ++ (if s.lostOn 3 && volts then [769] else [])

/-- What clears a cause holds in this cycle (Table DSC-5): its channel valid, back in RING, CULLET_N epochs below, proof satisfied. -/
def State.lehrBack (s : State) (c : LehrCause) : Bool :=
  match c.kind with
  | 0 => !s.lostOn 5
  | 1 => !s.lostOn 0
  | 2 => !s.lostOn (if c.inst = 1 then 1 else 4)
  | 3 => s.linkState c.inst == 2
  | 4 => decide (s.tab.sp8 0x43A ≤ s.dsc.runClear)
  | 5 => !s.getB (R.SIO_PROOF_LEHR c.inst)
  | _ => !s.lostOn (2 + c.inst)

/-- A cause has cleared; a channel must have been valid for 1 s. -/
def State.lehrCleared (s : State) (c : LehrCause) : Bool := s.lehrBack c && (c.kind == 3 || c.kind == 4 || c.kind == 5 || decide (2000 ≤ c.clear))

/-- The active causes after a safety cycle. -/
def State.lehrCycle (s : State) : State :=
  let now := s.lehrNow
  let kept := (s.dsc.lehr.map (fun c => { c with clear := if s.lehrBack c then satNat 2000 (c.clear + 1) else 0 })).filter (fun c => !s.lehrCleared c)
  let new := now.filter (fun i => !kept.any (fun c => c.id == i))
  let l := kept ++ new.map (fun i => { kind := i / 128, inst := i % 128 })
  let kinds := (List.range 7).foldl (fun m k => m + 2 ^ k * b2n (l.any (fun c => c.kind == k))) 0
  ({ s with dsc := { s.dsc with lehr := l } }).put R.DSC_LEHR_CAUSES kinds

/-- LEHR_EN of a kind; that of kind 5 is ignored (R389). -/
def State.lehrEnabled (s : State) (kind : Nat) : Bool := kind == 5 || (s.tab.sp16 0x432).testBit kind
/-- Only kind-5 causes are active (R390). -/
def State.onlyProof (s : State) : Bool := s.dsc.lehr.all (fun c => c.kind == 5)
/-- Minute of operating time. -/
def State.minute (s : State) : Nat := s.now / 60000
/-- Used minutes of the last 1,440 (R390). -/
def State.usedMinutes (s : State) : List Nat := s.dsc.used.filter (fun m => decide (s.minute < m + 1440))
/-- The remaining budget. -/
def State.budgetLeft (s : State) : Nat := s.tab.sp16 0x42C - s.usedMinutes.length
/-- A minute of the budget is used: any part of a minute counts. -/
def State.useMinute (s : State) : State :=
  let u := s.minute :: s.usedMinutes
  ({ s with dsc := { s.dsc with used := u } }).put R.DSC_LEHR_USED_MIN (satNat 2047 u.length)

/-- The condition bits of a boundary: what the cores have raised since the last one, and what stands now (R371, R376). (DEDUCED, log 61) -/
def State.levelWord (s : State) : BitVec 64 :=
  let st := s.safety
  let run := st == 1 || st == 2 || st == 3 || st == 4
  let pairs := s.get R.CTR_STAT_PAIRS_ON
  codes ((if s.limitStands 3 then [0x01] else []) ++ (if s.limitStands 2 then [0x02] else [])
    ++ (if s.inputOpen 1 then [0x03] else []) ++ (if s.inputOpen 2 then [0x04] else [])
    ++ (if run && s.tab.sp8 0x43A ≠ 0 && s.tab.sp8 0x43A ≤ s.dsc.runSd1 then [0x0B] else [])
    ++ (if st = 4 && s.dsc.lehr.any (fun c => s.lehrEnabled c.kind && !s.dsc.known.contains c.id) then [0x0C] else [])
    ++ (if st = 2 && s.dsc.lehr.any (fun c => s.lehrEnabled c.kind && c.kind != 5) && s.budgetLeft = 0 then [0x0E] else [])
    ++ (if (st = 1 || st = 2 || st = 4) && s.dsc.lehr.any (fun c => !s.lehrEnabled c.kind && !s.dsc.known.contains c.id) then [0x0F] else [])
    ++ (if (List.range 8).any (fun k => pairs.testBit k && s.bit R.PWR_STAT_VSW_LOST (supplyOf k)) then [0x11] else [])
    ++ (if !s.chanOk 0 && !s.chanOk 5 then [0x12] else [])
    ++ (if (st = 2 || st = 4) && s.closedSet.isEmpty then [0x13] else [])
    ++ (if s.sio.coilBad ≠ 0#16 then [0x16] else []))

/-- Conditions that count only for clearing a cause (R375): those whose trigger is an event of its own. (DEDUCED, log 61) -/
def State.standsWord (s : State) : BitVec 64 :=
  codes ((if s.overNow then [0x05] else []) ++ (if s.currentsApart then [0x07] else []) ++ (if s.voltagesApart then [0x08] else [])
    ++ (if s.getB R.PAIR_STAT_FAULT then [0x09] else []) ++ (if s.connectionDown then [0x0A] else [])
    ++ (if s.anyWeld then [0x15] else [])) ||| codes (s.dsc.lehr.map (fun c => 0x20 + c.kind))

/-- The word a boundary decides on (R371, R376). -/
def State.decisionWord (s : State) : BitVec 64 :=
  let w := s.dsc.condG ||| s.dsc.condS ||| s.levelWord
  if s.safety = 0 || s.safety = 5 || s.safety = 6 then w &&& standingCodes else w

/-! Causes. -/

/-- The causes latched: bits of both maps. -/
def State.causes (s : State) : BitVec 64 := BitVec.ofNat 64 (s.get (R.DSC_CAUSEMAP 0) + 2 ^ 32 * s.get (R.DSC_CAUSEMAP 1))

/-- Causes are latched: FIRST is set by the first triggers of Table DSC-2, LAST and COUNT by each new one (R373). (DEDUCED, log 58) -/
def State.latchCauses (s : State) (w : BitVec 64) : State :=
  let old := s.causes
  let new := w &&& ~~~old
  if new = 0#64 then s
  else
    let all := (old ||| w).toNat
    let table2 : BitVec 64 := 0xFFFFFFFF#64
    let first := if old = 0#64 || (!some? (old &&& table2) && some? (new &&& table2)) then mostSevere w else s.get R.DSC_CAUSE_FIRST
    let count := (List.range 64).foldl (fun n k => n + b2n (new.getLsbD k)) 0
    s.putAll [(R.DSC_CAUSEMAP 0, all % 2 ^ 32), (R.DSC_CAUSEMAP 1, all / 2 ^ 32), (R.DSC_CAUSE_FIRST, first), (R.DSC_CAUSE_LAST, mostSevere new),
      (R.DSC_CAUSE_COUNT, satNat 255 (s.get R.DSC_CAUSE_COUNT + count))]

/-- Every latched cause has been absent for a full safety cycle (R375); a failed trip test is retried by the request itself (R462). (DEDUCED, log 61) -/
def State.allClear (s : State) (w : BitVec 64) : Bool :=
  s.causes &&& (w ||| s.dsc.held ||| s.standsWord) == 0#64 && !s.anyWeld

/-- The safety state changes (R374, R395). -/
def State.toSafety (s : State) (st : Nat) : State :=
  let old := s.safety
  if old = st then s
  else
    let s1 := (s.put R.DSC_STATE_PREV old).put R.DSC_STATE_STATE st
    (s1.report 0x0A01 chip [p1 old, p1 st, p1 (s.get R.DSC_CAUSE_FIRST)]).setCause 1

/-- The core and trip latches release where TRIPPED passes to SAFE (R461). -/
def State.releaseTrips (s : State) : State :=
  let s1 := { s with sio := { s.sio with sd0A := false, sd0B := false } }
  if s.getB R.SIO_TRIP_TRIP_A || s.getB R.SIO_TRIP_TRIP_B then
    ((s1.putB R.SIO_TRIP_TRIP_A false).putB R.SIO_TRIP_TRIP_B false).report 0x0D0B chip []
  else s1

/-- The state returns to SAFE: causes and what the disconnection kept are cleared (R394). -/
def State.backToSafe (s : State) : State :=
  let s1 := (s.toSafety 0).putAll [(R.DSC_CAUSE, 0), (R.DSC_CAUSEMAP 0, 0), (R.DSC_CAUSEMAP 1, 0), (R.DSC_STATE_SD_KIND, 0), (R.DSC_STATE_FAULT_CAUSED, 0),
    (R.DSC_STATE_PHASE, 0)]
  { s1 with dsc := { s1.dsc with known := [], coilsOff := false, wasOn := 0#8, breakDue := false, demand := 0, sdT := 0, offT := 0 } }

/-! Opening. -/

/-- Steps 1 and 2 of R380, and the start of the verification (R388). (DEDUCED, log 60) -/
def State.switchOff (s : State) : State :=
  let on := BitVec.ofNat 8 (s.get R.CTR_STAT_PAIRS_ON)
  let s1 := { s.openAll with dsc := { s.openAll.dsc with wasOn := s.dsc.wasOn ||| on, coilsOff := true, offT := 0, breakDue := false } }
  (s1.put R.DSC_STATE_PHASE 4).put R.DSC_STATE_VERIFY 1

/-- An array current for an event: A, 0 without a value. -/
def State.curPar (s : State) (b : Bool) : Par := match s.curOf b with | none => pS 0 | some q => pS (q.param 10)

/-- SD0 (R380): its own measures at the boundary on the triggers `w`; what the gates need has been done at the decision (R372). (DEDUCED, log 58) (DEDUCED, log 60) -/
def State.startSd0 (s : State) (w : BitVec 64) : State :=
  let fresh := !s.sio.sd0A && !s.sio.sd0B
  let s1 := s.report 0x0A02 chip [p1 (mostSevere w), s.curPar false, s.curPar true]
  let s2 := (s1.inc R.DSC_CNT_SD0).putAll [(R.DSC_STATE_SD_KIND, 2), (R.DSC_STATE_FAULT_CAUSED, 1), (R.DSC_SD1_T_RAMP_NO, s.get R.DSC_SD1_T_RAMP_NO + 1), (R.DSC_SD1_T_T_MS, 0)]
  let s3 := { s2 with
    sio := { s2.sio with sd0A := true, sd0B := true }
    dsc := { s2.dsc with
      sdT := 0
      demand := 20
      i0A := if s.safety = 3 then s.dsc.i0A else s.getW (R.DSC_I 0)
      i0B := if s.safety = 3 then s.dsc.i0B else s.getW (R.DSC_I 1) } }
  let s4 := if s.dsc.coilsOff then (s3.openAll.put R.DSC_STATE_PHASE (s.get R.DSC_STATE_PHASE)) else s3.switchOff
  (if fresh then s4.snap 5 else s4).toSafety 5

/-- SD1 (R381) on the triggers `w`. -/
def State.startSd1 (s : State) (w : BitVec 64) : State :=
  let s1 := s.report 0x0A03 chip [p1 (mostSevere w), s.curPar false]
  let s2 := (s1.inc R.DSC_CNT_SD1).putAll [(R.DSC_STATE_SD_KIND, 1), (R.DSC_STATE_FAULT_CAUSED, b2n (some? (w &&& ~~~(codes [0x14])))),
    (R.DSC_SD1_T_RAMP_NO, s.get R.DSC_SD1_T_RAMP_NO + 1), (R.DSC_SD1_T_T_MS, 0), (R.DSC_STATE_PHASE, 1), (R.DSC_STATE_VERIFY, 0)]
  let own (b : Bool) : Word := if s.chanOk (if b then 5 else 0) then s.getW (R.DSC_I (b2n b)) else s.getW (R.DSC_I (1 - b2n b))
  let s3 := { s2 with dsc := { s2.dsc with
    sdT := 0
    i0A := own false
    i0B := own true
    envN := [0, 0]
    envAbove := [0, 0]
    coilsOff := false
    wasOn := 0#8
    breakDue := false } }
  (s3.snap 6).toSafety 3

/-! Verification of opening (R388). -/

/-- The voltage condition on a core; it counts as met where neither core has DSM2. -/
def State.sepOk (s : State) (b : Bool) : Bool :=
  match s.vlinkOf b with
  | none => true
  | some l =>
    l.le (s.tab.spQ 0x418) || (match s.vbatOf b with
      | none => false
      | some v => (s.tab.spQ 0x418).le (v.sub l).abs)

/-- Coil pairs that were on and whose contact does not read open. -/
def State.notOpened (s : State) : Nat :=
  ((s.tab.fbPairs s.dsc.wasOn.toNat).filter (fun k => !s.fbOpen k)).foldl (fun m k => m + 2 ^ k) 0

/-- The opening is verified now. -/
def State.openingOk (s : State) : Bool := s.notOpened == 0 && s.sepOk false && s.sepOk true

/-- The verification passes. -/
def State.verifyPass (s : State) : State :=
  (s.putAll [(R.DSC_STATE_VERIFY, 2), (R.DSC_STATE_PHASE, 0)]).report 0x0A06 chip [pS (s.dsc.offT / 2 : Nat)]

/-- VERIFY_TIMEOUT: T_VERIFY_MS after the coils were switched off (R388). -/
def verifyTimeout (s : State) : State :=
  if s.get R.DSC_STATE_VERIFY = 1 then
    if s.openingOk then s.verifyPass
    else
      let m := s.notOpened
      let s1 := (s.putAll [(R.DSC_STATE_VERIFY, 3), (R.DSC_STATE_PHASE, 0)]).report 0x0A07 chip [p1 m]
      (s1.pairWelds m).raiseBoth 0x15
  else s
def execVerifyTimeout (s : State) : Host.Outcome State Fault Refusal := finish s (whenOn s verifyTimeout)

/-! Commands between boundaries. -/

/-- SD0_DECISION: a core decides SD0 on a trigger of that reaction (R372); the Servitor decides nothing in Split (R436). (DEDUCED, log 63) -/
def sd0Decision (servitor : Bool) (code : Nat) (s : State) : State :=
  if sd0Codes.getLsbD code && !(servitor && s.alone) then s.sd0 servitor code else s
def execSd0Decision (servitor : Bool) (code : Fin 32) (s : State) : Host.Outcome State Fault Refusal := finish s (whenOn s (sd0Decision servitor code.val))

/-- OVERCURRENT: a core's own current above OC_SD0 for OC_SD0_US (trigger 0x05); the Servitor decides nothing in Split (R436). -/
def overcurrent (servitor : Bool) (s : State) : State :=
  if s.chanOk (if servitor then 5 else 0) && !(servitor && s.alone) then s.sd0 servitor 0x05 else s
def execOvercurrent (servitor : Bool) (s : State) : Host.Outcome State Fault Refusal := finish s (whenOn s (overcurrent servitor))

/-- CHANNEL_DISAGREEMENT: the current or the voltage channels have disagreed for CMP_MS (triggers 0x07, 0x08); in Split the Gaffer has no second
channel to compare (R436). -/
def channelDisagreement (voltage : Bool) (s : State) : State :=
  if s.alone then s
  else if voltage then (if s.voltagesApart then s.raiseBoth 0x08 else s) else if s.currentsApart then s.raiseBoth 0x07 else s
def execChannelDisagreement (voltage : Bool) (s : State) : Host.Outcome State Fault Refusal := finish s (whenOn s (channelDisagreement voltage))

/-- The envelope of R382 at `n` compares of 100 µs. -/
def State.envelope (s : State) (i0 : Word) (n : Nat) : Q :=
  let i := s.tab
  let a := (Q.ofFp i0).abs
  let d := (i.spQ 0x404).max (a.scale (i.sp8 0x434) 100)
  let resp := 10 * i.sp16 0x41C
  let ramp := 10 * i.sp16 0x41E
  if n ≤ resp then a.add d else (a.scale (ramp - (n - resp)) ramp).add d

/-- ENVELOPE_COMPARE: one core's 100 µs compare of its current with its envelope in an SD1; 10 × ENV_MS compares in a row above it are the
ENV_MS of R383 (R382). (DEDUCED, log 60) -/
def envelopeCompare (servitor : Bool) (amps : Word) (s : State) : State :=
  if s.safety = 3 && s.get R.DSC_STATE_SD_KIND = 1 && !s.dsc.coilsOff then
    let j := b2n servitor
    let n := nth 0 s.dsc.envN j + 1
    let e := s.envelope (if servitor then s.dsc.i0B else s.dsc.i0A) n
    let q := Q.ofFp amps
    let above := if e.lt q.abs then nth 0 s.dsc.envAbove j + 1 else 0
    let s1 := { s with dsc := { s.dsc with envN := setNth s.dsc.envN j n, envAbove := setNth s.dsc.envAbove j above } }
    if above = 10 * s.tab.sp8 0x435 then (s1.report 0x0A04 chip [p1 j, pS (q.param 10), pS (e.param 10)]).sd0 servitor 0x10 else s1
  else s
def execEnvelopeCompare (servitor : Bool) (amps : Word) (s : State) : Host.Outcome State Fault Refusal :=
  finish s (whenOn s (envelopeCompare servitor amps))

/-- BREAK_CONDITION: both cores' current has been at or below I_BREAK for BREAK_MS (R384). -/
def breakCondition (s : State) : State :=
  let low (b : Bool) : Bool := match s.curOf b with | none => false | some q => q.abs.le (s.tab.spQ 0x400)
  if s.safety = 3 && !s.dsc.coilsOff && low false && low true then { s with dsc := { s.dsc with breakDue := true } } else s
def execBreakCondition (s : State) : Host.Outcome State Fault Refusal := finish s (whenOn s breakCondition)

/-- GRACE_END: the grace phase ends with the coils still on; the module opens under whatever current flows (R384). -/
def graceEnd (s : State) : State :=
  if s.safety = 3 && !s.dsc.coilsOff then
    let s1 := s.switchOff.report 0x0A05 chip [s.curPar false, s.curPar true]
    { s1 with dsc := { s1.dsc with demand := 1 } }
  else s
def execGraceEnd (s : State) : Host.Outcome State Fault Refusal := finish s (whenOn s graceEnd)

/-- LEHR_DURATION_END: the allowed duration ends (R390). -/
def lehrDurationEnd (s : State) : State :=
  if s.safety = 4 && !s.onlyProof then s.raiseBoth (if s.dsc.byBudget then 0x0E else 0x0D) else s
def execLehrDurationEnd (s : State) : Host.Outcome State Fault Refusal := finish s (whenOn s lehrDurationEnd)

/-- LEHR_BUDGET_MINUTE: a minute in LEHR has passed (R390). -/
def lehrBudgetMinute (s : State) : State :=
  if s.safety = 4 && !s.onlyProof then
    let k := s.dsc.minutes + 1
    let s1 := ({ s with dsc := { s.dsc with minutes := k } }).put R.DSC_LEHR_T_LEFT_MIN (s.dsc.allowed - k)
    if k < s.dsc.allowed then s1.useMinute else s1
  else s.put R.DSC_LEHR_USED_MIN (satNat 2047 s.usedMinutes.length)
def execLehrBudgetMinute (s : State) : Host.Outcome State Fault Refusal := finish s (whenOn s lehrBudgetMinute)

/-- LEHR_CLEAR_TIMEOUT: every cause has been clear for 60 s (R391); a cause that returns in the same cycle keeps LEHR. -/
def lehrClearTimeout (s : State) : State :=
  if s.safety = 4 && s.dsc.lehr.isEmpty then { s with dsc := { s.dsc with clearDue := true } } else s
def execLehrClearTimeout (s : State) : Host.Outcome State Fault Refusal := finish s (whenOn s lehrClearTimeout)

/-- OPEN_REQ: trigger 0x14 where something is closed or closing (R376, R377, R403). -/
def openReq (s : State) : State := if s.safety = 1 || s.safety = 2 || s.safety = 4 then s.raiseBoth 0x14 else s
/-- ACK, ACK_SD0, MAINT_REQ and MAINT_EXIT act at the boundary (R374). -/
def ackReq (okA okB : Bool) (s : State) : State := { s with dsc := { s.dsc with ackReq := some (okA, okB) } }
def ackSd0Req (okA okB : Bool) (s : State) : State := { s with dsc := { s.dsc with ack0Req := some (okA, okB) } }
def maintReq (s : State) : State := { s with dsc := { s.dsc with maintReq := true } }
def maintExitReq (okA okB : Bool) (s : State) : State := { s with dsc := { s.dsc with exitReq := some (okA, okB) } }

/-! Exclusion (R387). -/

/-- Hops of a string's nodes. -/
def State.strHops (s : State) (n : Nat) : List Nat :=
  let c := s.tab.strChain n
  (List.range (s.tab.nodes c)).filter (fun h => s.tab.nodeString c h == n)
/-- Cause 1: a hop unreachable, or the chain in ENUM_FAULT. -/
def State.strCut (s : State) (n : Nat) : Bool :=
  let c := s.tab.strChain n
  s.linkState c == 6 || s.hopBit R.LNK_UNRCH c (s.tab.strHop n - 1) || (s.strHops n).any (fun h => s.hopBit R.LNK_UNRCH c h)
/-- Cause 2: the region is EXCLUDED. -/
def State.strRegionOut (s : State) (n : Nat) : Bool := s.getB (R.IMG_REGION_EXCLUDED (regionOf (s.tab.strChain n)))

/-- A string is excluded: cause 1 link, 2 region, 3 LATCHED_OPEN, 4 host. Its tokens change to open, so a string in states 1 to 6 opens (R387, R414). (DEDUCED, log 64) -/
def State.exclude (s : State) (n cause : Nat) : State :=
  if s.excluded n then s
  else
    let s1 := (s.putBit (R.DSC_EXCL (n / 32)) (n % 32) true).stoPut (strOff n 0x24) 1 (setBits (s.stoGet (strOff n 0x24) 1) 3 1 1)
    let s2 := if decide (1 ≤ (s.str n).state) && decide ((s.str n).state ≤ 6) then s1.strTo n 7 else s1
    s2.report 0x0A0A (src 6 n) [p2 n, p1 cause]

/-- EXCLUDE for a string. -/
def excludeReq (n : Nat) (s : State) : State := s.exclude n 4
/-- INCLUDE for a string whose cause has cleared; that of LATCHED_OPEN needs state 6 and hold commands, which no excluded string has (R387). (DEDUCED, log 64) -/
def includeReq (n : Nat) (s : State) : State :=
  if s.excluded n && !s.strCut n && !s.strRegionOut n then
    let s1 := (s.putBit (R.DSC_EXCL (n / 32)) (n % 32) false).stoPut (strOff n 0x24) 1 (setBits (s.stoGet (strOff n 0x24) 1) 3 1 0)
    s1.report 0x0A0B (src 6 n) [p2 n]
  else s

/-- Strings that a boundary excludes. (DEDUCED, log 64) -/
def State.exclusionCycle (s : State) : State :=
  forAll s.tab.strings (fun n s => if s.strCut n then s.exclude n 1 else if s.strRegionOut n then s.exclude n 2 else s) s

/-! The decision (Table DSC-1). -/

/-- LEHR is left: its minutes are logged, any part of one as a whole one (R390). (DEDUCED, log 62) -/
def State.leaveLehr (s : State) : State :=
  if s.safety = 4 then
    let s1 := { s with dsc := { s.dsc with clearT := 0, clearDue := false } }
    (s1.put R.DSC_LEHR_T 0).report 0x0A09 chip [p2 (min (s.dsc.minutes + 1) s.dsc.allowed)]
  else s

/-- LEHR is entered (R390). (DEDUCED, log 62) -/
def State.enterLehr (s : State) : State :=
  let left := s.budgetLeft
  let m := s.tab.sp16 0x42A
  let allowed := min m left
  let c := s.dsc.lehr.headD {}
  let s1 := s.latchCauses (codes (s.dsc.lehr.map (fun c => 0x20 + c.kind)))
  let s2 := { s1 with dsc := { s1.dsc with
    known := s.dsc.lehr.map LehrCause.id
    allowed := allowed
    minutes := 0
    byBudget := decide (left < m)
    clearT := 0
    clearDue := false } }
  let s3 := if s.onlyProof then s2 else s2.useMinute
  ((s3.put R.DSC_LEHR_T_LEFT_MIN allowed).report 0x0A08 chip [p1 c.kind, p1 c.inst, p2 allowed]).toSafety 4

/-- Lehr causes not known yet, in a state in which they act on no entry to LEHR: LEHR, RAMPDOWN, TRIPPED (Table DSC-6). (DEDUCED, log 62) -/
def State.newLehr (s : State) : List LehrCause :=
  if s.safety = 3 || s.safety = 4 || s.safety = 5 then s.dsc.lehr.filter (fun c => !s.dsc.known.contains c.id) else []

/-- They are known from now on; in RAMPDOWN and TRIPPED each is logged. -/
def State.noteLehr (s : State) : State :=
  let l := s.newLehr
  let s1 := if s.safety = 4 then s else forAll l (fun c s => s.report 0x0A0D chip [p1 c.kind, p1 c.inst]) s
  { s1 with dsc := { s1.dsc with known := l.map LehrCause.id ++ s1.dsc.known } }

/-- A request refused (R375): its bit in DSC_CTRL, and STATE. -/
def State.refuseReq (s : State) (bit : Nat) : State := s.report 0x0A0C chip [p1 bit, p1 s.safety]

/-- ACK or ACK_SD0 at the boundary (R374, R375, R462). -/
def State.judgeAck (s : State) (w : BitVec 64) (sd0 : Bool) (req : Option (Bool × Bool)) : State :=
  match req with
  | none => s
  | some (okA, okB) =>
    let allowed := s.safety == 5 && s.allClear w && (sd0 || !some? (s.causes &&& (sd0Codes ||| weldCode)))
    if !allowed then s.refuseReq (if sd0 then 2 else 1)
    else
      let s1 := s.tripTest okA okB
      if okA && okB then s1.releaseTrips.backToSafe.settle else s1

/-- MAINT_EXIT at the boundary. -/
def State.judgeExit (s : State) : State :=
  match s.dsc.exitReq with
  | none => s
  | some (okA, okB) =>
    if s.safety ≠ 6 then s.refuseReq 4
    else
      let s1 := s.tripTest okA okB
      let s2 := if okA && okB then s1 else s1.latchCauses (codes [0x16])
      if s2.causes = 0#64 then s2.backToSafe else s2.toSafety 5

/-- MAINT_REQ at the boundary. -/
def State.judgeMaint (s : State) (w : BitVec 64) : State :=
  if !s.dsc.maintReq then s
  else if s.safety = 0 && w = 0#64 && s.provenOpen then s.toSafety 6 else s.refuseReq 3

/-- Requests of the cycle have been judged. -/
def State.dropRequests (s : State) : State := { s with dsc := { s.dsc with ackReq := none, ack0Req := none, exitReq := none, maintReq := false } }

/-- The pre-charge has led to CLOSED or LEHR (R412). -/
def State.logPass (s : State) : State :=
  s.report 0x0B03 chip [p2 (s.get R.CTR_PRE_PRE_MS), p2 (s.get R.CTR_PRE_RATIO), p2 (s.tab.strings.filter (fun n => (s.str n).state == 6)).length]

/-- Transitions from each state (Table DSC-1) on the decision word, its causes latched. (DEDUCED, log 59) -/
def State.transit (s : State) (w : BitVec 64) : State :=
  let sd0 := some? (w &&& sd0Codes)
  let sd1 := some? (w &&& sd1Codes)
  let weld := some? (w &&& weldCode)
  match s.safety with
  | 0 =>
    if sd0 then s.startSd0 w
    else if sd1 || weld then (s.putAll [(R.DSC_STATE_SD_KIND, 1), (R.DSC_STATE_FAULT_CAUSED, 1)]).toSafety 5
    else s
  | 1 =>
    if sd0 || sd1 || weld then s.startSd0 w
    else
      match s.ctr.result with
      | some (true, _) => if s.dsc.lehr.isEmpty then (s.toSafety 2).logPass else if s.budgetLeft = 0 && !s.onlyProof then (s.latchCauses (codes [0x0E])).startSd0 (codes [0x0E]) else s.enterLehr.logPass
      | some (false, _) => s.toSafety 0
      | none => s
  | 2 =>
    if sd0 || weld then s.startSd0 w
    else if sd1 then s.startSd1 w
    else if s.dsc.lehr.isEmpty then s else s.enterLehr
  | 3 =>
    if sd0 then s.startSd0 w
    else
      let s1 := if some? (w &&& sd1Codes &&& ~~~(codes [0x14])) then s.putB R.DSC_STATE_FAULT_CAUSED true else s
      if weld then s1.toSafety 5
      else if s1.get R.DSC_STATE_VERIFY = 2 then (if s1.getB R.DSC_STATE_FAULT_CAUSED then s1.toSafety 5 else s1.backToSafe)
      else if s1.dsc.breakDue && !s1.dsc.coilsOff then
        let s2 := s1.switchOff
        { s2 with dsc := { s2.dsc with demand := 1 } }
      else s1
  | 4 =>
    if sd0 || weld then s.leaveLehr.startSd0 w
    else if sd1 then s.leaveLehr.startSd1 w
    else if s.dsc.clearDue && s.dsc.lehr.isEmpty then s.leaveLehr.toSafety 2
    else s
  | _ => s

/-- Timers of a disconnection and of LEHR over one cycle, and the phase of an SD1 (R381). -/
def State.dscTimers (s : State) : State :=
  let x := { s.dsc with
    sdT := if s.get R.DSC_STATE_SD_KIND = 0 then 0 else s.dsc.sdT + 1
    offT := if s.dsc.coilsOff then s.dsc.offT + 1 else 0
    clearT := if s.safety = 4 && s.dsc.lehr.isEmpty then satNat 120000 (s.dsc.clearT + 1) else 0
    clearDue := s.dsc.clearDue && s.dsc.lehr.isEmpty }
  let s1 := ({ s with dsc := x }).putAll [(R.DSC_SD1_T_T_MS, satNat 0xFFFF (x.sdT / 2)), (R.DSC_LEHR_T_CLEAR_S, x.clearT / 2000)]
  if s.safety = 3 && !s.dsc.coilsOff then
    let i := s.tab
    s1.put R.DSC_STATE_PHASE (if x.sdT < 2 * i.sp16 0x41C then 1 else if x.sdT < 2 * (i.sp16 0x41C + i.sp16 0x41E) then 2 else 3)
  else s1

/-- The ramp-down demand's payload (Table DSC-3). -/
def State.demandPayload (s : State) : List Byte :=
  let i := s.tab
  let fl := b2n (s.getB R.DSC_STATE_FAULT_CAUSED) + 2 * b2n (s.get R.DSC_STATE_SD_KIND == 2) + 4 * b2n s.dsc.coilsOff
  [0x03#8] ++ leBytes 1 fl ++ leBytes 2 (s.get R.SWP_EPOCH) ++ leBytes 2 (s.get R.DSC_SD1_T_RAMP_NO) ++ leBytes 1 (s.get R.DSC_CAUSE_FIRST) ++ [0#8]
    ++ leBytes 4 s.dsc.i0A.toNat ++ leBytes 2 (i.sp16 0x41C) ++ leBytes 2 (i.sp16 0x41E) ++ leBytes 4 (i.spF 0x400).toNat
    ++ leBytes 2 (s.get R.DSC_SD1_T_T_MS) ++ leBytes 2 0

/-- The ramp-down demand of a cycle (R380, R381). -/
def State.demandCycle (s : State) : State :=
  if s.safety = 3 && !s.dsc.coilsOff then s.addKind 3 s.demandPayload
  else if s.dsc.demand = 0 then s
  else
    let s1 := s.addKind 3 s.demandPayload
    { s1 with dsc := { s1.dsc with demand := s1.dsc.demand - 1 } }

/-- The verification passes at the first instant that meets it (R388). (DEDUCED, log 60) -/
def State.verifyCycle (s : State) : State := if s.get R.DSC_STATE_VERIFY = 1 && s.openingOk then s.verifyPass else s

/-- The state decision of a boundary in stage 3 or 4 (R371, R374). -/
def State.decideCycle (s : State) : State :=
  let w := s.decisionWord
  let s0 := { s with dsc := { s.dsc with condG := 0#64, condS := 0#64 } }
  let s1 := (s0.latchCauses (w ||| codes (s.newLehr.map (fun c => 0x20 + c.kind)))).noteLehr
  let s2 := s1.transit w
  let s3 := (((s2.judgeAck w false s.dsc.ackReq).judgeAck w true s.dsc.ack0Req).judgeExit).judgeMaint w
  let s4 := s3.dropRequests
  { s4 with dsc := { s4.dsc with held := w } }

end Sys2Proof.Machine
end

