-- ==== Sys2Proof/Machine/Line.lean ====
section
/-! DEFINITION. The line of an Irsar Link chain (R174, R178 to R182): 8b/10b code groups, bursts, and the frame within them. -/

namespace Sys2Proof.Machine

/-! 8b/10b (R174; IEEE 802.3 Clause 36). A code group is written abcdei fghj: bit 9 is a, sent first. Disparity `true` is positive. (PRESUMED, log 122) -/

/-- The groups abcdei of the 5-bit values 0 to 31 at negative disparity. -/
def sixTable : List (BitVec 6) :=
  [0b100111#6, 0b011101#6, 0b101101#6, 0b110001#6, 0b110101#6, 0b101001#6, 0b011001#6, 0b111000#6] ++
  [0b111001#6, 0b100101#6, 0b010101#6, 0b110100#6, 0b001101#6, 0b101100#6, 0b011100#6, 0b010111#6] ++
  [0b011011#6, 0b100011#6, 0b010011#6, 0b110010#6, 0b001011#6, 0b101010#6, 0b011010#6, 0b111010#6] ++
  [0b110011#6, 0b100110#6, 0b010110#6, 0b110110#6, 0b001110#6, 0b101110#6, 0b011110#6, 0b101011#6]
/-- The groups fghj of the 3-bit values 0 to 7 at negative disparity. -/
def fourTable : List (BitVec 4) := [0b1011#4, 0b1001#4, 0b0101#4, 0b1100#4, 0b1101#4, 0b1010#4, 0b0110#4, 0b1110#4]

/-- Ones of a group of `n` bits. -/
def ones {w : Nat} (v : BitVec w) : Nat := (List.range w).foldl (fun a i => a + b2n (v.getLsbD i)) 0

/-- The group abcdei of a 5-bit value: unbalanced ones, and that of 7, are complemented at positive disparity. -/
def sixOf (rd : Bool) (x : Nat) : BitVec 6 := let v := nth 0#6 sixTable x; if rd && (ones v != 3 || x == 7) then ~~~v else v
/-- The group fghj of a 3-bit value after a 5-bit one: 7 takes its alternate form where the line would else repeat five bits. -/
def fourOf (rd : Bool) (x y : Nat) : BitVec 4 :=
  if y = 7 && (if rd then x == 11 || x == 13 || x == 14 else x == 17 || x == 18 || x == 20) then (if rd then 0b1000#4 else 0b0111#4)
  else let v := nth 0#4 fourTable y; if rd && (ones v != 2 || y == 3) then ~~~v else v

/-- Disparity after a group of 6 or 4 bits. -/
def rdAfter {w : Nat} (rd : Bool) (v : BitVec w) : Bool := if ones v * 2 = w then rd else !rd

/-- A data character as a code group. -/
def dataGroup (rd : Bool) (b : Byte) : BitVec 10 := let six := sixOf rd (b.toNat % 32); six ++ fourOf (rdAfter rd six) (b.toNat % 32) (b.toNat / 32)
/-- K28.5, K27.7 and K23.7 at negative disparity (R178). -/
def kIdle : BitVec 10 := 0b0011111010#10
def kSof : BitVec 10 := 0b1101101000#10
def kMark : BitVec 10 := 0b1110101000#10

/-- A character as a code group. -/
def LineChar.group (rd : Bool) : LineChar → BitVec 10
  | .data b => dataGroup rd b
  | .idle => if rd then ~~~kIdle else kIdle
  | .sof => if rd then ~~~kSof else kSof
  | .mark => if rd then ~~~kMark else kMark

/-- Characters as code groups from a disparity. A burst starts at negative disparity (R174). -/
def lineCode (rd : Bool) : List LineChar → List (BitVec 10)
  | [] => []
  | c :: cs => let g := c.group rd; g :: lineCode (rdAfter rd g) cs

/-- The character of a code group at a disparity; none is a code or disparity error, or another K character (R178). -/
def readGroup (rd : Bool) (g : BitVec 10) : Option LineChar :=
  let k := if rd then ~~~g else g
  if k = kIdle then some .idle else if k = kSof then some .sof else if k = kMark then some .mark
  else
    let six : BitVec 6 := g.extractLsb' 4 6
    match (List.range 32).find? (fun x => sixOf rd x == six) with
    | none => none
    | some x => ((List.range 8).find? (fun y => fourOf (rdAfter rd six) x y == g.setWidth 4)).map (fun y => .data (BitVec.ofNat 8 (x + 32 * y)))

/-- Code groups as characters; none where one is in error. -/
def readLine (rd : Bool) : List (BitVec 10) → Option (List LineChar)
  | [] => some []
  | g :: gs => match readGroup rd g with
    | none => none
    | some c => (readLine (rdAfter rd g) gs).map (fun cs => c :: cs)

/-- A receiver takes the disparity of the first group it receives, a K28.5 or a K23.7. (DEDUCED, log 96) -/
def startRd (l : List (BitVec 10)) : Bool := l.head? == some (~~~kIdle) || l.head? == some (~~~kMark)

/-! Frames on the line (R178, R179, R182). -/

/-- A frame as it leaves a port: its preamble, one K28.5 in ring operation and four that begin a burst in linear operation, SOF, bytes. (DESIGN CHOICE, log 121) -/
def lineFrame (ring : Bool) (bytes : List Byte) : List LineChar := List.replicate (if ring then 1 else 4) .idle ++ .sof :: bytes.map .data

/-- The bytes of data characters, to the first that is none. -/
def dataRun : List LineChar → List Byte
  | .data b :: cs => b :: dataRun cs
  | _ => []

/-- The frame in a line of characters: an SOF after K28.5 (K23.7 counts as idle), header, LEN + 2 bytes without a K character (R182). (DEDUCED, log 96) -/
def lineFrameIn (cs : List LineChar) : Option (List Byte) :=
  match cs with
  | [] => none
  | c :: _ =>
    match cs.dropWhile (fun c => c == .idle || c == .mark) with
    | .sof :: rest =>
      let b := dataRun rest
      let len := (nth 0#8 b 3).toNat
      if (c == .idle || c == .mark) && decide (4 ≤ b.length) && decide (len ≤ 96) && decide (6 + len ≤ b.length) then some (b.take (6 + len)) else none
    | _ => none

/-- A received frame's header and payload. -/
structure RxFrame where
  opc : Nat
  hop : Nat
  tag : Nat
  rsp : Bool
  payload : List Byte
  deriving DecidableEq, Repr

/-- The frame in its bytes; none where its length or CRC is wrong (R180, R182). -/
def parseFrame (bs : List Byte) : Option RxFrame :=
  let len := (nth 0#8 bs 3).toNat
  let body := bs.take (4 + len)
  let fl := (nth 0#8 bs 2).toNat
  if decide (len ≤ 96) && bs.length == 6 + len && beBytes 2 (crc16 body).toNat == bs.drop (4 + len) then
    some ⟨(nth 0#8 bs 0).toNat, (nth 0#8 bs 1).toNat, fl / 32, fl.testBit 4, body.drop 4⟩
  else none

/-- What a port's receiver makes of the code groups of one frame; none where it rejects it (R182). -/
def rxFrame (l : List (BitVec 10)) : Option RxFrame := ((readLine (startRd l) l).bind lineFrameIn).bind parseFrame

/-- Header, payload and CRC; the CRC goes high byte first (R179, R180). -/
def frame (opc hop tag : Nat) (rsp late lin : Bool) (payload : List Byte) : List Byte :=
  let b := [BitVec.ofNat 8 opc, BitVec.ofNat 8 hop, BitVec.ofNat 8 (tag * 32 + b2n rsp * 16 + b2n late * 8 + b2n lin * 4), BitVec.ofNat 8 payload.length] ++ payload
  b ++ beBytes 2 (crc16 b).toNat

end Sys2Proof.Machine
end

