-- ==== Sys2Proof/Machine/Node.lean ====
section
/-! DEFINITION. The companion nodes (chapter 07): NH0824 and NH0403, their registers, commands, data, and what they do by themselves. -/

namespace Sys2Proof.Machine

/-! Nodes by chain and position (0 is the node next to LINKOUT). -/
def blankNode (_ : Nat) : NodeX := {}
def State.node (s : State) (c p : Nat) : NodeX := Sparse.get blankNode s.nodes (c * 128 + p)
def State.setNode (s : State) (c p : Nat) (x : NodeX) : State := { s with nodes := Sparse.set blankNode s.nodes (c * 128 + p) x }

/-- A node's event: on a node that is known, has supply, and is not asleep. -/
def State.onNode (s : State) (c p : Nat) (f : NodeX → NodeX) : State :=
  let x := s.node c p
  if x.typ = 0 || !x.powered || x.asleep then s else s.setNode c p (f x)

/-! Frames (Tables LNK-3, LNK-4). -/

/-- A node's number on the port a frame came in by (R183). -/
def NodeX.num (x : NodeX) (dn : Bool) : Nat := if dn then x.retNum else x.outNum

/-- The frame is addressed to the node (R184). -/
def NodeX.mine (x : NodeX) (f : NodeRx) : Bool := let n := x.num f.dn; n != 0 && f.hop.toNat == n

/-- A reserved opcode (R181, R209). -/
def reservedOpc (o : Nat) : Bool := (decide (7 ≤ o) && decide (o < 0x40)) || decide (0x47 ≤ o)
/-- The opcode a frame carries: a row's own, or the reserved one that stands in its place. -/
def rxOpcode (f : NodeRx) (row : Nat) : Nat := if reservedOpc f.opc.toNat then f.opc.toNat else row

/-- The bytes of a received frame before its CRC (Table LNK-4). -/
def rxBody (f : NodeRx) (row : Nat) (payload : List Byte) : List Byte :=
  [BitVec.ofNat 8 (rxOpcode f row), f.hop, BitVec.ofNat 8 (f.tag.toNat * 32 + b2n f.rsp * 16 + b2n f.late * 8 + b2n f.lin * 4), BitVec.ofNat 8 payload.length] ++ payload
/-- The frame passes R182. -/
def rxOk (f : NodeRx) (row : Nat) (payload : List Byte) : Bool :=
  !f.codeErr && decide (payload.length ≤ 96) && f.crc == crc16 (rxBody f row payload)
/-- The frame with its CRC as a sender computes it. -/
def rxSealed (f : NodeRx) (row : Nat) (payload : List Byte) : NodeRx := { f with crc := crc16 (rxBody f row payload) }

/-- What every frame does to a receiver: one that fails R182 is counted; LIN = 1 ends the knowledge of ring operation (R178, R182). -/
def NodeX.rx (x : NodeX) (f : NodeRx) (ok : Bool) : NodeX :=
  if !ok then { x with errRx := satNat 0xFFFF (x.errRx + 1), dnOff := false }
  else { x with dnOff := false, ring := x.ring && !(f.lin && !f.rsp) }

/-- A response leaves a node, with opcode, HOP and tag of its command: out of the receiving port with LIN = 1, of the other with LIN = 0
(R181, R185). -/
def State.answer (s : State) (c p row : Nat) (f : NodeRx) (payload : List Byte) : State :=
  s.emit (.node c p (f.dn == f.lin) (lineFrame false (frame (rxOpcode f row) f.hop.toNat f.tag.toNat true false false payload)))

/-- A frame reaches a node. It is repeated out of the other port, unless the node takes it: an accepted command to its own number, or one that
`takes` says it takes. A rejected frame and a response have no further effect; a reserved opcode is answered with status 1 where it is a
node command to the node (R182, R184, R209). (DEDUCED, log 97) -/
def State.rxNode (s : State) (c p row : Nat) (f : NodeRx) (payload : List Byte) (takes : NodeX → Bool) (act : NodeX → State → State) : State :=
  let x := s.node c p
  if x.typ = 0 || !x.powered || x.asleep then s
  else
    let ok := rxOk f row payload
    let x1 := x.rx f ok
    let own := ok && !f.rsp && (x1.mine f || takes x1)
    let s1 := s.setNode c p x1
    let s2 := if own then s1 else s1.emit (.nodeRepeat c p f (rxOpcode f row) payload)
    if !ok || f.rsp then s2
    else if rxOpcode f row ≠ row then (if own && 0x47 ≤ rxOpcode f row then s2.answer c p row f [1#8] else s2)
    else act x1 s2

/-! Registers (Table NODE-12). -/

/-- Reset values of the writable words. -/
def nodeWordReset (w : Nat) : BitVec 16 :=
  match w with
  | 0x81 => 10#16 | 0x82 => 5000#16 | 0x83 => 500#16 | 0x84 => 60#16 | 0x85 => 0xFFFF#16 | 0x87 => 0x7FFF#16 | 0x88 => 0x8000#16
  | 0x8A => 0xFFFF#16 | 0x8B => 20#16 | _ => 0#16

def NodeX.reg (x : NodeX) (w : Nat) : Nat := (Sparse.get nodeWordReset x.words w).toNat

/-- The configuration of R217 or R234 has not been written. -/
def NodeX.noConfig (x : NodeX) : Bool :=
  let need := if x.typ = 1 then [0x82, 0x83] else [0x80, 0x8A, 0x8B, 0x8C]
  !need.all (fun w => x.written.contains w)

/-- STATUS (Table NODE-13). -/
def NodeX.statusWord (x : NodeX) : Nat := x.byte46 + 256 * b2n x.scFault + 512 * b2n x.wakeSelf + 1024 * b2n x.noConfig

/-- A word as read; a reserved word and one of the other type read 0 (R235). -/
def NodeX.readWord (x : NodeX) (w : Nat) : Nat :=
  if w < 4 then bitsOf x.uid.toNat (16 * w) 16
  else if w = 4 then x.typ + 256 * x.rev
  else if 8 ≤ w && w < 12 then bitsOf x.lastMaster.toNat (16 * (w - 8)) 16
  else if w = 12 then x.outNum + 256 * x.retNum
  else if w = 13 then x.compOut
  else if w = 14 then x.compRet
  else if w = 15 then x.tokenSlot
  else if w = 16 then x.statusWord
  else if w = 17 then x.dieT.toNat
  else if w = 18 then x.errRx
  else if w = 19 then (if x.typ = 2 then x.errToken else 0)
  else if w = 20 then (if x.typ = 1 then x.slpCause else 0)
  else if w = 21 then x.testResult
  else if 22 ≤ w && w < 28 then nth 0 x.testData (w - 22)
  else if 32 ≤ w && w < 44 then (if x.typ = 1 then nth 0 x.balApplied (2 * (w - 32)) + 256 * nth 0 x.balApplied (2 * (w - 32) + 1) else 0)
  else if 0xC0 ≤ w && w < 0xC4 then (if x.typ = 1 then nth 0 x.corners (w - 0xC0) else 0)
  else if w = 0x80 || (x.typ = 1 && 0x81 ≤ w && w ≤ 0x89) || (x.typ = 2 && 0x8A ≤ w && w ≤ 0x8C) then x.reg w
  else 0

/-- Status of a write of one word: 0, 3 or 4 (R210). -/
def NodeX.writeStatus (x : NodeX) (w v : Nat) : Nat :=
  let ok (b : Bool) : Nat := if b then 0 else 3
  if w = 0x80 then 0
  else if x.typ = 1 then
    (match w with
      | 0x81 => ok (decide (1 ≤ v) && decide (v ≤ 255))
      | 0x82 => ok (decide (2000 ≤ v) && decide (v ≤ 5000) && v % 10 == 0)
      | 0x83 => ok (decide (500 ≤ v) && decide (v ≤ 4000) && v % 10 == 0)
      | 0x84 => ok (decide (1 ≤ v) && decide (v ≤ 255))
      | 0x85 | 0x86 | 0x87 | 0x88 => 0
      | 0x89 => ok (decide (v ≤ 255))
      | _ => 4)
  else
    (match w with
      | 0x8A => ok (decide (v ≤ 511))
      | 0x8B => ok (decide (20 ≤ v) && decide (v ≤ 2000))
      | 0x8C => ok (decide (1000 ≤ v))
      | _ => 4)

/-- A word as stored: of CFG only the bits of the node's type (Table NODE-12). -/
def NodeX.stored (x : NodeX) (w v : Nat) : Nat := if w = 0x80 then (if x.typ = 1 then v % 4 else v &&& 4) else v

def NodeX.writeWord (x : NodeX) (w v : Nat) : NodeX :=
  { x with words := Sparse.set nodeWordReset x.words w (BitVec.ofNat 16 (x.stored w v)), written := if x.written.contains w then x.written else w :: x.written }

/-! Balancing (R218 to R221). -/

/-- The duty cap in 0.5 % at a die temperature in 0.01 °C (Table NODE-6). (DEDUCED, log 39) -/
def dutyCap (t : Int) (held : Bool) : Nat :=
  if 12000 ≤ t || (held && 11500 ≤ t) then 0
  else if 11000 ≤ t then 40
  else if 9000 < t then ((20000 - 8 * (t - 9000)) / 100).toNat
  else 200

def NodeX.cap (x : NodeX) : Nat := dutyCap x.dieT.toInt x.hotHold

/-- Commanded codes go into force under the cap; a stopped node applies none. (DEDUCED, log 39) -/
def NodeX.apply (x : NodeX) : NodeX := { x with balApplied := if x.stopped then [] else x.balCmd.map (fun d => min d x.cap) }

/-- New codes take effect, and balancing resumes (R221). -/
def NodeX.takeDuty (x : NodeX) (codes : List Nat) : NodeX := ({ x with balCmd := codes, stopped := false, balWait := none }).apply

/-- Switches of an NH0824 as a freeze finds them: closed where a duty above 0 is applied (R220). -/
def NodeX.dutied (x : NodeX) : BitVec 24 := BitVec.ofNat 24 ((List.range 24).foldl (fun m i => m + 2 ^ i * b2n (0 < nth 0 x.balApplied i)) 0)

/-- The freeze ends; codes that waited take effect (R218, R220). (DEDUCED, log 37) -/
def NodeX.unfreeze (x : NodeX) : NodeX :=
  let y := { x with frozen := false, gated := false, closed := 0#24 }
  match y.balWait with | some d => y.takeDuty d | none => y

/-! Tokens (R230 to R232). -/

/-- The check message of Table NODE-9. -/
def tokenMsg (master : BitVec 64) (epoch : Word) (str : Nat) (sideB : Bool) (cmd : Byte) : List Byte :=
  leBytes 8 master.toNat ++ leBytes 4 epoch.toNat ++ leBytes 2 str ++ [if sideB then 0x42#8 else 0x41#8, cmd]

/-- A token: the command, and the high 24 bits of the check value (R230). -/
def tokenWord (master : BitVec 64) (epoch : Word) (str : Nat) (sideB : Bool) (cmd : Byte) : Word :=
  let m := tokenMsg master epoch str sideB cmd
  ((if sideB then crc32k m else crc32c m) &&& 0xFFFFFF00#32) ||| cmd.setWidth 32

/-- Result code of a token in a SWEEP of epoch N (Table NODE-10). -/
def NodeX.tokenResult (x : NodeX) (n : Word) (tok : Word) (sideB : Bool) : Nat :=
  let cmd := tok.setWidth 8
  if x.noConfig || x.tokenSlot = 255 then 6
  else if (match x.lastEpoch with | none => false | some e => !seqBefore e n) then 4
  else if cmd ≠ 0xA5#8 && cmd ≠ 0x5A#8 then 5
  else if tok ≠ tokenWord x.lastMaster n (x.reg 0x8A) sideB cmd then 3
  else if cmd = 0x5A#8 then 1 else 0

/-- All three coil drivers off, LATCHED_OPEN and STOPPED set, HOLD clear (R232). (DEDUCED, log 38) -/
def NodeX.openAll (x : NodeX) : NodeX := { x with drive := 0#3, latched := true, stopped := true, hold := false }

/-- A string node evaluates its tokens (R231, R232). (DEDUCED, log 38) -/
def NodeX.evalTokens (x : NodeX) (n a b : Word) : NodeX :=
  let ra := x.tokenResult n a false
  let rb := x.tokenResult n b true
  let pair := ra == 0 && rb == 0
  let y := { x with tokResA := ra, tokResB := rb, hold := pair, errToken := if pair then x.errToken else satNat 0xFFFF (x.errToken + 1),
                    lastEpoch := if pair then some n else x.lastEpoch, tokenAge := if pair then 0 else x.tokenAge }
  if ra = 1 || rb = 1 then y.openAll else y

/-- SWEEP: the first copy of a sweep is taken; a late one freezes the switches, as `closed` finds them (R188, R202, R215, R220, R231). (DEDUCED, log 37) -/
def sweepFrame (c p : Nat) (f : NodeRx) (payload : List Byte) (closed : BitVec 24) (s : State) : State :=
  s.rxNode c p 0x01 f payload (fun _ => false) (fun x s =>
    let n := BitVec.ofNat 32 (ofLe (payload.take 4))
    if payload.length ≠ 76 || (x.heard && x.epoch == n) then s
    else
      let fl := ofLe ((payload.drop 6).take 2)
      let bm := x.typ == 1
      let x1 := { x with
        swept := true, heard := true, late := f.late, epoch := n, gateEn := fl.testBit 0, ring := fl.testBit 2
        angle := ofLe ((payload.drop 4).take 2), freq := ofLe ((payload.drop 8).take 4), prevAngle := x.angle, prevFreq := x.freq
        prevEpoch := if x.heard then some x.epoch else none
        comp := if f.late then 0 else if f.dn then x.compRet else x.compOut
        frozen := x.frozen || (f.late && bm), gated := x.gated && !f.late
        closed := if f.late && bm && !x.frozen then closed &&& x.dutied else x.closed
        filter := if bm then x.reg 0x80 else 0 }
      let word (k : Nat) : Word := BitVec.ofNat 32 (ofLe (slice 0#8 payload (12 + 4 * k) 4))
      let x2 := if x1.typ = 2 then x1.evalTokens n (if x1.tokenSlot < 8 then word (2 * x1.tokenSlot) else 0#32) (if x1.tokenSlot < 8 then word (2 * x1.tokenSlot + 1) else 0#32) else x1
      s.setNode c p x2)
def execSweepFrame (c : Fin 64) (p : Fin 128) (f : NodeRx) (met : SweepAt) (s : State) : Host.Outcome State Fault Refusal :=
  finish s (sweepFrame c.val p.val f met.payload met.closed s)

/-- BALANCE_GATE: the switches freeze, open where the SWEEP enabled the gate, else by their applied duty (R220). -/
def balanceGate (c p : Nat) (s : State) : State :=
  s.onNode c p (fun x => if x.typ = 1 && !x.late then { x with frozen := true, gated := x.gateEn, closed := if x.gateEn then 0#24 else x.dutied } else x)
def execBalanceGate (c : Fin 64) (p : Fin 128) (s : State) : Host.Outcome State Fault Refusal := finish s (balanceGate c.val p.val s)

/-! String current (R227 to R229). -/

/-- A quotient rounded to the nearest integer, halves away from zero. -/
def roundDiv (a : Int) (d : Nat) : Int := if a < 0 then -((2 * a.natAbs + d) / (2 * d) : Nat) else ((2 * a.natAbs + d) / (2 * d) : Nat)
/-- A shunt voltage in nV with the orientation of CFG.SHUNT_NEG. -/
def NodeX.orient (x : NodeX) (v : Int) : Int := if (x.reg 0x80).testBit 2 then -v else v
/-- A current in 1/20 A from a shunt voltage in nV times `k`: V / (10 R) A with R in 0.01 µΩ, less the stored zero. -/
def NodeX.amps20 (x : NodeX) (v : Int) (k : Nat) : Int :=
  let r := x.reg 0x8C
  (if r = 0 then Config.noShunt v k else roundDiv (2 * v) (r * k)) - roundDiv x.zero 50
/-- Beyond ±1,638.35 A. -/
def overAmps (i : Int) : Bool := decide (32767 < i.natAbs)
/-- The encoding of Table NODE-7, saturating at 0x7FFF and 0x8001. -/
def encAmps (i : Int) : BitVec 16 := BitVec.ofInt 16 (if 32767 < i then 32767 else if i < -32767 then -32767 else i)
/-- A sample of the stream in A. -/
def NodeX.sampleA (x : NodeX) (v : Int) : Word :=
  let r := x.reg 0x8C
  Fp.ofRat (if r = 0 then Config.noShunt v 1 else 100 * v - x.zero * r) (if r = 0 then 20 else 1000 * r)

/-- Schedule angle in au that passes in a time of 10 ns units at a frequency in 0.0001 Hz. -/
def auIn (freq t : Nat) : Nat := freq * t * 65536 / 1000000000000
/-- The angle stamp of a sample taken `t` × 10 ns before the conversion instant, from A(N) of the latest SWEEP at that time: A(N) is the conversion
instant less 160 µs (R228). (DEDUCED, log 98) -/
def NodeX.stamp (x : NodeX) (dt t : Nat) : Nat :=
  if t ≤ 16000 then (x.angle + auIn x.freq (16000 - t)) % 65536 else (x.prevAngle + auIn x.prevFreq (16000 + dt - t)) % 65536
/-- Its age in schedule angle at the conversion instant. -/
def NodeX.ageAu (x : NodeX) (t : Nat) : Nat := if t ≤ 16000 then auIn x.freq t else auIn x.freq 16000 + auIn x.prevFreq (t - 16000)

/-- A phasor of order `m` over the window: (2 / k) Σ i exp(−j m 2π a / 65,536), summed in the order of the samples. (DESIGN CHOICE, log 123) -/
def NodeX.phasor (x : NodeX) (m : Nat) : Word × Word :=
  let w := x.stream
  let sum := w.foldl (fun (a : Word × Word) p =>
    let th := Fp.ofNat (m * p.2.1 % 65536)
    let i := x.sampleA p.2.2
    (Fp.fma i (Config.fcos th) a.1, Fp.fma (Fp.neg i) (Config.fsin th) a.2)) (0#32, 0#32)
  let g := Fp.div 0x40000000#32 (Fp.ofNat w.length)
  if w.isEmpty then (0#32, 0#32) else (Fp.mul g sum.1, Fp.mul g sum.2)

/-- The window is complete (R228): no SWEEP missed within it, and a full interval before it. (DEDUCED, log 98) -/
def NodeX.windowOk (x : NodeX) : Bool := (List.range x.marks.length).any (fun k => decide (65536 ≤ nth 0 x.marks k) && decide (k + 1 < x.marks.length))

/-- What a string node makes of the stream up to its conversion instant: the window of one cycle, the charge with what remains of it, the mean
current, overrange, the token age (R227 to R229). (DEDUCED, log 98) -/
def NodeX.takeStream (x : NodeX) (d : StringData) : NodeX × Int × Int × Bool :=
  let dt := d.dt.toNat
  let vs := d.samples.map (fun q => (q.1.toNat, x.orient q.2.toInt))
  let adv := x.ageAu dt
  let fresh := vs.map (fun q => (x.ageAu q.1, x.stamp dt q.1, q.2))
  let win := (x.stream.map (fun q => (q.1 + adv, q.2.1, q.2.2)) ++ fresh).filter (fun q => decide (q.1 < 65536))
  let unbroken := match x.prevEpoch with | some e => x.epoch == e + 1#32 | none => false
  let marks := 0 :: (if unbroken then (x.marks.map (fun a => a + adv)).take 16 else [])
  let sum := vs.foldl (fun a q => a + q.2) (0 : Int)
  let r := x.reg 0x8C
  let tot := x.carry + sum
  let q := if r = 0 then Config.noShunt tot 160 else tot / (160 * r : Nat)
  let sat := x.convSat || vs.any (fun q => overAmps (x.amps20 q.2 1)) || win.any (fun q => overAmps (x.amps20 q.2.2 1))
  ({ x with stream := win, marks := marks, carry := if r = 0 then 0 else tot - q * (160 * r : Nat), tokenAge := satNat 0xFFFF (x.tokenAge + d.since.toNat) },
   q, if vs.isEmpty then 0 else x.amps20 sum vs.length, sat)

/-- CONVERSION: the node samples its inputs in its window of 40 µs, at COMP after the SWEEP or on receipt of a late one; with the window the
freeze ends. Inputs 0 and 1 of a string node come as shunt voltages in nV (R213, R220, R227). -/
def conversion (c p : Nat) (inputs : List (BitVec 16)) (shunt : List Word) (err : Bool) (s : State) : State :=
  s.onNode c p (fun x =>
    if !x.swept then x
    else
      let i (k : Nat) : Int := x.amps20 (x.orient (nth 0#32 shunt k).toInt) 1
      let v := slice 0#16 inputs 0 32
      let y := { x with conv := if x.typ = 2 then encAmps (i 0) :: encAmps (i 1) :: v.drop 2 else v, convErr := err, convGate := x.gated
                        convSat := x.typ == 2 && (overAmps (i 0) || overAmps (i 1)) }
      y.unfreeze)
def execConversion (c : Fin 64) (p : Fin 128) (met : ConvAt) (err : Bool) (s : State) : Host.Outcome State Fault Refusal :=
  finish s (conversion c.val p.val met.inputs met.shunt err s)

/-- Byte 0x46 of the data (Table NODE-3). (DEDUCED, log 38) -/
def NodeX.dataByte46 (x : NodeX) : Nat :=
  let bm := x.typ == 1
  b2n x.late + 2 * b2n x.stopped + 4 * b2n (bm && x.convGate) + 8 * b2n (bm && decide (x.cap < 200)) + 16 * (if bm then x.filter else 0)
    + 64 * b2n x.testFail + 128 * b2n x.convErr

/-- CONTACTOR (Table NODE-8). -/
def NodeX.contactor (x : NodeX) (aux : BitVec 3) : Nat := x.drive.toNat + 8 * aux.toNat + 64 * b2n x.hold + 128 * b2n x.latched

/-- The 72 bytes of an NH0824 (Table NODE-4). -/
def NodeX.blockData (x : NodeX) (b46 : Nat) : List Byte :=
  let ov := if x.noConfig then 0xFFFFFF else x.scOv.toNat
  let uv := if x.noConfig then 0xFFFFFF else x.scUv.toNat
  ((List.range 32).map (fun i => nth 0#16 x.conv i)).flatMap (fun v => leBytes 2 v.toNat) ++ leBytes 3 ov ++ leBytes 3 uv ++ leBytes 1 b46 ++ leBytes 1 x.epoch.toNat

/-- The 72 bytes of an NH0403 (Table NODE-8). -/
def NodeX.stringData (x : NodeX) (b46 : Nat) (aux : BitVec 3) (charge mean : Int) (sat : Bool) : List Byte :=
  let p2 := x.phasor 2
  let p4 := x.phasor 4
  ((List.range 8).map (fun i => if i = 6 then encAmps mean else nth 0#16 x.conv i)).flatMap (fun v => leBytes 2 v.toNat)
    ++ [p2.1, p2.2, p4.1, p4.2].flatMap (fun v => leBytes 4 v.toNat)
    ++ leBytes 4 (BitVec.ofInt 32 charge).toNat ++ leBytes 1 (x.contactor aux) ++ leBytes 1 (x.tokResA + 16 * x.tokResB) ++ leBytes 2 x.tokenAge
    ++ leBytes 1 (b2n x.windowOk + 2 * b2n sat) ++ List.replicate 29 0#8 ++ leBytes 1 b46 ++ leBytes 1 x.epoch.toNat

/-- The data of a build, and the node that has built it. -/
def NodeX.build (x : NodeX) (d : StringData) : NodeX × List Byte :=
  if x.typ = 2 then
    let (y, q, mean, sat) := x.takeStream d
    (y, y.stringData y.dataByte46 d.aux q mean sat)
  else (x, x.blockData x.dataByte46)

/-- DATA_BUILD: the node builds its data once after a SWEEP (R211, R216). (DEDUCED, log 37) -/
def dataBuild (c p : Nat) (d : StringData) (s : State) : State :=
  s.onNode c p (fun x0 =>
    if !x0.swept then x0
    else
      let x := if x0.answered then { x0 with scOv := x0.scOv &&& ~~~x0.sentOv, scUv := x0.scUv &&& ~~~x0.sentUv } else x0
      let (y, bytes) := x.build d
      { y with data := bytes, byte46 := y.dataByte46, sentOv := y.scOv, sentUv := y.scUv, answered := false, swept := false, late := false })
def execDataBuild (c : Fin 64) (p : Fin 128) (d : StringData) (s : State) : Host.Outcome State Fault Refusal := finish s (dataBuild c.val p.val d s)

/-- The node answers with its data. -/
def State.sendData (s : State) (c p opc : Nat) (f : NodeRx) (x : NodeX) : State :=
  (s.setNode c p { x with answered := true }).answer c p opc f (slice 0#8 x.data 0 72)

/-- COLLECT (R211). -/
def collectFrame (c p : Nat) (f : NodeRx) (s : State) : State := s.rxNode c p 0x02 f [] (fun _ => false) (fun x s => if x.mine f then s.sendData c p 0x02 f x else s)
def execCollectFrame (c : Fin 64) (p : Fin 128) (f : NodeRx) (s : State) : Host.Outcome State Fault Refusal := finish s (collectFrame c.val p.val f s)

/-- A node of a range with k nodes beyond it sends (R203): k frames have come from beyond it; or 2 µs have passed since the last of some; or with
none 2 × k × 0.69 µs + 4 µs since its turnaround. Times in 10 ns. -/
def segTurn (k seen quiet : Nat) : Bool := decide (k ≤ seen) || (if seen = 0 then decide (138 * k + 400 ≤ quiet) else decide (200 ≤ quiet))

/-- COLLECT_SEG: a node of the range comes to its turn, or not yet; `seen`: frames it has repeated from beyond it, `quiet`: the time since the last of
them or, with none, since its turnaround (R203). (DEDUCED, log 99) -/
def collectSeg (c p : Nat) (f : NodeRx) (payload : List Byte) (seen quiet : Nat) (s : State) : State :=
  s.rxNode c p 0x03 f payload (fun _ => false) (fun x s =>
    let j := x.num f.dn
    let m := ofLe payload
    if payload.length = 1 && j != 0 && decide (j ≤ f.hop.toNat) && decide (f.hop.toNat < j + m) && segTurn (f.hop.toNat - j) seen quiet then s.sendData c p 0x03 f x else s)
def execCollectSeg (c : Fin 64) (p : Fin 128) (f : NodeRx) (met : SegAt) (s : State) : Host.Outcome State Fault Refusal :=
  finish s (collectSeg c.val p.val f met.payload met.seen.toNat met.quiet.toNat s)

/-- The identity payload of R181. -/
def NodeX.identity (x : NodeX) : List Byte := leBytes 1 x.typ ++ leBytes 1 x.rev ++ leBytes 2 0 ++ leBytes 8 x.uid.toNat ++ leBytes 8 x.lastMaster.toNat

/-- A node with its number on one port replaced. -/
def NodeX.setNum (x : NodeX) (dn : Bool) (k : Nat) : NodeX := if dn then { x with retNum := k } else { x with outNum := k }

/-- An ENUM that the node takes: HOP 0xFE, and it has no number on the receiving side (R181, R183). -/
def NodeX.takesEnum (x : NodeX) (f : NodeRx) (payload : List Byte) : Bool := f.hop == 0xFE#8 && payload.length == 1 && x.num f.dn == 0

/-- ENUM: HOP 0x00 clears the number of the receiving side; HOP 0xFE numbers the first node without one (R178, R181, R183). -/
def enumFrame (c p : Nat) (f : NodeRx) (payload : List Byte) (s : State) : State :=
  s.rxNode c p 0x04 f payload (fun x => x.takesEnum f payload) (fun x0 s0 =>
    let x := { x0 with ring := false }
    let s := s0.setNode c p x
    if f.hop = 0#8 then s.setNode c p (x.setNum f.dn 0)
    else if x.takesEnum f payload then
      let y := x.setNum f.dn (ofLe payload)
      (s.setNode c p y).answer c p 0x04 f y.identity
    else s)
def execEnumFrame (c : Fin 64) (p : Fin 128) (f : NodeRx) (payload : List Byte) (s : State) : Host.Outcome State Fault Refusal :=
  finish s (enumFrame c.val p.val f payload s)

/-- ASSIGN: compensation, token slot and master are stored; the last accepted epoch and the string number are forgotten, and HOLD falls (Table
LNK-7, R231, R234). -/
def assignNode (c p : Nat) (f : NodeRx) (payload : List Byte) (s : State) : State :=
  s.rxNode c p 0x05 f payload (fun _ => false) (fun x s =>
    if x.mine f && payload.length = 16 then
      let v (o n : Nat) : Nat := ofLe ((payload.drop o).take n)
      (s.setNode c p { x with compOut := v 0 2, compRet := v 2 2, tokenSlot := v 4 1, lastMaster := BitVec.ofNat 64 (v 8 8), lastEpoch := none, heard := false
                              hold := false, written := x.written.filter (fun w => w != 0x8A) }).answer c p 0x05 f []
    else s)
def execAssignNode (c : Fin 64) (p : Fin 128) (f : NodeRx) (payload : List Byte) (s : State) : Host.Outcome State Fault Refusal :=
  finish s (assignNode c.val p.val f payload s)

/-- ECHO: an addressed one is answered with the identity (R181). -/
def echoFrame (c p : Nat) (f : NodeRx) (s : State) : State :=
  s.rxNode c p 0x06 f [] (fun _ => false) (fun x s => if x.mine f then s.answer c p 0x06 f x.identity else s)
def execEchoFrame (c : Fin 64) (p : Fin 128) (f : NodeRx) (s : State) : Host.Outcome State Fault Refusal := finish s (echoFrame c.val p.val f s)

/-! Node commands (Table NODE-1). -/

/-- A node command addressed to the node: status 1 for the other type, 2 for a wrong length, else the command. -/
def State.nodeCmd (s : State) (c p opc : Nat) (f : NodeRx) (payload : List Byte) (forType : Nat → Bool) (lenOk : Bool) (act : NodeX → State → State) : State :=
  s.rxNode c p opc f payload (fun _ => false) (fun x s =>
    if !x.mine f then s
    else if !forType x.typ then s.answer c p opc f [1#8]
    else if !lenOk then s.answer c p opc f [2#8]
    else act x s)

/-- READ_REG (R209). (DEDUCED, log 36) -/
def readReg (c p : Nat) (f : NodeRx) (payload : List Byte) (s : State) : State :=
  s.nodeCmd c p 0x40 f payload (fun _ => true) (payload.length == 3) (fun x s =>
    let a := ofLe (payload.take 2)
    let n := ofLe (payload.drop 2)
    if n = 0 || 46 < n then s.answer c p 0x40 f (3#8 :: leBytes 2 a)
    else if 256 < a + n then s.answer c p 0x40 f (4#8 :: leBytes 2 a)
    else s.answer c p 0x40 f (0#8 :: leBytes 2 a ++ (List.range n).flatMap (fun k => leBytes 2 (x.readWord (a + k)))))
def execReadReg (c : Fin 64) (p : Fin 128) (f : NodeRx) (payload : List Byte) (s : State) : Host.Outcome State Fault Refusal :=
  finish s (readReg c.val p.val f payload s)

/-- Words of a WRITE_REG payload. -/
def payloadWords (payload : List Byte) : List Nat := (List.range ((payload.length - 2) / 2)).map (fun k => ofLe ((payload.drop (2 + 2 * k)).take 2))

/-- WRITE_REG: all words or none (R210). (DEDUCED, log 36) -/
def writeReg (c p : Nat) (f : NodeRx) (payload : List Byte) (s : State) : State :=
  s.nodeCmd c p 0x41 f payload (fun _ => true) (decide (4 ≤ payload.length) && payload.length % 2 == 0 && decide (payload.length ≤ 94)) (fun x s =>
    let a := ofLe (payload.take 2)
    let ws := payloadWords payload
    let idx := List.range ws.length
    match idx.find? (fun k => x.writeStatus (a + k) (nth 0 ws k) != 0) with
    | some k => s.answer c p 0x41 f (BitVec.ofNat 8 (x.writeStatus (a + k) (nth 0 ws k)) :: leBytes 2 (a + k))
    | none => (s.setNode c p (idx.foldl (fun y k => y.writeWord (a + k) (nth 0 ws k)) x)).answer c p 0x41 f (0#8 :: leBytes 2 0xFFFF))
def execWriteReg (c : Fin 64) (p : Fin 128) (f : NodeRx) (payload : List Byte) (s : State) : Host.Outcome State Fault Refusal :=
  finish s (writeReg c.val p.val f payload s)

/-- BAL_SET (R218). (DEDUCED, log 36) -/
def balSet (c p : Nat) (f : NodeRx) (payload : List Byte) (s : State) : State :=
  s.nodeCmd c p 0x42 f payload (fun t => t == 1) (payload.length == 24) (fun x s =>
    let codes := payload.map BitVec.toNat
    if codes.any (fun d => decide (200 < d)) then s.answer c p 0x42 f [3#8]
    else (s.setNode c p (if x.frozen then { x with balWait := some codes } else x.takeDuty codes)).answer c p 0x42 f [0#8])
def execBalSet (c : Fin 64) (p : Fin 128) (f : NodeRx) (payload : List Byte) (s : State) : Host.Outcome State Fault Refusal :=
  finish s (balSet c.val p.val f payload s)

/-- CTR_SET (R233, R234). -/
def ctrSet (c p : Nat) (f : NodeRx) (payload : List Byte) (aux : BitVec 3) (s : State) : State :=
  s.nodeCmd c p 0x43 f payload (fun t => t == 2) (payload.length == 2) (fun x s =>
    let r := (nth 0#8 payload 0)
    let reply (st : Nat) (x : NodeX) (s : State) : State := s.answer c p 0x43 f [BitVec.ofNat 8 st, BitVec.ofNat 8 (x.contactor aux)]
    if 7 < r.toNat || nth 0#8 payload 1 ≠ ~~~r then reply 3 x s
    else if r.setWidth 3 &&& ~~~x.drive ≠ 0#3 && (!x.hold || x.noConfig) then reply 5 x s
    else
      let y := { x with drive := r.setWidth 3, latched := false, stopped := false }
      reply 0 y (s.setNode c p y))
def execCtrSet (c : Fin 64) (p : Fin 128) (f : NodeRx) (payload : List Byte) (aux : BitVec 3) (s : State) : Host.Outcome State Fault Refusal :=
  finish s (ctrSet c.val p.val f payload aux s)

/-- Self-tests of a node type (Table NODE-14). -/
def nodeTest (typ code : Nat) : Bool := if typ = 1 then decide (1 ≤ code) && decide (code ≤ 5) else code == 3 || code == 6 || code == 7

/-- SELFTEST (R238). -/
def selftest (c p : Nat) (f : NodeRx) (payload : List Byte) (s : State) : State :=
  s.nodeCmd c p 0x44 f payload (fun _ => true) (payload.length == 1) (fun x s =>
    let code := ofLe payload
    if x.testing.isSome then s.answer c p 0x44 f [6#8]
    else if !nodeTest x.typ code then s.answer c p 0x44 f [3#8]
    else if code = 6 && x.drive ≠ 0#3 then s.answer c p 0x44 f [5#8]
    else (s.setNode c p { x with testing := some code, testResult := code }).answer c p 0x44 f [0#8])
def execSelftest (c : Fin 64) (p : Fin 128) (f : NodeRx) (payload : List Byte) (s : State) : Host.Outcome State Fault Refusal :=
  finish s (selftest c.val p.val f payload s)

/-- Words of TEST_DATA that a test fills (Table NODE-14). -/
def testWords (code : Nat) : Nat := match code with | 1 => 4 | 2 => 2 | 3 => 1 | 4 => 2 | 5 => 1 | 6 => 1 | _ => 0
/-- The pass criterion of a test on its data (Table NODE-14); `ok`: both results of test 7 match. -/
def testPass (code : Nat) (w : List (BitVec 16)) (ok : Bool) : Bool :=
  let u (k : Nat) : Nat := (nth 0#16 w k).toNat
  let lim (n : Nat) : Bool := decide ((nth 0#16 w 0).toInt.natAbs ≤ n)
  match code with
  | 1 => (u 0 + 65536 * u 1) % 2 ^ 24 == 2 ^ 24 - 1 && (u 2 + 65536 * u 3) % 2 ^ 24 == 2 ^ 24 - 1
  | 3 => lim 100
  | 6 => lim 500
  | 7 => ok
  | _ => u 0 == 0 && (u 1 == 0 || testWords code == 1)

/-- SELFTEST_DONE: the findings of the test become TEST_DATA, and pass follows from them; a shunt offset within its limit is the new zero (R238). (DEDUCED, log 100) -/
def selftestDone (c p : Nat) (ok : Bool) (data : List (BitVec 16)) (s : State) : State :=
  s.onNode c p (fun x =>
    match x.testing with
    | none => x
    | some code =>
      let w := slice 0#16 data 0 (testWords code)
      let pass := testPass code w ok
      { x with testing := none, testResult := code + 256 + 512 * b2n pass, testData := w.map BitVec.toNat, testFail := x.testFail || !pass
               scFault := x.scFault || (!pass && code == 1), zero := if code = 6 && pass then (nth 0#16 w 0).toInt else x.zero })
def execSelftestDone (c : Fin 64) (p : Fin 128) (ok : Bool) (data : List (BitVec 16)) (s : State) : Host.Outcome State Fault Refusal :=
  finish s (selftestDone c.val p.val ok data s)

/-- Switches and drivers off, numbers forgotten, asleep (R222). -/
def NodeX.toSleep (x : NodeX) : NodeX :=
  { x with balCmd := [], balApplied := [], balWait := none, frozen := false, gated := false, closed := 0#24, drive := 0#3, hold := false, outNum := 0, retNum := 0
           ring := false, swept := false, heard := false, asleep := true }

/-- SLEEP: a broadcast with 0xA5. One addressed to the node gets a response with status 2 for a wrong length, else with a status that the spec leaves
open, and has no effect (R209, R222). (DESIGN CHOICE, log 101) -/
def sleepFrame (c p : Nat) (f : NodeRx) (payload : List Byte) (s : State) : State :=
  s.rxNode c p 0x45 f payload (fun _ => false) (fun x s =>
    if f.hop = 0#8 then (if payload = [0xA5#8] then s.setNode c p x.toSleep else s)
    else if !x.mine f then s
    else if payload.length ≠ 1 then s.answer c p 0x45 f [2#8]
    else let (v, s1) := s.draw; s1.answer c p 0x45 f [v.setWidth 8])
def execSleepFrame (c : Fin 64) (p : Fin 128) (f : NodeRx) (payload : List Byte) (s : State) : Host.Outcome State Fault Refusal :=
  finish s (sleepFrame c.val p.val f payload s)

/-- CLEAR, addressed or broadcast; with a payload it is refused with status 2 (R209, R210). -/
def clearNode (c p : Nat) (f : NodeRx) (payload : List Byte) (s : State) : State :=
  s.rxNode c p 0x46 f payload (fun _ => false) (fun x s =>
    let y := { x with errRx := 0, errToken := 0, testFail := false, scFault := false }
    if f.hop = 0#8 then (if payload.isEmpty then s.setNode c p y else s)
    else if !x.mine f then s
    else if !payload.isEmpty then s.answer c p 0x46 f [2#8]
    else (s.setNode c p y).answer c p 0x46 f [0#8])
def execClearNode (c : Fin 64) (p : Fin 128) (m : NodeMsg) (s : State) : Host.Outcome State Fault Refusal :=
  finish s (clearNode c.val p.val m.rx m.payload s)

/-! What a node does by itself. -/

/-- COMM_TIMEOUT (R221). -/
def commTimeout (c p : Nat) (s : State) : State :=
  s.onNode c p (fun x => if x.typ = 1 then { x with balCmd := [], balApplied := [], balWait := none, stopped := true } else x)
def execCommTimeout (c : Fin 64) (p : Fin 128) (s : State) : Host.Outcome State Fault Refusal := finish s (commTimeout c.val p.val s)

/-- TOKEN_TIMEOUT (R232). -/
def tokenTimeout (c p : Nat) (s : State) : State := s.onNode c p (fun x => if x.typ = 2 then x.openAll else x)
def execTokenTimeout (c : Fin 64) (p : Fin 128) (s : State) : Host.Outcome State Fault Refusal := finish s (tokenTimeout c.val p.val s)

/-- SECONDARY_FLAG: the comparators of an NH0824 with supply, awake or asleep (R216, R223). -/
def secondaryFlag (c p k : Nat) (under : Bool) (s : State) : State :=
  let x := s.node c p
  if x.typ ≠ 1 || !x.powered then s
  else if under then s.setNode c p { x with scUv := x.scUv ||| (1#24 <<< k), sentUv := x.sentUv &&& ~~~(1#24 <<< k) }
  else s.setNode c p { x with scOv := x.scOv ||| (1#24 <<< k), sentOv := x.sentOv &&& ~~~(1#24 <<< k) }
def execSecondaryFlag (c : Fin 64) (p : Fin 128) (k : Fin 24) (under : Bool) (s : State) : Host.Outcome State Fault Refusal :=
  finish s (secondaryFlag c.val p.val k.val under s)

/-- The cause and input of a violation in a sleep check, by ascending input (R223). -/
def NodeX.sleepViolation (x : NodeX) (v : List (BitVec 16)) : Option Nat :=
  let one (i : Nat) : Nat :=
    let w := nth 0#16 v i
    if i < 24 then
      (if x.reg 0x85 < w.toNat then 1 else if w.toNat < x.reg 0x86 then 2
       else if x.scOv.getLsbD i || x.scUv.getLsbD i then 5 else 0)
    else if (x.reg 0x89).testBit (i - 24) then
      (if signedOf 16 (x.reg 0x87) < w.toInt then 3 else if w.toInt < signedOf 16 (x.reg 0x88) then 4 else 0)
    else 0
  ((List.range 32).find? (fun i => one i != 0)).map (fun i => i + 256 * one i)

/-- SLEEP_CHECK: a sleeping NH0824 checks its inputs, and wakes with a tone out of both ports on a violation (R223). -/
def sleepCheck (c p : Nat) (v : List (BitVec 16)) (s : State) : State :=
  let x := s.node c p
  if x.typ ≠ 1 || !x.powered || !x.asleep then s
  else match x.sleepViolation v with
    | none => s
    | some cause => ((s.setNode c p { x with slpCause := cause, wakeSelf := true, asleep := false }).emit (.nodeTone c p false)).emit (.nodeTone c p true)
def execSleepCheck (c : Fin 64) (p : Fin 128) (inputs : List (BitVec 16)) (s : State) : Host.Outcome State Fault Refusal :=
  finish s (sleepCheck c.val p.val inputs s)

/-- A node comes to the chain with what is fixed of it. -/
def NodeX.ofIdent (i : NodeIdent) : NodeX :=
  { typ := if i.nh0403 then 2 else 1, rev := i.rev.toNat, uid := i.uid, lastMaster := i.master, corners := (slice 0#16 i.corners 0 4).map BitVec.toNat, powered := true }

/-- NODE_WAKE_TONE: a tone is repeated out of the other port, and wakes the node when it lasts 0.5 ms (R224); WAKE_SELF then no longer holds. A node
that the model does not know yet comes in with its identity; one that had lost its supply has it again. (DEDUCED, log 37) -/
def nodeWakeTone (c p : Nat) (dn long : Bool) (ident : NodeIdent) (s : State) : State :=
  let x := s.node c p
  let y := if x.typ = 0 then NodeX.ofIdent ident else { x with powered := true }
  (s.setNode c p { y with asleep := y.asleep && !long, wakeSelf := y.wakeSelf && !(y.asleep && long) }).emit (.nodeTone c p (!dn))
def execNodeWakeTone (c : Fin 64) (p : Fin 128) (dn long : Bool) (ident : NodeIdent) (s : State) : Host.Outcome State Fault Refusal :=
  finish s (nodeWakeTone c.val p.val dn long ident s)

/-- NODE_SLEEP_RETURN: 30 s without a valid frame after a wake (R225). -/
def nodeSleepReturn (c p : Nat) (s : State) : State := s.onNode c p NodeX.toSleep
def execNodeSleepReturn (c : Fin 64) (p : Fin 128) (s : State) : Host.Outcome State Fault Refusal := finish s (nodeSleepReturn c.val p.val s)

/-- The nodes beyond one that sends break marks: each repeats them out of DN and, in ring operation, switches its DN driver off as its UP falls
silent after them, without marks of its own; a node without supply or asleep ends the line (R178). (DEDUCED, log 97) -/
def State.marksBeyond (s : State) (c : Nat) : List Nat → State
  | [] => s
  | p :: ps =>
    let x := s.node c p
    if x.typ = 0 then s.marksBeyond c ps
    else if !x.powered || x.asleep then s
    else ((s.setNode c p { x with dnOff := x.dnOff || x.ring }).emit (.markRepeat c p)).marksBeyond c ps

/-- BREAK_MARK: in ring operation UP has fallen silent; marks leave DN for 20 µs and the driver switches off; the nodes beyond follow (R178). -/
def breakMark (c p : Nat) (s : State) : State :=
  let x := s.node c p
  if x.typ = 0 || !x.powered || x.asleep || !x.ring || x.dnOff then s
  else ((s.setNode c p { x with dnOff := true }).emit (.breakMark c p)).marksBeyond c ((List.range 128).filter (fun q => decide (p < q)))
def execBreakMark (c : Fin 64) (p : Fin 128) (s : State) : Host.Outcome State Fault Refusal := finish s (breakMark c.val p.val s)

/-- NODE_POWER_LOSS: register values are lost; what is fixed and the last master ID stay (R235). -/
def nodePowerLoss (c p : Nat) (s : State) : State :=
  let x := s.node c p
  if x.typ = 0 then s
  else s.setNode c p { typ := x.typ, rev := x.rev, uid := x.uid, lastMaster := x.lastMaster, corners := x.corners }
def execNodePowerLoss (c : Fin 64) (p : Fin 128) (s : State) : Host.Outcome State Fault Refusal := finish s (nodePowerLoss c.val p.val s)

/-- DIE_TEMPERATURE_MEASUREMENT (R219, Table NODE-6). -/
def dieTemperature (c p : Nat) (t : BitVec 16) (s : State) : State :=
  s.onNode c p (fun x => ({ x with dieT := t, hotHold := decide (12000 ≤ t.toInt) || (x.hotHold && decide (11500 ≤ t.toInt)) }).apply)
def execDieTemperatureMeasurement (c : Fin 64) (p : Fin 128) (t : BitVec 16) (s : State) : Host.Outcome State Fault Refusal :=
  finish s (dieTemperature c.val p.val t s)

end Sys2Proof.Machine
end

