-- ==== Sys2Proof/Machine/Link.lean ====
section
/-! DEFINITION. The link engines of the 64 chains (chapter 06): tags and transactions, sweeps on the line, muting, enumeration, breaks and their recovery. -/

namespace Sys2Proof.Machine

/-- A start is held in stage 1 (R99): no work of stage 2 runs. -/
def State.held1 (s : State) : Bool :=
  s.getB R.GLOBAL_STAGE_IMAGE_RECOVERY || s.diag.stage1Held || s.pair.tripHeld || (s.stage == 1 && s.get R.PAIR_STAT_MODE == 5)

/-- The module ID that nodes hold as last master (R198). -/
def uid64 : BitVec 64 := Config.moduleUid.setWidth 64

/-- A link event with its chain as source; 0x0402, 0x0405 and 0x0406 raise cause 70 (R208). -/
def State.linkEvent (s : State) (c code : Nat) (ps : List Par) : State :=
  let s1 := s.report code (src 3 c) ps
  if code = 0x0402 || code = 0x0405 || code = 0x0406 then s1.setCause 6 else s1

/-- Source of a node event: chain and hop (Table LOG-2). -/
def srcHop (c h : Nat) : Nat := src 4 (c * 256 + h + 1)

/-! Numbers and frames (R183). -/

/-- The number of a hop index from an end of a chain of n nodes. -/
def numOf (n h : Nat) (ret : Bool) : Nat := if ret then n - h else h + 1
/-- The hop index of a number. -/
def hopOf (n num : Nat) (ret : Bool) : Nat := if ret then n - num else num - 1

/-- A frame leaves a chain's port: in the ring's stream, or as a burst of its own (R174, R178). -/
def State.sendBytes (s : State) (c : Nat) (ret : Bool) (bytes : List Byte) : State :=
  let ring := s.linkState c == 2
  s.emit (.link c (b2n ret) (!ring) (lineFrame ring bytes))

/-- A command frame leaves a chain's port with the number of its hop from that end (R7, R183). LIN is 1 in linear operation. -/
def State.sendCmd (s : State) (c tag : Nat) (w : WaitCmd) : State :=
  s.sendBytes c w.ret (frame w.opcode (numOf (s.tab.nodes c) w.hop w.ret) tag false false (s.linkState c != 2) w.payload)

/-- A broadcast leaves a port (no transaction). -/
def State.sendAll (s : State) (c : Nat) (ret : Bool) (opc : Nat) (late lin : Bool) (payload : List Byte) : State :=
  s.sendBytes c ret (frame opc 0 0 false late lin payload)

/-! Tags (R189, R245). -/

/-- The first free tag. -/
def ChainX.freeTag (x : ChainX) : Option Nat := (List.range 8).find? (fun t => nth .free x.tags t == .free)
def ChainX.setTag (x : ChainX) (t : Nat) (v : TagState) : ChainX := { x with tags := setNth x.tags t v }
/-- Commands that wait or are in flight. -/
def ChainX.cmds (x : ChainX) : List WaitCmd := x.wait ++ x.tags.flatMap (fun t => match t with | .busy w => [w] | _ => [])
/-- Maintenance transactions may go: the chain's collection of the sweep is over. -/
def State.maintOk (s : State) (c : Nat) : Bool := !s.swp.open_ || s.chainDone c
/-- A waiting command may go: collection at any time, maintenance after it, a host command in its turn. -/
def State.mayGo (s : State) (c : Nat) (w : WaitCmd) : Bool := w.kind == 0 || (s.maintOk c && (w.kind != 3 || (s.chain c).hostGo))

/-- The next waiting command that may go: collection first, then maintenance. -/
def State.nextCmd (s : State) (c : Nat) : Option WaitCmd :=
  let w := (s.chain c).wait
  (w.find? (fun k => k.kind == 0)).or (w.find? (s.mayGo c))

/-- Issues one waiting command under a free tag, from the end that reaches its hop now. (DEDUCED, log 31) -/
def State.issueOne (s : State) (c : Nat) : State :=
  if !s.active c then s
  else match (s.chain c).freeTag, s.nextCmd c with
    | some t, some w =>
      let x := s.chain c
      let v := { w with ret := s.fromRet c w.hop }
      (s.setChain c { x.setTag t (.busy v) with wait := x.wait.erase w, hostGo := x.hostGo && w.kind != 3 }).sendCmd c t v
    | _, _ => s

/-- Commands that may go and find no free tag wait for one; each is counted once (R189). (DEDUCED, log 31) -/
def State.countWaits (s : State) (c : Nat) : State :=
  let x := s.chain c
  if !s.active c || x.freeTag.isSome then s
  else
    let n := (x.wait.filter (fun w => s.mayGo c w && !w.waited)).length
    (s.incBy (R.LNK_CNT_TAGWAIT c) n).setChain c { x with wait := x.wait.map (fun w => if s.mayGo c w then { w with waited := true } else w) }

/-- Issues what may go; what then waits for a tag is counted. -/
def State.issue (s : State) (c : Nat) : State := ((List.range 8).foldl (fun s _ => s.issueOne c) s).countWaits c

/-- A command joins the stream. -/
def State.enqueue (s : State) (c : Nat) (w : WaitCmd) : State :=
  let x := s.chain c
  (s.setChain c { x with wait := x.wait ++ [w] }).issue c

/-- A maintenance command to a hop index. -/
def State.maintCmd (s : State) (c h opc kind : Nat) (payload : List Byte) : State := s.enqueue c { hop := h, opcode := opc, kind := kind, payload := payload }

/-! Sweep and collection (R188, R240, R242). -/

/-- One COLLECT_SEG for the hops of an end, ascending: HOP the farthest, m the count from it to the nearest (R203, R242). What a node in this
range sends that is not to be collected is not processed. (DEDUCED, log 99) -/
def segCmd (ret : Bool) (hops : List Nat) : List WaitCmd :=
  match hops, hops.getLast? with
  | a :: _, some b => [{ hop := if ret then a else b, opcode := 0x03, ret := ret, payload := leBytes 1 (b - a + 1) }]
  | _, _ => []

/-- The collection commands of a set of hops. -/
def State.collectCmds (s : State) (c : Nat) (hops : List Nat) : List WaitCmd :=
  if s.linkState c = 2 then hops.map (fun h => { hop := h, opcode := 0x02 })
  else segCmd false (hops.filter (fun h => !s.fromRet c h)) ++ segCmd true (hops.filter (fun h => s.fromRet c h))

/-- Hop indexes of the string nodes of a chain, ascending: token slot j is the j-th (R240). -/
def Img.stringHops (i : Img) (c : Nat) : List Nat := (List.range (i.nodes c)).filter (fun h => i.nodeType c h == 2)
/-- Token slot of a hop index, 255 for a block monitor. -/
def Img.slotOf (i : Img) (c h : Nat) : Nat := if i.nodeType c h = 2 then ((i.stringHops c).idxOf h) else 255

/-- No core computes B-tokens: the pair is Split, or is Rejoining before its reload has completed (R28, R436, R438). (DEDUCED, log 33) -/
def State.noB (s : State) : Bool := let m := s.get R.PAIR_STAT_MODE; m == 2 || (m == 3 && !s.pair.reloaded)

/-- One token of a string for a side: the command of the core of that side, or zero where it was not delivered, no core computes it, the backstop
blocks it or the pair is Halted (R28, R241, R429, R436, R442). -/
def State.token (s : State) (n : Nat) (epoch : Word) (sideB : Bool) : Word :=
  if s.pair.blocked || s.get R.PAIR_STAT_MODE == 4 || s.swp.lateTok.getLsbD (b2n sideB) || (sideB && s.noB) then 0#32
  else tokenWord uid64 epoch n sideB (if s.tokenHold n then 0xA5#8 else 0x5A#8)

/-- Token slots 0 to 7 of a chain. -/
def State.tokenSlots (s : State) (c : Nat) (epoch : Word) : List Byte :=
  (List.range 8).flatMap (fun j =>
    match ((s.tab.stringHops c)[j]?).bind (fun h => s.tab.stringAt c h) with
    | some n => leBytes 4 (s.token n epoch false).toNat ++ leBytes 4 (s.token n epoch true).toNat
    | none => leBytes 8 0)

/-- The SWEEP payload of a chain with its token slots (Table LNK-6). -/
def State.sweepPayload (s : State) (c : Nat) (slots : List Byte) : List Byte :=
  leBytes 4 s.swp.epoch.toNat ++ leBytes 2 s.swp.angle
    ++ leBytes 2 (b2n s.tab.schedGate + 2 * b2n s.swp.angleLocked + 4 * b2n (s.linkState c == 2))
    ++ leBytes 4 s.swp.angleFreq.toNat ++ slots

/-- A release of muted nodes takes effect (R194), with its events (R208). -/
def State.sweepUnmute (s : State) (c : Nat) : State :=
  let x := s.chain c
  if !x.unmute then s
  else
    let hops := (List.range (s.tab.nodes c)).filter (fun h => s.hopBit R.LNK_MUTE c h)
    let s1 := (List.range 4).foldl (fun s m => s.put (R.LNK_MUTE c m) 0) (s.setChain c { x with unmute := false })
    forAll hops (fun h s => s.linkEvent c 0x0409 [p1 (h + 1)]) s1

/-- A release of muted nodes takes effect, and a return to RING (R194, R206). -/
def State.sweepStart (s : State) (c : Nat) : State :=
  let s0 := s.sweepUnmute c
  let x := s0.chain c
  if x.toRing then
    let s1 := s0.putAll ([ (R.LNK_STAT_STATE c, 2), (R.LNK_STAT_K_OUT c, s.tab.nodes c), (R.LNK_STAT_K_RET c, 0) ] ++ (List.range 4).map (fun m => (R.LNK_UNRCH c m, 0)))
    (s1.setChain c { x with toRing := false, ringOk := 0, segSweeps := 0 }).linkEvent c 0x0407 [p2 x.segSweeps]
  else s0

/-- The links of a chain for a new sweep: collection of the last one is over, that of `cmds` begins. -/
def ChainX.newSweep (x : ChainX) (both : Bool) (due : List Nat) (sent : List Byte) (cmds : List WaitCmd) : ChainX :=
  { x with
    answered := [], failed := [], reachOut := [], reachRet := [], lateHops := [], tries := [], lastUs := 0, tmoHop := none, hostGo := false
    due := due, sent := sent, segSweeps := if both then x.segSweeps + 1 else x.segSweeps
    tags := x.tags.map (fun t => match t with | .busy w => if w.kind = 0 then .free else .busy w | t => t)
    wait := cmds ++ x.wait.filter (fun w => w.kind != 0) }

/-- SWEEP(N) leaves a chain and its collection begins (R188, R240, R242). -/
def State.sweepChain (s : State) (c : Nat) : State :=
  if !s.active c then s
  else
    let s0 := s.sweepStart c
    let ring := s0.linkState c == 2
    let slots := s0.tokenSlots c s0.swp.epoch
    let s1 := s0.sendAll c false 0x01 false (!ring) (s0.sweepPayload c slots)
    let both := !ring && s0.tab.chainRing c
    let s2 := if both then s1.sendAll c true 0x01 false true (s0.sweepPayload c slots) else s1
    let due := s2.sweepHops c
    (s2.setChain c ((s2.chain c).newSweep both due slots (s2.collectCmds c due))).issue c

/-! Breaks (R201 to R203). -/

/-- What a break leaves of a chain's transactions: all are cancelled; maintenance commands wait again, but for a self-test, whose slot has
passed (R189, R201). (DEDUCED, log 31) -/
def ChainX.cancelled (x : ChainX) : ChainX :=
  let again := x.tags.flatMap (fun t => match t with | .busy w => if w.kind = 0 || w.kind = 5 then [] else [{ w with waited := false }] | _ => [])
  { x with tags := List.replicate 8 .free, wait := again ++ x.wait.filter (fun w => w.kind != 0), ringOk := 0, segSweeps := 0, tmoHop := none, toRing := false }

/-- The ring is lost after `kOut` nodes; `missed`: the nodes beyond have not had SWEEP(N) (R201, R202, R203). -/
def State.breakRing (s : State) (c kOut : Nat) (missed : Bool) : State :=
  if s.linkState c ≠ 2 then s
  else
    let n := s.tab.nodes c
    let k := min kOut n
    let s1 := (s.inc (R.LNK_CNT_BREAK c)).putAll [ (R.LNK_STAT_STATE c, 7), (R.LNK_STAT_K_OUT c, k), (R.LNK_STAT_K_RET c, n - k) ]
    let x := s1.chain c
    let s2 := s1.setChain c x.cancelled
    if !s.swp.open_ then s2
    else
      let s3 := if missed then (s2.sendAll c true 0x01 true true (s2.sweepPayload c x.sent)).linkEvent c 0x040B [p1 (n - k)] else s2
      let rest := x.due.filter (fun h => !x.answered.contains h && !x.failed.contains h)
      (s3.setChain c { s3.chain c with wait := s3.collectCmds c rest ++ (s3.chain c).wait }).issue c

/-- BREAK_DETECTED: the SWEEP has not come to LINKRET, or a break mark or nothing has (R201). -/
def breakDetected (c kOut : Nat) (missed : Bool) (s : State) : State := s.breakRing c kOut missed
def execBreakDetected (c : Fin 64) (kOut : Fin 129) (missed : Bool) (s : State) : Host.Outcome State Fault Refusal :=
  finish s (whenOn s (breakDetected c.val kOut.val missed))

/-! Responses and timeouts (R190 to R192). -/

/-- A response that passes R182 ends a succession of timeouts (R201). -/
def State.heardChain (s : State) (c : Nat) : State := s.setChain c { s.chain c with tmoHop := none }

/-- The command a response answers, and whether its tag is in quarantine, on a chain of n nodes (R189, R191). -/
def ChainX.matching (x : ChainX) (n : Nat) (f : RxFrame) : Option (WaitCmd × Bool) :=
  let own (w : WaitCmd) : Bool := f.rsp && w.opcode == f.opc && numOf n w.hop w.ret == f.hop
  match nth .free x.tags f.tag with
  | .busy w => if own w then some (w, false) else none
  | .quarantine w => if own w then some (w, true) else none
  | .free => none

/-- Hops a collection command covers. -/
def segHops (w : WaitCmd) : List Nat :=
  if w.opcode = 0x03 then (List.range (ofLe w.payload)).map (fun k => if w.ret then w.hop + k else w.hop - k) else [w.hop]

/-- A collection tag is freed once every hop it covers is accounted for; commands that waited go. (DEDUCED, log 30) -/
def State.settleTag (s : State) (c t : Nat) : State :=
  let x := s.chain c
  match nth .free x.tags t with
  | .busy w =>
    let others := (x.setTag t .free).cmds.filter (fun k => k.kind == 0)
    let done (h : Nat) : Bool := !x.due.contains h || x.answered.contains h || x.failed.contains h || others.any (fun k => (segHops k).contains h)
    let s1 := if w.kind = 0 && (segHops w).all done then s.setChain c (x.setTag t .free) else s
    s1.issue c
  | _ => s.issue c

/-- The node of a hop gives nothing on this attempt: a retry while there is time, at most 2 in a sweep; else the hop is lost (R192). -/
def State.retryHop (s : State) (c h : Nat) (room : Bool) : State :=
  let s0 := s.stoPut (blkOff c h 0x32) 2 (satNat 0xFFFF (s.stoGet (blkOff c h 0x32) 2 + 1))
  let x := s0.chain c
  let k := Sparse.get zeroNat x.tries h
  if room && k < 2 && s.swp.open_ then
    let s1 := (s0.inc (R.LNK_CNT_RETRY c)).stoPut (blkOff c h 0x34) 2 (satNat 0xFFFF (s0.stoGet (blkOff c h 0x34) 2 + 1))
    (s1.setChain c { x with tries := Sparse.set zeroNat x.tries h (k + 1) }).enqueue c { hop := h, opcode := 0x02 }
  else s0.setChain c { x with failed := x.failed ++ [h] }

/-! Configuration of nodes (R214, R215, R217, R234). -/

/-- SC_OV_THR and SC_UV_THR as the module writes them (R217). -/
def Img.scWords (i : Img) (c h : Nat) : Nat × Nat := let t := i.scThr c h; ((min 5000 t.1).toNat, (max 500 t.2).toNat)

/-- The configuration writes of a node: first word and values. A block monitor has its filter code and its thresholds, a string node that a used
record names its number, its token timeout, its shunt and its orientation. -/
def Img.cfgWrites (i : Img) (c h : Nat) : List (Nat × List Nat) :=
  if i.nodeType c h = 1 then let t := i.scWords c h; [(0x080, [i.nodeFilter c h]), (0x082, [t.1, t.2])]
  else match i.stringAt c h with
    | some n => [(0x08A, [n, i.strTokenMs n, i.strShuntR n]), (0x080, [4 * b2n (i.strShuntNeg n)])]
    | none => []
/-- The reads that follow them: first word and count. -/
def Img.cfgReads (i : Img) (c h : Nat) : List (Nat × Nat) :=
  if i.nodeType c h = 1 then [(0x082, 2), (0x0C0, 4)] else (i.cfgWrites c h).map (fun w => (w.1, w.2.length))
/-- The words that a read verifies, with the values they are to have. -/
def Img.cfgExpect (i : Img) (c h : Nat) : List (Nat × Nat) :=
  ((i.cfgWrites c h).filter (fun w => i.nodeType c h != 1 || w.1 == 0x082)).flatMap (fun w => (List.range w.2.length).map (fun k => (w.1 + k, nth 0 w.2 k)))

/-- Payloads of WRITE_REG and READ_REG (Table NODE-1). -/
def writePay (w : Nat × List Nat) : List Byte := leBytes 2 w.1 ++ w.2.flatMap (leBytes 2)
def readPay (r : Nat × Nat) : List Byte := leBytes 2 r.1 ++ leBytes 1 r.2

/-- Nominal filter corner of a code, Hz (R214). -/
def nominalCorner (k : Nat) : Nat := match k with | 0 => 16000 | 1 => 4000 | 2 => 1000 | _ => 250
/-- A reported corner lies within ±3 % of the nominal one. -/
def cornerOk (k v : Nat) : Bool := decide (97 * nominalCorner k ≤ 100 * v) && decide (100 * v ≤ 103 * nominalCorner k)

/-- A hop's filter corners as read; one out of tolerance is not used and is logged (R214). -/
def State.takeCorners (s : State) (c h : Nat) (v : List Nat) : State :=
  let x := s.chain c
  let s1 := s.setChain c { x with
    corners := (List.range 4).foldl (fun m k => Sparse.set zeroNat m (h * 4 + k) (if cornerOk k (nth 0 v k) then nth 0 v k else 0)) x.corners }
  forAll ((List.range 4).filter (fun k => !cornerOk k (nth 0 v k))) (fun k s => s.report 0x0509 (srcHop c h) [p2 (0xC0 + k)]) s1

/-- Words of a hop that are refused or not verified are logged; a block monitor's are written again in every sweep (R217, R234). -/
def State.cfgFound (s : State) (c h : Nat) (bad : List Nat) : State :=
  let x := s.chain c
  let again := s.tab.nodeType c h == 1 && !bad.isEmpty
  let s1 := s.setChain c { x with cfgBad := if again then h :: x.cfgBad.erase h else if s.tab.nodeType c h = 1 then x.cfgBad.erase h else x.cfgBad }
  forAll bad (fun w s => s.report 0x0509 (srcHop c h) [p2 w]) s1

/-- What the end of a chain's collection in a sweep starts: the cyclic register read and the retried configuration (R236, R217), where the close
angle is at least 50 µs away. -/
def State.afterCollect (s : State) (c : Nat) (room : Bool) : State :=
  if !s.chainDone c || !room || !s.swp.open_ then s.issue c
  else
    let hops := s.sweepHops c
    let x := s.chain c
    let h := (hops.find? (fun h => decide (x.regNext ≤ h))).or hops.head?
    let s1 := match h with
      | none => s
      | some h =>
        if x.hostTurn || !x.wait.any (fun w => w.kind == 3) then
          (s.setChain c { x with regNext := h + 1, hostTurn := false, hostGo := false }).maintCmd c h 0x40 1 (readPay (0x010, 28))
        else s.setChain c { x with hostTurn := true, hostGo := true }
    (forAll (x.cfgBad.filter (fun h => hops.contains h)) (fun h s =>
      let t := s.tab.scWords c h
      s.maintCmd c h 0x41 4 (writePay (0x082, [t.1, t.2]))) s1).issue c

/-- A transaction to a hop has timed out (R190). In RING the second hop in succession declares a break after `kOut` nodes: answers whether (R201). -/
def State.noteTimeout (s : State) (c h kOut : Nat) : Bool × State :=
  let s1 := s.inc (R.LNK_CNT_TMO c)
  let x := s1.chain c
  let second := match x.tmoHop with | some k => k != h | none => false
  if s.linkState c == 2 && second then (true, s1.breakRing c kOut false) else (false, s1.setChain c { x with tmoHop := some h })

/-- SLEEP leaves a chain once the sleep thresholds have gone to every block of it, answered or not (R222). -/
def State.sleepChain (s : State) (c : Nat) : State :=
  if s.getB R.PWR_STAT_SLEEP_PENDING && (s.chain c).cmds.all (fun w => w.kind != 6) then
    let ring := s.linkState c == 2
    let s1 := s.sendAll c false 0x45 false (!ring) [0xA5#8]
    if !ring && s.tab.chainRing c then s1.sendAll c true 0x45 false true [0xA5#8] else s1
  else s

/-- What a maintenance command that is not answered leaves: a CTR_SET has failed, the sleep of a chain goes on. -/
def State.maintLost (s : State) (c : Nat) (w : WaitCmd) : State :=
  if w.kind = 2 then (match s.tab.stringAt c w.hop with | some n => s.ctrSetDone n none | none => s)
  else if w.kind = 6 then s.sleepChain c
  else s

/-- TRANSACTION_TIMEOUT: the tag goes into quarantine; a collection is retried; a second hop in succession breaks the ring (R189, R190, R192, R201).
`h` names the node of a train. (DEDUCED, log 30) -/
def transactionTimeout (c t h : Nat) (room : Bool) (kOut : Nat) (s : State) : State :=
  match nth .free (s.chain c).tags t with
  | .busy w =>
    let hop := if w.kind = 0 && w.opcode = 0x03 then h else w.hop
    if w.kind = 0 && !((segHops w).contains hop && (s.chain c).due.contains hop) then s
    else
      let (broken, s1) := s.noteTimeout c hop kOut
      if broken then s1
      else
        let s2 := if w.kind = 0 && w.opcode = 0x03 then s1 else s1.setChain c ((s1.chain c).setTag t (.quarantine w))
        if w.kind = 0 then ((s2.retryHop c hop room).settleTag c t).afterCollect c room else s2.maintLost c w
  | _ => s
def execTransactionTimeout (c : Fin 64) (tag : Fin 8) (h : Fin 128) (found : TmoFinding) (s : State) : Host.Outcome State Fault Refusal :=
  finish s (whenOn s (transactionTimeout c.val tag.val h.val found.room found.kOut.val))

/-- TAG_QUARANTINE_END: the tag is free again, and a waiting command goes (R189). -/
def tagQuarantineEnd (c t : Nat) (s : State) : State :=
  let x := s.chain c
  match nth .free x.tags t with
  | .quarantine _ => (s.setChain c (x.setTag t .free)).issue c
  | _ => s
def execTagQuarantineEnd (c : Fin 64) (tag : Fin 8) (s : State) : Host.Outcome State Fault Refusal := finish s (whenOn s (tagQuarantineEnd c.val tag.val))

/-- A probe or a result read as one transaction under a free tag (R245): the command goes, and its answer frees the tag or its timeout puts it into
quarantine. (DEDUCED, log 32) -/
def State.probeCmd (s : State) (c t h opc : Nat) (payload : List Byte) (answered : Bool) (kOut : Nat) : State :=
  let w : WaitCmd := { hop := h, opcode := opc, ret := s.fromRet c h, kind := 1, payload := payload }
  let s1 := s.sendCmd c t w
  if answered then s1.heardChain c
  else
    let (broken, s2) := s1.noteTimeout c h kOut
    if broken then s2 else s2.setChain c ((s2.chain c).setTag t (.quarantine w))

/-! Muting (R194). -/

/-- At the close the count of silent sweeps of every collected hop is renewed. (DEDUCED, log 32) -/
def State.countSilent (s : State) (c : Nat) : State :=
  let x := s.chain c
  let far (h : Nat) : Bool := x.answered.any (fun k => if s.fromRet c h then decide (k < h) && s.fromRet c k else decide (h < k) && !s.fromRet c k)
  let m := x.due.foldl (fun m h => Sparse.set zeroNat m h (if !x.answered.contains h && far h then Sparse.get zeroNat x.silent h + 1 else 0)) x.silent
  s.setChain c { x with silent := m }

/-- NODE_MUTE: a node silent in 8 consecutive sweeps while a farther one answered. (DEDUCED, log 32) -/
def nodeMute (c h : Nat) (s : State) : State :=
  let x := s.chain c
  if Sparse.get zeroNat x.silent h < 8 || s.hopBit R.LNK_MUTE c h then s
  else
    ((s.putHop R.LNK_MUTE c h true).setChain c { x with silent := Sparse.set zeroNat x.silent h 0, probeOk := Sparse.set zeroNat x.probeOk h 0 }).linkEvent c 0x0408 [p1 (h + 1)]
def execNodeMute (c : Fin 64) (h : Fin 128) (s : State) : Host.Outcome State Fault Refusal := finish s (whenOn s (nodeMute c.val h.val))

/-- MUTE_PROBE: one COLLECT goes to a muted node after the chain's last response, and whether a valid response came; the fourth in a row unmutes
it, from the next sweep (R194, R245). (DEDUCED, log 32) -/
def muteProbe (c h : Nat) (answered : Bool) (kOut : Nat) (s : State) : State :=
  if !s.hopBit R.LNK_MUTE c h || !s.active c || !s.swp.open_ || !s.chainDone c then s
  else match (s.chain c).freeTag with
    | none => s
    | some t =>
      let s1 := s.probeCmd c t h 0x02 [] answered kOut
      let x := s1.chain c
      let n := if answered then Sparse.get zeroNat x.probeOk h + 1 else 0
      if n < 4 then s1.setChain c { x with probeOk := Sparse.set zeroNat x.probeOk h n }
      else ((s1.putHop R.LNK_MUTE c h false).setChain c { x with probeOk := Sparse.set zeroNat x.probeOk h 0 }).linkEvent c 0x0409 [p1 (h + 1)]
def execMuteProbe (c : Fin 64) (h : Fin 128) (missed : Option (Fin 129)) (s : State) : Host.Outcome State Fault Refusal :=
  finish s (whenOn s (muteProbe c.val h.val missed.isNone (missed.getD 0).val))

/-- UNMUTE_ALL: from the next sweep. -/
def unmuteAll (c : Nat) (s : State) : State := s.setChain c { s.chain c with unmute := true }

/-! Wake and enumeration (R195 to R199). -/

/-- A chain enters ENUM, its maps clear. -/
def State.toEnum (s : State) (c : Nat) : State :=
  let s1 := s.putAll ([ (R.LNK_STAT_STATE c, 1), (R.LNK_STAT_ENUM_CAUSE c, 0), (R.LNK_STAT_FAULT_HOP c, 0) ]
    ++ (List.range 4).flatMap (fun m => [ (R.LNK_MUTE c m, 0), (R.LNK_UNRCH c m, 0), (R.LNK_LATE c m, 0) ]))
  s1.setChain c { enumFailed := (s.chain c).enumFailed }

/-- ENUM with HOP 0xFE and a number leaves a port under a tag (R196). -/
def State.sendEnum (s : State) (c t : Nat) (ret : Bool) (k : Nat) : State := s.sendBytes c ret (frame 0x04 0xFE t false false true [BitVec.ofNat 8 k])

/-- ENUMERATION: the chain is woken, its numbers cleared, and the first probe leaves (R196). -/
def enumeration (c : Nat) (s : State) : State :=
  let st := s.linkState c
  if !s.img.loaded || !s.tab.chainOn c || s.held1 || s.stage = 0 || !(st = 0 || st = 1) then s
  else
    let ring := s.tab.chainRing c
    let s1 := (s.toEnum c).emit (.tone c 0)
    let s2 := if ring then s1.emit (.tone c 1) else s1
    let s3 := s2.sendAll c false 0x04 false true []
    let s4 := if ring then s3.sendAll c true 0x04 false true [] else s3
    s4.sendEnum c 0 false 1
def execEnumeration (c : Fin 64) (s : State) : Host.Outcome State Fault Refusal := finish s (whenOn s (enumeration c.val))

/-- A compensation from a round trip in 2.5 ns: 160 µs less half of what exceeds 2.24 µs, to the nearest 10 ns (R187). -/
def compOf (rt : Nat) : Nat := (128000 + 896 - rt + 4) / 8

/-- The identity a node reports, with the round trip of its step (R181, R187). -/
structure Ident where
  typ : Nat := 0
  rev : Nat := 0
  uid : BitVec 64 := 0#64
  master : BitVec 64 := 0#64
  rt : Nat := 0
  deriving DecidableEq, Repr

/-- The node that a reply to an ENUM under a tag shows: it passes R182 and carries the opcode ENUM, HOP 0xFE and the tag (R196). -/
def identOf (t : Nat) (reply : Option (List (BitVec 10))) (rt : Nat) : Option Ident :=
  match reply.bind rxFrame with
  | some f =>
    if f.rsp && f.opc == 4 && f.hop == 0xFE && f.tag == t && f.payload.length == 20 then
      let v (o n : Nat) : Nat := ofLe ((f.payload.drop o).take n)
      some ⟨v 0 1, v 1 1, BitVec.ofNat 64 (v 4 8), BitVec.ofNat 64 (v 12 8), rt⟩
    else none
  | none => none

/-- How a probe ends (R196). -/
inductive ProbeEnd where
  | closed
  | opened
  | over
  deriving DecidableEq, Repr

/-- A probe from its step k on, with at most `fuel` nodes to come: the nodes it reaches, and how it ends (R196). Every step uses tag 0. -/
def probe : Nat → List ProbeStep → List Ident × ProbeEnd
  | 0, _ => ([], .over)
  | _, [] => ([], .opened)
  | fuel + 1, p :: ps =>
    if p.arrived then ([], .closed)
    else match identOf 0 p.reply p.rt.toNat with
      | none => ([], .opened)
      | some i => let r := probe fuel ps; (i :: r.1, r.2)

/-- What the probes of a chain find (R196): RET is probed with a ring only. -/
structure Probed where
  outs : List Ident := []
  endOut : ProbeEnd := .opened
  rets : List Ident := []
  endRet : ProbeEnd := .opened
  deriving DecidableEq, Repr

def Img.probed (i : Img) (c : Nat) (r : EnumResult) : Probed :=
  let o := probe 129 r.outs
  let t := if i.chainRing c then probe 129 r.rets else ([], .opened)
  { outs := o.1, endOut := if i.chainRing c || o.2 == .over then o.2 else .opened, rets := t.1, endRet := t.2 }
/-- The ring is closed. -/
def Probed.closed (p : Probed) : Bool := p.endOut == .closed
/-- K_OUT and K_RET of an enumeration. -/
def Probed.kOut (p : Probed) : Nat := p.outs.length
def Probed.kRet (p : Probed) : Nat := if p.closed then 0 else p.rets.length

/-- The nodes an enumeration reached on a chain of n, as hop index and identity; on a closed ring those from OUT. -/
def Probed.reached (p : Probed) (n : Nat) : List (Nat × Ident) :=
  (List.zip (List.range p.outs.length) p.outs)
    ++ (if p.closed then [] else (List.zip ((List.range p.rets.length).map (fun k => n - 1 - k)) p.rets).reverse)

/-- State, cause and hop of Table LNK-8. (DEDUCED, log 34) -/
def Img.enumOutcome (i : Img) (c : Nat) (p : Probed) : Nat × Nat × Nat :=
  let n := i.nodes c
  let ring := i.chainRing c
  let hops := p.reached n
  if p.endOut == .over || p.endRet == .over || decide (n < p.kOut) || decide (n < p.kOut + p.kRet) then (6, 1, 0)
  else if p.closed && p.kOut < n then (6, 2, 0)
  else match hops.find? (fun q => q.2.typ != i.nodeType c q.1) with
    | some q => (6, 3, q.1 + 1)
    | none =>
      match (if i.chainIdCheck c then hops.find? (fun q => q.2.uid.toNat != i.nodeUid c q.1) else none) with
      | some q => (6, 4, q.1 + 1)
      | none => if p.closed then (2, 0, 0) else if !ring && p.kOut = n then (3, 0, 0) else if ring && p.kOut + p.kRet = n then (4, 0, 0) else (5, 0, 0)

/-- A node's record and compensation, and ASSIGN to it under a tag (R187, R197). (DEDUCED, log 34) -/
def State.assign (s : State) (c h : Nat) (i : Ident) (compOut compRet tag : Nat) : State :=
  let s1 := ((s.stoPut (blkOff c h 0) 1 i.typ).stoPut (blkOff c h 1) 1 i.rev).stoPutBytes (blkOff c h 4) (leBytes 8 i.uid.toNat)
  let s2 := s1.putAll [ (R.LNK_HOP_COMP_OUT c h, compOut), (R.LNK_HOP_COMP_RET c h, compRet) ]
  s2.sendCmd c tag { hop := h, opcode := 0x05, ret := s2.fromRet c h
                     payload := leBytes 2 compOut ++ leBytes 2 compRet ++ leBytes 1 (s.tab.slotOf c h) ++ leBytes 3 0 ++ leBytes 8 uid64.toNat }

/-- The configuration of a node at enumeration: its writes and reads leave, and what they meet is judged (R214, R215, R217, R234). (DEDUCED, log 34) -/
def State.configure (s : State) (c h tag : Nat) (g : NodeCfg) : State :=
  let ret := s.fromRet c h
  let s1 := forAll (s.tab.cfgWrites c h) (fun w s => s.sendCmd c tag { hop := h, opcode := 0x41, ret := ret, payload := writePay w }) s
  let s2 := forAll (s.tab.cfgReads c h) (fun r s => s.sendCmd c tag { hop := h, opcode := 0x40, ret := ret, payload := readPay r }) s1
  let got (w : Nat) : Option Nat := (g.words.find? (fun p => p.1.toNat == w)).map (fun p => p.2.toNat)
  let bad := ((s.tab.cfgExpect c h).filter (fun e => got e.1 != some e.2 || g.refused.any (fun r => r.1.toNat == e.1))).map Prod.fst
  let s3 := forAll g.refused (fun r s => s.report 0x0507 (srcHop c h) [p1 0x41, p1 r.2.toNat, p2 r.1.toNat]) s2
  let s4 := if s.tab.nodeType c h = 1 then s3.takeCorners c h ((List.range 4).map (fun k => (got (0xC0 + k)).getD 0)) else s3
  s4.cfgFound c h bad

/-- The compensations of a hop from the round trips of the probes; 0 where an end has not measured it (R187). -/
def Probed.comps (p : Probed) (n h : Nat) : Nat × Nat :=
  ((p.outs[h]?).elim 0 (fun i => compOf i.rt), (p.rets[n - 1 - h]?).elim 0 (fun i => compOf i.rt))

/-- ENUMERATION_DONE: the steps of the probes as they went out, the outcome, and what follows (R196 to R198, R214, R217, R234). -/
def enumerationDone (c : Nat) (r : EnumResult) (s : State) : State :=
  if s.linkState c ≠ 1 then s
  else
    let n := s.tab.nodes c
    let p := s.tab.probed c r
    let (st, cause, hop) := s.tab.enumOutcome c p
    let steps (l : List Ident) : List Nat := (List.range (min 129 (l.length + 1))).map (fun k => k + 1)
    let s0 := forAll ((steps p.outs).drop 1) (fun k s => s.sendEnum c 0 false k) s
    let s1 := if s.tab.chainRing c then forAll (steps p.rets) (fun k s => s.sendEnum c 0 true k) s0 else s0
    let hops := p.reached n
    let mism := if s.tab.chainIdCheck c then [] else hops.filter (fun q => q.2.uid.toNat != s.tab.nodeUid c q.1)
    let changed := (hops.filter (fun q => q.2.master != uid64)).length
    let s2 := s1.putAll [ (R.LNK_STAT_ENUM_CAUSE c, cause), (R.LNK_STAT_FAULT_HOP c, hop), (R.LNK_STAT_K_OUT c, satNat 255 p.kOut), (R.LNK_STAT_K_RET c, satNat 255 p.kRet),
      (R.LNK_MASTER_ID_MISMATCH c, satNat 255 mism.length), (R.LNK_MASTER_MASTER_CHANGED c, satNat 255 changed), (R.LNK_TRANSIT_RING_T c, if p.closed then r.tRing.toNat else 0) ]
    if st = 6 then ((s2.put (R.LNK_STAT_STATE c) 6).setChain c { s2.chain c with enumFailed := true }).linkEvent c 0x0402 [p1 cause, p1 hop]
    else
      let unr := (List.range n).filter (fun h => decide (p.kOut ≤ h) && decide (h + p.kRet < n))
      let s3 := forAll unr (fun h s => s.putHop R.LNK_UNRCH c h true) s2
      let s4 := forAll mism (fun q s => s.linkEvent c 0x0403 [p1 (q.1 + 1)]) s3
      let s5 := if changed = 0 then s4 else s4.linkEvent c 0x0404 [p1 (satNat 255 changed)]
      let s6 := forAll (List.zip (List.range hops.length) hops) (fun q s =>
        let m := p.comps n q.2.1
        (s.assign c q.2.1 q.2.2 m.1 m.2 (q.1 % 8)).configure c q.2.1 (q.1 % 8) ((r.cfg.find? (fun g => g.hop.val == q.2.1)).getD {})) s5
      let s7 := forAll (unr.filter (fun h => s.tab.nodeType c h == 1)) (fun h s => s.setChain c { s.chain c with cfgBad := (s.chain c).cfgBad ++ [h] }) s6
      let s8 := (s7.put (R.LNK_STAT_STATE c) st).linkEvent c 0x0401 [p1 st, p1 p.kOut, p1 p.kRet]
      if st = 5 && !unr.isEmpty then s8.linkEvent c 0x0406 [p1 (unr.headD 0 + 1), p1 unr.length] else s8
def execEnumerationDone (c : Fin 64) (r : EnumResult) (s : State) : Host.Outcome State Fault Refusal := finish s (whenOn s (enumerationDone c.val r))

/-- REENUM: accepted while the chain's strings are proven open, else refused with the first that is not (R199). -/
def reenum (c : Nat) (s : State) : State :=
  if s.linkState c = 0 then s
  else if s.chainProven c then s.setChain c { s.chain c with reenum := true }
  else s.linkEvent c 0x040A [p2 (((s.tab.strings.filter (fun n => s.tab.strChain n == c)).find? (fun n => !s.strProven n)).getD 0)]

/-! Recovery (R200 to R206). -/

/-- K_OUT and K_RET of the sweep: hops reached from each end by a response in it, or, muted and beyond every response, by the last mute probe
(R200). (DEDUCED, log 33) -/
def State.reach (s : State) (c : Nat) : Nat × Nat :=
  let n := s.tab.nodes c
  let x := s.chain c
  let muted := (List.range n).filter (fun h => s.hopBit R.LNK_MUTE c h && decide (0 < Sparse.get zeroNat x.probeOk h))
  let ret := x.reachRet ++ muted.filter (fun h => s.fromRet c h)
  let lo := ret.foldl min n
  let out := (x.reachOut ++ muted.filter (fun h => !s.fromRet c h)).filter (fun h => decide (h < lo))
  (out.foldl (fun m h => max m (h + 1)) 0, if ret.isEmpty then 0 else n - lo)

/-- The transitions of Table LNK-9 after a collection. (DEDUCED, log 33) -/
def State.judgeChain (s : State) (c : Nat) : State :=
  let st := s.linkState c
  if !(st = 3 || st = 4 || st = 5 || st = 7) || (s.chain c).due.isEmpty then s
  else
    let n := s.tab.nodes c
    let (ko, kr) := s.reach c
    let unr := (List.range n).filter (fun h => decide (ko ≤ h) && decide (h + kr < n))
    let new := unr.filter (fun h => !s.hopBit R.LNK_UNRCH c h)
    let s1 := (s.put (R.LNK_STAT_K_OUT c) ko).put (R.LNK_STAT_K_RET c) kr
    let s2 := forAll (List.range n) (fun h s => s.putHop R.LNK_UNRCH c h (unr.contains h)) s1
    let s3 := if st = 7 then (s2.put (R.LNK_STAT_STATE c) (if unr.isEmpty then 4 else 5)).linkEvent c 0x0405 [p1 ko, p1 kr, p2 s.swp.epoch.toNat]
      else if new.isEmpty then s2 else s2.put (R.LNK_STAT_STATE c) 5
    if new.isEmpty then s3 else s3.linkEvent c 0x0406 [p1 (new.headD 0 + 1), p1 new.length]

/-- SEGMENT_COLLECTION_DONE: RECOVERING ends (R200). (DEDUCED, log 33) -/
def segmentCollectionDone (c : Nat) (s : State) : State := if s.linkState c = 7 then s.judgeChain c else s
def execSegmentCollectionDone (c : Fin 64) (s : State) : Host.Outcome State Fault Refusal := finish s (whenOn s (segmentCollectionDone c.val))

/-- The node that a gap probe finds is restored: its end reaches it, it is assigned and configured, and is collected from the next sweep (R205). (DEDUCED, log 34) -/
def State.restoreHop (s : State) (c t h : Nat) (ret : Bool) (i : Ident) : State :=
  let n := s.tab.nodes c
  let ko := s.get (R.LNK_STAT_K_OUT c)
  let kr := s.get (R.LNK_STAT_K_RET c)
  let s1 := if ret then s.put (R.LNK_STAT_K_RET c) (kr + 1) else s.put (R.LNK_STAT_K_OUT c) (ko + 1)
  let o := if ret then s.get (R.LNK_HOP_COMP_OUT c h) else compOf i.rt
  let r := if ret then compOf i.rt else s.get (R.LNK_HOP_COMP_RET c h)
  let s2 := ((s1.putHop R.LNK_UNRCH c h false).assign c h i o r t).linkEvent c 0x0409 [p1 (h + 1)]
  let s3 := if ko + kr + 1 = n then s2.put (R.LNK_STAT_STATE c) (if s.tab.chainRing c then 4 else 3) else s2
  forAll (s.tab.cfgWrites c h) (fun w s => s.maintCmd c h 0x41 4 (writePay w)) s3

/-- GAP_PROBE: after collection the number the next node would hold from an end is probed, from RET with a ring only; a node that replies and matches is
restored (R59, R205, R245). -/
def gapProbe (c : Nat) (ret : Bool) (reply : Option (List (BitVec 10))) (rt : Nat) (s : State) : State :=
  let n := s.tab.nodes c
  let ko := s.get (R.LNK_STAT_K_OUT c)
  let kr := s.get (R.LNK_STAT_K_RET c)
  if s.linkState c ≠ 5 || n ≤ ko + kr || (ret && !s.tab.chainRing c) || !s.maintOk c then s
  else match (s.chain c).freeTag with
    | none => s
    | some t =>
      let h := if ret then n - 1 - kr else ko
      let s0 := s.sendEnum c t ret (numOf n h ret)
      match identOf t reply rt with
      | none => s0
      | some i =>
        if i.typ != s.tab.nodeType c h then s0.linkEvent c 0x0402 [p1 3, p1 (h + 1)]
        else if s.tab.chainIdCheck c && i.uid.toNat != s.tab.nodeUid c h then s0.linkEvent c 0x0402 [p1 4, p1 (h + 1)]
        else s0.restoreHop c t h ret i
def execGapProbe (c : Fin 64) (ret : Bool) (reply : Option (List (BitVec 10))) (rt : Word) (s : State) : Host.Outcome State Fault Refusal :=
  finish s (whenOn s (gapProbe c.val ret reply rt.toNat))

/-- RING_PROBE: ECHO leaves LINKOUT; 16 good probes in a row return the chain to RING from the next sweep, unless HOLD_SEG (R206). -/
def ringProbe (c : Nat) (good : Bool) (s : State) : State :=
  let st := s.linkState c
  if !(st = 4 || st = 5) || !s.tab.chainRing c || !s.maintOk c then s
  else
    let x := s.chain c
    let n := if good then x.ringOk + 1 else 0
    (s.sendAll c false 0x06 false true []).setChain c { x with ringOk := n, toRing := decide (16 ≤ n) && !s.getB (R.LNK_CTRL_HOLD_SEG c) }
def execRingProbe (c : Fin 64) (good : Bool) (s : State) : Host.Outcome State Fault Refusal := finish s (whenOn s (ringProbe c.val good))

end Sys2Proof.Machine
end

