-- ==== Sys2Proof/Machine/Profile.lean ====
section
/-! DEFINITION. Chemistry profiles (section 0x06): their fields and tables, interpolated bilinearly in SoC and temperature (R308, R309). -/

namespace Sys2Proof.Machine

def fr (n : Int) (d : Nat) : Word := Fp.ofRat n d
def one : Word := 0x3F800000#32

/-- Fields of the profile section header (Table EST-2). -/
def Img.ph (i : Img) (o : Nat) : Word := i.f32 6 o
/-- Fields of a profile record (Table EST-3). -/
def Img.pf (i : Img) (p o : Nat) : Word := i.f32 6 (64 + 4096 * p + o)
/-- Fields of its core-temperature block (Table RIP-5). -/
def Img.pc (i : Img) (p o : Nat) : Word := i.pf p (0xE40 + o)

/-- a + x (b − a); at the end of a segment its value as it stands (R309). -/
def lerp (a b x : Word) : Word := if x = one then b else Fp.fma x (Fp.sub b a) a

/-- Segment and place in it. -/
structure Pos where
  k : Nat
  x : Word
  deriving DecidableEq, Repr

/-- The place of a SoC among n equal segments; the ends hold beyond 0 and 1. -/
def socPos (soc : Word) (n : Nat) : Pos :=
  if !Fp.lt 0#32 soc then ⟨0, 0#32⟩
  else if !Fp.lt soc one then ⟨n - 1, one⟩
  else
    let y := Fp.mul soc (Fp.ofNat n)
    let q := Fp.toRat y
    let k := min (n - 1) ((q.1 / (q.2 : Int)).toNat)
    ⟨k, Fp.sub y (Fp.ofNat k)⟩

/-- Temperature breakpoints of a profile. -/
def Img.tBreak (i : Img) (p k : Nat) : Word := i.pf p (0x10 + 4 * k)

/-- The place of a temperature among the breakpoints; the ends hold beyond them. -/
def Img.tPos (i : Img) (p : Nat) (t : Word) : Pos :=
  if !Fp.lt (i.tBreak p 0) t then ⟨0, 0#32⟩
  else if !Fp.lt t (i.tBreak p 7) then ⟨6, one⟩
  else
    let k := ((List.range 7).find? (fun k => Fp.lt t (i.tBreak p (k + 1)))).getD 6
    ⟨k, Fp.div (Fp.sub t (i.tBreak p k)) (Fp.sub (i.tBreak p (k + 1)) (i.tBreak p k))⟩

/-- A table by temperature and SoC, at a place. -/
def bilinear (tab : Nat → Nat → Word) (t s : Pos) : Word :=
  lerp (lerp (tab t.k s.k) (tab t.k (s.k + 1)) s.x) (lerp (tab (t.k + 1) s.k) (tab (t.k + 1) (s.k + 1)) s.x) t.x

/-- Its slope in SoC over the segment of the place, for n segments. -/
def slope (tab : Nat → Nat → Word) (t s : Pos) (n : Nat) : Word :=
  Fp.mul (Fp.ofNat n) (lerp (Fp.sub (tab t.k (s.k + 1)) (tab t.k s.k)) (Fp.sub (tab (t.k + 1) (s.k + 1)) (tab (t.k + 1) s.k)) t.x)

def Img.ocvDis (i : Img) (p t s : Nat) : Word := i.pf p (0x060 + (33 * t + s) * 4)
def Img.ocvChg (i : Img) (p t s : Nat) : Word := i.pf p (0x480 + (33 * t + s) * 4)
/-- A parameter: 0 R0 mΩ, 1 Ra mΩ, 2 τa s, 3 Rb mΩ, 4 τb s. -/
def Img.par (i : Img) (p k t s : Nat) : Word := i.pf p (0x8A0 + ((9 * t + s) * 5 + k) * 4)

/-- What the profile gives at a SoC and a temperature: M, H, their slopes, and the five parameters. -/
structure ProfAt where
  m : Word
  h : Word
  dm : Word
  dh : Word
  r0 : Word
  ra : Word
  ta : Word
  rb : Word
  tb : Word
  deriving DecidableEq, Repr

def half : Word := fr 1 2

def Img.profAt (i : Img) (p : Nat) (soc t : Word) : ProfAt :=
  let tp := i.tPos p t
  let s := socPos soc 32
  let q := socPos soc 8
  let c := bilinear (i.ocvChg p) tp s
  let d := bilinear (i.ocvDis p) tp s
  let dc := slope (i.ocvChg p) tp s 32
  let dd := slope (i.ocvDis p) tp s 32
  { m := Fp.mul half (Fp.add c d), h := Fp.mul half (Fp.sub c d), dm := Fp.mul half (Fp.add dc dd), dh := Fp.mul half (Fp.sub dc dd)
    r0 := bilinear (i.par p 0) tp q, ra := bilinear (i.par p 1) tp q, ta := bilinear (i.par p 2) tp q
    rb := bilinear (i.par p 3) tp q, tb := bilinear (i.par p 4) tp q }

/-- A resistance of the profile in Ω. -/
def ohm (r : Word) : Word := Fp.mul r (fr 1 1000)

end Sys2Proof.Machine
end

