-- ==== Sys2Proof/Machine/CellRec.lean ====
section
/-! DEFINITION. The cell state record (Table STO-7) and what the estimator keeps of a cell beside it. -/

namespace Sys2Proof.Machine

/-! The cell and its record (R292). -/

/-- The place of a cell index: chain, hop index, input. -/
def cellChain (i : Nat) : Nat := i / 3072
def cellHop (i : Nat) : Nat := i % 3072 / 24
def cellIn (i : Nat) : Nat := i % 24
/-- A cell index is assigned (R10). -/
def Img.assigned (i : Img) (cell : Nat) : Bool :=
  i.chainOn (cellChain cell) && decide (cellHop cell < i.nodes (cellChain cell)) && i.nodeType (cellChain cell) (cellHop cell) == 1
def Img.cellProf (i : Img) (cell : Nat) : Nat := i.nodeProfile (cellChain cell) (cellHop cell)
/-- The string of a cell; none carries NO_STRING (R305). -/
def Img.cellStr (i : Img) (cell : Nat) : Option Nat := let n := i.nodeString (cellChain cell) (cellHop cell); if n = 0xFFFF then none else some n

/-- The fields of a state record that the update works on. -/
structure CellRec where
  soc : Word
  va : Word
  vb : Word
  h : Word
  p : List Word
  cap : Word
  scale : Word
  tc : Word
  sg : Word
  z : List Word
  acc : List Word
  resid : Word
  rms : Word
  deriving DecidableEq, Repr

def State.cellRec (s : State) (cell : Nat) : CellRec :=
  let f (o : Nat) : Word := s.cellF cell o
  { soc := f 0, va := f 4, vb := f 8, h := f 12, p := (List.range 10).map (fun k => f (0x10 + 4 * k)), cap := f 0x38, scale := f 0x3C
    tc := f 0x40, sg := f 0x44, z := (List.range 4).map (fun k => f (0x48 + 4 * k)), acc := (List.range 4).map (fun k => f (0x58 + 4 * k))
    resid := f 0x70, rms := f 0x74 }

/-- Every field of a record, the epoch last (R311); a value that is not finite leaves the last valid one (R302). -/
def State.writeCell (s : State) (cell : Nat) (r : CellRec) (epoch flags : Nat) : State :=
  let ws := [(0, r.soc), (4, r.va), (8, r.vb), (12, r.h), (0x38, r.cap), (0x3C, r.scale), (0x40, r.tc), (0x44, r.sg), (0x70, r.resid), (0x74, r.rms)]
    ++ (List.range 10).map (fun k => (0x10 + 4 * k, nth 0#32 r.p k))
    ++ (List.range 4).map (fun k => (0x48 + 4 * k, nth 0#32 r.z k)) ++ (List.range 4).map (fun k => (0x58 + 4 * k, nth 0#32 r.acc k))
  let s1 := forAll ws (fun w s => s.setCellF cell w.1 w.2) s
  (s1.stoPut (cellOff cell 0x6C) 4 flags).stoPut (cellOff cell 0x68) 4 epoch

/-- A cell's own estimator state. -/
def blankCell (_ : Nat) : CellX := {}
def State.cell (s : State) (i : Nat) : CellX := Sparse.get blankCell s.est.cells i
def State.setCell (s : State) (i : Nat) (x : CellX) : State := { s with est := { s.est with cells := Sparse.set blankCell s.est.cells i x } }

def sq (a : Word) : Word := Fp.mul a a
/-- The covariance of a cell without state. -/
def diagP (sigma sv0 : Word) : List Word := [sq sigma, 0#32, 0#32, 0#32, sq sv0, 0#32, 0#32, sq sv0, 0#32, fr 1 4]

/-- The flags word of a cell's record at a cullet age (Table STO-7). -/
def Img.cellWord (i : Img) (cell age : Nat) : Nat :=
  let str := i.cellStr cell
  i.cellProf cell % 16 + 16 * str.getD 0 + 8192 * age + 2 ^ 21 + (if str.isNone then 2 ^ 22 else 0)

/-- The record of a cell without state: no temperature known. (DEDUCED, log 52) -/
def bareCell : CellRec :=
  { soc := 0#32, va := 0#32, vb := 0#32, h := 0#32, p := List.replicate 10 0#32, cap := 0#32, scale := 0#32, tc := 0#32,
    sg := fr 100 1, z := List.replicate 4 0#32, acc := List.replicate 4 0#32, resid := 0#32, rms := 0#32 }

/-- Cullet age of a cell's point in the last closed epoch. -/
def State.cellAge (s : State) (cell : Nat) : Nat :=
  bitsOf (s.smp (s.lastSet (regionOf (cellChain cell))) (pointOf (cellChain cell) (cellHop cell) (cellIn cell) % 32768)).toNat 40 8

/-- A cell is without state, as after a failed restore (R307, R325). -/
def State.bareStart (s : State) (cell : Nat) : State :=
  (s.writeCell cell bareCell 0 (s.tab.cellWord cell (s.cellAge cell))).setCell cell { s.cell cell with
    init := false, gated := 0, skipGate := false, tUsed := false, winStart := none, z2 := false, z4 := false, since2 := 255 }

end Sys2Proof.Machine
end

