-- ==== Sys2Proof/Machine/Diag.lean ====
section
/-! DEFINITION. Snapshots, start-up and background tests, repair and the debug port (chapter 21, and R288 to R290 of chapter 09). -/

namespace Sys2Proof.Machine

/-! Snapshots (R83, R84, R554 to R558). -/

/-- SNAP_IN: a rising edge at the land, `sinceUs` after the last accepted trigger; ignored within 1 ms of it (R83). -/
def snapIn (sinceUs : Nat) (s : State) : State := if s.diag.lastTrig.isSome && decide (sinceUs < 1000) then s else s.snap 1
def execSnapIn (sinceUs : BitVec 16) (s : State) : Host.Outcome State Fault Refusal := finish s (whenOn s (snapIn sinceUs.toNat))

/-- TRIG: a host trigger (Table DIAG-1). -/
def trigSnap (s : State) : State := s.snap 2

/-- SNAP_OUT_END: 10 µs after the last accepted trigger SNAP_OUT falls (R84). -/
def snapOutEnd (s : State) : State := { s with diag := { s.diag with snapOut := false } }
def execSnapOutEnd (s : State) : Host.Outcome State Fault Refusal := finish s (whenOn s snapOutEnd)

/-- ACK_FIRST: the first-capture record is cleared (R556). -/
def ackFirst (s : State) : State :=
  s.putAll [(R.DIAG_SNAP_STAT_FIRST_VALID, 0), (R.DIAG_SNAP_FIRST_SRC, 0), (R.DIAG_SNAP_FIRST_EP, 0), (R.DIAG_SNAP_FIRST_T, 0)]

/-- REL: pinned slots of a mask are released (R558). -/
def relSlots (mask : Nat) (s : State) : State :=
  let keep := s.get R.STO_SLOTSTAT_PINNED
  ({ s with diag := { s.diag with pins := s.diag.pins.filter (fun p => !mask.testBit p.2) } }).put R.STO_SLOTSTAT_PINNED (keep - (keep &&& mask))

/-! Spares and banks (R288 to R290, R566). -/

/-- The unit of a bank is of the size the 512 KiB spares replace: the state sets (R288). -/
def largeUnit (u : Nat) : Bool := decide (16 ≤ u) && decide (u < 24)

/-- The region whose spare a bank borrows (R288, R560). -/
def bankRegion (u b : Nat) : Nat := if u < 16 then u / 2 else if u < 24 then u - 16 else b

/-- The spare of a region and size is in permanent use. -/
def State.spareUsed (s : State) (large : Bool) (r : Nat) : Bool := s.bit (if large then R.STO_STAT_SPARE_L_USED else R.STO_STAT_SPARE_S_USED) r
def State.takeSpare (s : State) (large : Bool) (r : Nat) : State := s.putBit (if large then R.STO_STAT_SPARE_L_USED else R.STO_STAT_SPARE_S_USED) r true

/-- A bank has failed its test: its spare takes its place for good, or its region fails (R289, R566). -/
def State.bankFails (s : State) (u b : Nat) : State :=
  let large := largeUnit u
  let r := bankRegion u b
  if s.spareUsed large r then
    (s.report 0x0709 chip [p1 u, p1 b]).regionFault r 2
  else
    ((s.takeSpare large r).report 0x0708 chip [p1 u, p1 b]).repaired

/-! Scratchpad windows (R561, R562). -/

/-- A window is replaced permanently, and lending ends (R562). -/
def State.replaceWindow (s : State) (servitor : Bool) (w : Nat) : State :=
  let s1 := s.putB (if servitor then R.DIAG_REP_STAT_WIN_S else R.DIAG_REP_STAT_WIN_G) true
  ((s1.putB R.DIAG_BG_STAT_LENDING_OFF true).repaired).report 0x1203 chip [p1 (b2n servitor), p1 w]

/-- A core has no usable scratchpad window left: stage 1 is held (R562). -/
def State.windowLost (s : State) (servitor : Bool) : State :=
  ({ s with diag := { s.diag with stage1Held := true } }).report 0x120B chip [p1 (b2n servitor)]

/-- Windows of one core that fail at start-up (R562). -/
def State.startWindows (s : State) (servitor : Bool) (wins : List Nat) (spareBad : Bool) : State :=
  let used := s.getB (if servitor then R.DIAG_REP_STAT_WIN_S else R.DIAG_REP_STAT_WIN_G)
  match wins with
  | [] => s
  | w :: more =>
    let s1 := s.report 0x1205 chip [p1 4, p1 w]
    if used || spareBad then s1.windowLost servitor
    else
      let s2 := s1.replaceWindow servitor w
      if more.isEmpty then s2 else s2.windowLost servitor

/-! Lanes (R312, R565). -/

/-- Spare lanes not drawn and not failed, in order. -/
def State.freeLane (s : State) : Option Nat := (List.range 4).find? (fun j => !s.bit R.DIAG_REP_STAT_SPARE_LANES j)

/-- Spare lanes that are free. -/
def State.sparesFree (s : State) : Nat := ((List.range 4).filter (fun j => !s.bit R.DIAG_REP_STAT_SPARE_LANES j)).length

/-- A region's lane is lost: a spare is drawn, or the region goes on with one lane fewer (R312, R565). -/
def State.replaceLane (s : State) (r lane : Nat) : State :=
  match s.freeLane with
  | some j =>
    let map := s.get R.DIAG_REP_STAT_LANE_REGION
    let s1 := (s.putBit R.DIAG_REP_STAT_SPARE_LANES j true).put R.DIAG_REP_STAT_LANE_REGION (setBits map (3 * j) 3 r)
    let s2 := s1.putAll [ (R.EST_REG_LANES r, s.get (R.IMG_REGION_LANES r)), (R.EST_STAT_SPARES_FREE, s1.sparesFree) ]
    (s2.report 0x0808 (src 5 r) [p1 lane, p1 s1.sparesFree]).repaired
  | none =>
    let n := s.get (R.IMG_REGION_LANES r) - 1
    let s1 := s.putAll [ (R.IMG_REGION_LANES r, n), (R.EST_REG_LANES r, n) ]
    ((s1.report 0x0809 (src 5 r) [p1 lane, p1 n]).regionFault r 1).requestCheck 2

/-! Start-up tests (R559). -/

/-- Items of Table DIAG-3 in the order of its rows, as 0x1205 names them, with the unit counted within the item; a failing spare is recorded
without an event. (DESIGN CHOICE, log 113) -/
def State.testFailed (s : State) (item unit : Nat) : State := s.report 0x1205 chip [p1 item, p2 unit]

/-- STARTUP_TESTS: what the march and lane tests of Table DIAG-3 find while the module is in stage 0. -/
def startupTests (t : StartTests) (s : State) : State :=
  if s.stage ≠ 0 || s.diag.testsDone then s
  else
    let s0 := s.putAll ((List.range 8).map (fun r => (R.IMG_REGION_LANES r, 8)) ++ [(R.EST_STAT_SPARES_FREE, s.sparesFree)])
    let s1 := forAll ((List.range 8).filter (fun r => t.spareL.getLsbD r)) (fun r s => s.takeSpare true r) s0
    let s2 := forAll ((List.range 8).filter (fun r => t.spareS.getLsbD r)) (fun r s => s.takeSpare false r) s1
    let s3 := forAll (t.banks.map (fun p => (p.1.val, p.2.val))) (fun p s => (s.testFailed 1 (8 * p.1 + p.2)).bankFails p.1 p.2) s2
    let s4 := forAll ((List.range 8).filter (fun r => t.work.getLsbD r)) (fun r s => (s.testFailed 2 r).regionFault r 2) s3
    let s5 := forAll ((List.range 4).filter (fun j => t.spareLanes.getLsbD j)) (fun j s => (s.putBit R.DIAG_REP_STAT_SPARE_LANES j true).put R.EST_STAT_SPARES_FREE (s.putBit R.DIAG_REP_STAT_SPARE_LANES j true).sparesFree) s4
    let s6 := forAll (t.lanes.map (fun p => (p.1.val, p.2.val))) (fun p s => (s.testFailed 3 (8 * p.1 + p.2)).replaceLane p.1 p.2) s5
    let s7 := s6.startWindows false (t.winG.map Fin.val) t.spareWinG
    let s8 := s7.startWindows true (t.winS.map Fin.val) t.spareWinS
    { s8 with diag := { s8.diag with testsDone := true } }
def execStartupTests (t : StartTests) (s : State) : Host.Outcome State Fault Refusal := finish s (whenOn s (startupTests t))

/-! The background rotation (R560, R561). -/

/-- A step of the rotation: a store bank (unit as in STO_REJ, bank), a scratchpad window, or 256 log slots. -/
inductive BgStep where
  | bank (unit bank : Nat)
  | window (w : Nat)
  | log (block : Nat)
  deriving DecidableEq, Repr

/-- Step k of the rotation, 0 to 421. (DEDUCED, log 87) -/
def bgStep (k : Nat) : BgStep :=
  if k < 64 then .bank (16 + k / 8) (k % 8)
  else if k < 128 then .bank ((k - 64) / 4) (k % 4)
  else if k < 136 then .bank 24 (k - 128)
  else if k < 138 then .bank 25 (k - 136)
  else if k < 166 then .window (k - 134)
  else .log (k - 166)

/-- The step's unit can be tested. -/
def State.bgOk (s : State) (k : Nat) : Bool :=
  match bgStep k with
  | .bank u b => !s.spareUsed (largeUnit u) (bankRegion u b)
  | .window _ => !s.getB R.DIAG_BG_STAT_LENDING_OFF && !s.getB R.DIAG_REP_STAT_WIN_G
  | .log _ => true

/-- The first step from k on that can be tested, with the rotations completed on the way; `fuel` bounds the search. -/
def State.bgFind (s : State) : Nat → Nat → Nat → Nat × Nat
  | 0, k, rot => (k, rot)
  | fuel + 1, k, rot => if s.bgOk k then (k, rot) else if k = 421 then s.bgFind fuel 0 (rot + 1) else s.bgFind fuel (k + 1) rot

/-- The step in progress ends; a rotation is complete after step 421. -/
def State.bgEnd (s : State) : State :=
  let k := s.get R.DIAG_BG_STAT_STEP
  let s1 := (s.putAll [(R.DIAG_BG_STAT_ACTIVE, 0), (R.DIAG_BG_STAT_WINDOW, 0x1F)])
  let s2 := { s1 with diag := { s1.diag with bgNext := (k + 1) % 422 }, sto := { s1.sto with bank := none } }
  if k = 421 then s2.incBy R.DIAG_BG_ROT 1 else s2

/-- BACKGROUND_TEST_STEP: from stage 2 on the engine starts the next step once the previous one has ended (R560). A log step reads its
slots and ends at once; `bad` is a slot of it with an uncorrectable error, which fails the log memory (R563). (DEDUCED, log 87) -/
def backgroundTestStep (bad : Option Nat) (s : State) : State :=
  if s.stage < 2 || s.getB R.DIAG_BG_STAT_ACTIVE then s
  else
    let (k, rot) := s.bgFind 422 s.diag.bgNext 0
    let s1 := (s.incBy R.DIAG_BG_ROT rot).putAll [(R.DIAG_BG_STAT_STEP, k), (R.DIAG_BG_STAT_ACTIVE, 1)]
    match bgStep k with
    | .bank u b => ({ s1 with sto := { s1.sto with bank := some (u, b) } }).putAll
        [(R.STO_MIRROR_SET, u), (R.STO_MIRROR_BANK, b), (R.STO_MIRROR_MIRROR_PHASE, 1), (R.STO_STAT_MIRROR, 1)]
    | .window w => ({ s1 with diag := { s1.diag with abandoned := false } }).put R.DIAG_BG_STAT_WINDOW w
    | .log j => match bad with
      | none => s1.bgEnd
      | some i => s1.bgEnd.logFail (256 * j + i)


/-- The mirroring of a bank test ends (R289). -/
def State.mirrorEnd (s : State) : State :=
  (s.putAll [(R.STO_MIRROR_SET, 0), (R.STO_MIRROR_BANK, 0), (R.STO_MIRROR_MIRROR_PHASE, 0), (R.STO_STAT_MIRROR, 0)]).bgEnd

/-- The pass over a bank is abandoned, and its spare takes its place (R290). -/
def State.bankRedirect (s : State) (u b : Nat) : State := s.mirrorEnd.bankFails u b

/-- BANK_TEST_PHASE_END: a phase of Table STO-5 ends; the bank may have failed its test in phase 1 or 2 (R289, R290). (DEDUCED, log 48) -/
def bankTestPhaseEnd (fail : Bool) (s : State) : State :=
  match s.sto.bank with
  | none => s
  | some (u, b) =>
    let ph := s.get R.STO_MIRROR_MIRROR_PHASE
    if fail && ph ≤ 2 then s.bankRedirect u b
    else if ph < 3 then s.put R.STO_MIRROR_MIRROR_PHASE (ph + 1)
    else s.mirrorEnd.report 0x0707 chip [p1 u, p1 b]
def execBankTestPhaseEnd (fail : Bool) (s : State) : Host.Outcome State Fault Refusal := finish s (whenOn s (bankTestPhaseEnd fail))

/-- Abandoned steps in a row of a window. (DEDUCED, log 87) -/
def State.abandons (s : State) (w : Nat) : Nat := Sparse.get (fun _ => 0) s.diag.abandon w
def State.setAbandons (s : State) (w n : Nat) : State :=
  { s with diag := { s.diag with abandon := Sparse.set (fun _ => 0) s.diag.abandon w n } }

/-- LENT_WINDOW_ACCESS: a Gaffer access reaches the lent window before the redirection has taken effect (R561). -/
def lentWindowAccess (s : State) : State :=
  let w := s.get R.DIAG_BG_STAT_WINDOW
  if w = 0x1F || s.diag.abandoned then s
  else
    let n := s.abandons w + 1
    let s1 := (({ s with diag := { s.diag with abandoned := true } }).setAbandons w n).incBy R.DIAG_BG_ABANDON 1
    if n = 8 then s1.report 0x1204 chip [p1 w] else s1
def execLentWindowAccess (s : State) : Host.Outcome State Fault Refusal := finish s (whenOn s lentWindowAccess)

/-- WINDOW_STEP_DONE: a window step ends with its march test's result, none where it was abandoned (R561, R562). -/
def windowStepDone (fail : Bool) (s : State) : State :=
  let w := s.get R.DIAG_BG_STAT_WINDOW
  if w = 0x1F then s
  else
    let s1 := s.bgEnd
    if s.diag.abandoned then s1
    else
      let s2 := s1.setAbandons w 0
      if !fail then s2
      else if s.getB R.DIAG_REP_STAT_WIN_G then s2.pairFault s2.pair.cycle.toNat 1
      else s2.replaceWindow false w
def execWindowStepDone (fail : Bool) (s : State) : Host.Outcome State Fault Refusal := finish s (whenOn s (windowStepDone fail))

/-! The debug port (R439 to R442, R569 to R572). -/

/-- RESP of an access: 0 done, 1 busy, 2 refused, 3 access fault. -/
def State.resp (s : State) (v : Nat) : State := s.put R.DIAG_DBG_RESP_RESP v

/-- What the TAP can select: IDCODE, BYPASS, the debug access port, the boundary-scan register of the LV lands. -/
inductive TapReg where
  | idcode
  | bypass
  | debug
  | boundary
  deriving DecidableEq, Repr

/-- What the TAP offers: nothing while TRST_N holds it in reset; boundary scan in place of the debug port in board-test mode (R88, R89). (PRESUMED, log 109) -/
def State.tapOffers (s : State) : List TapReg :=
  if !s.pwr.mainOn || !s.diag.trstHigh then []
  else if s.pwr.boardTest then [.idcode, .bypass, .boundary]
  else [.idcode, .bypass, .debug]

/-- The port for an access: the TAP claims it while no master holds it; the host holds it after CLAIM (R569). -/
def State.claimed (s : State) (tap : Bool) : Option State :=
  let m := s.get R.DIAG_DBG_STAT_MASTER
  if tap then
    if !s.tapOffers.contains .debug then none
    else if m = 0 then some (s.put R.DIAG_DBG_STAT_MASTER 1)
    else if m = 1 then some s else none
  else if m = 2 then some s else none

/-- R439, and no close request in the same cycle; in Halted no intrusive request is accepted. (DEDUCED, log 72) -/
def State.intrusiveOk (s : State) : Bool :=
  let m := s.get R.PAIR_STAT_MODE
  s.session && (s.safety == 0 || s.safety == 6) && s.get R.CTR_STAT_PAIRS_ON == 0
    && s.tab.strings.all (fun n => let st := (s.str n).state; st == 0 || 8 ≤ st) && (m == 1 || m == 2) && !s.ctr.closeReq

/-- An intrusive request is refused (R439). (DEDUCED, log 63) (DEDUCED, log 72) -/
def State.refuseIntrusive (s : State) : State := (s.resp 2).report 0x0C0E chip [p1 s.safety, p1 (s.get R.PAIR_STAT_MODE)]

/-- An access that only reads: it needs UNLOCKED, and a register HALTED as well (Table DIAG-9). (DEDUCED, log 71) -/
def State.debugRead (s : State) (tap reg : Bool) (addr : Word) : State :=
  match s.claimed tap with
  | none => s.resp 1
  | some s0 =>
    if !s0.getB R.DIAG_DBG_STAT_UNLOCKED || (reg && !s0.getB R.DIAG_DBG_STAT_HALTED) then s0.resp 2
    else
      let s1 := s0.putW R.DIAG_DBG_ADDR addr
      if Config.gafferFault addr then s1.resp 3
      else
        match Sparse.get (fun _ => none) (if reg then s1.diag.gregs else s1.diag.gmem) addr.toNat with
        | some v => (s1.putW R.DIAG_DBG_DATA v).resp 0
        | none =>
          let (v, s2) := s1.draw
          (s2.putW R.DIAG_DBG_DATA (v.setWidth 32)).resp 0

/-- An intrusive access: claimed, unlocked, and allowed by R439. -/
def State.intrusive (s : State) (tap : Bool) (f : State → State) : State :=
  match s.claimed tap with
  | none => s.resp 1
  | some s0 => if s0.getB R.DIAG_DBG_STAT_UNLOCKED && s0.intrusiveOk then f s0 else s0.refuseIntrusive

/-- The replay unit is full (R441). -/
def State.replayFull (s : State) : Bool := decide (256 ≤ s.pair.replay.length)

/-- The replay unit records a command in Paired (R440). (DEDUCED, log 71) -/
def State.recordReplay (s : State) (op : Nat) (addr data : Word) : State :=
  if s.get R.PAIR_STAT_MODE = 1 || s.get R.PAIR_STAT_MODE = 4 then
    let l := s.pair.replay ++ [⟨s.pair.retire, op, addr, data⟩]
    ({ s with pair := { s.pair with replay := l } }).put R.PAIR_REPLAY_USED l.length
  else s

/-- An intrusive command that the replay unit records; while the unit is full the port answers busy (R441). (DEDUCED, log 71) -/
def State.replayed (s : State) (op : Nat) (addr data : Word) (f : State → State) : State :=
  if s.get R.PAIR_STAT_MODE = 1 && s.replayFull then s.resp 1 else (f (s.recordReplay op addr data)).resp 0

/-- HALT (R439, R440): in Paired the mode becomes Halted at the next boundary, in Split it stays. -/
def haltGaffer (tap : Bool) (s : State) : State :=
  s.intrusive tap (fun s =>
    if s.getB R.DIAG_DBG_STAT_HALTED then s.resp 0
    else s.replayed 1 0#32 0#32 (fun s =>
      let s1 := ({ s with pair := { s.pair with haltG := true } }).putB R.DIAG_DBG_STAT_HALTED true
      let s2 := s1.report 0x0C0C chip [pn 6 s.pair.retire]
      if s.get R.PAIR_STAT_MODE = 1 then s2.setNextMode 4 else s2))

/-- RESUME: accepted while HALTED (Table DIAG-9). -/
def resumeGaffer (tap : Bool) (s : State) : State :=
  match s.claimed tap with
  | none => s.resp 1
  | some s0 =>
    if s0.getB R.DIAG_DBG_STAT_HALTED then ((if s0.replayFull then s0 else s0.recordReplay 2 0#32 0#32).resumeCores).resp 0
    else s0.resp 2

/-- STEP: the Gaffer retires one instruction. -/
def stepGaffer (tap : Bool) (s : State) : State :=
  s.intrusive tap (fun s => s.replayed 3 0#32 0#32 (fun s => { s with pair := { s.pair with retire := (s.pair.retire + 1) % 2 ^ 48 } }))

/-- A write through the port: a non-replayable address is refused and counted in Paired (R441). -/
def State.debugWrite (s : State) (tap reg : Bool) (addr data : Word) : State :=
  s.intrusive tap (fun s =>
    let s1 := (s.putW R.DIAG_DBG_ADDR addr).putW R.DIAG_DBG_DATA data
    if s.get R.PAIR_STAT_MODE = 1 && s.replayFull then s1.resp 1
    else if s.get R.PAIR_STAT_MODE = 1 && Config.nonReplayable addr then
      ((s1.inc R.PAIR_REPLAY_REFUSED).resp 2).report 0x0C0D chip [pn 4 addr.toNat]
    else if Config.gafferFault addr then s1.resp 3
    else s1.replayed (if reg then 7 else 5) addr data (fun s =>
      if reg then { s with diag := { s.diag with gregs := Sparse.set (fun _ => none) s.diag.gregs addr.toNat (some data) } }
      else { s with diag := { s.diag with gmem := Sparse.set (fun _ => none) s.diag.gmem addr.toNat (some data) } }))

/-- SET_BREAKPOINT and CLEAR_BREAKPOINT (R439). -/
def setBreakpoint (tap : Bool) (addr : Word) (s : State) : State :=
  s.intrusive tap (fun s => s.replayed 8 addr 0#32 (fun s =>
    ({ s with diag := { s.diag with bkpts := if s.diag.bkpts.contains addr then s.diag.bkpts else s.diag.bkpts ++ [addr] } }).putB R.DIAG_DBG_STAT_BKPT true))
def clearBreakpoint (tap : Bool) (addr : Word) (s : State) : State :=
  s.intrusive tap (fun s => s.replayed 9 addr 0#32 (fun s =>
    let l := s.diag.bkpts.filter (fun a => a != addr)
    ({ s with diag := { s.diag with bkpts := l } }).putB R.DIAG_DBG_STAT_BKPT (!l.isEmpty)))

/-- CLAIM, RELEASE and a TAP reset (R569). -/
def claimPort (s : State) : State :=
  let m := s.get R.DIAG_DBG_STAT_MASTER
  if m = 0 then s.put R.DIAG_DBG_STAT_MASTER 2 else if m = 1 then s.resp 1 else s
def releasePort (s : State) : State := if s.get R.DIAG_DBG_STAT_MASTER = 2 then s.put R.DIAG_DBG_STAT_MASTER 0 else s
/-- TAP_RESET: an edge of TRST_N. It holds the TAP in reset while it is low, as it is at first, unconnected (R89); a reset releases a port that
the TAP holds (R569). (DESIGN CHOICE, log 131) -/
def tapReset (s : State) : State :=
  let s1 := { s with diag := { s.diag with trstHigh := !s.diag.trstHigh } }
  if s.get R.DIAG_DBG_STAT_MASTER = 1 then s1.put R.DIAG_DBG_STAT_MASTER 0 else s1
def execTapReset (s : State) : Host.Outcome State Fault Refusal := finish s (whenOn s tapReset)

/-- UNLOCK inside a password session; in Paired the Servitor is throttled from now on (R440, R571). -/
def unlockPort (s : State) : State :=
  if s.getB R.DIAG_DBG_STAT_UNLOCKED then s
  else ((s.putB R.DIAG_DBG_STAT_UNLOCKED true).putB R.PAIR_STAT_LAG_MODE (s.get R.PAIR_STAT_MODE == 1)).report 0x1208 chip [p1 (s.get R.DIAG_DBG_STAT_MASTER)]
def lockPort (s : State) : State := s.lockDebug

/-- What the acceptance of a close request does to the port (R572). (DEDUCED, log 72) -/
def State.closeDebug (s : State) : State :=
  if s.getB R.DIAG_DBG_STAT_BKPT then s.disarm.lockDebug.report 0x120A chip [] else s.lockDebug

/-- A halt accepted in the cycle of a close request is refused after all (R439). -/
def State.cancelHalt (s : State) : State :=
  if s.ctr.closeReq && s.pair.nextMode == some 4 then
    let s1 := { s with pair := { s.pair with nextMode := none, haltG := false, haltS := false, replay := s.pair.replay.dropLast } }
    ((s1.putB R.DIAG_DBG_STAT_HALTED false).put R.PAIR_REPLAY_USED s1.pair.replay.length).refuseIntrusive
  else s

/-- Trace bytes of a cycle go into the circular buffer while TRACE_EN is set (R570). -/
def State.traceByte (s : State) (b : Byte) : State :=
  let w := s.get R.DIAG_DBG_TRACE_WR
  let a := 0x2E000 + 4 * (w / 4)
  let s1 := s.setWord a (BitVec.ofNat 32 (setBits (s.word a).toNat (8 * (w % 4)) 8 b.toNat))
  let s2 := s1.put R.DIAG_DBG_TRACE_WR ((w + 1) % 16384)
  if w = 16383 then s2.inc R.DIAG_DBG_TRACE_WRAPS else s2
def State.traceBytes (s : State) (bs : List Byte) : State := if s.getB R.DIAG_DBG_CTRL_TRACE_EN then forAll bs (fun b s => s.traceByte b) s else s

end Sys2Proof.Machine
end

