-- ==== Sys2Proof/Machine/Store.lean ====
section
/-! DEFINITION. The array store (chapter 09): host claims and writes, rejected writes, error correction, the Exchange RAM. -/

namespace Sys2Proof.Machine

/-! Units of BAR2 (Tables STO-1, STO-2), numbered as STO_REJ.SET. -/

/-- The unit of a BAR2 offset and the offset within it; none in a reserved range. -/
def unitOf (off : Nat) : Option (Nat × Nat) :=
  if off < 0x2000000 then some (16 + off / 0x400000, off % 0x400000)
  else if off < 0x2400000 then some ((off - 0x2000000) / 0x40000, off % 0x40000)
  else if off < 0x2420000 then some (25, off - 0x2400000)
  else if 0x2480000 ≤ off && off < 0x2500000 then some (24, off - 0x2480000)
  else none

/-- Banks of a unit (R273). -/
def banksOf (u : Nat) : Nat := if u < 16 then 4 else if u = 25 then 2 else 8

/-- Owner field of a set. -/
def State.owner (s : State) (u : Nat) : Nat := if u < 16 then s.get (R.STO_OWN_S_OWNER u) else s.get (R.STO_OWN_R_OWNER (u - 16))
/-- Host software holds a set. (DEDUCED, log 47) -/
def State.hostHolds (s : State) (u : Nat) : Bool := s.owner u == 2
/-- A region's lane group does not run for a host hold (R281). -/
def State.regionHeld (s : State) (r : Nat) : Bool := s.hostHolds (2 * r) || s.hostHolds (2 * r + 1) || s.hostHolds (16 + r)

/-- A retention slot that nothing has been written to. -/
def noEpoch (_ : Nat) : Word := 0xFFFFFFFF#32

/-- Retention slots: key (region × 4 + slot) × 32,768 + local point (R43). An unlisted record is that of a point never valid. -/
def State.retRec (s : State) (r k l : Nat) : BitVec 64 :=
  (Sparse.get smpNone s.sto.ret ((4 * r + k) * 32768 + l)).getD
    (let e := (Sparse.get noEpoch s.sto.retEpoch (4 * r + k)).toNat
     if e = 0xFFFFFFFF then 0#64 else if s.tab.populated (r * 32768 + l) then mkRec 0 e 4 255 0 else mkRec 0 e 0 255 0)
def State.setRet (s : State) (r k l : Nat) (w : BitVec 64) : State :=
  { s with sto := { s.sto with ret := Sparse.set smpNone s.sto.ret ((4 * r + k) * 32768 + l) (some w) } }

/-- The 64-bit word at a BAR2 offset (R276); a reserved range reads 0. -/
def State.bar2Word (s : State) (off : Nat) : BitVec 64 :=
  match unitOf off with
  | none => 0#64
  | some (u, x) =>
    if u < 16 then s.smp u (x / 8)
    else if u < 24 && 0x300000 ≤ x then s.retRec (u - 16) ((x - 0x300000) / 0x40000) ((x - 0x300000) % 0x40000 / 8)
    else s.sto64 off

/-- The word at a BAR2 offset replaced. -/
def State.setBar2 (s : State) (off : Nat) (w : BitVec 64) : State :=
  match unitOf off with
  | none => s
  | some (u, x) =>
    if u < 16 then s.setSmp u (x / 8) w
    else if u < 24 && 0x300000 ≤ x then s.setRet (u - 16) ((x - 0x300000) / 0x40000) ((x - 0x300000) % 0x40000 / 8) w
    else s.setSto64 off w

/-- A non-owner write (R279): 0 intake, 1 estimator, 2 host, 3 another block. -/
def State.reject (s : State) (writer u x : Nat) : State :=
  let s1 := (s.inc R.STO_REJ_COUNT).putAll [ (R.STO_REJ_WRITER, writer), (R.STO_REJ_SET, u), (R.STO_REJ_OFF_OFFSET, x), (R.STO_STAT_REJ, 1) ]
  s1.report 0x0701 chip [p1 writer, p1 u, p2 x]

/-- A word with the bytes of a byte-enable mask replaced. -/
def mergeBytes (n old new be : Nat) : Nat := (List.range n).foldl (fun w k => if be.testBit k then setBits w (8 * k) 8 (bitsOf new (8 * k) 8) else w) old

/-- BAR2_WRITE: a host write within one word, at the offset `off` that the host gave; stored in a set the host owns, else rejected (R279). BAR2 is served from stage 2 (R506). (DEDUCED, log 47) -/
def bar2Write (off be data : Nat) (s : State) : State :=
  if s.stage < 2 || !s.host.perstHigh then s
  else match unitOf off with
    | none => s
    | some (u, x) =>
      if u < 24 && s.hostHolds u then s.setBar2 (off / 8 * 8) (BitVec.ofNat 64 (mergeBytes 8 (s.bar2Word (off / 8 * 8)).toNat data be))
      else s.reject 2 u x
def execBar2Write (off : BitVec 26) (be : BitVec 8) (data : BitVec 64) (s : State) : Host.Outcome State Fault Refusal :=
  finish s (whenOn s (bar2Write off.toNat be.toNat data.toNat))

/-- A host write of an owner field (R280). (DEDUCED, log 47) -/
def ownerReq (u owner : Nat) (s : State) : State :=
  if owner = 2 && s.safety ≠ 0 && s.safety ≠ 6 then (s.put R.STO_STAT_CLAIM_REFUSE 1).report 0x0704 chip [p1 u, p1 s.safety]
  else
    let s1 := if owner = 2 then s.put R.STO_STAT_CLAIM_REFUSE 0 else s
    if u < 16 then s1.putAll [ (R.STO_OWN_S_PEND_OWNER u, owner), (R.STO_OWN_S_PEND u, 1) ]
    else s1.putAll [ (R.STO_OWN_R_PEND_OWNER (u - 16), owner), (R.STO_OWN_R_PEND (u - 16), 1) ]

/-! Error correction (R287, Table STO-4). -/

/-- A point record turned cullet. -/
def asCullet (w : BitVec 64) : BitVec 64 := BitVec.ofNat 64 (setBits w.toNat 32 3 (bitsOf w.toNat 32 3 &&& 2 ||| 4))

/-- What an uncorrectable error in a word leads to. (DEDUCED, log 48) -/
def State.loseWord (s : State) (off : Nat) : State :=
  match unitOf off with
  | none => s
  | some (u, x) =>
    if u < 16 then s.setSmp u (x / 8) (asCullet (s.smp u (x / 8)))
    else if u < 24 then
      if x < 0x300000 then
        let cell := (u - 16) * 24576 + x / 128
        (if s.tab.assigned cell then s.bareStart cell else s).report 0x080C (src 2 cell) [p2 off]
      else
        let w := s.bar2Word off
        s.setBar2 off (BitVec.ofNat 64 (setBits (setBits w.toNat 32 3 (bitsOf w.toNat 32 3 &&& 2 ||| 4)) 40 8 255))
    else if u = 25 then { s with sop := { s.sop with hurt := x / 256 :: s.sop.hurt } }
    else s

/-- A word met with an error: corrected, or uncorrectable. A bank under test with an uncorrectable error is replaced at once (R290). (DEDUCED, log 48) -/
def State.eccWord (s : State) (off : Nat) (ue : Bool) : State :=
  if !ue then s.inc R.STO_ECC_CE
  else
    let a := off / 8 * 8
    let s1 := (s.inc R.STO_ECC_UE).putAll [ (R.STO_STAT_ECC_UE, 1), (R.STO_ECC_ADDR_ADDR, a) ]
    let s2 := (s1.report 0x0706 chip [p2 a]).loseWord a
    match unitOf a, s2.sto.bank with
    | some (u, x), some (bu, b) => if u = bu && x / 8 % banksOf u = b then s2.bankRedirect bu b else s2
    | _, _ => s2

/-- The words a command has met with an error. -/
def State.eccWords (s : State) (l : List (BitVec 26 × Bool)) : State := forAll l (fun p s => s.eccWord p.1.toNat p.2) s

def execBackgroundTestStep (bad : Option (Fin 256)) (ecc : List (BitVec 26 × Bool)) (s : State) : Host.Outcome State Fault Refusal :=
  finish s (whenOn s (fun s => (backgroundTestStep (bad.map Fin.val) s).eccWords ecc))

/-- A host read of BAR2 as it meets a word with an error (`ue`: uncorrectable) or without: the word as stored, and what the error does
(Table STO-4). The manual's table of commands has no row for a read, so `exec` reaches no error of one. (DEDUCED, log 124) -/
def State.bar2Met (s : State) (off : Nat) (err : Option Bool) : BitVec 64 × State :=
  (s.bar2Word (off / 8 * 8), match err with | none => s | some ue => s.eccWord off ue)

/-! Exchange RAM (R285, R286). -/

/-- An error in a word of the Exchange RAM (R287). Its BAR2 offset, which it has not, is a free value. (DESIGN CHOICE, log 110) -/
def State.eccX (s : State) (ue : Bool) : State :=
  if !ue then s.inc R.STO_ECC_CE
  else
    let (v, s0) := s.draw
    let a := v.toNat % 2 ^ 26 / 8 * 8
    ((s0.inc R.STO_ECC_UE).putAll [ (R.STO_STAT_ECC_UE, 1), (R.STO_ECC_ADDR_ADDR, a) ]).report 0x0706 chip [p2 a]

def zeroW (_ : Nat) : Word := 0#32
def State.xword (s : State) (i : Nat) : Word := Sparse.get zeroW s.host.xram i
def State.setXword (s : State) (i : Nat) (w : Word) : State := { s with host := { s.host with xram := Sparse.set zeroW s.host.xram i w } }
/-- Bytes of an Exchange RAM word replaced. -/
def State.mergeX (s : State) (i be : Nat) (w : Word) : State := s.setXword i (BitVec.ofNat 32 (mergeBytes 4 (s.xword i).toNat w.toNat be))

/-- EXCHANGE_RAM_WRITE: a host write of the enabled bytes of one word (R286); `device` is a write of the device's port in the same cycle, which goes
first. (DEDUCED, log 13) -/
def exchangeRamWrite (off be : Nat) (data : Word) (device : Option (BitVec 4 × Word)) (s : State) : State :=
  if s.stage = 0 || !s.host.perstHigh then s
  else match device with
    | none => s.mergeX (off / 4) be data
    | some (dbe, dd) =>
      let s1 := ((s.mergeX (off / 4) dbe.toNat dd).mergeX (off / 4) be data).inc R.STO_XCOLL_COUNT
      (s1.putAll [ (R.STO_XCOLL_ADDR, off / 4 * 4), (R.STO_STAT_XCOLL, 1) ]).report 0x0702 chip [p2 (off / 4 * 4)]
def execExchangeRamWrite (off : BitVec 16) (be : BitVec 4) (data : Word) (device : Option (BitVec 4 × Word)) (s : State) :
    Host.Outcome State Fault Refusal :=
  finish s (whenOn s (exchangeRamWrite off.toNat be.toNat data device))

end Sys2Proof.Machine
end

