-- ==== Sys2Proof/Machine/Gather.lean ====
section
/-! DEFINITION. Gather sweeps and intake (chapter 08): the sweep angle, the intake of a frame with both limit paths, and the test slots. -/

namespace Sys2Proof.Machine

/-! The sweep angle (R153, R240, R241). -/

/-- TOKEN_DEADLINE: a core whose tokens are late sends zeros in the coming sweep (R241). -/
def tokenDeadline (lateA lateB : Bool) (s : State) : State :=
  if !s.img.loaded || !(lateA || lateB) then s
  else
    let s1 := { s with swp := { s.swp with lateTok := BitVec.ofNat 2 (b2n lateA + 2 * b2n lateB) } }
    let s2 := (s1.inc R.SWP_CNT_TOKLATE).putB R.SWP_STAT_TOKEN_LATE true
    let say (k : Nat) (s : State) : State := s.report 0x0607 chip [p1 k, p2 s.swp.nextEpoch.toNat]
    let s3 := if lateA then say 0 s2 else s2
    if lateB then say 1 s3 else s3
def execTokenDeadline (lateA lateB : Bool) (s : State) : Host.Outcome State Fault Refusal := finish s (whenOn s (tokenDeadline lateA lateB))

/-- The command of a string's tokens enters its record (Table STO-9). -/
def State.noteToken (s : State) (n : Nat) : State :=
  let b := if s.tokenHold n then 0xA5 else 0x5A
  ((s.stoPut (strOff n 0x95) 1 b).stoPut (strOff n 0x96) 1 b).stoPut (strOff n 0x98) 4 s.swp.epoch.toNat

/-- The figures of a new sweep (R153, R162). -/
def State.openSweep (s : State) : State :=
  let n := s.swp.nextEpoch
  let a := (n.toNat * s.tab.intervalAu) % 65536
  let s := s.moveTo a
  { s with
    swp := { s.swp with
      epoch := n, nextEpoch := n + 1#32, angle := a, angleFreq := s.getW R.ANG_SFREQ, angleLocked := s.getB R.ANG_STAT_SCHED_LOCKED,
      cycleAt := s.ang.cycle, open_ := true, any := true } }

/-- Strings that are not enabled and whose string node takes a sweep: their node entry is used all the same, and gets open tokens (R610). -/
def State.openStrings (s : State) : List Nat :=
  ((List.range 64).filter s.active).flatMap (fun c => ((s.tab.stringHops c).filterMap (fun h => s.tab.stringAt c h)).filter (fun n => !s.tab.strOn n))

/-- SWEEP_ANGLE: SWEEP(N) leaves every active chain with the tokens of both cores. -/
def sweepAngle (s : State) : State :=
  if !s.img.loaded || s.stage = 0 || s.held1 || s.swp.open_ then s
  else
    let s1 := s.openSweep.putB R.SWP_STAT_RUNNING true
    let s2 := forAll (s.tab.strings ++ s1.openStrings) (fun n s => s.noteToken n) s1
    let s3 := forAll (List.range 64) (fun c s => s.sweepChain c) s2
    { s3 with swp := { s3.swp with lateTok := 0#2 } }
def execSweepAngle (s : State) : Host.Outcome State Fault Refusal := finish s (whenOn s sweepAngle)

/-! Derating by a limit class (R357). -/

/-- Strings that a SOP derate reaction of a point acts on. -/
def State.pointStrings (s : State) (c h : Nat) : List Nat :=
  if s.tab.nodeType c h = 2 then (s.tab.stringAt c h).toList
  else
    let n := s.tab.nodeString c h
    if n = 0xFFFF then s.tab.strings.filter (fun m => s.tab.strChain m == c) else [n]

/-- SOP_DERATEm and DERATE follow the deratings in force. -/
def State.showDerate (s : State) (n : Nat) : State :=
  let on := s.sop.derate.any (fun p => p.1 / 2 == n)
  (s.putBit (R.SOP_DERATE (n / 32)) (n % 32) on).putB R.SOP_STAT_DERATE (!s.sop.derate.isEmpty)

/-- A derating of a string in a direction starts or goes on (0 charge, 1 discharge). -/
def State.derate (s : State) (n dir point : Nat) : State :=
  let key := 2 * n + dir
  let until_ := s.now + 1000 * s.tab.sp16 0x18
  let rest := s.sop.derate.filter (fun p => p.1 != key)
  let s1 := ({ s with sop := { s.sop with derate := (key, until_) :: rest } }).showDerate n
  if rest.length = s.sop.derate.length then s1.report 0x0902 (src 6 n) [p1 dir, p2 point] else s1

/-- DERATE_HOLD_END: a derating ends (R357). -/
def derateHoldEnd (n dir : Nat) (s : State) : State :=
  let key := 2 * n + dir
  if s.sop.derate.any (fun p => p.1 == key) then
    (({ s with sop := { s.sop with derate := s.sop.derate.filter (fun p => p.1 != key) } }).showDerate n).report 0x0903 (src 6 n) [p1 dir]
  else s
def execDerateHoldEnd (n : Fin 512) (discharge : Bool) (s : State) : Host.Outcome State Fault Refusal :=
  finish s (whenOn s (derateHoldEnd n.val (b2n discharge)))

/-! Limit checking (R253 to R258). -/

/-- A point's class is violated: above the high limit, below the low one; how it was found. -/
structure Viol where
  high : Bool := false
  low : Bool := false
  deriving DecidableEq, Repr

/-- The value of a raw code as its encoding defines it (Tables SCOPE-3, NODE-7). -/
def signedPoint (ty k : Nat) : Bool := if ty = 1 then decide (24 ≤ k) else k == 0 || k == 1 || k == 4 || k == 5 || k == 6
def codeVal (ty k v : Nat) : Int := if signedPoint ty k then signedOf 16 v else (v : Int)

/-- A reaction of a path (Table SWP-3). (DEDUCED, log 42) -/
def State.react (s : State) (path point cls value : Nat) (v : Viol) : State :=
  let r := s.tab.classReaction path cls
  let s1 := s.inc (if path = 0 then R.SWP_CNT_EVA else R.SWP_CNT_EVB)
  let s2 := s1.putAll [ (R.SWP_LIMLAST_POINT path, point), (R.SWP_LIMLAST_CLASS path, cls), (R.SWP_LIMLAST_REACTION path, r), (R.SWP_LIMLAST_SEEN path, 1) ]
  let s3 := s2.report (0x0601 + r) (src 1 point) [p1 path, p1 cls, p2 value, p2 s.swp.epoch.toNat]
  match r with
  | 0 => s3
  | 1 =>
    let dirs := if s.tab.classKind path cls = 0 then (if v.high then [0] else []) ++ (if v.low then [1] else []) else [0, 1]
    forAll (s.pointStrings (point / 4096) (point / 32 % 128)) (fun n s => forAll dirs (fun d s => s.derate n d point) s) s3
  | 2 => s3.raise (path == 1) 0x02
  | _ => s3.trip (path == 1)

/-- One path's check of a sample: `use` says that the value counts; the flags are the secondary flags that count on path B (R255, R257).
Answers whether the sample violates its class. (DEDUCED, log 42) -/
def State.limitCheck (s : State) (path point : Nat) (ty raw : Nat) (bal use secOv secUv : Bool) : Bool × State :=
  let cls := s.tab.classOf path point
  let armed := s.getB (if path = 0 then R.SWP_STAT_ARMED_A else R.SWP_STAT_ARMED_B)
  if cls = 0 || !armed then (false, s)
  else
    let wide : Int := if bal && s.tab.classLead path cls then s.tab.classDrop path cls else 0
    let x := codeVal ty (point % 32) raw
    let sec := path == 1 && s.tab.classKind path cls == 0
    let v : Viol := ⟨(use && decide (s.tab.classHigh path cls + wide < x)) || (sec && secOv), (use && decide (x < s.tab.classLow path cls - wide)) || (sec && secUv)⟩
    let key := path * 2 ^ 18 + point
    let p := s.tab.classPersist path cls
    if v.high || v.low then
      let n := min p (Sparse.get zeroNat s.swp.persist key + 1)
      let s1 := { s with swp := { s.swp with persist := Sparse.set zeroNat s.swp.persist key n } }
      (true, if p ≤ n then s1.react path point cls raw v else s1)
    else if use then (false, { s with swp := { s.swp with persist := Sparse.set zeroNat s.swp.persist key 0 } })
    else (false, s)

/-! Intake of one frame (R246 to R250, R260). -/

/-- Sample time offset of an input (R248). -/
def timeOffset (ty k : Nat) (late : Bool) : Nat :=
  if late then 0x7FFF
  else if ty = 1 then 16000 + 125 * k
  else 16000 + 125 * nth 0 [0, 31, 1, 2, 8, 9, 0, 10] k

/-- Duty of a cell input in the applied-duty map. -/
def State.dutyOf (s : State) (c h k : Nat) : Nat := Sparse.get zeroNat s.swp.duty ((c * 128 + h) * 24 + k)
/-- A block's duties enter the map. -/
def State.setDuties (s : State) (c h : Nat) (l : List Nat) : State :=
  { s with swp := { s.swp with duty := (List.range 24).foldl (fun m k => Sparse.set zeroNat m ((c * 128 + h) * 24 + k) (nth 0 l k)) s.swp.duty } }

/-- What a frame says of all its points: usable, late, gate applied, filter code. -/
structure FrameInfo where
  ty : Nat
  usable : Bool
  late : Bool
  gate : Bool
  filter : Nat
  ov : Nat
  uv : Nat
  deriving DecidableEq, Repr

/-- One point of a frame: its check on both paths, and its record. (DEDUCED, log 41) -/
def State.intakePoint (s : State) (c h k raw : Nat) (f : FrameInfo) : State :=
  let p := pointOf c h k
  let ntc := f.ty == 1 && decide (24 ≤ k) && (raw == 0x7FFF || raw == 0x8000)
  let use := f.usable && !ntc
  let cell := f.ty == 1 && decide (k < 24)
  let bal := cell && !f.gate && (0 < s.dutyOf c h k || 0 < (if k = 0 then 0 else s.dutyOf c h (k - 1)) || 0 < (if k = 23 then 0 else s.dutyOf c h (k + 1)))
  let t := s.tab.scThr c h
  let secOv := cell && f.ov.testBit k && decide (t.1 ≤ 5000)
  let secUv := cell && f.uv.testBit k && decide (500 ≤ t.2)
  let (limA, s1) := s.limitCheck 0 p f.ty raw bal use false false
  let (limB, s2) := s1.limitCheck 1 p f.ty raw bal use secOv secUv
  let r := regionOf c
  let set := s2.curSet r
  let flags := 2 * b2n f.late + 8 * b2n limA + 16 * b2n limB + 32 * b2n bal + 64 * f.filter
  let w :=
    if use then mkRec raw s.swp.epoch.toNat (flags + 1) 0 (timeOffset f.ty k f.late)
    else
      let old := (s2.smp set (p % 32768)).toNat
      BitVec.ofNat 64 (setBits old 32 8 (flags + 4))
  if 16 ≤ set then s2.reject 0 (2 * r + s.swp.epoch.toNat % 2) (p % 32768 * 8) else s2.setSmp set (p % 32768) w

/-- String record fields of a usable frame (R294); a phasor that is not finite keeps its last valid value and loses its flag (R14). (DEDUCED, log 40) -/
def State.intakeString (s : State) (n : Nat) (d : List Byte) (usable : Bool) : State :=
  let u (o len : Nat) : Nat := ofLe ((d.drop o).take len)
  let i (k : Nat) : Int := signedOf 16 (u (2 * k) 2)
  let fl := s.stoGet (strOff n 0x24) 4
  if !usable then s.stoPut (strOff n 0x24) 4 (setBits fl 0 1 0)
  else
    let st := u 0x28 1
    let s1 := (s.setStrF n 0x00 (Fp.ofRat (i 6) 20)).setStrF n 0x04 (Fp.ofRat (i 0 + i 1) 40)
    let s2 := (s1.setStrF n 0x08 (Fp.ofRat (u 4 2 : Nat) 20)).setStrF n 0x0C (Fp.ofRat (u 6 2 : Nat) 20)
    let ph := (List.range 4).map (fun k => BitVec.ofNat 32 (u (0x10 + 4 * k) 4))
    let okPh := bitsOf st 0 1 * b2n (!ph.any Fp.nonFinite)
    let s3 := forAll (List.range 4) (fun k s => s.setStrF n (0x14 + 4 * k) (nth 0#32 ph k)) (s2.stoPut (strOff n 0x10) 4 (u 0x20 4))
    let s4 := (s3.stoPut (strOff n 0x24) 4 (setBits fl 0 3 (1 + 2 * okPh + 4 * bitsOf st 1 1))).stoPut (strOff n 0x28) 4 s.swp.epoch.toNat
    let s5 := ((s4.stoPut (strOff n 0x90) 1 (u 0x24 1)).stoPut (strOff n 0x91) 1 (u 0x25 1)).stoPut (strOff n 0x92) 2 (u 0x26 2)
    let s6 := { s5 with sop := { s5.sop with hurt := s5.sop.hurt.filter (fun m => m != n) } }
    s6.setStr n { s6.str n with contactor := BitVec.ofNat 8 (u 0x24 1) }

/-- The events of byte 0x46 that a frame raises: STOPPED newly set (Table NODE-15), and what it does to the duty map (R260). (DEDUCED, log 40) -/
def State.stoppedFrame (s : State) (c h ty : Nat) (d : List Byte) (was : Nat) : State :=
  let st := (nth 0#8 d 0x46).toNat
  if !st.testBit 1 then s
  else
    let s1 := if ty = 1 then s.setDuties c h [] else s
    if was.testBit 1 then s1
    else if ty = 1 then s1.report 0x0503 (srcHop c h) [p2 s.swp.epoch.toNat]
    else s1.report 0x0504 (srcHop c h) [p1 (nth 0#8 d 0x25).toNat, p2 (ofLe ((d.drop 0x26).take 2))]

/-- Block record fields of a frame (Table STO-8). (DEDUCED, log 40) -/
def State.intakeBlock (s : State) (c h : Nat) (d : List Byte) (f : FrameInfo) : State :=
  let st := (nth 0#8 d 0x46).toNat
  let s1 := ((s.stoPut (blkOff c h 2) 1 f.filter).stoPut (blkOff c h 3) 1 st).stoPut (blkOff c h 0x38) 4 s.swp.epoch.toNat
  (s1.stoPut (blkOff c h 0x28) 3 f.ov).stoPut (blkOff c h 0x2B) 3 f.uv

/-- Intake of a response of a hop (R246, Table SWP-2). -/
def State.intake (s : State) (c h : Nat) (d : List Byte) : State :=
  let ty := s.tab.nodeType c h
  let st := (nth 0#8 d 0x46).toNat
  let eb := (nth 0#8 d 0x47).toNat
  let e := s.swp.epoch.toNat
  let bad := st.testBit 7
  let old := eb != e % 256
  let f : FrameInfo := { ty := ty, usable := !bad && !old, late := st.testBit 0, gate := st.testBit 2, filter := if ty = 1 then bitsOf st 4 2 else 0,
                         ov := if ty = 1 then ofLe ((d.drop 0x40).take 3) else 0, uv := if ty = 1 then ofLe ((d.drop 0x43).take 3) else 0 }
  let was := s.stoGet (blkOff c h 3) 1
  let s1 := if bad then (s.inc R.SWP_CNT_NODEERR).report 0x0502 (srcHop c h) [p2 e] else s
  let s2 := if old then (s1.inc R.SWP_CNT_STALE).report 0x0606 (src 1 (pointOf c h 0)) [p1 eb, p2 e] else s1
  let s3 := forAll ((List.range 24).filter (fun k => f.ov.testBit k)) (fun k s => s.report 0x0501 (src 1 (pointOf c h k)) [p1 0, p2 e]) s2
  let s4 := forAll ((List.range 24).filter (fun k => f.uv.testBit k)) (fun k s => s.report 0x0501 (src 1 (pointOf c h k)) [p1 1, p2 e]) s3
  let s5 := s4.stoppedFrame c h ty d was
  let s6 := forAll (List.range (if ty = 1 then 32 else 8)) (fun k s => s.intakePoint c h k (ofLe ((d.drop (2 * k)).take 2)) f) s5
  let s7 := s6.intakeBlock c h d f
  match (if ty = 2 then s.tab.stringAt c h else none) with
  | some n => s7.intakeString n d f.usable
  | none => s7

/-- A rejected frame of a collection: the hop is tried again under another tag; its own stays in flight as after a timeout (R182, R189, R192). (DEDUCED, log 30) -/
def State.badFrame (s : State) (c h : Nat) (room : Bool) : State :=
  let x := s.chain c
  let covers (t : Nat) : Option WaitCmd := match nth .free x.tags t with | .busy w => if w.kind = 0 && (segHops w).contains h && x.due.contains h then some w else none | _ => none
  match (List.range 8).find? (fun t => (covers t).isSome) with
  | none => s
  | some t =>
    match covers t with
    | none => s
    | some w =>
      let s1 := if w.opcode = 0x03 then s else s.setChain c (x.setTag t (.quarantine w))
      ((s1.retryHop c h room).settleTag c t).afterCollect c room

/-- A hop has answered on an end of its chain: its frame enters intake, and the figures of the sweep follow. -/
def State.takeAnswer (s : State) (c h : Nat) (ret : Bool) (us : Nat) (payload : List Byte) : State :=
  let d := slice 0#8 payload 0 72
  let s1 := s.intake c h d
  let y := s1.chain c
  s1.setChain c { y with
    answered := y.answered ++ [h], lastUs := us
    reachOut := if ret then y.reachOut else y.reachOut ++ [h], reachRet := if ret then y.reachRet ++ [h] else y.reachRet
    lateHops := if (nth 0#8 d 0x46).toNat.testBit 0 then y.lateHops ++ [h] else y.lateHops }

/-- RESPONSE_FRAME: a frame on an end of a chain, as its code groups; `num` is the number of the node it comes from, `us` its arrival after A(N),
`room` says that a retry still fits (R182, R191 to R193). (DEDUCED, log 92) -/
def responseFrame (c : Nat) (ret : Bool) (num : Nat) (line : List (BitVec 10)) (us : Nat) (room : Bool) (s : State) : State :=
  let n := s.tab.nodes c
  if !s.active c then s
  else if !s.swp.open_ then s.inc (R.LNK_CNT_LATE c)
  else match rxFrame line with
    | none => (s.inc (R.LNK_CNT_CRC c)).badFrame c (hopOf n num ret) room
    | some f =>
      let s0 := s.heardChain c
      let x := s0.chain c
      match x.matching n f with
      | none => s0.inc (R.LNK_CNT_CRC c)
      | some (w, quar) =>
        let h := if w.opcode = 0x03 then hopOf n num ret else w.hop
        if w.kind ≠ 0 || n ≤ h || !(segHops w).contains h then s0.inc (R.LNK_CNT_CRC c)
        else if !x.due.contains h then s0
        else
          let s1 := if w.opcode = 0x03 || quar then s0 else s0.setChain c (x.setTag f.tag .free)
          if x.answered.contains h then ((s1.inc R.SWP_CNT_DUP).settleTag c f.tag).issue c
          else ((s1.takeAnswer c h ret us f.payload).settleTag c f.tag).afterCollect c room
def execResponseFrame (c : Fin 64) (ret : Bool) (num : BitVec 8) (idle line : List (BitVec 10)) (us : BitVec 16) (room : Bool)
    (ecc : List (BitVec 26 × Bool)) (s : State) : Host.Outcome State Fault Refusal :=
  finish s (whenOn s (fun s => (responseFrame c.val ret num.toNat (idle ++ line) us.toNat room s).eccWords ecc))

/-! Test slots (R264 to R269). -/

/-- A node takes no test now: muted or unreachable. -/
def State.noTest (s : State) (node : Nat) : Bool := s.hopBit R.LNK_MUTE (node / 128) (node % 128) || s.hopBit R.LNK_UNRCH (node / 128) (node % 128)

/-- Node ids of a chain that a test applies to, ascending. -/
def Img.testNodes (i : Img) (c code : Nat) : List Nat := ((List.range (i.nodes c)).filter (fun h => testApplies code (i.nodeType c h))).map (fun h => c * 128 + h)

/-- Nodes of an entry still to be tested on a chain in this period. -/
def State.campTodo (s : State) (e c : Nat) : List Nat :=
  if (s.tab.campMask e).testBit c then (s.tab.testNodes c (s.tab.campCode e)).filter (fun n => !(nth {} s.swp.camps e).done.contains n) else []

/-- The run of an entry is complete on every chain (R269). -/
def State.campDone (s : State) (e : Nat) : Bool := (List.range 64).all (fun c => (s.campTodo e c).isEmpty)

def State.setCamp (s : State) (e : Nat) (x : CampX) : State := { s with swp := { s.swp with camps := setNth s.swp.camps e x } }
def State.camp (s : State) (e : Nat) : CampX := nth {} s.swp.camps e

/-- A node of an entry is finished: tested, or not run. A complete run ends its period's work; a late one starts the next period. -/
def State.campMark (s : State) (e node : Nat) : State :=
  let x := s.camp e
  let s1 := s.setCamp e { x with done := node :: x.done }
  if !s1.campDone e then s1
  else if x.late then s1.setCamp e { x with done := [], retries := [], late := false, finished := false, periodEnd := s.now + 60000 * s.tab.campMin e }
  else (s1.setCamp e { s1.camp e with finished := true }).putBit R.SWP_TCAMP e false

/-- CAMPAIGN_PERIOD_END (R269). -/
def campaignPeriodEnd (e : Nat) (s : State) : State :=
  if s.swp.camps.length ≤ e then s
  else
    let x := s.camp e
    if x.finished || s.campDone e then s.setCamp e { x with done := [], retries := [], finished := false, periodEnd := x.periodEnd + 60000 * s.tab.campMin e }
    else if x.late then s
    else
      let c := ((List.range 64).find? (fun c => !(s.campTodo e c).isEmpty)).getD 0
      ((s.setCamp e { x with late := true }).putBit R.SWP_TCAMP e true).report 0x060A chip [p1 e, p1 c]
def execCampaignPeriodEnd (e : Fin 32) (s : State) : Host.Outcome State Fault Refusal := finish s (whenOn s (campaignPeriodEnd e.val))

/-- Entries that have a node to test on a chain, in order; skipped nodes count as not run. -/
def State.campSkip (s : State) (c : Nat) : State :=
  forAll (List.range s.swp.camps.length) (fun e s => forAll ((s.campTodo e c).filter s.noTest) (fun n s => s.campMark e n) s) s

/-- The next campaign test of a chain: node, code and source. -/
def State.campNext (s : State) (c : Nat) : Option (Nat × Nat × Nat) :=
  match (List.range s.swp.camps.length).find? (fun e => !(s.camp e).finished && !(s.campTodo e c).isEmpty) with
  | none => none
  | some e => (s.campTodo e c).head?.map (fun n => (n, s.tab.campCode e, e + 1))

/-- Host nodes that are skipped are counted (R264). -/
def State.hostSkip (s : State) : State :=
  let bad := s.swp.hostTodo.filter s.noTest
  ({ s with swp := { s.swp with hostTodo := s.swp.hostTodo.filter (fun n => !s.noTest n) } }).put R.SWP_TREQ_STAT_NOT_RUN (satNat 255 (s.get R.SWP_TREQ_STAT_NOT_RUN + bad.length))

/-- The next host test of a chain. -/
def State.hostNext (s : State) (c : Nat) : Option (Nat × Nat × Nat) :=
  match s.swp.hostReq, s.swp.hostTodo with
  | some (code, ch), n :: _ => if ch = c then some (n, code, 0) else none
  | _, _ => none

/-- A host request ends: done, or aborted (R267). -/
def State.endHostTest (s : State) (st : Nat) : State :=
  match s.swp.hostReq with
  | none => s
  | some (code, c) =>
    let s1 := ({ s with swp := { s.swp with hostReq := none, hostTodo := [], abort := false } }).put R.SWP_TREQ_STAT_STATE st
    if st = 2 then s1.report 0x0608 (src 3 c) [p1 code, p1 (s1.get R.SWP_TREQ_STAT_DONE), p1 (s1.get R.SWP_TREQ_STAT_FAILED)] else s1

/-- After a host test: the request ends with its last node, or with ABORT. (DEDUCED, log 43) -/
def State.hostTestStep (s : State) : State :=
  if s.swp.hostReq.isNone || s.swp.running.any (fun r => r.2.2 == 0) then s
  else if s.swp.abort then s.endHostTest 4
  else if s.swp.hostTodo.isEmpty then s.endHostTest 2
  else s

/-- One chain's test of a slot (R264): the host's and the campaigns' alternate, the host's first. -/
def State.slotChain (s : State) (c : Nat) : State :=
  if !s.active c then s
  else
    let s0 := s.campSkip c
    let host := s0.hostNext c
    let camp := s0.campNext c
    let campFirst := s0.swp.campTurn.contains c
    let pick := if campFirst then camp.or host else host.or camp
    match pick with
    | none => s0
    | some (n, code, source) =>
      let rest := s0.swp.campTurn.filter (fun k => k != c)
      let turn := if source = 0 && camp.isSome then c :: rest else rest
      let s1 := { s0 with swp := { s0.swp with
        running := s0.swp.running ++ [(n, code, source)], campTurn := turn
        hostTodo := if source = 0 then s0.swp.hostTodo.drop 1 else s0.swp.hostTodo } }
      s1.maintCmd c (n % 128) 0x44 5 (leBytes 1 code)

/-- A slot starts on every chain while slots are open and none runs. (DEDUCED, log 29) -/
def State.startSlot (s : State) : State :=
  if s.swp.slots = 0 || !s.swp.running.isEmpty then s
  else forAll (List.range 64) (fun c s => s.slotChain c) (({ s with swp := { s.swp with slots := s.swp.slots - 1 } }).hostSkip.hostTestStep)

/-- A test that has not run is taken up again: a host's without limit, a campaign's at most 4 times in its period (R265). -/
def State.testRetry (s : State) (n source : Nat) : State :=
  if source = 0 then { s with swp := { s.swp with hostTodo := n :: s.swp.hostTodo } }
  else
    let e := source - 1
    let x := s.camp e
    let k := Sparse.get zeroNat x.retries n
    if k < 4 then s.setCamp e { x with retries := Sparse.set zeroNat x.retries n (k + 1) } else s.campMark e n

/-- A node that refuses a host's test counts in NOT_RUN, once in a request (Table SWP-14). (DEDUCED, log 43) -/
def State.noteRefused (s : State) (n source : Nat) : State :=
  if source ≠ 0 || s.swp.hostRefused.contains n then s
  else ({ s with swp := { s.swp with hostRefused := n :: s.swp.hostRefused } }).put R.SWP_TREQ_STAT_NOT_RUN (satNat 255 (s.get R.SWP_TREQ_STAT_NOT_RUN + 1))

/-- A self-test was refused by its node (R265). -/
def State.testRefused (s : State) (n : Nat) : State :=
  match s.swp.running.find? (fun r => r.1 == n) with
  | none => s
  | some (_, _, source) =>
    let s1 := { s with swp := { s.swp with running := s.swp.running.filter (fun r => r.1 != n) } }
    ((s1.noteRefused n source).testRetry n source).hostTestStep.startSlot

/-- What a test that has run leaves: its failure is logged, the host's counts or the campaign's mark follow (R264, R269). -/
def State.testRan (s : State) (n code source : Nat) (pass : Bool) (data0 : Nat) : State :=
  let s1 := if pass then s else s.report 0x0505 (srcHop (n / 128) (n % 128)) [p1 code, p2 data0]
  if source ≠ 0 then s1.campMark (source - 1) n
  else
    let s2 := s1.put R.SWP_TREQ_STAT_DONE (satNat 255 (s1.get R.SWP_TREQ_STAT_DONE + 1))
    if pass then s2 else s2.put R.SWP_TREQ_STAT_FAILED (satNat 255 (s2.get R.SWP_TREQ_STAT_FAILED + 1))

/-- TEST_RESULT_READ: the result of the test that runs on a chain, read under a free tag (R245, R264). (DEDUCED, log 43) -/
def testResultRead (c : Nat) (result : Option (BitVec 16)) (data0 kOut : Nat) (s : State) : State :=
  match s.swp.running.find? (fun r => r.1 / 128 == c), (s.chain c).freeTag with
  | some (n, code, source), some t =>
    let s0 := s.probeCmd c t (n % 128) 0x40 (readPay (0x015, 2)) result.isSome kOut
    let s1 := { s0 with swp := { s0.swp with running := s0.swp.running.filter (fun r => r.1 != n) } }
    let w := result.getD 0#16
    let done := result.isSome && w.getLsbD 8 && w.toNat % 256 == code
    (if done then s1.testRan n code source (w.getLsbD 9) data0 else s1.testRetry n source).hostTestStep.startSlot
  | _, _ => s
def execTestResultRead (c : Fin 64) (result : Option (BitVec 16 × BitVec 16)) (kOut : Fin 129) (s : State) : Host.Outcome State Fault Refusal :=
  finish s (whenOn s (testResultRead c.val (result.map Prod.fst) ((result.map Prod.snd).getD 0#16).toNat kOut.val))

/-- Slots that fit at the current schedule frequency, 0.0001 Hz (R168). -/
def State.nFitNow (s : State) : Nat :=
  let f := s.get R.ANG_SFREQ
  if f = 0 then 0 else ((s.tab.intervalAu - s.tab.schedC) * 10000000000 - 20 * 65536 * f) / (200 * 65536 * f)

/-- The first failing condition of Table SWP-6; 0: none. (DEDUCED, log 43) -/
def State.testRefusal (s : State) (code c first last deadline : Nat) : Nat :=
  let st := s.linkState c
  let nodes := (s.tab.testNodes c code).filter (fun n => decide (first ≤ n % 128 + 1) && decide (n % 128 + 1 ≤ last))
  -- m / (0.5 R_slot) seconds against the deadline, with R_slot the lesser of T f_min and n_fit E(f_min)
  let a := s.tab.schedT * s.tab.fMin * s.tab.intervalAu
  let b := s.nFitNow * 65536 * s.tab.fMin
  let r := min a b
  if s.tab.schedT = 0 then 1
  else if code = 0 || nodes.isEmpty then 2
  else if r = 0 || deadline * r < 200 * nodes.length * s.tab.intervalAu then 3
  else if s.swp.hostReq.isSome then 4
  else if st = 0 || st = 1 || st = 6 || last < first || s.tab.nodes c < first then 5
  else if code = 6 && !s.session then 6
  else 0

/-- GO: the request in SWP_TREQ and SWP_TREQ_RANGE (R266). (DEDUCED, log 43) -/
def testGo (s : State) : State :=
  let code := s.get R.SWP_TREQ_CODE
  let c := s.get R.SWP_TREQ_CHAIN
  let first := s.get R.SWP_TREQ_RANGE_FIRST_HOP
  let last := s.get R.SWP_TREQ_RANGE_LAST_HOP
  let k := s.testRefusal code c first last (s.get R.SWP_TREQ_RANGE_DEADLINE_S)
  if k ≠ 0 then (s.putAll [ (R.SWP_TREQ_STAT_STATE, 3), (R.SWP_TREQ_STAT_REFUSE, k) ]).report 0x0609 (src 3 c) [p1 code, p1 k]
  else
    let nodes := (s.tab.testNodes c code).filter (fun n => decide (first ≤ n % 128 + 1) && decide (n % 128 + 1 ≤ last))
    let s1 := { s with swp := { s.swp with hostReq := some (code, c), hostTodo := nodes, hostRefused := [], abort := false, campTurn := s.swp.campTurn.filter (fun k => k != c) } }
    s1.putAll [ (R.SWP_TREQ_STAT_STATE, 1), (R.SWP_TREQ_STAT_REFUSE, 0), (R.SWP_TREQ_STAT_DONE, 0), (R.SWP_TREQ_STAT_FAILED, 0), (R.SWP_TREQ_STAT_NOT_RUN, 0) ]

/-- TEST_REQUEST_ABORT: a running request ends after its current slot (R267). -/
def testAbort (s : State) : State :=
  if s.swp.hostReq.isNone then s else (({ s with swp := { s.swp with abort := true } }).hostTestStep)

end Sys2Proof.Machine
end

