-- ==== Sys2Proof/Machine/ImageCtl.lean ====
section
/-! DEFINITION. The image in operation (chapter 04): the read-once load, binding, recommissioning, sessions, update and recovery. -/

namespace Sys2Proof.Machine

/-! The NOR and its slots (R121). -/

/-- The image in a slot of a NOR: `base` and `size` in bytes. -/
def slotImg (nor : List (Nat × Byte)) (base size : Nat) : Img :=
  ⟨(nor.filter (fun p => decide (base ≤ p.1) && decide (p.1 < base + size))).map (fun p => (p.1 - base, p.2)), []⟩

/-- Writes bytes to the NOR. -/
def State.norWrite (s : State) (a : Nat) (bs : List Byte) : State := { s with img := { s.img with nor := Sparse.setRun erased s.img.nor a bs } }

/-- Erases a range of the NOR. -/
def State.norErase (s : State) (base size : Nat) : State :=
  { s with img := { s.img with nor := s.img.nor.filter (fun p => decide (p.1 < base) || decide (base + size ≤ p.1)) } }

/-- A byte of the target slot that could not be written as wanted: what it holds is free. No byte of another slot changes (R142). -/
def State.norSpoil (s : State) (a : Nat) : State :=
  let (v, s1) := s.draw
  if s.img.target ≤ a ∧ a < s.img.target + s.img.slotSize then s1.norWrite a [v.setWidth 8] else s1

/-- The magic of Table IMG-1. -/
def magicBytes : List Byte := [0x4E#8, 0x47#8, 0x49#8, 0x4D#8]

/-- Bytes of an image replaced. -/
def Img.setBytes (i : Img) (a : Nat) (bs : List Byte) : Img := { i with data := Sparse.setRun erased i.data a bs }

/-! Binding (R131, R132). -/

/-- Bytes of the module unique ID, lowest first. -/
def uidBytes : List Byte := leBytes 16 Config.moduleUid.toNat

/-- The HMAC of an image with bytes 0x04 to 0x17 of its binding block (R131). -/
def Img.mac (i : Img) (bind : List Byte) : List Byte := hmacSha256 Config.bindKey (i.raw 0 (i.len - 64) ++ bind)

/-- The binding class of R132. -/
def Img.bindClass (i : Img) : Nat :=
  let b := i.len - 64
  if i.r32 b ≠ 1 then 1
  else if i.raw (b + 8) 16 != uidBytes then 2
  else if i.raw (b + 0x18) 32 == i.mac (i.raw (b + 4) 20) then 0 else 3

/-- The image bound to this module with a bind sequence. -/
def Img.bind (i : Img) (seq : Nat) : Img :=
  let head := leBytes 4 seq ++ uidBytes
  i.setBytes (i.len - 64) (leBytes 4 1 ++ head ++ i.mac head ++ List.replicate 8 0#8)

/-- The image with its binding block erased. -/
def Img.unbound (i : Img) : Img := i.setBytes (i.len - 64) (List.replicate 64 0xFF#8)

/-- The integrity digest renewed (R125). -/
def Img.digest (i : Img) : Img := i.setBytes (i.len - 96) (sha256 (i.raw 0 (i.len - 96)))

/-- Appends a change-log entry, and renews the section's CRC-32C and the digest (R130, Table IMG-9). -/
def Img.append (i : Img) (optime cycles kind prev seq : Nat) : Img :=
  match ((List.range i.secCount).find? (fun k => (i.dirEnt k).type == 16)) with
  | none => i
  | some k =>
    let e := i.dirEnt k
    let idx := i.r16 (e.off + 4) % 256
    let ent := leBytes 6 optime ++ leBytes 3 cycles ++ leBytes 1 kind ++ leBytes 2 0 ++ leBytes 4 prev ++ leBytes 4 i.rev ++ uidBytes.take 8 ++ leBytes 4 seq
    let i1 := (i.setBytes (e.off + 16 + 32 * idx) ent).setBytes e.off (leBytes 4 (i.r32 e.off + 1) ++ leBytes 2 ((idx + 1) % 256))
    (i1.setBytes (64 + 16 * k + 12) (leBytes 4 (crc32c (i1.raw e.off e.len)).toNat)).digest

/-- The password record of an image: salt and hash. -/
def Img.password (i : Img) : List Byte := i.bytes 12 0 48

/-- The shadow takes a password record (R136). (DEDUCED, log 23) -/
def State.setShadow (s : State) (p : List Byte) : State := ({ s with img := { s.img with shadow := some p } }).putB R.IMG_STAT_SHADOW true

/-! Sessions (R135 to R139). -/

/-- IMG_PW_0 to IMG_PW_7 are cleared. -/
def State.clearPw (s : State) : State := { s with img := { s.img with pw := [] } }

/-- OPEN: the comparison starts, or the request is ignored with its cause (R137, R138). (DEDUCED, log 27) -/
def openSession (s : State) : State :=
  let ignore (c : Nat) : State := s.clearPw.report 0x0210 chip [p1 c]
  if s.getB R.IMG_STAT_LOCKOUT then ignore 1
  else if s.session then ignore 2
  else if s.img.comparing.isSome then ignore 3
  else
    let bs := slice 0#8 s.img.pw 0 (s.get R.IMG_SESSION_PW_LEN)
    { s.clearPw with img := { s.clearPw.img with comparing := some bs } }

/-- A session opens for 600 s (R137). -/
def State.startSession (s : State) (recovery : Bool) : State :=
  let s1 := s.putAll [ (R.IMG_STAT_FAIL_COUNT, 0), (R.IMG_STAT_SESSION, 1), (R.IMG_STAT_RECOVERY_SESSION, b2n recovery) ]
  ({ s1 with img := { s1.img with sessionEnd := s.now + 600000 } }).report 0x0204 chip [p1 (b2n recovery)]

/-- A comparison fails; the fifth in a row starts a lockout of 900 s of operating time (R138). (DEDUCED, log 27) -/
def State.failCompare (s : State) : State :=
  let n := satNat 5 (s.get R.IMG_STAT_FAIL_COUNT + 1)
  let s1 := (s.put R.IMG_STAT_FAIL_COUNT n).report 0x0206 chip [p1 n]
  if n < 5 then s1
  else (({ s1 with img := { s1.img with lockoutEnd := s.now + 900000 } }).putB R.IMG_STAT_LOCKOUT true |>.report 0x0207 chip []).setCause 5

/-- PASSWORD_COMPARE_DONE: against the loaded image, in recovery against the shadow; without one any password of valid length opens
a recovery session, and one of any other length counts as a failed comparison (R136, R138). (DESIGN CHOICE, log 128) -/
def passwordCompareDone (s : State) : State :=
  match s.img.comparing with
  | none => s
  | some bs =>
    let s1 := { s with img := { s.img with comparing := none } }
    let same (p : List Byte) : Bool := sha256 (p.take 16 ++ bs) == (p.drop 16).take 32
    if s.img.loaded then (if same s.tab.password then s1.startSession false else s1.failCompare)
    else match s.img.shadow with
      | some p => if same p then s1.startSession true else s1.failCompare
      | none => if within bs.length 8 32 then (s1.report 0x020C chip [p2 s.img.bindCount]).startSession true else s1.failCompare
def execPasswordCompareDone (s : State) : Host.Outcome State Fault Refusal := finish s (whenOn s passwordCompareDone)

/-- CLOSE (R137). -/
def closeSession (s : State) : State := if s.session then s.endSession 0 else s

/-- SESSION_EXPIRY (R137). -/
def sessionExpiry (s : State) : State := if s.session then s.endSession 1 else s
def execSessionExpiry (s : State) : Host.Outcome State Fault Refusal := finish s (whenOn s sessionExpiry)

/-- LOCKOUT_END (R138). (DEDUCED, log 27) -/
def lockoutEnd (s : State) : State :=
  if s.getB R.IMG_STAT_LOCKOUT then
    let s1 := s.putAll [ (R.IMG_STAT_LOCKOUT, 0), (R.IMG_STAT_FAIL_COUNT, 0) ]
    { s1 with img := { s1.img with lockoutEnd := 0 } }
  else s
def execLockoutEnd (s : State) : Host.Outcome State Fault Refusal := finish s (whenOn s lockoutEnd)

/-! The load (R122, R123). -/

/-- IMG_ID to IMG_DIGEST7 of the loaded image (Table IMG-14). -/
def State.showIdentity (s : State) : State :=
  let i := s.tab
  let s1 := s.putAll [ (R.IMG_ID, i.imgId), (R.IMG_REV, i.rev), (R.IMG_LEN, i.len), (R.IMG_BINDSEQ, i.r32 (i.len - 60)), (R.IMG_CHG_TOTAL, i.u32 16 0) ]
  s1.putAll ((List.range 8).map (fun n => (R.IMG_DIGEST n, i.r32 (i.len - 96 + 4 * n))))

/-- Registers and unit state loaded from the image (Table REG-2, "Image"). -/
def State.loadTables (s : State) : State :=
  let i := s.tab
  let s1 := s.putAll [ (R.PWR_WAKE_WAKE_MIN, i.u16 13 2), (R.SWP_SCHED_S, i.schedS), (R.SWP_SCHED_P_CODE, i.u8 7 1), (R.SWP_SCHED_D, i.schedD),
    (R.SWP_SCHED_T, i.schedT), (R.SWP_SCHED_GATE, b2n i.schedGate), (R.SWP_SCHED_C, i.schedC), (R.SWP_SCHED2_Q, i.u16 7 0x16),
    (R.HOST_PUB_STAT_FLAGS, i.pubFlags), (R.HOST_PUB_STAT_RING, ((List.range 64).find? (fun n => i.ringType n == 2)).getD 0x3F) ]
  let s2 := s1.putAll ((List.range 64).map (fun n => (R.RING_STAT_TYPE n, i.ringType n)))
  let s3 := s2.putAll ((List.range 8).map (fun r => (R.IMG_REGION_D_EFF r, dCode i.schedD)))
  let s4 := forAll (i.strings.filter (fun n => s3.bit (R.CTR_STRWELD (n / 32)) (n % 32))) (fun n s => s.setStr n { s.str n with state := 9 }) s3
  let s5 := { s4.startAngle with swp := { s4.swp with camps := (List.range i.campCount).map (fun _ => ({} : CampX)) } }
  (forAll (List.range 8) (fun n s => s.refreshInput n) s5.loadSwitch.loadSfl).settle

/-- A header that R122 does not turn away: magic, format version, section count, and a length within a slot. -/
def Img.headOk (i : Img) (size : Nat) : Bool :=
  i.raw 0 4 == magicBytes && i.r16 4 == 1 && within i.secCount 14 16 && decide (i.len ≤ min size 16777216)

/-- Slots the NOR is divided into: base and size. It is one slot where slot 0 holds the header of an image longer than half the
density, and two otherwise, so that such an image can be staged only where one stands already (R121). (DESIGN CHOICE, log 126) -/
def slotsOf (nor : List (Nat × Byte)) (density : Nat) : List (Nat × Nat) :=
  let half := density / 2
  let h := slotImg nor 0 density
  if h.headOk density && decide (half < h.len) then [(0, density)] else [(0, half), (half, half)]

/-- The better of two candidates under a rank; the first on a tie. (DEDUCED, log 23) -/
def better (rank : Img → Nat) : List (Nat × Img) → Option (Nat × Img)
  | [] => none
  | p :: ps =>
    match better rank ps with
    | none => some p
    | some q => if rank p.2 < rank q.2 then some q else some p

/-- The slot chosen under R122, of the intact ones. (DEDUCED, log 23) -/
def chooseSlot (l : List (Nat × Img)) : Option (Nat × Img) :=
  match better (fun i => i.r32 (i.len - 60)) (l.filter (fun p => p.2.bindClass == 0)) with
  | some p => some p
  | none => better Img.rev l

/-- The intact images of the slots, as slot number and parsed image (R122). -/
def intactSlots (nor : List (Nat × Byte)) (density : Nat) : List (Nat × Img) :=
  let slots := slotsOf nor density
  let imgs := (List.range slots.length).map (fun k => let p := nth (0, 0) slots k; (k, slotImg nor p.1 p.2))
  (imgs.filter (fun p => (p.2.refusals (nth (0, 0) slots 0).2).isEmpty)).map (fun p => (p.1, p.2.parsed))

/-- IMAGE_LOAD: in stage 0 the module reads the slots, chooses one and loads it, or enters image recovery, whose event names slot 0
and the first refusal of slot 0 (R122, R132, R102). (DESIGN CHOICE, log 126) -/
def imageLoad (density : Nat) (s : State) : State :=
  if s.stage ≠ 0 || s.img.attempted || s.pwr.boardTest || s.pwr.held || !s.getB R.PWR_STAT_VOUT33_OK then s
  else
    let slots := slotsOf s.img.nor density
    let sz := (nth (0, 0) slots 0).2
    let two := b2n (decide (1 < slots.length))
    let s0 := ({ s with img := { s.img with attempted := true, slotSize := sz } }).put R.IMG_STAT_TWO_SLOTS two
    match chooseSlot (intactSlots s.img.nor density) with
    | none =>
      let first := ((slotImg s.img.nor 0 sz).refusals sz).headD (0x1000, 0, 0)
      let s1 := s0.putAll [ (R.GLOBAL_STAGE_IMAGE_RECOVERY, 1), (R.IMG_STAT_RECOVERY, 1), (R.IMG_STAT_SHADOW, b2n s.img.shadow.isSome), (R.IMG_CHECK_BUSY, 0) ]
      ({ s1 with img := { s1.img with checks := [] } }).report 0x0202 chip [p1 0, p2 first.1]
    | some (k, i) =>
      let b := i.bindClass
      let data := i.data.filter (fun p => decide (p.1 < i.len))
      let s1 := { s0 with img := { s0.img with loaded := true, data := data, dir := i.dir } }
      let s2 := (s1.putAll [ (R.IMG_STAT_SLOT, k), (R.IMG_STAT_BIND, b), (R.IMG_STAT_SHADOW, b2n s.img.shadow.isSome) ]).showIdentity.loadTables
      let s3 := if b = 0 && s2.img.shadow != some i.password then s2.setShadow i.password else s2
      let s4 := s3.report 0x0201 chip [p1 k, p2 i.rev, p1 b]
      if b = 0 then s4
      else ((s4.putB R.GLOBAL_STAGE_FOREIGN_IMAGE true).take (s4.event (if b = 3 then 3 else 1) 0x0203 chip (packPars 8 [p1 b]))).setCause 5
def execImageLoad (density : Word) (s : State) : Host.Outcome State Fault Refusal := finish s (whenOn s (imageLoad density.toNat))

/-! Recommissioning (R134). -/

/-- The slot the loaded image came from, as its base in the NOR. -/
def State.slotBase (s : State) : Nat := s.get R.IMG_STAT_SLOT * s.img.slotSize

/-- The first condition of R134 that fails; 0 where none does. -/
def State.recommRefusal (s : State) : Nat :=
  let u := s.get R.IMG_STAT_UPD_STATE
  if s.safety ≠ 0 then 1
  else if !(u == 0 || (s.getB R.IMG_STAT_TWO_SLOTS && (u == 5 || u == 6 || u == 7))) || (!s.getB R.IMG_STAT_TWO_SLOTS && s.img.started) then 2
  else if s.get R.IMG_CHECK_RESULT ≠ 1 then 3 else 0

/-- RECOMMISSION: refused with its condition, or the acceptance check of R144 begins. With no image loaded there is no check that
passed, whatever RESULT shows of a recovery. In Split it is refused (R436), and a code for that is not among those of R134: where no other condition
fails, the parameter is a free value. (DESIGN CHOICE, log 118) -/
def recommission (s : State) : State :=
  if s.img.recomm then s
  else match s.recommRefusal with
    | 0 =>
      if s.get R.PAIR_STAT_MODE = 2 then let (v, s1) := s.draw; s1.report 0x020F chip [p1 (v.toNat % 256)]
      else if s.img.loaded then ({ s with img := { s.img with recomm := true } }).requestCheck 5 else s.report 0x020F chip [p1 3]
    | c => s.report 0x020F chip [p1 c]

/-- A write of an image with its binding block to a slot: the whole of it, or, where a byte fails, all but that byte and the binding.
A failure in the header leaves the slot without its magic, so that the layout of R121 and the other slot stay as they are (R142). -/
def State.writeSlot (s : State) (base : Nat) (i : Img) (fail : Option Nat) : State :=
  match fail with
  | none => s.norWrite base (i.raw 0 i.len)
  | some a =>
    let b := if base ≤ a ∧ a < base + i.len then a else base
    let j := if b < base + 64 then i.unbound.setBytes 0 (List.replicate 4 0xFF#8) else i.unbound
    (({ s with img := { s.img with target := base } }).norWrite base (j.raw 0 i.len)).norSpoil b

/-- The next bind sequence is taken (R131). -/
def State.bindNext (s : State) : Nat × State := let n := (s.img.bindCount + 1) % 2 ^ 32; (n, { s with img := { s.img with bindCount := n } })

/-- RECOMMISSION_DONE: the rewrite and its read-back end (R134). -/
def recommissionDone (fail : Option Nat) (s : State) : State :=
  if !s.img.recomm || s.img.checks.contains 5 then s
  else
    let s0 := { s with img := { s.img with recomm := false } }
    let (seq, s1) := s0.bindNext
    let i := s.tab
    let j := (i.append s.now s.pwr.cycles 3 i.rev seq).bind seq
    let s2 := s1.writeSlot s.slotBase j fail
    match fail with
    | some a => s2.report 0x020A chip [p1 (s.get R.IMG_STAT_SLOT), p2 a]
    | none =>
      let s3 := ({ s2 with img := { s2.img with data := j.data } }).showIdentity.setShadow j.password
      (s3.putAll [ (R.IMG_STAT_BIND, 0), (R.GLOBAL_STAGE_FOREIGN_IMAGE, 0) ]).report 0x020B chip [p2 seq]
def execRecommissionDone (fail : Option (BitVec 32)) (s : State) : Host.Outcome State Fault Refusal :=
  finish s (whenOn s (recommissionDone (fail.map BitVec.toNat)))

/-! Update (R140 to R142). -/

/-- UPD_STATE takes a value; 3, 5, 6 and 7 set cause 5 (Table SCOPE-8). (DEDUCED, log 24) -/
def State.setUpd (s : State) (u : Nat) : State :=
  let s1 := s.put R.IMG_STAT_UPD_STATE u
  if u = 3 || u = 5 || u = 6 || u = 7 then s1.setCause 5 else s1

/-- The slot an update or a recovery writes to: the one not in use, or slot 0 (R140). -/
def State.targetSlot (s : State) : Nat :=
  if s.img.loaded && s.getB R.IMG_STAT_TWO_SLOTS then 1 - s.get R.IMG_STAT_SLOT else 0

/-- START: a transfer begins in stage 4 through an Image-transfer ring (R140, R141). -/
def startUpdate (s : State) : State :=
  let u := s.get R.IMG_STAT_UPD_STATE
  if s.stage ≠ 4 || !(u == 0 || 5 ≤ u) || s.get (R.RING_STAT_TYPE (s.get R.IMG_UPD_RING)) ≠ 5 then s
  else
    let base := s.targetSlot * s.img.slotSize
    let s1 := (s.norErase base s.img.slotSize).setUpd 1
    { s1.put R.IMG_UPD_LEN 0 with img := { s1.img with target := base, magic := [], started := true } }

/-- Bytes at an offset of the staged image are written, but for the four of the magic, which are held (R140). -/
def State.stageBytes (s : State) (off : Nat) (bs : List Byte) : State :=
  let held := if off < 4 then setNth4 s.img.magic off (bs.take (4 - off)) else s.img.magic
  let rest := bs.drop (4 - off)
  { s.norWrite (s.img.target + max off 4) rest with img := { (s.norWrite (s.img.target + max off 4) rest).img with magic := held } }
where
  /-- The held magic with bytes replaced from an offset. -/
  setNth4 (m : List Byte) (off : Nat) (bs : List Byte) : List Byte :=
    let m4 := slice 0xFF#8 m 0 4
    m4.take off ++ bs ++ m4.drop (off + bs.length)

/-- The staged image with its magic and without a binding. -/
def State.staged (s : State) : Img :=
  let i := (slotImg s.img.nor s.img.target s.img.slotSize).setBytes 0 s.img.magic
  if 64 ≤ i.len then i.unbound else i

/-- What validation finds: the checks of R122, then the deadline check (R140). Refusals found before it are listed as its result, so
that RESULT reads 2 with the trigger. (DESIGN CHOICE, log 127) -/
def State.validate (s : State) (trigger : Nat) : List Ref × State :=
  match s.staged.refusals s.img.slotSize with
  | [] => s.runCheckOn s.staged.parsed false trigger
  | l => (l, s.listRefs trigger l)

/-- A refused image (Table IMG-11, state 6). -/
def State.refuseImage (s : State) (refs : List Ref) : State :=
  let r := refs.headD (0, 0, 0)
  (s.setUpd 6).report 0x0209 chip [p2 r.1, pS r.2.2]

/-- VALIDATION_DONE (R140). -/
def validationDone (s : State) : State :=
  if s.get R.IMG_STAT_UPD_STATE ≠ 2 || s.img.recCommit then s
  else
    let (refs, s1) := s.validate 0
    if refs.isEmpty then ({ s1 with img := { s1.img with repairSeen := s1.get R.DIAG_REP_SEQ } }).setUpd 3 else s1.refuseImage refs
def execValidationDone (s : State) : Host.Outcome State Fault Refusal := finish s (whenOn s validationDone)

/-- COMMIT: the deadline check runs again where the repair state has changed; then the writing begins (R141). -/
def commitUpdate (s : State) : State :=
  if s.get R.IMG_STAT_UPD_STATE ≠ 3 then s
  else if s.img.repairSeen = s.get R.DIAG_REP_SEQ then s.setUpd 4
  else
    let (refs, s1) := s.runCheckOn s.staged.parsed false 0
    if refs.isEmpty then s1.setUpd 4 else s1.refuseImage refs

/-- The staged image is completed, bound and written; the read-back matches or a byte has failed twice (R130, R140). -/
def State.writeStaged (s : State) (kind prev : Nat) (fail : Option Nat) : Nat × State :=
  let (seq, s1) := s.bindNext
  let i := s.staged.parsed
  let j := (i.append s.now s.pwr.cycles kind prev seq).bind seq
  let s2 := s1.writeSlot s.img.target j fail
  match fail with
  | some a => (seq, (s2.setUpd 7).report 0x020A chip [p1 s.targetSlot, p2 a])
  | none => (seq, (s2.setShadow j.password).setUpd 5)

/-- COMMIT_DONE (R140). -/
def commitDone (fail : Option Nat) (s : State) : State :=
  if s.get R.IMG_STAT_UPD_STATE ≠ 4 then s
  else
    let rev := s.staged.rev
    let (_, s1) := s.writeStaged 2 s.tab.rev fail
    if fail.isSome then s1 else s1.report 0x0208 chip [p2 rev, p1 s.targetSlot]
def execCommitDone (fail : Option (BitVec 32)) (s : State) : Host.Outcome State Fault Refusal := finish s (whenOn s (commitDone (fail.map BitVec.toNat)))

/-- UPDATE_ABORT: no effect in state 4, and none on the NOR; the transfer, a recovery's too, ends (R141, R143). -/
def updateAbort (s : State) : State :=
  if s.get R.IMG_STAT_UPD_STATE = 4 then s
  else
    let s1 := ({ s with img := { s.img with recCommit := false } }).setUpd 0
    if s.getB R.IMG_STAT_REC_BUSY then (s1.putB R.IMG_STAT_REC_BUSY false).setCause 5 else s1

/-! Recovery (R143). -/

/-- REC_WRITE: in recovery a chunk of the Exchange RAM is to be staged into slot 0. In any state but 1 it begins a new transfer, as
START does: the slot is erased and the count of bytes starts at 0 (R141). -/
def recWrite (s : State) : State :=
  if !s.getB R.IMG_STAT_RECOVERY || s.getB R.IMG_STAT_REC_BUSY || s.img.recCommit then s
  else
    let s1 := if s.get R.IMG_STAT_UPD_STATE = 1 then s
      else
        let e := s.norErase 0 s.img.slotSize
        { e.put R.IMG_UPD_LEN 0 with img := { e.img with target := 0, magic := [], started := true } }
    (s1.putB R.IMG_STAT_REC_BUSY true).setUpd 1

/-- Bytes of the Exchange RAM from its start. -/
def State.xramBytes (s : State) (n : Nat) : List Byte :=
  ((List.range ((n + 3) / 4)).flatMap (fun k => leBytes 4 (Sparse.get (fun _ => 0#32) s.host.xram k).toNat)).take n

/-- REC_CHUNK_DONE: the chunk is staged with the offset and length as they were written, or a write to the NOR has failed twice.
(DESIGN CHOICE, log 130) -/
def recChunkDone (fail : Option Nat) (s : State) : State :=
  if !s.getB R.IMG_STAT_REC_BUSY then s
  else
    let off := s.get R.IMG_REC_OFF_OFF
    let len := s.get R.IMG_REC_LEN_LEN
    let room := s.img.slotSize - off
    let s1 := (s.stageBytes off ((s.xramBytes len).take room)).putB R.IMG_STAT_REC_BUSY false
    let s2 := s1.incBy R.IMG_UPD_LEN len
    (match fail with
      | none => s2
      | some a => ((s2.norSpoil a).setUpd 7).report 0x020A chip [p1 0, p2 a]).setCause 5
def execRecChunkDone (fail : Option (BitVec 32)) (s : State) : Host.Outcome State Fault Refusal := finish s (whenOn s (recChunkDone (fail.map BitVec.toNat)))

/-- REC_COMMIT: the staged image is to be validated, bound and written. Nothing is staged in UPD_STATE 0. -/
def recCommit (s : State) : State :=
  if !s.getB R.IMG_STAT_RECOVERY || s.getB R.IMG_STAT_REC_BUSY || s.img.recCommit || s.get R.IMG_STAT_UPD_STATE = 0 then s
  else ({ s with img := { s.img with recCommit := true } }).setUpd 2

/-- REC_COMMIT_DONE: refused, failed, or committed with 0x020C (R143). -/
def recCommitDone (fail : Option Nat) (s : State) : State :=
  if !s.img.recCommit then s
  else
    let (refs, s1) := ({ s with img := { s.img with recCommit := false } }).validate 4
    if !refs.isEmpty then s1.refuseImage refs
    else
      let (seq, s2) := s1.writeStaged 4 0 fail
      if fail.isSome then s2 else s2.report 0x020C chip [p2 seq]
def execRecCommitDone (fail : Option (BitVec 32)) (s : State) : Host.Outcome State Fault Refusal := finish s (whenOn s (recCommitDone (fail.map BitVec.toNat)))

end Sys2Proof.Machine
end

