-- ==== Sys2Proof/Machine/CellUpdate.lean ====
section
/-! DEFINITION. One cell update: prediction, filter, slow estimators, lock-in, core temperature, record and summary (R298 to R319, R329 to R345). -/

namespace Sys2Proof.Machine

/-! Charge over the time since the last update (R303, R304). -/

/-- Charge, elapsed time, the intervals of substituted epochs, I_k and whether it is substituted, I_k of the previous update. -/
structure Carried where
  q : Word := 0#32
  dt : Word := 0#32
  subs : List Word := []
  i : Word := 0#32
  iSub : Bool := false
  prev : Option Word := none
  deriving DecidableEq, Repr

/-- A sweep interval in seconds at the schedule frequency of a state (0.0001 Hz). -/
def State.intervalS (s : State) : Word := let f := s.get R.ANG_SFREQ; if f = 0 then 0#32 else fr (s.tab.intervalAu * 10000 : Nat) (65536 * f)

def State.ring (s : State) (n : Nat) : List ChargeEntry := Sparse.get (fun _ => []) s.est.rings n
def State.lastCur (s : State) (n : Nat) : Word := Sparse.get (fun _ => 0#32) s.est.lastI n

/-- What a string carried since a cell's last update; a cell not updated since the start takes the last epoch alone. (DEDUCED, log 49) -/
def State.carried (s : State) (str : Option Nat) (upd : Option Word) : Carried :=
  let n := s.est.updEpoch
  let k := match upd with | none => 1 | some u => max 1 (n - u).toNat
  match str with
  | none => { dt := Fp.mul (Fp.ofNat k) s.intervalS }
  | some m =>
    let ring := s.ring m
    let used := ring.take (min k 8)
    let old := k - used.length
    let own := ring.head?
    let base : Carried := { q := used.foldl (fun a e => Fp.add a e.q) 0#32, dt := used.foldl (fun a e => Fp.add a e.dt) 0#32,
                            subs := (used.filter (fun e => !e.valid)).map (fun e => e.dt),
                            i := (own.map (fun e => e.i)).getD (s.lastCur m), iSub := !((own.map (fun e => e.valid)).getD false),
                            prev := match upd with | none => none | some u => (ring.find? (fun e => e.epoch == u)).map (fun e => e.i) }
    if old = 0 then base
    else
      let t := s.intervalS
      let more := Fp.mul (Fp.ofNat old) t
      { base with q := Fp.fma (s.lastCur m) more base.q, dt := Fp.add base.dt more, subs := base.subs ++ List.replicate old t }

/-! Temperatures of the block (R299, R342). -/

/-- VALID auxiliary points of a block in the last closed epoch: input and °C. -/
def State.auxTemps (s : State) (c h : Nat) : List (Nat × Word) :=
  (List.range 8).filterMap (fun j =>
    let w := (s.smp (s.lastSet (regionOf c)) (pointOf c h (24 + j) % 32768)).toNat
    if w.testBit 32 then some (24 + j, fr (signedOf 16 (bitsOf w 0 16)) 100) else none)

def meanOf (l : List Word) : Option Word := if l.isEmpty then none else some (Fp.div (l.foldl Fp.add 0#32) (Fp.ofNat l.length))

/-- Surface temperature of a cell input (R342). (DEDUCED, log 49) -/
def surfaceOf (aux : List (Nat × Word)) (k : Nat) : Option Word := ((aux.find? (fun p => p.1 == 24 + k / 3)).map (fun p => p.2)).or (meanOf (aux.map (fun p => p.2)))

/-! Initialisation (R307, R345). -/

/-- g(s) of R307 at breakpoint s of 32. -/
def Img.initG (i : Img) (p : Nat) (t v ik : Word) (s : Nat) : Word :=
  let a := i.profAt p (fr s 32) t
  Fp.sub (Fp.fma (Fp.neg (ohm a.r0)) ik a.m) v

/-- The lowest SoC that explains a voltage. -/
def Img.initSoc (i : Img) (p : Nat) (t v ik : Word) : Word :=
  let g := i.initG p t v ik
  if Fp.le 0#32 (g 0) then 0#32
  else if Fp.lt (g 32) 0#32 then one
  else match (List.range 32).find? (fun s => Fp.lt (g s) 0#32 && Fp.le 0#32 (g (s + 1))) with
    | none => one
    | some s => Fp.mul (fr 1 32) (Fp.add (Fp.ofNat s) (Fp.div (Fp.neg (g s)) (Fp.sub (g (s + 1)) (g s))))

/-- T_c and σ_T after initialisation or a start. -/
def Img.initTemp (i : Img) (p : Nat) (ts : Option Word) : Word × Word :=
  match ts with
  | none => (0#32, fr 100 1)
  | some t => (t, Fp.sqrt (Fp.add (sq (i.pc p 0x70)) (fr 25 1)))

def Img.initRec (i : Img) (p : Nat) (t v ik : Word) (ts : Option Word) (r : CellRec) : CellRec :=
  let tt := i.initTemp p ts
  { r with soc := i.initSoc p t v ik, va := 0#32, vb := 0#32, h := 0#32, cap := i.pf p 8, scale := one, p := diagP (i.ph 4) (i.ph 0x10), tc := tt.1, sg := tt.2 }

/-! Prediction and filter (R298 to R302). -/

/-- The prediction: states, covariance, mean current, whether every epoch was measured, and the profile there. -/
structure Pred where
  soc : Word
  va : Word
  vb : Word
  h : Word
  p : List Word
  mean : Word
  at_ : ProfAt
  deriving DecidableEq, Repr

/-- Index in the upper triangle. -/
def tri (i j : Nat) : Nat := let a := min i j; let b := max i j; nth 0 [0, 4, 7, 9] a + (b - a)

def Img.predict (i : Img) (pr : Nat) (r : CellRec) (c : Carried) (t : Word) : Pred :=
  let q36 := Fp.mul (fr 3600 1) r.cap
  let eta := if Fp.lt c.q 0#32 then i.pf pr 0x0C else one
  let soc := Fp.sub r.soc (Fp.div (Fp.mul eta c.q) q36)
  let mean := Fp.div c.q c.dt
  let a0 := i.profAt pr r.soc t
  let al (tau : Word) : Word := Fp.exp (Fp.neg (Fp.div c.dt tau))
  let aa := al a0.ta
  let ab := al a0.tb
  let va := Fp.fma aa r.va (Fp.mul (Fp.sub one aa) (Fp.mul (ohm a0.ra) mean))
  let vb := Fp.fma ab r.vb (Fp.mul (Fp.sub one ab) (Fp.mul (ohm a0.rb) mean))
  let be := Fp.exp (Fp.neg (Fp.div (Fp.mul (i.pf pr 0x30) (Fp.abs c.q)) q36))
  let h := Fp.sub (Fp.mul be r.h) (Fp.mul (Fp.sub one be) (Fp.sgn mean))
  let f : List Word := [one, aa, ab, be]
  let qsub := c.subs.foldl (fun a d => Fp.add a (sq (Fp.div (Fp.mul (i.ph 0x14) d) q36))) 0#32
  let add : List Word := [Fp.fma (i.pf pr 0x34) c.dt qsub, Fp.mul (i.pf pr 0x38) c.dt, Fp.mul (i.pf pr 0x38) c.dt, Fp.mul (i.pf pr 0x3C) c.dt]
  let p := (List.range 4).flatMap (fun a => (List.range (4 - a)).map (fun d =>
    let b := a + d
    let v := Fp.mul (Fp.mul (nth 0#32 f a) (nth 0#32 f b)) (nth 0#32 r.p (tri a b))
    if d = 0 then Fp.add v (nth 0#32 add a) else v))
  { soc := soc, va := va, vb := vb, h := h, p := p, mean := mean, at_ := i.profAt pr soc t }

/-- V̂ of R299 for a state and a current; r0 in mΩ. -/
def vHat (a : ProfAt) (va vb h scale ik : Word) : Word :=
  Fp.fma (Fp.neg (Fp.mul scale (ohm a.r0))) ik (Fp.sub (Fp.sub (Fp.fma h a.h a.m) va) vb)

/-- The innovation, its variance and the gain (R300). -/
structure Innov where
  e : Word
  s : Word
  ph : List Word
  k : List Word
  deriving DecidableEq, Repr

def Img.innov (i : Img) (pr : Nat) (x : Pred) (scale v ik m : Word) (rsub : Word) : Innov :=
  let hx : List Word := [Fp.fma x.h x.at_.dh x.at_.dm, Fp.neg one, Fp.neg one, x.at_.h]
  let dot (a : List Word) : Word := (List.range 4).foldl (fun t j => Fp.fma (nth 0#32 a j) (nth 0#32 hx j) t) 0#32
  let ph := (List.range 4).map (fun a => dot ((List.range 4).map (fun b => nth 0#32 x.p (tri a b))))
  let s := Fp.add (Fp.fma (sq (i.pf pr 0x40)) m (dot ph)) rsub
  { e := Fp.sub v (vHat x.at_ x.va x.vb x.h scale ik), s := s, ph := ph, k := ph.map (fun a => Fp.div a s) }

/-- The corrected state and covariance. -/
def correct (x : Pred) (n : Innov) (r : CellRec) : CellRec :=
  let up (a : Word) (j : Nat) : Word := Fp.fma (nth 0#32 n.k j) n.e a
  { r with soc := up x.soc 0, va := up x.va 1, vb := up x.vb 2, h := up x.h 3
           p := (List.range 4).flatMap (fun a => (List.range (4 - a)).map (fun d =>
             Fp.fma (Fp.neg (nth 0#32 n.k a)) (nth 0#32 n.ph (a + d)) (nth 0#32 x.p (tri a (a + d))))) }

/-- SoC within 0 to 1, h within −1 to +1 (R302). -/
def limitRec (r : CellRec) : CellRec := { r with soc := Fp.clamp 0#32 one r.soc, h := Fp.clamp (Fp.neg one) one r.h }

/-- A value is not finite, or a diagonal element is 0 or below (R302). -/
def CellRec.broken (r : CellRec) : Bool :=
  ([r.soc, r.va, r.vb, r.h] ++ r.p).any Fp.nonFinite || [0, 4, 7, 9].any (fun k => !Fp.lt 0#32 (nth 0#32 r.p k))

/-! Slow estimators (R317 to R319). -/

def Img.slow (i : Img) (pr : Nat) (r : CellRec) (x : Pred) (n : Innov) (c : Carried) (capOk rserOk : Bool) : CellRec :=
  let delta := Fp.mul (nth 0#32 n.k 0) n.e
  let nom := i.pf pr 8
  let c1 := fr 1 10000
  let r1 :=
    if capOk && c.subs.isEmpty && Fp.le (i.ph 0x28) (Fp.abs x.mean) && Fp.le (nth 0#32 r.p 0) (sq (i.ph 0x2C)) then
      let g := Fp.clamp (Fp.neg c1) c1 (Fp.mul (Fp.mul (i.ph 0x24) delta) (Fp.sgn x.mean))
      { r with cap := Fp.clamp (Fp.mul half nom) (Fp.mul (fr 3 2) nom) (Fp.mul r.cap (Fp.add one g)) }
    else r
  let r2 := match c.prev with
    | some ip =>
      if rserOk && Fp.le (i.ph 0x34) (Fp.abs (Fp.sub c.i ip)) && Fp.le (i.ph 0x34) (Fp.abs c.i) then
        let g := Fp.div (Fp.neg (Fp.mul (i.ph 0x30) n.e)) (Fp.mul (ohm x.at_.r0) c.i)
        { r1 with scale := Fp.clamp half (fr 399 100) (Fp.add r1.scale (Fp.clamp (fr (-1) 100) (fr 1 100) g)) }
      else r1
    | none => r1
  { r2 with resid := Fp.fma (fr 1023 1024) r2.resid (Fp.mul (Fp.mul delta (fr 3600 1)) r2.cap)
            rms := Fp.sqrt (Fp.fma (fr 63 64) (sq r2.rms) (Fp.mul (fr 1 64) (sq n.e))) }

/-! Lock-in (R329 to R336). -/

/-- W = 32,768 / P sweeps; 0 with P = 0 (R165). -/
def Img.window (i : Img) : Nat := if i.schedP = 0 then 0 else 32768 / i.schedP
/-- Decimation in force in a region. -/
def State.dEff (s : State) (r : Nat) : Nat := 2 ^ s.get (R.IMG_REGION_D_EFF r)
/-- A region computes no ripple impedance (R330). -/
def State.ripOff (s : State) (r : Nat) : Bool := decide (s.tab.window / s.dEff r < 16)
/-- First epoch of a cell's window at an epoch. -/
def Img.winStart (i : Img) (cell : Nat) (n : Word) : Word :=
  let w := i.window
  BitVec.ofNat 32 (n.toNat + 2 ^ 32 - (n.toNat + w - cell % w) % w)

/-- The angle of a sample, reduced modulo 65,536 before use (R331). -/
def State.sampleAngle (s : State) (toff : Int) : Word :=
  let add := fr (toff * (65536 * s.est.updFreq.toNat : Nat)) (10 ^ 12)
  let a := Fp.add (Fp.ofNat s.est.updAngle) add
  let q := Fp.toRat a
  Fp.sub a (fr (65536 * (q.1 / (65536 * (q.2 : Int)))) 1)

/-- A sample joins the accumulators (R332). -/
def accumulate (acc : List Word) (u a : Word) : List Word :=
  let k2 := Fp.mul (fr 2 1) a
  let k4 := Fp.mul (fr 4 1) a
  [ Fp.fma u (Config.fcos k2) (nth 0#32 acc 0), Fp.fma u (Config.fsin k2) (nth 0#32 acc 1),
    Fp.fma u (Config.fcos k4) (nth 0#32 acc 2), Fp.fma u (Config.fsin k4) (nth 0#32 acc 3) ]

/-- Complex product and quotient. -/
def cMul (a b : Word × Word) : Word × Word := (Fp.sub (Fp.mul a.1 b.1) (Fp.mul a.2 b.2), Fp.add (Fp.mul a.1 b.2) (Fp.mul a.2 b.1))
def cDiv (a b : Word × Word) : Word × Word :=
  let d := Fp.add (sq b.1) (sq b.2)
  (Fp.div (Fp.add (Fp.mul a.1 b.1) (Fp.mul a.2 b.2)) d, Fp.div (Fp.sub (Fp.mul a.2 b.1) (Fp.mul a.1 b.2)) d)
def cAbs2 (a : Word × Word) : Word := Fp.add (sq a.1) (sq a.2)

def State.phRing (s : State) (n : Nat) : List PhEntry := Sparse.get (fun _ => []) s.est.phs n

/-- The trimmed corner of a block's filter code, or its nominal corner (R214, R334). -/
def State.cornerOf (s : State) (c h k : Nat) : Word :=
  let v := Sparse.get zeroNat (s.chain c).corners (h * 4 + k)
  Fp.ofNat (if v = 0 then nominalCorner k else v)

/-- A result of one harmonic from the ring's valid entries, of a window that is `whole` by conditions 1 and 2: whether condition 3 failed,
and the impedance where it is valid (R334, R335). -/
def windowResult (i : Img) (pr : Nat) (whole : Bool) (entries : List (Word × Word)) (v : Word × Word) (minI : Word) : Bool × Option (Word × Word) :=
  let n := entries.length
  let sum := entries.foldl (fun a e => (Fp.add a.1 e.1, Fp.add a.2 e.2)) (0#32, 0#32)
  let mean := (Fp.div sum.1 (Fp.ofNat n), Fp.div sum.2 (Fp.ofNat n))
  let m2 := cAbs2 mean
  if n = 0 then (false, none)
  else if Fp.lt m2 (sq minI) then (true, none)
  else if !whole || entries.any (fun e => Fp.lt (Fp.mul (fr 4 100) m2) (cAbs2 (Fp.sub e.1 mean.1, Fp.sub e.2 mean.2))) then (false, none)
  else
    let q := cDiv v mean
    let z := (Fp.mul (fr (-1000) 1) q.1, Fp.mul (fr (-1000) 1) q.2)
    if Fp.lt 0#32 z.1 && Fp.le (cAbs2 z) (sq (i.pc pr 0x7C)) then (false, some z) else (false, none)

/-- Smoothing of a valid result (R336). -/
def smooth (had : Bool) (old new : Word × Word) : Word × Word :=
  if had then (Fp.fma (fr 3 4) old.1 (Fp.mul (fr 1 4) new.1), Fp.fma (fr 3 4) old.2 (Fp.mul (fr 1 4) new.2)) else new

/-- Finalises a window (R334 to R336): the state with its counters, the cell, its record, and whether a valid 2f result has come. (DEDUCED, log 50) -/
def State.finaliseWin (s : State) (cell : Nat) (x : CellX) (r : CellRec) (start : Word) : State × CellX × CellRec × Bool :=
  let i := s.tab
  let pr := i.cellProf cell
  let c := cellChain cell
  let d := s.dEff (regionOf c)
  let w := i.window
  let n := w / d
  let epochs := ((List.range w).map (fun k => (start + BitVec.ofNat 32 k))).filter (fun e => e.toNat % d == cell % d)
  let ring := match i.cellStr cell with | none => [] | some m => s.phRing m
  let ents := epochs.map (fun e => ring.find? (fun p => p.epoch == e && p.valid))
  let ring2 := ents.all Option.isSome
  let whole := !x.spoiled && x.winN == n && ring2
  let got := if ring2 then ents.filterMap id else []
  let fc := s.cornerOf c (cellHop cell) x.winFilter
  let fHz := fr x.winFreq.toNat 10000
  let v (k : Nat) (a b : Word) : Word × Word :=
    cMul (Fp.mul (fr 2 n) a, Fp.neg (Fp.mul (fr 2 n) b)) (one, Fp.div (Fp.mul (Fp.ofNat k) fHz) fc)
  let r2 := windowResult i pr whole (got.map (fun e => (e.i2re, e.i2im))) (v 2 (nth 0#32 r.acc 0) (nth 0#32 r.acc 1)) (i.pc pr 0x74)
  let r4 := windowResult i pr whole (got.map (fun e => (e.i4re, e.i4im))) (v 4 (nth 0#32 r.acc 2) (nth 0#32 r.acc 3)) (i.pc pr 0x78)
  let count (res : Bool × Option (Word × Word)) (s : State) : State :=
    match res.2 with
    | some _ => s.inc R.EST_CNT_WIN_OK
    | none => let s1 := s.inc R.EST_CNT_WIN_BAD; if res.1 then s1.inc R.EST_CNT_WIN_LOWI else s1
  let z2 := match r2.2 with | some z => smooth x.z2 (nth 0#32 r.z 0, nth 0#32 r.z 1) z | none => (nth 0#32 r.z 0, nth 0#32 r.z 1)
  let z4 := match r4.2 with | some z => smooth x.z4 (nth 0#32 r.z 2, nth 0#32 r.z 3) z | none => (nth 0#32 r.z 2, nth 0#32 r.z 3)
  (count r4 (count r2 s), { x with z2 := x.z2 || r2.2.isSome, z4 := x.z4 || r4.2.isSome, since2 := if r2.2.isSome then 0 else satNat 255 (x.since2 + 1) },
    { r with z := [z2.1, z2.2, z4.1, z4.2] }, r2.2.isSome)

/-- One update of the lock-in: `u` is the signal where the sample is usable. An update that an overrun has put off to an epoch that does not
select the cell spoils its window; where impedance is off, impedance valid is clear (R330, R332). (DEDUCED, log 50) -/
def State.lockIn (s : State) (cell : Nat) (x : CellX) (r : CellRec) (u : Option Word) (filter : Nat) (toff : Int) : State × CellX × CellRec × Bool :=
  if s.ripOff (regionOf (cellChain cell)) || (s.tab.cellStr cell).isNone then (s, { x with winStart := none, since2 := 255 }, r, false)
  else
    let ws := s.tab.winStart cell s.est.updEpoch
    let fresh := x.winStart ≠ some ws
    let (s1, x1, r1, hit) := match x.winStart with
      | some old => if fresh then s.finaliseWin cell x r old else (s, x, r, false)
      | none => (s, x, r, false)
    let x2 := if fresh then { x1 with winStart := some ws, winN := 0, spoiled := false } else x1
    let r2 := if fresh then { r1 with acc := [0#32, 0#32, 0#32, 0#32] } else r1
    match u with
    | none => (s1, { x2 with spoiled := true, winN := x2.winN + 1, winFilter := if x2.winN = 0 then filter else x2.winFilter }, r2, hit)
    | some v =>
      let own := cell % s.dEff (regionOf (cellChain cell)) == s.est.updEpoch.toNat % s.dEff (regionOf (cellChain cell))
      let ok := own && s.est.updLocked && (x2.winN == 0 || x2.winFilter == filter)
      (s1, { x2 with winN := x2.winN + 1, winFilter := if x2.winN = 0 then filter else x2.winFilter, winFreq := s.est.updFreq, spoiled := x2.spoiled || !ok },
        { r2 with acc := accumulate r2.acc v (s.sampleAngle toff) }, hit)

/-! Core temperature (R342 to R345). -/

/-- φ of the profile at a breakpoint, over SoC columns 0.2, 0.5, 0.8. -/
def Img.phiAt (i : Img) (pr : Nat) (soc : Word) (t : Nat) : Word :=
  let e (k : Nat) : Word := i.pc pr ((3 * t + k) * 4)
  if !Fp.lt (fr 1 5) soc then e 0
  else if Fp.lt soc half then lerp (e 0) (e 1) (Fp.div (Fp.sub soc (fr 1 5)) (fr 3 10))
  else if Fp.lt soc (fr 4 5) then lerp (e 1) (e 2) (Fp.div (Fp.sub soc half) (fr 3 10))
  else e 2

/-- The temperature of a phase and the slope of its segment in °/K; none outside the table. -/
def Img.phiInv (i : Img) (pr : Nat) (soc phi : Word) : Option (Word × Word) :=
  let f := i.phiAt pr soc
  let within_ (k : Nat) : Bool := (Fp.le (f k) phi && Fp.le phi (f (k + 1))) || (Fp.le (f (k + 1)) phi && Fp.le phi (f k))
  match (List.range 7).find? within_ with
  | none => none
  | some k =>
    let dT := Fp.sub (i.tBreak pr (k + 1)) (i.tBreak pr k)
    let dF := Fp.sub (f (k + 1)) (f k)
    some (Fp.fma (Fp.div (Fp.sub phi (f k)) dF) dT (i.tBreak pr k), Fp.div dF dT)

/-- The core temperature after a prediction, and the impedance measurement of a new 2f result. -/
def State.coreTemp (s : State) (cell : Nat) (x : CellX) (r : CellRec) (mean dt r0 : Word) (hit : Bool) : State × CellX × CellRec :=
  let i := s.tab
  let pr := i.cellProf cell
  let aux := s.auxTemps (cellChain cell) (cellHop cell)
  let surf := surfaceOf aux (cellIn cell)
  match (if x.tUsed then some (surf.getD x.ts) else none) with
  | none =>
    let tt := i.initTemp pr surf
    (s, { x with tUsed := surf.isSome, ts := surf.getD x.ts }, { r with tc := tt.1, sg := tt.2 })
  | some ts =>
    let ent : Option PhEntry := match i.cellStr cell with
      | none => none
      | some m => (s.phRing m).find? (fun (p : PhEntry) => p.epoch == s.est.updEpoch && p.valid)
    let rip := match ent with
      | none => 0#32
      | some e => Fp.mul half (Fp.add (cAbs2 (e.i2re, e.i2im)) (cAbs2 (e.i4re, e.i4im)))
    let loss := Fp.mul (Fp.mul r.scale (ohm r0)) (Fp.add (sq mean) rip)
    let be := Fp.exp (Fp.neg (Fp.div dt (i.pc pr 0x68)))
    let tc := Fp.add (Fp.fma be (Fp.sub r.tc ts) ts) (Fp.mul (Fp.sub one be) (Fp.mul (i.pc pr 0x64) loss))
    let b2 := sq be
    let var := Fp.fma b2 (sq r.sg) (Fp.add (if surf.isSome then Fp.mul (Fp.sub one b2) (sq (i.pc pr 0x70)) else 0#32) (Fp.mul (i.pc pr 0x6C) dt))
    let phi := Config.fatan2 (nth 0#32 r.z 1) (nth 0#32 r.z 0)
    let (s1, tc1, var1) :=
      if !hit then (s, tc, var)
      else match i.phiInv pr r.soc phi with
        | none => (s.inc R.EST_CNT_TPHI_OUT, tc, var)
        | some (tf, sl) =>
          let sf := Fp.div (i.pc pr 0x60) (Fp.abs sl)
          let k := Fp.div var (Fp.add var (sq sf))
          (s, Fp.fma k (Fp.sub tf tc) tc, Fp.mul (Fp.sub one k) var)
    let sg := Fp.sqrt var1
    let warn := i.pc pr 0x80
    let s2 := if Fp.lt warn (Fp.sub tc1 ts) && Fp.lt sg (Fp.mul half warn) then
        s1.report 0x0812 (src 2 cell) [pS (Fp.toIntScaled tc1 100 1), pS (Fp.toIntScaled ts 100 1), pS (Fp.toIntScaled sg 100 1)] else s1
    (s2, { x with ts := ts }, { r with tc := tc1, sg := sg })

/-! The update (R306, R311). -/

/-- Row of Table EST-1: 1 or 2 prediction only, 3 LATE, 4 BAL, 5 full. -/
def Img.estRow (i : Img) (pr : Nat) (w : Nat) (v : Word) : Nat :=
  if !w.testBit 32 || bitsOf w 0 16 = 0 || bitsOf w 0 16 = 0xFFFF then 1
  else if Fp.lt v (i.pf pr 0x44) || Fp.lt (i.pf pr 0x48) v then 2
  else if w.testBit 33 then 3 else if w.testBit 37 then 4 else 5

/-- The 16 bytes of Table EST-4. -/
def Img.summaryOf (i : Img) (cell : Nat) (x : CellX) (r : CellRec) (epoch flags : Nat) : List Byte :=
  let a := i.profAt (i.cellProf cell) r.soc r.tc
  let u (m : Nat) (z : Int) : Nat := satNat m z.toNat
  let g (z : Int) : Nat := wrapInt 16 (sat16 z)
  leBytes 2 (u 65535 (Fp.toIntScaled r.soc 65535 1)) ++ leBytes 2 (u 65535 (Fp.toIntScaled r.cap 20 1))
    ++ leBytes 2 (u 65535 (Fp.toIntScaled (Fp.mul r.scale a.r0) 1000 1)) ++ leBytes 2 (g (Fp.toIntScaled r.tc 100 1))
    ++ leBytes 2 (g (Fp.toIntScaled (nth 0#32 r.z 0) 1000 1)) ++ leBytes 2 (g (Fp.toIntScaled (nth 0#32 r.z 1) 1000 1))
    ++ leBytes 1 (u 255 (Fp.toIntScaled r.sg 10 1)) ++ leBytes 1 (flags + 4 * b2n (x.z2 && decide (x.since2 ≤ 16))) ++ leBytes 2 epoch

/-- A cell's point has been cullet for the stale age (R306). -/
def State.staleCell (s : State) (cell : Nat) : Bool := decide (s.tab.u8 6 0x38 ≤ (s.cell cell).age)

/-- One cell's update from the sample set of the epoch. -/
def State.updateCell (s : State) (cell : Nat) : State :=
  let i := s.tab
  let c := cellChain cell
  let h := cellHop cell
  let pr := i.cellProf cell
  let n := s.est.updEpoch
  let w := (s.smp (s.lastSet (regionOf c)) (pointOf c h (cellIn cell) % 32768)).toNat
  let raw := bitsOf w 0 16
  let v := fr raw 10000
  let age := bitsOf w 40 8
  let row := i.estRow pr w v
  let x0 := s.cell cell
  let x := { x0 with init := x0.init && !x0.reset, reset := false, age := age }
  let r := s.cellRec cell
  let aux := s.auxTemps c h
  let surf := surfaceOf aux (cellIn cell)
  let t := if x.tUsed then r.tc else (meanOf (aux.map (fun p => p.2))).getD r.tc
  let str := i.cellStr cell
  let cr0 := s.carried str x.upd
  let late := row == 3
  let cr := match str with
    | some m => if late && !cr0.iSub then { cr0 with i := s.strF m 0x00 } else cr0
    | none => cr0
  let stale := decide (i.u8 6 0x38 ≤ age)
  let base := 16 * b2n (w.testBit 37) + 32 * b2n (w.testBit 33) + 64 * b2n stale
  let word := i.cellWord cell age
  let finish_ (s : State) (x : CellX) (r : CellRec) (flags : Nat) : State :=
    let s1 := s.writeCell cell r n.toNat word
    s1.setCell cell { x with upd := some n, summary := i.summaryOf cell x r n.toNat (base + flags + 128 * b2n x.init) }
  let start (s : State) (x : CellX) : State :=
    -- initialisation from this sample (R307), or no state yet
    if 3 ≤ row then
      finish_ s { x with init := true, gated := 0, skipGate := false, tUsed := surf.isSome, ts := surf.getD 0#32, winStart := none, z2 := false, z4 := false, since2 := 255 }
        (i.initRec pr t v cr.i surf r) 1
    else finish_ s { x with init := false, winStart := none } { r with soc := 0#32, p := List.replicate 10 0#32 } 0
  if !x.init then start s x
  else
    let pd := i.predict pr r cr t
    let rp := { r with soc := pd.soc, va := pd.va, vb := pd.vb, h := pd.h, p := pd.p }
    let m := if row = 3 then i.ph 0x1C else if row = 4 then i.ph 0x18 else one
    let rsub := if cr.iSub && str.isSome then sq (Fp.mul (Fp.mul r.scale (ohm pd.at_.r0)) (i.ph 0x14)) else 0#32
    let nv := i.innov pr pd r.scale v cr.i m rsub
    let full := decide (3 ≤ row)
    let gate := full && !x.skipGate && Fp.lt (Fp.mul (i.ph 0x20) (Fp.sqrt nv.s)) (Fp.abs nv.e)
    let upd := full && !gate
    -- a cell of no string keeps its SoC (R305)
    let r0 := if upd then (let a := correct pd nv rp; if str.isNone then { a with soc := pd.soc } else a) else rp
    let r1 := limitRec r0
    if r0.broken || (full && !Fp.lt 0#32 nv.s) then
      start ((s.inc R.EST_CNT_NUMRST).report 0x0805 (src 2 cell) [p2 n.toNat]) { x with init := false }
    else
      let r2 := if upd && str.isSome then i.slow pr r1 pd nv cr (row == 5 || row == 4) (row == 5) else r1
      let s1 := if gate then s.inc R.EST_CNT_GATED else if full then s else s.inc (R.EST_REGT_PREDONLY (regionOf c))
      let g := if gate then x.gated + 1 else 0
      let rst := decide (8 ≤ g)
      let s2 := if rst then (s1.inc R.EST_CNT_GATERST).report 0x0804 (src 2 cell) [pS (Fp.toIntScaled nv.e 1000 1)] else s1
      let r3 := if rst then { r2 with p := diagP (i.ph 4) (i.ph 0x10) } else r2
      let x1 := { x with gated := if rst then 0 else g, skipGate := rst || (x.skipGate && !full) }
      let sig := if w.testBit 32 && !w.testBit 33 && !w.testBit 37 then
          some (Fp.sub v (Fp.sub (Fp.sub (Fp.fma pd.h pd.at_.h pd.at_.m) pd.va) pd.vb)) else none
      let (s3, x2, r4, hit) := s2.lockIn cell x1 r3 sig (bitsOf w 38 2) (signedOf 16 (bitsOf w 48 16))
      let (s4, x3, r5) := s3.coreTemp cell x2 r4 pd.mean cr.dt pd.at_.r0 hit
      finish_ s4 x3 r5 (1 + 2 * b2n (!full) + 8 * b2n gate)

end Sys2Proof.Machine
end

