-- ==== Sys2Proof/Machine/Sop.lean ====
section
/-! DEFINITION. The state-of-power unit (chapter 12): cell limits and scans, step 8, string and array limits. -/

namespace Sys2Proof.Machine

/-! Cells of a string (R305, R316). -/

/-- Assigned cell indices of a string, ascending. -/
def Img.strCells (i : Img) (m : Nat) : List Nat :=
  (List.range 64).flatMap (fun c => if !i.chainOn c then [] else
    (List.range (i.nodes c)).flatMap (fun h => if i.nodeType c h = 1 && i.nodeString c h = m then (List.range 24).map (fun k => c * 3072 + h * 24 + k) else []))

/-! Cell limits (R351, R352). -/

/-- Fields of a profile's entry in the SOP parameter block (Table SOP-7). -/
def Img.sopF (i : Img) (p o : Nat) : Word := i.spF (0x40 + 48 * p + o)
def Img.sopPct (i : Img) (p o k : Nat) : Word := fr (i.sp8 (0x40 + 48 * p + o + k) : Nat) 200

/-- The temperature factor of a direction (0 charge, 1 discharge) at a temperature. -/
def Img.fTemp (i : Img) (p dir : Nat) (t : Word) : Word :=
  let q := i.tPos p t
  lerp (i.sopPct p (8 + 8 * dir) q.k) (i.sopPct p (8 + 8 * dir) (q.k + 1)) q.x
/-- The SoC factor of a direction. -/
def Img.fSoc (i : Img) (p dir : Nat) (soc : Word) : Word :=
  let q := socPos soc 8
  lerp (i.sopPct p (0x18 + 9 * dir) q.k) (i.sopPct p (0x18 + 9 * dir) (q.k + 1)) q.x

/-- A cell's limit for a direction and a horizon in s, with bit 0 for a temperature factor and bit 1 for a SoC factor below 100 %. -/
def Img.cellLimit (i : Img) (p : Nat) (r : CellRec) (dir t : Nat) : Word × Nat :=
  let kt := Fp.mul (i.spF 0x10) r.sg
  let ks := Fp.mul (i.spF 0x0C) (Fp.sqrt (nth 0#32 r.p 0))
  let x := Fp.clamp 0#32 one (if dir = 0 then Fp.add r.soc ks else Fp.sub r.soc ks)
  let a := i.profAt p x (Fp.sub r.tc kt)
  let w := Fp.ofNat t
  let ea := Fp.exp (Fp.neg (Fp.div w a.ta))
  let eb := Fp.exp (Fp.neg (Fp.div w a.tb))
  let rt := ohm (Fp.fma a.rb (Fp.sub one eb) (Fp.fma a.ra (Fp.sub one ea) (Fp.mul r.scale a.r0)))
  let rq := Fp.div (Fp.mul w a.dm) (Fp.mul (fr 3600 1) r.cap)
  let voc := Fp.fma (Fp.neg r.vb) eb (Fp.fma (Fp.neg r.va) ea (Fp.fma r.h a.h a.m))
  let num := if dir = 0 then Fp.sub (i.sopF p 0) voc else Fp.sub voc (i.sopF p 4)
  let ft := Fp.min (i.fTemp p dir (Fp.add r.tc kt)) (i.fTemp p dir (Fp.sub r.tc kt))
  let fs := i.fSoc p dir x
  (Fp.mul (Fp.max 0#32 (Fp.div num (Fp.add rt rq))) (Fp.mul ft fs), b2n (Fp.lt ft one) + 2 * b2n (Fp.lt fs one))

/-- The six limits of a cell in the order of Table SOP-3. -/
def Img.cellLimits (i : Img) (p : Nat) (r : CellRec) : List (Word × Nat) :=
  [2, 10, 60].flatMap (fun t => [i.cellLimit p r 0 t, i.cellLimit p r 1 t])

/-! Scans (R353, R354). -/

/-- A cell joins the minima of its string. -/
def State.scanCell (s : State) (m : ScanMin) (cell : Nat) : ScanMin :=
  let zero := !(s.cell cell).init || s.staleCell cell
  let l : List (Word × Nat) := if zero then List.replicate 6 (0#32, 0) else s.tab.cellLimits (s.tab.cellProf cell) (s.cellRec cell)
  let less (k : Nat) : Bool := !m.any || Fp.lt (nth (0#32, 0) l k).1 (nth 0#32 m.lim k)
  { lim := (List.range 6).map (fun k => if less k then (nth (0#32, 0) l k).1 else nth 0#32 m.lim k)
    flags := (List.range 6).map (fun k => if less k then (nth (0#32, 0) l k).2 else nth 0 m.flags k)
    any := true, zero := m.zero || zero, zeroCell := if m.zero then m.zeroCell else if zero then cell else 0 }

/-- The minima of a string over its cells below an index. (DESIGN CHOICE, log 55) -/
def State.scanStr (s : State) (n top : Nat) : ScanMin := ((s.tab.strCells n).filter (fun c => decide (c < top))).foldl s.scanCell {}

def blankMin (_ : Nat) : ScanMin := {}

/-- SOP_SCAN_DONE: a scan of all assigned cells is complete; it took `us`. Scans run from stage 2 on. (DESIGN CHOICE, log 55) -/
def sopScanDone (us : Nat) (s : State) : State :=
  if s.stage < 2 || !s.img.loaded then s
  else
    let m := s.tab.strings.foldl (fun m n => Sparse.set blankMin m n (s.scanStr n 196608)) []
    (({ s with sop := { s.sop with last := m } }).put R.SOP_SCAN_SCAN_US us).inc R.SOP_SCAN_SCANS
def execSopScanDone (us : BitVec 16) (s : State) : Host.Outcome State Fault Refusal := finish s (whenOn s (sopScanDone us.toNat))

/-! String limits (R355 to R359). -/

/-- What step 8 finds for a string: its limits, its flags, its zeroing cell, the voltage limits. -/
structure StrLimits where
  lim : List Word
  flags : Nat
  zeroCell : Nat
  vmin : Word
  vmax : Word
  deriving DecidableEq, Repr

/-- A limit as it is published: one that cannot be computed leaves the last valid one (R14). -/
def lastValid (old new : Word) : Word := if Fp.nonFinite new then old else new

/-- The lesser of two scans' minima, by limit. (DEDUCED, log 53) -/
def minOf (a b : ScanMin) (k : Nat) : Word × Nat :=
  if !a.any then (nth 0#32 b.lim k, nth 0 b.flags k)
  else if b.any && Fp.lt (nth 0#32 b.lim k) (nth 0#32 a.lim k) then (nth 0#32 b.lim k, nth 0 b.flags k)
  else (nth 0#32 a.lim k, nth 0 a.flags k)

/-- Steps 1 to 6 for a string at the step 8 of epoch `n`; cells below `top` have been taken by the scan in progress. A string that enters the
closed set rises from 0 over the time since the last result. (DEDUCED, log 54) -/
def State.strLimits (s : State) (m : Nat) (n : Word) (top : Nat) (closed : List Nat) : StrLimits :=
  let i := s.tab
  let cells := i.strCells m
  let profs := (cells.map i.cellProf).eraseDups
  let scan := decide (s.get R.SOP_SCAN_SCANS ≠ 0)
  let cur := s.scanStr m top
  let last : ScanMin := if scan then Sparse.get blankMin s.sop.last m else {}
  let nothing := cells.isEmpty || !(cur.any || last.any)
  let prev := Sparse.get (fun _ => []) s.sop.prev m
  let one_ (k : Nat) : Word × Nat :=
    let dir := k % 2
    let b := if nothing then (0#32, 0) else minOf cur last k
    let f0 := (if b.2.testBit 0 then 4 * 2 ^ dir else 0) + (if b.2.testBit 1 then 16 * 2 ^ dir else 0)
    let floor := !profs.isEmpty && (if dir = 0 then profs.any (fun p => Fp.le (i.sopF p 0) (s.strF m 0x40)) else profs.any (fun p => Fp.le (s.strF m 0x3C) (i.sopF p 4)))
    let v2 := if floor then 0#32 else b.1
    let der := s.sop.derate.any (fun p => p.1 == 2 * m + dir)
    let v3 := if der then Fp.mul v2 (fr (i.sp8 0x16 : Nat) 100) else v2
    let cap := if dir = 0 then i.strMaxChg m else i.strMaxDis m
    let v4 := Fp.min v3 cap
    let was := if s.sop.prevClosed.contains m then nth 0#32 prev k else 0#32
    let ms := if s.getB R.SOP_STAT_RESULT_VALID then s.now - s.sop.prevTime else 0
    let top_ := Fp.fma (Fp.mul (fr (i.sp16 0x14 : Nat) 1000) cap) (fr (ms : Nat) 1000) was
    let held := Fp.lt top_ v4
    (if held then top_ else v4, f0 + (if floor then 2 ^ dir else 0) + (if der then 64 * 2 ^ dir else 0) + (if Fp.lt cap v3 then 256 * 2 ^ dir else 0) + (if held then 1024 else 0))
  let l := (List.range 6).map one_
  let excl := (s.stoGet (strOff m 0x24) 4).testBit 3 || !Fp.lt 0#32 (s.strF m 0x50)
  let agg := BitVec.ofNat 32 (s.stoGet (strOff m 0x64) 4)
  let stale := seqBefore agg (n - BitVec.ofNat 32 (i.sp8 0x1A)) || !scan || nothing
  let z := cur.zero || last.zero
  let fl := (l.foldl (fun a p => a ||| p.2) 0) + 2048 * b2n (!closed.contains m) + 4096 * b2n excl + 8192 * b2n stale + 16384 * b2n z
  let ramped := (List.range 6).map (fun k => lastValid (nth 0#32 prev k) (nth (0#32, 0) l k).1)
  let out := if fl < 2048 && !s.sop.hurt.contains m then ramped else List.replicate 6 0#32
  { lim := out, flags := fl, zeroCell := if cur.zero then cur.zeroCell else last.zeroCell
    vmin := cells.foldl (fun a c => Fp.add a (i.sopF (i.cellProf c) 4)) 0#32
    vmax := cells.foldl (fun a c => Fp.add a (i.sopF (i.cellProf c) 0)) 0#32 }

/-- A string's limits enter its record (R355), and 0x0901 for a closed string zeroed (R370). -/
def State.writeStrLimits (s : State) (m : Nat) (n : Word) (x : StrLimits) : State :=
  let s1 := forAll (List.range 6) (fun k s => s.setStrF m (0x68 + 4 * k) (nth 0#32 x.lim k)) s
  let s2 := ((s1.setStrF m 0x80 x.vmin).setStrF m 0x84 x.vmax).stoPut (strOff m 0x88) 4 x.flags
  let s3 := s2.stoPut (strOff m 0x8C) 4 n.toNat
  if 4096 ≤ x.flags && !x.flags.testBit 11 then
    s3.report 0x0901 (src 6 m) ([p1 (bitsOf x.flags 11 4)] ++ (if x.flags.testBit 14 then [p2 x.zeroCell] else []))
  else s3

/-! Array limits (R360, R361, R367). -/

/-- The array limit k over the strings that share, its leading string, and whether the sharing term set it. (DEDUCED, log 53) -/
def State.arrayLimit (s : State) (l : List (Nat × StrLimits)) (k : Nat) : Word × Nat × Bool :=
  match l with
  | [] => (0#32, 0, false)
  | (m0, x0) :: rest =>
    let g (m : Nat) : Word := Fp.div one (s.strF m 0x50)
    let sum := l.foldl (fun a p => Fp.add a (g p.1)) 0#32
    let ratio (m : Nat) (x : StrLimits) : Word := Fp.div (nth 0#32 x.lim k) (Fp.div (g m) sum)
    let lead := rest.foldl (fun (b : Nat × Word) p => let r := ratio p.1 p.2; if Fp.lt r b.2 then (p.1, r) else b) (m0, ratio m0 x0)
    let term := Fp.mul (Fp.sub one (s.tab.spF 0x08)) lead.2
    let total := l.foldl (fun a p => Fp.add a (nth 0#32 p.2.lim k)) 0#32
    let other := Fp.min (s.tab.spF (if k % 2 = 0 then 0 else 4)) total
    (Fp.min term other, lead.1, Fp.le term other)

/-- The figures of the last step 8 that the messages carry (Table SOP-4). -/
def State.energyOf (s : State) (closed : List Nat) : List Byte :=
  let c (m : Nat) : Word := s.strF m 0x38
  let sum (f : Nat → Word) : Word := closed.foldl (fun a m => Fp.fma (f m) (c m) a) 0#32
  let cap := closed.foldl (fun a m => Fp.add a (c m)) 0#32
  let soc := if Fp.lt 0#32 cap then Fp.div (sum (fun m => s.strF m 0x2C)) cap else 0#32
  leBytes 2 (satNat 65535 (Fp.toIntScaled soc 65535 1).toNat) ++ leBytes 2 closed.length ++ leBytes 4 (sum (fun m => s.strF m 0x30)).toNat
    ++ leBytes 4 (sum (fun m => Fp.sub one (s.strF m 0x34))).toNat

/-- Step 8 of epoch `n` (R355 to R362): it took `stepT`, and the scan in progress had taken the cells below `top`. (DEDUCED, log 46) (DESIGN CHOICE, log 55) -/
def State.step8 (s : State) (n : Word) (stepT top : Nat) : State :=
  let i := s.tab
  let closed := s.closedSet
  let all := i.strings.map (fun m => (m, s.strLimits m n top closed))
  let s1 := forAll all (fun p s => s.writeStrLimits p.1 n p.2) s
  let share := all.filter (fun p => closed.contains p.1 && !p.2.flags.testBit 12)
  let arr := (List.range 6).map (fun k => s1.arrayLimit share k)
  let live := share.filter (fun p => p.2.lim != List.replicate 6 0#32 || p.2.flags < 2048)
  let fold (f : Word → Word → Word) (l : List Word) : Word := match l with | [] => 0#32 | w :: ws => ws.foldl f w
  let bmax := i.spF 0x1C
  let bmin := i.spF 0x20
  let vmax := fold Fp.min (live.map (fun p => p.2.vmax))
  let vmin := fold Fp.max (live.map (fun p => p.2.vmin))
  let shut := all.filter (fun p => closed.contains p.1)
  let flags := 4 * b2n (!s.sop.derate.isEmpty) + 8 * b2n (shut.any (fun p => decide (4096 ≤ p.2.flags))) + 16 * b2n (shut.any (fun p => p.2.flags.testBit 10))
  let dis := nth (0#32, 0, false) arr 3
  let chg := nth (0#32, 0, false) arr 2
  let s2 := { s1 with sop := { s1.sop with
    prev := all.foldl (fun (m : List (Nat × List Word)) (p : Nat × StrLimits) => Sparse.set (fun _ => []) m p.1 p.2.lim) [], prevTime := s.now, prevClosed := closed
    lim := (List.range 6).map (fun k => lastValid (nth 0#32 s1.sop.lim k) (nth (0#32, 0, false) arr k).1)
    vmax := if live.isEmpty then 0#32 else if bmax = 0#32 then vmax else Fp.min vmax bmax
    vmin := if live.isEmpty then 0#32 else if bmin = 0#32 then vmin else Fp.max vmin bmin
    energy := s1.energyOf closed, flags := flags, fresh := true, closes := 0, epoch := n, step := none } }
  let s3 := { s2 with host := { s2.host with pub := { s2.host.pub with
    tokens := s2.sto.words.filter (fun p => decide (0x2400000 / 8 ≤ p.1) && decide (p.1 < 0x2420000 / 8) && decide (18 ≤ p.1 % 32) && decide (p.1 % 32 ≤ 19)) } } }
  s3.putAll [ (R.SOP_STAT_RESULT_VALID, 1), (R.SOP_STAT_CLOSED, closed.length), (R.SOP_EPOCH, n.toNat), (R.SOP_TIME_STEP_T, stepT),
    (R.SOP_LIMITER_DIS_STRING, dis.2.1), (R.SOP_LIMITER_CHG_STRING, chg.2.1), (R.SOP_LIMITER_NONE, b2n closed.isEmpty),
    (R.SOP_LIMITER_CHG_BY_SHARE, b2n chg.2.2), (R.SOP_LIMITER_BY_SHARE, b2n dis.2.2) ]

end Sys2Proof.Machine
end

