-- ==== Sys2Proof/Machine/Estimation.lean ====
section
/-! DEFINITION. The lane groups (chapter 10): charge and phasor rings, updates of a region and its string aggregates, host resets, saves and the restore of the compact state. -/

namespace Sys2Proof.Machine

/-! Rings at the epoch close (R303, R304, R333). -/

/-- One string's entries of the epoch `n`. -/
def State.enterRing (s : State) (n : Word) (m : Nat) : State :=
  let fl := s.stoGet (strOff m 0x24) 4
  let own := BitVec.ofNat 32 (s.stoGet (strOff m 0x28) 4) == n
  let ok := fl.testBit 0 && own
  let dt := s.intervalS
  let e : ChargeEntry :=
    if ok then { epoch := n, q := fr (signedOf 32 (s.stoGet (strOff m 0x10) 4)) 1000, i := s.strF m 0x04, dt := dt, valid := true }
    else { epoch := n, q := Fp.mul (s.lastCur m) dt, i := s.lastCur m, dt := dt, valid := false }
  let p : PhEntry := { epoch := n, i2re := s.strF m 0x14, i2im := s.strF m 0x18, i4re := s.strF m 0x1C, i4im := s.strF m 0x20,
                       valid := ok && fl.testBit 1 && !fl.testBit 2 && s.swp.angleLocked }
  let s1 := if ok then s else s.inc R.EST_CNT_SUBST
  { s1 with est := { s1.est with
      rings := Sparse.set (fun _ => []) s1.est.rings m ((e :: s1.ring m).take 8)
      phs := Sparse.set (fun _ => []) s1.est.phs m ((p :: s1.phRing m).take 136)
      lastI := if ok then Sparse.set (fun _ => 0#32) s1.est.lastI m e.i else s1.est.lastI } }
def State.enterRings (s : State) (n : Word) : State := forAll s.tab.strings (fun m s => s.enterRing n m) s

/-! String aggregates (R316). -/

/-- The least and the greatest of a list of values with cell indices; the lower index on a tie. -/
def extremes (l : List (Nat × Word)) : Option ((Nat × Word) × (Nat × Word)) :=
  match l with
  | [] => none
  | p :: ps => some (ps.foldl (fun b q => if Fp.lt q.2 b.2 then q else b) p, ps.foldl (fun b q => if Fp.lt b.2 q.2 then q else b) p)

/-- A string's aggregates after the update of epoch `n`. (DEDUCED, log 53) -/
def State.aggregate (s : State) (n : Word) (m : Nat) : State :=
  let i := s.tab
  let cells := i.strCells m
  let recs := (cells.filter (fun c => (s.cell c).init)).map (fun c => (c, s.cellRec c))
  if recs.isEmpty then s
  else
    let point (c : Nat) : Nat := (s.smp (s.lastSet (regionOf (cellChain c))) (pointOf (cellChain c) (cellHop c) (cellIn c) % 32768)).toNat
    let volts := (cells.filter (fun c => (point c).testBit 32)).map (fun c => (c, fr (bitsOf (point c) 0 16 : Nat) 10000))
    let at_ (p : Nat × CellRec) : ProfAt := i.profAt (i.cellProf p.1) p.2.soc p.2.tc
    let ik := ((s.ring m).head?.map (fun e => e.i)).getD 0#32
    let vsum := (recs.filter (fun p => !(point p.1).testBit 32)).foldl (fun a p => Fp.add a (vHat (at_ p) p.2.va p.2.vb p.2.h p.2.scale ik))
      (volts.foldl (fun a p => Fp.add a p.2) 0#32)
    let socs := recs.map (fun p => (p.1, p.2.soc))
    let least (f : Nat × CellRec → Word) : Word := (extremes (recs.map (fun p => (p.1, f p)))).elim 0#32 (fun e => e.1.2)
    let put (s : State) (o : Nat) (w : Word) : State := s.setStrF m o w
    let se := extremes socs
    let s1 := put (put (put s 0x2C (Fp.div (socs.foldl (fun a p => Fp.add a p.2) 0#32) (Fp.ofNat recs.length))) 0x30 (se.elim 0#32 (fun e => e.1.2))) 0x34 (se.elim 0#32 (fun e => e.2.2))
    let s2 := put s1 0x38 (Fp.add (least (fun p => Fp.mul p.2.soc p.2.cap)) (least (fun p => Fp.mul (Fp.sub one p.2.soc) p.2.cap)))
    let s3 := match extremes volts with
      | none => s2
      | some (a, b) => (((put (put s2 0x3C a.2) 0x40 b.2).stoPut (strOff m 0x54) 4 a.1).stoPut (strOff m 0x58) 4 b.1)
    let s4 := put s3 0x44 vsum
    let s5 := match extremes ((recs.filter (fun p => (s.cell p.1).tUsed)).map (fun p => (p.1, p.2.tc))) with
      | none => s4
      | some (a, b) => (put (put s4 0x48 a.2) 0x4C b.2).stoPut (strOff m 0x5C) 4 b.1
    let s6 := put s5 0x50 (recs.foldl (fun a p => Fp.fma p.2.scale (at_ p).r0 a) 0#32)
    (s6.stoPut (strOff m 0x60) 2 ((cells.filter (fun c => !(point c).testBit 32)).length)).stoPut (strOff m 0x64) 4 n.toNat

/-- Strings with a cell in a region. -/
def Img.regionStrings (i : Img) (r : Nat) : List Nat := i.strings.filter (fun m => (i.strCells m).any (fun c => decide (c / 24576 = r)))

/-! The update of a region (R311, R33). -/

/-- Cells of a region that its update in progress covers, ascending: the selected ones, and those that an overrun has left (R32). -/
def State.toUpdate (s : State) (r : Nat) : List Nat :=
  ((List.range 24576).map (fun j => r * 24576 + j)).filter (fun c =>
    (decide (c % s.dEff r = s.est.updEpoch.toNat % s.dEff r) || s.est.owed.contains c) && s.tab.assigned c)

/-- Cells that a region's lanes have done, `k l` of them by lane l: local cell j is lane j mod L's, each lane goes upward (R311). -/
def State.doneCells (s : State) (r : Nat) (k : Nat → Nat) : List Nat :=
  let lanes := s.get (R.IMG_REGION_LANES r)
  let all := s.toUpdate r
  (List.range lanes).flatMap (fun l => (all.filter (fun c => decide (c % 24576 % lanes = l))).take (k l))

/-- What a region's update has done when its close comes: the cells done, the aggregates of the strings that are whole; the rest is owed (R32). (DEDUCED, log 46) -/
def State.cutUpdate (s : State) (r : Nat) (k : Nat → Nat) : State :=
  let all := s.toUpdate r
  let done := s.doneCells r k
  let left := all.filter (fun c => !done.contains c)
  let s1 := forAll done (fun c s => s.updateCell c) (s.put (R.EST_REGT_PREDONLY r) 0)
  let s2 := forAll ((s.tab.regionStrings r).filter (fun m => (s.tab.strCells m).all (fun c => !left.contains c))) (fun m s => s.aggregate s.est.updEpoch m) s1
  { s2 with est := { s2.est with owed := s2.est.owed.filter (fun c => decide (c / 24576 ≠ r)) ++ left, finished := setNth s2.est.finished r done.length } }

/-- An uncorrectable error in the working memory spoils the window of a cell, or every window open on a string (R333). -/
def State.spoil (s : State) (cell : Nat) : State := s.setCell cell { s.cell cell with spoiled := true }
/-- What a lane group meets with an error before it updates. -/
def State.updErrs (s : State) (x : UpdErrs) : State :=
  forAll (x.rings.flatMap (fun m => s.tab.strCells m.val) ++ x.maps.map BitVec.toNat) (fun c s => s.spoil c) (s.eccWords x.words)

/-- LANE_GROUP_UPDATE_DONE: the group of region r finishes update N after `us`, with the words that it has met with an error; after the last one
step 8 runs. -/
def laneGroupUpdateDone (r us stepT top : Nat) (s : State) : State :=
  if !s.est.busy.getLsbD r then s
  else
    let n := s.est.updEpoch
    let cells := s.toUpdate r
    let s1 := forAll cells (fun c s => s.updateCell c) (s.put (R.EST_REGT_PREDONLY r) 0)
    let s2 := forAll (s.tab.regionStrings r) (fun m s => s.aggregate n m) s1
    let s3 := s2.putAll [ (R.EST_REGT_LAST_US r, us), (R.EST_REG_OVERRUN_RUN r, 0) ]
    let s4 := { s3 with est := { s3.est with busy := s3.est.busy &&& ~~~(1#8 <<< r), finished := setNth s3.est.finished r cells.length, owed := s3.est.owed.filter (fun c => decide (c / 24576 ≠ r)) } }
    if s4.est.busy = 0#8 then s4.step8 n stepT top else s4
def execLaneGroupUpdateDone (r : Fin 8) (us stepT : BitVec 16) (scanTo : BitVec 18) (ecc : UpdErrs) (s : State) : Host.Outcome State Fault Refusal :=
  finish s (whenOn s (fun s => laneGroupUpdateDone r.val us.toNat stepT.toNat scanTo.toNat (s.updErrs ecc)))

/-- A host reset of a cell (R326). -/
def cellResetReq (cell : Nat) (s : State) : State :=
  if s.tab.assigned cell then (s.setCell cell { s.cell cell with reset := true }).report 0x080A (src 2 cell) [] else s

/-! The state memory (R321, R322). -/

/-- The compact record of a cell (Table EST-6). -/
def State.compact (s : State) (cell : Nat) : List Byte :=
  if !s.tab.assigned cell || !(s.cell cell).init then List.replicate 8 0#8
  else
    let r := s.cellRec cell
    let u (z : Int) : Nat := satNat 65535 z.toNat
    leBytes 2 (u (Fp.toIntScaled r.soc 65535 1)) ++ leBytes 2 (u (Fp.toIntScaled r.cap 20 1)) ++ leBytes 2 (u (Fp.toIntScaled r.scale 16384 1))
      ++ leBytes 2 (wrapInt 16 (sat16 (Fp.toIntScaled r.h 32767 1)))

/-- Start of a region's block in a bank. -/
def blockAt (r : Nat) (bank : Bool) : Nat := 0x40000 * r + (if bank then 0x200000 else 0)
def stateMagic : List Byte := [0x4E#8, 0x47#8, 0x53#8, 0x54#8]

/-- Bytes 0x04 to 0x3F of a region block's header (Table EST-7). -/
def State.blockHeader (s : State) (r kind seq : Nat) (recs : List Byte) : List Byte :=
  let first := s.stoGet (cellOff (24576 * r) 0x68) 4
  let head := leBytes 2 1 ++ leBytes 1 r ++ leBytes 1 kind ++ leBytes 4 seq ++ leBytes 4 first ++ leBytes 6 s.now ++ leBytes 2 0 ++ uidBytes
    ++ leBytes 4 (s.get R.IMG_ID) ++ leBytes 4 (s.get R.IMG_REV) ++ leBytes 4 (crc32c recs).toNat ++ leBytes 8 0
  head ++ leBytes 4 (crc32c (stateMagic ++ head)).toNat

def State.cs1Write (s : State) (a : Nat) (bs : List Byte) : State := { s with est := { s.est with cs1 := Sparse.setRun erased s.est.cs1 a bs } }

/-- A region block is written whole (R324), and the banks alternate. (DEDUCED, log 52) -/
def State.saveRegion (s : State) (r kind seq : Nat) : State :=
  let a := blockAt r (s.est.twoBanks && s.est.bank.getLsbD r)
  let recs := (List.range 24576).flatMap (fun j => s.compact (24576 * r + j))
  let s1 := (s.cs1Write (a + 64) recs).cs1Write (a + 4) (s.blockHeader r kind seq recs)
  let s2 := s1.cs1Write a stateMagic
  { s2 with est := { s2.est with bank := s2.est.bank ^^^ (1#8 <<< r) } }

/-! Saves (R323, R324). -/

/-- The magic of the block that a region's save writes becomes 0 (R324, step 1). -/
def State.openBlock (s : State) (r : Nat) : State := s.cs1Write (blockAt r (s.est.twoBanks && s.est.bank.getLsbD r)) [0#8, 0#8, 0#8, 0#8]

/-- A save of a kind starts with region 0; without a usable memory it ends at once. (DEDUCED, log 52) -/
def State.startSave (s : State) (kind : Nat) : State :=
  if s.getB R.EST_STAT_NO_MEMORY then s.putAll [ (R.EST_SAVE_LAST_KIND, kind), (R.EST_SAVE_LAST_RESULT, 3) ]
  else
    (({ s with est := { s.est with saving := some kind, saveSeq := (s.est.saveSeq + 1) % 2 ^ 32, saveAt := 0 } }).openBlock 0).putAll
      [ (R.EST_STAT_SAVE_BUSY, 1), (R.EST_SAVE_REGION, 0) ]

/-- SAVE_STATE: held while a save runs (R323). -/
def saveState (s : State) : State := if s.est.saving.isSome then { s with est := { s.est with held := true } } else s.startSave 3

/-- The sleep sequence's save: a running one goes on to its next region boundary (R323). -/
def State.sleepSave (s : State) : State := if s.est.saving.isSome then { s with est := { s.est with sleepNext := true } } else s.startSave 2

/-- PERIODIC_SAVE: 60 s of operating time have passed since stage 3 was entered or a save completed (R323). -/
def periodicSave (s : State) : State := if s.stage < 3 || s.est.saving.isSome then s else s.startSave 1
def execPeriodicSave (s : State) : Host.Outcome State Fault Refusal := finish s (whenOn s periodicSave)

/-- What follows the end of a save: the sleep save, or a held request. -/
def State.saveNext (s : State) : State :=
  let s1 := ({ s with est := { s.est with saving := none, held := false, sleepNext := false } }).putAll [ (R.EST_STAT_SAVE_BUSY, 0), (R.EST_SAVE_REGION, 8) ]
  if s.est.sleepNext then s1.startSave 2 else if s.est.held then s1.startSave 3 else s1

/-- A running save is aborted at a region boundary (R323). -/
def State.saveAborted (s : State) (kind : Nat) : State := (s.putAll [ (R.EST_SAVE_LAST_KIND, kind), (R.EST_SAVE_LAST_RESULT, 4) ]).saveNext

/-- A millisecond of a save: the region in progress is done, and the next one begins; region 7 ends with SAVE_DONE. (DESIGN CHOICE, log 117) -/
def State.saveMs (s : State) : State :=
  match s.est.saving with
  | none => s
  | some kind =>
    let r := s.est.saveAt
    if 7 ≤ r then s
    else
      let s1 := s.saveRegion r kind s.est.saveSeq
      if s.est.sleepNext then s1.saveAborted kind
      else (({ s1 with est := { s1.est with saveAt := r + 1 } }).openBlock (r + 1)).put R.EST_SAVE_REGION (r + 1)

/-- The regions from the one in progress up to `n` are written. -/
def State.saveTo (s : State) (kind n : Nat) : State :=
  forAll ((List.range n).filter (fun r => decide (s.est.saveAt ≤ r))) (fun r t => t.saveRegion r kind s.est.saveSeq) s

/-- SAVE_DONE: the save in progress ends, complete or with a write error in a region not yet written; one that a sleep save cuts off ends with
the region in progress. (DEDUCED, log 52) -/
def saveDone (fail : Option Nat) (s : State) : State :=
  match s.est.saving with
  | none => s
  | some kind =>
    let seq := s.est.saveSeq
    match fail with
    | none =>
      if s.est.sleepNext && decide (s.est.saveAt < 7) then (s.saveTo kind (s.est.saveAt + 1)).saveAborted kind
      else
        let s2 := (s.saveTo kind 8).putAll [ (R.EST_SAVE_LAST_KIND, kind), (R.EST_SAVE_LAST_RESULT, 1), (R.EST_SAVE_SEQ, seq) ]
        let s3 := { s2 with est := { s2.est with lastSave := some s.now, nextSave := s.now + 60000 } }
        (if kind = 2 then s3.report 0x0807 chip [pn 4 seq] else s3).saveNext
    | some r0 =>
      let r := max r0 s.est.saveAt
      let s2 := (s.saveTo kind r).openBlock r
      let s3 := s2.putAll [ (R.EST_SAVE_LAST_KIND, kind), (R.EST_SAVE_LAST_RESULT, 2), (R.EST_STAT_SAVE_FAIL, 1) ]
      (s3.report 0x0806 chip [p1 r, p1 0]).saveNext
def execSaveDone (fail : Option (Fin 8)) (s : State) : Host.Outcome State Fault Refusal := finish s (whenOn s (saveDone (fail.map Fin.val)))

/-! The restore (R325). -/

/-- A block as read: 0 no block, 1 wrong CRC, 2 wrong region byte, 3 usable; its bytes are read through this. -/
def State.cs1Byte (s : State) (a : Nat) : Byte := Sparse.get erased s.est.cs1 a
def State.cs1Bytes (s : State) (a n : Nat) : List Byte := (List.range n).map (fun k => s.cs1Byte (a + k))
def State.cs1Le (s : State) (a n : Nat) : Nat := ofLe (s.cs1Bytes a n)

def State.blockState (s : State) (r a : Nat) : Nat :=
  if s.cs1Bytes a 4 != stateMagic || s.cs1Le (a + 4) 2 ≠ 1 then 0
  else if (crc32c (s.cs1Bytes a 60)).toNat ≠ s.cs1Le (a + 0x3C) 4 || (crc32c (s.cs1Bytes (a + 64) 196608)).toNat ≠ s.cs1Le (a + 0x30) 4 then 1
  else if s.cs1Le (a + 6) 1 ≠ r then 2
  else 3

/-- The block a region is restored from: the usable one with the higher save sequence. -/
def State.bestBlock (s : State) (r : Nat) : Option Nat :=
  let l := ((if s.est.twoBanks then [false, true] else [false]).map (blockAt r)).filter (fun a => s.blockState r a == 3)
  match l with
  | [] => none
  | a :: as => some (as.foldl (fun b x => if seqBefore (BitVec.ofNat 32 (s.cs1Le (b + 8) 4)) (BitVec.ofNat 32 (s.cs1Le (x + 8) 4)) then x else b) a)

/-- A cell starts from its compact record, or without state; in a state set that the host holds the lane group's write is rejected (R279). (DEDUCED, log 52) -/
def State.restoreCell (s : State) (cell a kind : Nat) : State :=
  let i := s.tab
  let pr := i.cellProf cell
  let cap := fr (s.cs1Le (a + 2) 2 : Nat) 20
  let nom := i.pf pr 8
  if s.hostHolds (16 + cell / 24576) then s.reject 1 (16 + cell / 24576) (cell % 24576 * 128)
  else if kind ≠ 0 && s.cs1Le (a + 2) 2 ≠ 0 && Fp.le (Fp.mul half nom) cap && Fp.le cap (Fp.mul (fr 3 2) nom) then
    let r : CellRec := { bareCell with
      soc := fr (s.cs1Le a 2 : Nat) 65535, cap := cap, scale := fr (s.cs1Le (a + 4) 2 : Nat) 16384, h := fr (signedOf 16 (s.cs1Le (a + 6) 2)) 32767
      p := diagP (i.ph (if kind = 2 then 8 else 0x0C)) (i.ph 0x10) }
    (s.writeCell cell r 0 (i.cellWord cell (s.cellAge cell))).setCell cell { s.cell cell with init := true, since2 := 255 }
  else (s.bareStart cell).inc R.EST_INITCELLS_CELLS

/-- Assigned cells of a region. -/
def Img.regionCells (i : Img) (r : Nat) : List Nat := ((List.range 24576).map (fun j => r * 24576 + j)).filter i.assigned

/-- One region's restore; its next save goes to the other bank (R322). -/
def State.restoreRegion (s : State) (r : Nat) : State :=
  match s.bestBlock r with
  | none =>
    let causes := (if s.est.twoBanks then [false, true] else [false]).map (fun b => s.blockState r (blockAt r b))
    let s1 := s.putBit R.EST_RESTORE_REGION_FAIL r true
    forAll (s.tab.regionCells r) (fun c s => s.restoreCell c 0 0) (s1.report 0x080B (src 5 r) [p1 (causes.foldl max 0)])
  | some a =>
    let kind := s.cs1Le (a + 7) 1
    let seq := s.cs1Le (a + 8) 4
    let rev := decide (s.cs1Le (a + 0x28) 4 ≠ s.get R.IMG_ID) || decide (s.cs1Le (a + 0x2C) 4 ≠ s.get R.IMG_REV)
    let id := s.cs1Bytes (a + 0x18) 16 != uidBytes
    let s1 := (s.putBit R.EST_RESTORE_REGION_OK r true).putAll
      [ (R.EST_RESTORE_NON_ORDERLY, max (s.get R.EST_RESTORE_NON_ORDERLY) (b2n (kind != 2))),
        (R.EST_RESTORE_REV_DIFF, max (s.get R.EST_RESTORE_REV_DIFF) (b2n rev)), (R.EST_RESTORE_ID_DIFF, max (s.get R.EST_RESTORE_ID_DIFF) (b2n id)) ]
    let s2 := { s1 with est := { s1.est with saveSeq := max s1.est.saveSeq seq, bank := BitVec.ofNat 8 (setBits s1.est.bank.toNat r 1 (b2n (decide (a < 0x200000)))) } }
    let s3 := s2.report 0x0803 (src 5 r) [p1 kind, pn 4 seq, p1 (b2n rev), p1 (b2n id)]
    forAll (s.tab.regionCells r) (fun c s => s.restoreCell c (a + 64 + 8 * (c % 24576)) kind) s3

/-- STATE_RESTORE_DONE: the restore of stage 3 ends; `mbit` is the density of the memory on CS1 in Mbit, 0 with no identification. -/
def stateRestoreDone (mbit : Nat) (s : State) : State :=
  if s.stage ≠ 2 || s.est.restored then s
  else
    let s1 :=
      if mbit < 16 then (s.put R.EST_STAT_NO_MEMORY 1).report 0x0806 chip [p1 0xFF, p1 1]
      else { s with est := { s.est with twoBanks := decide (32 ≤ mbit) } }
    let usable := decide (16 ≤ mbit)
    let s2 := forAll (List.range 8) (fun r s =>
      if usable then s.restoreRegion r
      else forAll (s.tab.regionCells r) (fun c s => s.restoreCell c 0 0) ((s.putBit R.EST_RESTORE_REGION_FAIL r true).report 0x080B (src 5 r) [p1 0])) s1
    ({ s2 with est := { s2.est with restored := true } }).put R.EST_STAT_RESTORED 1
def execStateRestoreDone (mbit : BitVec 16) (s : State) : Host.Outcome State Fault Refusal := finish s (whenOn s (stateRestoreDone mbit.toNat))

end Sys2Proof.Machine
end

