-- ==== Sys2Proof/Machine/LogCmds.lean ====
section
/-! DEFINITION. The commands of the event recorder (chapter 20): the scan, records, the staging queue, anchors, the clear and the register window. -/

namespace Sys2Proof.Machine

/-- The slot a state's recorder wrote in going to another one, if it wrote a record outside the reserve log. -/
def wroteSlot (old new : State) : Option Nat :=
  if old.log.nextSeq = new.log.nextSeq || old.log.failed then none else new.log.last

/-- A record fails the read-back that follows its step 3 (R550): the log memory fails, and the record in hand goes to the reserve log. -/
def readBackFails (old new : State) (e : Event) : State :=
  match wroteSlot old new with
  | none => new
  | some i => (old.logFail i).take e

/-- EVENT_RECORD: a block reports an event; `ok` is the read-back (R532, R534). -/
def eventRecord (code source params : Nat) (ok : Bool) (s : State) : State :=
  match classOf? code with
  | none => s
  | some c =>
    let e := s.event c code source params
    let t := s.take e
    if ok then t else readBackFails s t e
def execEventRecord (code : BitVec 16) (source : BitVec 24) (params : BitVec 64) (ok : Bool) (s : State) : Host.Outcome State Fault Refusal :=
  finish s (whenOn s (eventRecord code.toNat source.toNat params.toNat ok))

/-- QUEUED_EVENT_WRITE: the record in progress completes and the head of the staging queue is written (R544, R545). -/
def queuedEventWrite (ok : Bool) (s : State) : State :=
  let t := s.drainOne
  match ok, s.log.queue with
  | false, e :: q => readBackFails { s with log := { s.log with busy := false, queue := q } } t e
  | _, _ => t
def execQueuedEventWrite (ok : Bool) (s : State) : Host.Outcome State Fault Refusal := finish s (whenOn s (queuedEventWrite ok))

/-- The record with the highest sequence number of a list (R537). -/
def newest : List (Nat × LogRec) → Option (Nat × LogRec)
  | [] => none
  | p :: ps =>
    match newest ps with
    | none => some p
    | some q => if seqBefore p.2.seq q.2.seq then some q else some p

/-- The log after the scan of every slot (R537, R549, R552). -/
def LogState.scan (l : LogState) : LogState :=
  let top := newest l.held
  let cut := l.slots.filter (fun p => p.2.mark != 0xA5#8 && !seqBefore p.2.seq l.clearSeq)
  { l with
    nextSeq := match top with | none => 0#32 | some p => p.2.seq + 1#32
    startSeq := match top with | none => 0#32 | some p => p.2.seq + 1#32
    last := top.map (fun p => p.1)
    retainedRun := (l.held.filter (fun p => p.2.retained)).length
    crcBad := BitVec.ofNat 32 (l.slots.filter (fun p => p.2.mark == 0xA5#8 && !p.2.valid)).length
    ovw := BitVec.ofNat 32 cut.length
    scanDone := true
    busy := false }

/-- LOG_SCAN: at entry to stage 0; `bad` is a slot with an uncorrectable read error (R537, R550). -/
def logScan (bad : Option Nat) (s : State) : State :=
  if s.log.scanDone then s
  else
    let s1 := { s with log := s.log.scan }
    match bad with
    | none => s1
    | some i => s1.logFail i
def execLogScan (bad : Option (Fin 65792)) (s : State) : Host.Outcome State Fault Refusal := finish s (whenOn s (logScan (bad.map Fin.val)))

/-- A time anchor (R546). -/
def State.anchor (s : State) (utc : BitVec 40) (nanos : Word) (quality : BitVec 8) : State :=
  let ps := packPars 8 [pn 5 utc.toNat, pn 2 (nanos.toNat / 1000000), p1 quality.toNat]
  s.take { s.event 0 0x1101 chip ps with anchor := true }

/-- A slot's valid mark is written to 0 (R547). -/
def LogState.unmark (l : LogState) (i : Nat) : LogState := { l with slots := Sparse.set blankRec l.slots i { l.slot i with mark := 0#8 } }

/-- CLEAR of LOG_CTRL (R547): whole at once; what waits in the queue follows 0x1105. -/
def logClear (s : State) : State :=
  if s.session && (s.safety == 0 || s.safety == 6) then
    let l := s.log
    let low := if l.held.isEmpty then l.nextSeq else l.tail
    let l1 := (l.slots.map (fun p => p.1)).foldl LogState.unmark l
    let l2 := { l1 with
      drops := [0, 0, 0, 0]
      dropRun := [0, 0, 0, 0]
      lost := 0#32
      ovw := 0#32
      retainedRun := 0
      last := none
      clearSeq := l.nextSeq
      windows := []
      busy := false }
    let s1 := { s with log := l2 }
    s1.record (s1.event 3 0x1105 chip (packPars 8 [pn 4 low.toNat])) 0
  else s.report 0x1106 chip [p1 s.safety]

/-- A slot number written to LOG_RD_IDX copies the slot into the register window (R548); a wrong CRC is counted (R531). -/
def logWindow (slot : Nat) (s : State) : State :=
  let r := s.log.slot slot
  let s1 := if r.mark = 0xA5#8 && !r.valid then { s with log := { s.log with crcBad := BitVec.ofNat 32 (satNat (2 ^ 32 - 1) (s.log.crcBad.toNat + 1)) } } else s
  s1.putAll ((List.range 8).map (fun k => (R.LOG_RD_DATA k, ofLe (slice 0#8 r.bytes (4 * k) 4))))

/-- LOG_HEAD_SEQ: its read latches the tail and the count of records ended (R549). -/
def logHeadSeq (s : State) : State := { s with log := { s.log with tailLatch := s.log.tail, ovwLatch := s.log.ovw } }

/-- A record in progress is cut off by a loss of supply: its slot is not valid (R532). -/
def State.tearRecord (s : State) : State :=
  match s.log.busy, s.log.last with
  | true, some i => { s with log := { s.log.unmark i with busy := false } }
  | _, _ => s

end Sys2Proof.Machine
end

