-- ==== Sys2Proof/Machine/HostPorts.lean ====
section
/-! DEFINITION. Host ports (chapter 19): rings and their entries, node commands, publication, event and bulk rings, the image ring, interrupts, the endpoint, and host traffic of the MACs. -/

namespace Sys2Proof.Machine

/-! Rings (R509 to R511, R524). -/

def blankRing (_ : Nat) : RingX := {}
def State.ring_ (s : State) (n : Nat) : RingX := Sparse.get blankRing s.host.rings n
def State.setRing (s : State) (n : Nat) (x : RingX) : State := { s with host := { s.host with rings := Sparse.set blankRing s.host.rings n x } }

def State.ringType (s : State) (n : Nat) : Nat := s.get (R.RING_STAT_TYPE n)
/-- Entries given to the module. -/
def State.given (s : State) (n : Nat) : Nat := (s.get (R.RING_TAIL_TAIL n) + 65536 - s.get (R.RING_HEAD_HEAD n)) % 65536
/-- The ring runs in stage 4. -/
def State.ringRuns (s : State) (n : Nat) : Bool := s.stage == 4 && s.get (R.RING_STAT_STATE n) == 1
/-- The ring of a type runs and an entry is given. -/
def State.ringReady (s : State) (n ty : Nat) : Bool := s.ringRuns n && s.ringType n == ty && decide (0 < s.given n)

/-- Host address of the entry at HEAD. -/
def State.entryAt (s : State) (n : Nat) : Nat :=
  s.get (R.RING_BASE_LO_BASE_LO n) * 4096 + 2 ^ 32 * s.get (R.RING_BASE_HI n) + 64 * (s.get (R.RING_HEAD_HEAD n) % 2 ^ s.get (R.RING_SIZE_LOG2 n))

/-- A DMA write of a ring. -/
def State.dma (s : State) (n addr : Nat) (bs : List Byte) : State := s.emit (.dma n addr bs)

/-- The vector of a ring: a message, or one owed at the end of its hold-off (R524). -/
def State.ringVector (s : State) (n : Nat) : State :=
  if !s.getB (R.RING_CTRL_INT_EN n) then s
  else
    let x := s.ring_ n
    if x.holdoff then s.setRing n { x with owed := true }
    else (s.setRing n { x with holdoff := decide (0 < s.tab.u16 10 (16 + 8 * n + 2)) }).sendVector n

/-- The entry at HEAD is returned: its fields that differ from what the host gave, then its control word with STATUS, and HEAD advances (R509); bytes
that are written back unchanged lie in host memory and are not repeated in the output. (DEDUCED, log 80) -/
def State.returnEntry (s : State) (n status : Nat) (ctl : Word) (fields : List (Nat × List Byte)) : State :=
  let a := s.entryAt n
  let s1 := forAll fields (fun f s => s.dma n (a + f.1) f.2) s
  let w := setBits (setBits ctl.toNat 0 1 0) 4 4 status
  let s2 := (s1.dma n a (leBytes 4 w)).put (R.RING_HEAD_HEAD n) ((s.get (R.RING_HEAD_HEAD n) + 1) % 65536)
  (s2.inc (R.RING_CNT n)).ringVector n

/-- 0x1003: a ring is enabled or stopped. -/
def State.ringEvent (s : State) (n : Nat) : State := s.report 0x1003 (src 9 n) [p1 n, p1 (s.ringType n), p1 (s.get (R.RING_STAT_STATE n))]

/-- A TAIL write that gives at most 2^LOG2 entries (R509). -/
def tailWrite (n tail : Nat) (s : State) : State :=
  if 2 ^ s.get (R.RING_SIZE_LOG2 n) < (tail + 65536 - s.get (R.RING_HEAD_HEAD n)) % 65536 then
    s.report 0x1002 (src 9 n) [p2 (blockOff (R.RING_TAIL n).addr), p2 tail]
  else s.put (R.RING_TAIL_TAIL n) tail

/-- What a ring has in progress is given up. -/
def State.dropWork (s : State) (n : Nat) : State :=
  let s1 := s.setRing n { s.ring_ n with node := none }
  if s.ringType n = 2 && s.getB R.HOST_PUB_STAT_ACTIVE then s1.putB R.HOST_PUB_STAT_ACTIVE false else s1

/-- ENABLE as written (R510); ERROR ends with it, and ERR_KIND reads 0 again. (DEDUCED, log 80) -/
def ringEnable (n : Nat) (on : Bool) (s : State) : State :=
  if s.getB (R.RING_CTRL_ENABLE n) = on then s
  else if on then ((s.putB (R.RING_CTRL_ENABLE n) true).put (R.RING_STAT_STATE n) (if s.stage = 4 then 1 else 2)).ringEvent n
  else (((s.dropWork n).putB (R.RING_CTRL_ENABLE n) false).putAll [ (R.RING_STAT_STATE n, 0), (R.RING_STAT_ERR_KIND n, 0) ]).ringEvent n

/-- STOP: every given entry comes back with STATUS 7, and ENABLE clears (R511). `ctls` are their control words. (DEDUCED, log 80) -/
def ringStop (n : Nat) (ctls : List Word) (s : State) : State :=
  let s1 := if s.ringRuns n then
      (List.range (s.given n)).foldl (fun s k => s.returnEntry n 7 (nth 0#32 ctls k) []) (s.dropWork n)
    else s
  if s1.getB (R.RING_CTRL_ENABLE n) then ringEnable n false s1 else s1

/-- RING_DMA_ERROR (R511). -/
def ringDmaError (n kind : Nat) (addr : BitVec 64) (s : State) : State :=
  if !s.ringRuns n then s
  else
    let s1 := (s.dropWork n).putAll [ (R.RING_STAT_STATE n, 3), (R.RING_STAT_ERR_KIND n, kind), (R.RING_ERR_LO n, addr.toNat), (R.RING_ERR_HI n, addr.toNat / 2 ^ 32) ]
    let s2 := s1.report 0x1007 (src 9 n) [p1 kind, pn 4 addr.toNat]
    if s.ringType n = 5 && s.get R.IMG_UPD_RING = n && 1 ≤ s.get R.IMG_STAT_UPD_STATE && s.get R.IMG_STAT_UPD_STATE ≤ 3 then updateAbort s2 else s2
def execRingDmaError (ring : Fin 64) (kind : Fin 4) (addr : BitVec 64) (s : State) : Host.Outcome State Fault Refusal :=
  finish s (whenOn s (ringDmaError ring.val (kind.val + 1) addr))

/-- MSI_X_HOLDOFF_END: one message for what was returned within the hold-off (R524). -/
def holdoffEnd (n : Nat) (s : State) : State :=
  let x := s.ring_ n
  let s1 := s.setRing n { x with holdoff := false, owed := false }
  if x.holdoff && x.owed then s1.ringVector n else s1
def execMsiXHoldoffEnd (ring : Fin 64) (s : State) : Host.Outcome State Fault Refusal := finish s (whenOn s (holdoffEnd ring.val))

/-! Command rings (R512 to R514). -/

/-- OPCODE of a control word. (DEDUCED, log 80) -/
def opOf (ctl : Word) : Nat := bitsOf ctl.toNat 8 8

/-- A Command ring takes its next entry: none while a node command is in progress. -/
def State.cmdReady (s : State) (n : Nat) : Bool := s.ringReady n 1 && (s.ring_ n).node.isNone

/-- NOP, and an undefined OPCODE (Table HOST-5). (DEDUCED, log 80) -/
def ringNop (n : Nat) (ctl : Word) (s : State) : State :=
  let op := opOf ctl
  if !s.cmdReady n || op = 0x10 || op = 0x11 || op = 0x20 then s else s.returnEntry n (if op = 0 then 0 else 1) ctl []
def execRingNop (ring : Fin 64) (ctl : Word) (s : State) : Host.Outcome State Fault Refusal := finish s (whenOn s (ringNop ring.val ctl))

/-- A chain and hop that do not exist, or a count or range out of bounds. -/
def State.badParam (s : State) (c hop addr count : Nat) : Bool :=
  decide (64 ≤ c) || hop == 0 || decide (128 < hop) || (s.tab.chainOn c && decide (s.tab.nodes c < hop)) || count == 0 || decide (24 < count) || decide (256 < addr + count)

/-- The node of a hop index cannot be reached now (Table HOST-5, 5). -/
def State.noNode (s : State) (c h : Nat) : Bool := !s.active c || s.hopBit R.LNK_MUTE c h || s.hopBit R.LNK_UNRCH c h

/-- The command goes to its node as a maintenance transaction (R513). -/
def State.sendNode (s : State) (n : Nat) (x : NodeCmd) (payload : List Byte) : State :=
  (s.setRing n { s.ring_ n with node := some x }).maintCmd x.chain x.hop x.opcode 3 payload

/-- NODE_READ. -/
def nodeRead (n : Nat) (ctl : Word) (c hop addr count : Nat) (s : State) : State :=
  if !s.cmdReady n || opOf ctl ≠ 0x10 then s
  else if s.badParam c hop addr count then s.returnEntry n 2 ctl []
  else if s.noNode c (hop - 1) then s.returnEntry n 5 ctl []
  else s.sendNode n { chain := c, hop := hop - 1, opcode := 0x40, ctl := ctl, count := count } (leBytes 2 addr ++ leBytes 1 count)
def execNodeRead (ring : Fin 64) (ctl : Word) (chain hop : BitVec 8) (addr : BitVec 16) (count : BitVec 8) (s : State) : Host.Outcome State Fault Refusal :=
  finish s (whenOn s (nodeRead ring.val ctl chain.toNat hop.toNat addr.toNat count.toNat))

/-- A node word that the host may write (R237), on a node that has it. -/
def State.hostWord (s : State) (c h a : Nat) : Bool := (a == 0x081 || a == 0x084) && s.tab.nodeType c h == 1

/-- NODE_WRITE. -/
def nodeWrite (n : Nat) (ctl : Word) (c hop addr count : Nat) (words : List (BitVec 16)) (s : State) : State :=
  if !s.cmdReady n || opOf ctl ≠ 0x11 then s
  else if s.badParam c hop addr count then s.returnEntry n 2 ctl []
  else if !s.session then s.returnEntry n 3 ctl []
  else match (List.range count).find? (fun k => !s.hostWord c (hop - 1) (addr + k)) with
    | some k => (s.returnEntry n 4 ctl []).report 0x0507 (srcHop c (hop - 1)) [p1 0x41, p1 4, p2 (addr + k)]
    | none =>
      if s.noNode c (hop - 1) then s.returnEntry n 5 ctl []
      else s.sendNode n { chain := c, hop := hop - 1, opcode := 0x41, ctl := ctl, count := count }
        (leBytes 2 addr ++ (List.range count).flatMap (fun k => leBytes 2 (nth 0#16 words k).toNat))
def execNodeWrite (ring : Fin 64) (ctl : Word) (chain hop : BitVec 8) (addr : BitVec 16) (count : BitVec 8) (words : List (BitVec 16)) (s : State) :
    Host.Outcome State Fault Refusal :=
  finish s (whenOn s (nodeWrite ring.val ctl chain.toNat hop.toNat addr.toNat count.toNat words))

/-- NODE_COMMAND_TIMEOUT: 8 sweeps without a response (R512). -/
def nodeCommandTimeout (n : Nat) (s : State) : State :=
  match (s.ring_ n).node with
  | some x => if s.ringReady n 1 then (s.setRing n { s.ring_ n with node := none }).returnEntry n 5 x.ctl [] else s
  | none => s
def execNodeCommandTimeout (ring : Fin 64) (s : State) : Host.Outcome State Fault Refusal := finish s (whenOn s (nodeCommandTimeout ring.val))

/-- A node's answer to the command of a ring (R512, R513); one that comes while the ring is paused is lost to it. (DEDUCED, log 80) -/
def State.nodeAnswer (s : State) (c h opc : Nat) (payload : List Byte) : State :=
  match (List.range 64).find? (fun n => match (s.ring_ n).node with | some x => x.chain == c && x.hop == h && x.opcode == opc | none => false) with
  | none => s
  | some n =>
    match (s.ring_ n).node with
    | none => s
    | some x =>
      if !s.ringReady n 1 then s
      else
        let st := (nth 0#8 payload 0).toNat
        let f : List (Nat × List Byte) :=
          if opc = 0x40 then (0x0C, leBytes 1 st) :: (if st = 0 then [(0x10, slice 0#8 payload 3 (2 * x.count))] else [])
          else [(0x0C, leBytes 1 st), (0x0E, slice 0#8 payload 1 2)]
        (s.setRing n { s.ring_ n with node := none }).returnEntry n (if st = 0 then 0 else 6) x.ctl f

/-- TIME_ANCHOR (R514, R546). -/
def timeAnchor (n : Nat) (ctl : Word) (utc : BitVec 64) (nanos : Word) (quality : BitVec 8) (s : State) : State :=
  if !s.cmdReady n || opOf ctl ≠ 0x20 then s
  else (s.anchor (utc.setWidth 40) nanos quality).returnEntry n 0 ctl [(0x18, leBytes 8 s.now)]
def execTimeAnchor (ring : Fin 64) (ctl : Word) (utc : BitVec 64) (nanos : Word) (quality : BitVec 8) (s : State) : Host.Outcome State Fault Refusal :=
  finish s (whenOn s (timeAnchor ring.val ctl utc nanos quality))

/-! Publication (R515 to R520). -/

/-- Regions of the mask. -/
def State.pubRegions (s : State) : List Nat := (List.range 8).filter (fun r => (s.get R.HOST_PUB_STAT_FLAGS).testBit (8 + r))
/-- PUB_SIZE (R516). -/
def State.pubSize (s : State) : Nat :=
  let f := s.get R.HOST_PUB_STAT_FLAGS
  let m := s.pubRegions.length
  (if f.testBit 0 then m * 262144 else 0) + (if f.testBit 1 then m * 393216 else 0) + (if f.testBit 2 then 131072 else 0)

/-- The points of a region, from the set of the last closed epoch; cullet where the region is excluded (R36). -/
def State.pubPoints (s : State) (r : Nat) : List Byte :=
  let out := s.getB (R.IMG_REGION_EXCLUDED r)
  (List.range 32768).flatMap (fun l =>
    let w := s.smp (s.lastSet r) l
    leBytes 8 (if out && s.tab.populated (r * 32768 + l) then (asCullet w).toNat else w.toNat))

/-- A cell's summary as epoch `n` publishes it (R315); with bit 0 clear in an excluded region (R36). -/
def State.pubCell (s : State) (cell : Nat) (n : Word) : List Byte :=
  if !s.tab.assigned cell then List.replicate 16 0#8
  else
    let x := s.cell cell
    let b := slice 0#8 x.summary 0 16
    if x.upd = some n && !s.getB (R.IMG_REGION_EXCLUDED (cell / 24576)) then b else setNth b 0x0D (nth 0#8 b 0x0D &&& 0xFE#8)

/-- A string record: the intake's fields from the copy of the close, the pair's as step 8 left them, the others as they are (R517). -/
def State.pubString (s : State) (m : Nat) : List Byte :=
  (List.range 32).flatMap (fun k =>
    let o := strOff m (8 * k)
    let live := (s.sto64 o).toNat
    let kept := (Sparse.get zeroWord s.host.pub.strings (o / 8)).toNat
    let after := (Sparse.get zeroWord s.host.pub.tokens (o / 8)).toNat
    leBytes 8 (if k < 5 then kept else if k = 5 then setBits live 0 32 kept
      else if k = 18 then setBits after 0 32 kept else if k = 19 then setBits live 0 32 after else live))

/-- The three streams in the buffer's order (Table HOST-6). -/
def State.pubBuffer (s : State) : List Byte :=
  let f := s.get R.HOST_PUB_STAT_FLAGS
  (if f.testBit 0 then s.pubRegions.flatMap s.pubPoints else [])
    ++ (if f.testBit 1 then s.pubRegions.flatMap (fun r => (List.range 24576).flatMap (fun j => s.pubCell (r * 24576 + j) s.host.pub.epoch)) else [])
    ++ (if f.testBit 2 then (List.range 512).flatMap s.pubString else [])

def State.setPub (s : State) (x : PubX) : State := { s with host := { s.host with pub := x } }

/-- After the last publication before sleep its ring stops as well (Table PWR-5, step 1). -/
def State.pubLast (s : State) : State :=
  let k := s.get R.HOST_PUB_STAT_RING
  if s.pwr.lastPub && s.ringType k == 2 && s.get (R.RING_STAT_STATE k) == 1 then s.put (R.RING_STAT_STATE k) 2 else s

/-- The entry of a publication is written back (Table HOST-7). -/
def State.pubReturn (s : State) (status bytes us : Nat) : State :=
  let x := s.host.pub
  let b := leBytes 4 x.epoch.toNat ++ leBytes 8 x.addr.toNat ++ leBytes 4 x.len.toNat ++ leBytes 4 bytes ++ leBytes 2 (s.get R.HOST_PUB_STAT_FLAGS) ++ leBytes 1 x.safety
    ++ leBytes 1 x.flags ++ leBytes 2 x.angle ++ leBytes 2 0 ++ leBytes 4 x.cycle.toNat ++ leBytes 4 x.freq.toNat ++ leBytes 4 x.cullet ++ leBytes 4 x.time
    ++ leBytes 4 s.sop.epoch.toNat ++ leBytes 4 us ++ leBytes 8 0
  ((s.putB R.HOST_PUB_STAT_ACTIVE false).returnEntry (s.get R.HOST_PUB_STAT_RING) status x.ctl [(4, b)]).pubLast

/-- A complete publication's descriptor (R39, R169). -/
def State.pubFinish (s : State) (us : Nat) : State := (s.pubReturn 0 s.pubSize us).put R.HOST_PUB_LAST s.host.pub.epoch.toNat

/-- A publication is aborted (R519). -/
def State.pubAbort (s : State) (bytes us : Nat) : State :=
  if !s.getB R.HOST_PUB_STAT_ACTIVE then s
  else ((s.pubReturn 1 bytes us).inc R.HOST_PUB_ABORTED).report 0x1005 chip [p2 s.host.pub.epoch.toNat, pn 4 bytes]

/-- A publication is being written and its ring runs. (DEDUCED, log 81) -/
def State.pubRuns (s : State) : Bool := s.getB R.HOST_PUB_STAT_ACTIVE && s.ringRuns (s.get R.HOST_PUB_STAT_RING)

/-- PUBLICATION_COMPLETE: the streams are complete once step 8 has finished; the descriptor follows at once with Q = 0, else at its angle. -/
def publicationComplete (us : Nat) (s : State) : State :=
  let x := s.host.pub
  if !s.pubRuns || x.done || s.est.busy ≠ 0#8 || s.sop.epoch ≠ x.epoch then s
  else
    let s1 := (s.dma (s.get R.HOST_PUB_STAT_RING) x.addr.toNat s.pubBuffer).setPub { x with done := true }
    if s.get R.SWP_SCHED2_Q = 0 || x.angleHit then s1.pubFinish us else s1
def execPublicationComplete (us : Word) (s : State) : Host.Outcome State Fault Refusal := finish s (whenOn s (publicationComplete us.toNat))

/-- PUBLICATION_ANGLE (R169). -/
def publicationAngle (us : Nat) (s : State) : State :=
  let x := s.host.pub
  if !s.pubRuns || s.get R.SWP_SCHED2_Q = 0 || x.angleHit then s
  else
    let s1 := (s.moveTo (x.angle + s.get R.SWP_SCHED2_Q)).setPub { x with angleHit := true }
    if x.done then s1.pubFinish us else s1
def execPublicationAngle (us : Word) (s : State) : Host.Outcome State Fault Refusal := finish s (whenOn s (publicationAngle us.toNat))

/-- PUBLICATION_ABORT: the write queue has stayed full for 1 ms (R519). -/
def execPublicationAbort (bytes us : Word) (s : State) : Host.Outcome State Fault Refusal :=
  finish s (whenOn s (fun s => if s.pubRuns then s.pubAbort bytes.toNat us.toNat else s))

/-- The Publication ring's given entries in turn: an unusable one comes back with STATUS 2 (R517). (DEDUCED, log 81) -/
def State.pubTake (s : State) (n : Nat) : List (Word × BitVec 64 × Word) → State × Option (Word × BitVec 64 × Word)
  | [] => (s, none)
  | e :: es =>
    if s.given n = 0 then (s, none)
    else if e.2.1.toNat % 4096 = 0 && decide (s.pubSize ≤ e.2.2.toNat) then (s, some e)
    else (s.returnEntry n 2 e.1 []).pubTake n es

/-- The publication of epoch `n` starts, or is skipped with 0x1004 (R41, R517, R520). It runs in stage 4, and ends with the epoch that closes next
once a sleep sequence has begun (R114). (DEDUCED, log 81) -/
def State.pubStart (s : State) (n : Word) (byAngle : Bool) (entries : List (Word × BitVec 64 × Word)) : State :=
  if s.get R.HOST_PUB_STAT_FLAGS = 0 || s.stage ≠ 4 || s.pwr.lastPub then s
  else
    let k := s.get R.HOST_PUB_STAT_RING
    let s0 := { s with pwr := { s.pwr with lastPub := s.getB R.PWR_STAT_SLEEP_PENDING } }
    let (s1, e) := if s0.ringRuns k && s0.ringType k == 2 then s0.pubTake k entries else (s0, none)
    match e with
    | none => ((s1.inc R.HOST_PUB_SKIPPED).report 0x1004 chip [p2 n.toNat]).pubLast
    | some (ctl, addr, len) =>
      let flags := b2n s.swp.angleLocked + 2 * b2n byAngle + 4 * b2n ((List.range 8).any s.regionHeld) + 8 * b2n ((List.range 8).any (fun r => decide (s.get (R.IMG_REGION_D_EFF r) ≠ 0)))
      (s1.setPub { epoch := n, ctl := ctl, addr := addr, len := len
                   strings := s.sto.words.filter (fun p => decide (0x2400000 / 8 ≤ p.1) && decide (p.1 < 0x2420000 / 8))
                   safety := s.safety, flags := flags, angle := s.swp.angle, cycle := s.swp.cycleAt, freq := s.swp.angleFreq
                   cullet := s.get R.SWP_CULLET_CULLET, time := s.now }).putB R.HOST_PUB_STAT_ACTIVE true

/-! Event rings (R521). -/

/-- The held record with the lowest sequence number at or after a position, of a class or above. (DEDUCED, log 82) -/
def State.nextRecord (s : State) (pos : Word) (cls : Nat) : Option LogRec :=
  ((oldest (s.log.held.filter (fun p => decide ((p.2.seq - pos).toNat < 2 ^ 31) && decide (cls ≤ p.2.cls))))).map (fun p => p.2)

/-- EVENT_RING_COPY: the next record goes into the entry at HEAD; records that are gone are counted and reported. (DEDUCED, log 82) -/
def eventRingCopy (n : Nat) (ctl : Word) (s : State) : State :=
  if !s.ringReady n 3 then s
  else
    let x := s.ring_ n
    let pos := x.pos.getD s.log.startSeq
    match s.nextRecord pos (s.tab.ringClass n) with
    | none => s
    | some r =>
      let span := (r.seq - pos).toNat
      let held := (s.log.held.filter (fun p => decide ((p.2.seq - pos).toNat < span))).length
      let gone := span - held
      let s1 := s.setRing n { x with pos := some (r.seq + 1#32) }
      let s2 := if gone = 0 then s1 else (s1.incBy (R.RING_MISSED n) gone).report 0x1008 (src 9 n) [p2 gone]
      s2.returnEntry n (if gone = 0 then 0 else 1) ctl ([(4, leBytes 4 r.seq.toNat)] ++ (if gone = 0 then [] else [(8, leBytes 4 gone)]) ++ [(0x20, r.bytes)])
def execEventRingCopy (ring : Fin 64) (ctl : Word) (s : State) : Host.Outcome State Fault Refusal := finish s (whenOn s (eventRingCopy ring.val ctl))

/-! Bulk reads (R522, R548). -/

/-- Bytes of a source space. -/
def State.bulkBytes (s : State) (space off len : Nat) : List Byte :=
  if space = 0 then (List.range (len / 8)).flatMap (fun k => leBytes 8 (s.bar2Word (off + 8 * k)).toNat)
  else (List.range (len / 8)).flatMap (fun k => slice 0#8 (s.log.slot ((off + 8 * k) / 32)).bytes ((off + 8 * k) % 32) 8)

/-- BULK_READ. -/
def bulkRead (n : Nat) (ctl : Word) (dest : BitVec 64) (len space : Nat) (off : BitVec 64) (s : State) : State :=
  if !s.ringReady n 4 then s
  else
    let top := if space = 0 then 0x4000000 else 32 * allSlots
    if dest.toNat % 8 ≠ 0 || len < 8 || 4194304 < len || len % 8 ≠ 0 || 1 < space || off.toNat % 8 ≠ 0 || top < off.toNat + len then s.returnEntry n 2 ctl []
    else (s.dma n dest.toNat (s.bulkBytes space off.toNat len)).returnEntry n 0 ctl []
def execBulkRead (ring : Fin 64) (ctl : Word) (dest : BitVec 64) (len : Word) (space : BitVec 8) (off : BitVec 64) (ecc : List (BitVec 26 × Bool)) (s : State) :
    Host.Outcome State Fault Refusal :=
  finish s (whenOn s (fun s => (bulkRead ring.val ctl dest len.toNat space.toNat off s).eccWords ecc))

/-! The image ring (R140, R523). -/

/-- IMAGE_CHUNK: `data` is what the module reads from the host; `fail` names a NOR byte that has failed twice. (DEDUCED, log 24) -/
def imageChunk (n : Nat) (ctl : Word) (addr : BitVec 64) (len : Nat) (last : Bool) (data : List Byte) (fail : Option Nat) (s : State) : State :=
  if !s.ringReady n 5 || s.get R.IMG_STAT_UPD_STATE ≠ 1 || s.get R.IMG_UPD_RING ≠ n then s
  else if addr.toNat % 4 ≠ 0 || len < 4 || 65536 < len || len % 4 ≠ 0 then s.returnEntry n 2 ctl []
  else
    let off := s.get R.IMG_UPD_LEN
    if min 16777216 s.img.slotSize < off + len then
      ((s.returnEntry n 2 ctl []).listRefs 0 [(0x1001, 0, 0)]).refuseImage [(0x1001, 0, 0)]
    else
      let s1 := (s.stageBytes off (slice 0#8 data 0 len)).put R.IMG_UPD_LEN (off + len)
      match fail with
      | some a => ((s1.norSpoil a).setUpd 7).report 0x020A chip [p1 s.targetSlot, p2 a]
      | none =>
        let s2 := s1.returnEntry n 0 ctl []
        if last then s2.setUpd 2 else s2
def execImageChunk (ring : Fin 64) (ctl : Word) (addr : BitVec 64) (len : Word) (last : Bool) (data : List Byte) (fail : Option (BitVec 32)) (s : State) :
    Host.Outcome State Fault Refusal :=
  finish s (whenOn s (imageChunk ring.val ctl addr len.toNat last data (fail.map BitVec.toNat)))

/-! Interrupts (R524). -/

/-- W1C of HOST_ICAUSE; `same` are causes that set in the same cycle (R22). -/
def icauseWrite (clear same : BitVec 9) (s : State) : State :=
  let s1 := { s with host := { s.host with icause := s.host.icause &&& ~~~clear } }
  forAll ((List.range 9).filter (fun j => same.getLsbD j)) (fun j s => s.setCause j) s1

/-- HOST_IMASK as written: a set cause that becomes unmasked sends its message. -/
def imaskWrite (v : Nat) (s : State) : State :=
  let vec := bitsOf v 16 7
  if 72 ≤ vec && vec ≠ 0x7F then s.report 0x1001 chip [p2 (blockOff R.HOST_IMASK.addr)]
  else
    let s1 := s.putAll [ (R.HOST_IMASK_MASK, v), (R.HOST_IMASK_MBOX_MASK, v / 256), (R.HOST_IMASK_MBOX_VEC, vec) ]
    let s2 := forAll ((List.range 8).filter (fun j => s.bit R.HOST_IMASK_MASK j && !v.testBit j && s.host.icause.getLsbD j)) (fun j s => s.sendVector (64 + j)) s1
    if s.getB R.HOST_IMASK_MBOX_MASK && !v.testBit 8 && s.host.icause.getLsbD 8 && decide (vec < 72) then s2.sendVector vec else s2

/-- Pending messages of unmasked vectors leave once they can. (DEDUCED, log 83) -/
def State.flushPba (s : State) : State :=
  forAll ((List.range 72).filter (fun v => s.host.pba.getLsbD v)) (fun v s =>
    ({ s with host := { s.host with pba := s.host.pba &&& ~~~(1#72 <<< v) } }).sendVector v) s

/-! The endpoint (R75, R106, R505). -/

/-- Rings pause on leaving stage 4 and go on at re-entry (R510). -/
def State.pauseRings (s : State) : State :=
  forAll ((List.range 64).filter (fun n => s.get (R.RING_STAT_STATE n) == 1)) (fun n s => s.put (R.RING_STAT_STATE n) 2) s
def State.resumeRings (s : State) : State :=
  forAll ((List.range 64).filter (fun n => s.get (R.RING_STAT_STATE n) == 2)) (fun n s => s.put (R.RING_STAT_STATE n) 1) s

/-- Stage 4 is entered at `t`, in 10 µs units after the reference instant (R101), or left, as its three conditions stand (R106); it is not entered
while a sleep sequence runs. Cause of 0x1006: 0 link, 1 PERST_N, 2 bus mastering. (DESIGN CHOICE, log 106) -/
def State.stage4 (s : State) (cause t : Nat) : State :=
  let ok := s.host.linkUp && s.host.busMaster && s.host.perstHigh
  if s.stage = 3 && ok && !s.getB R.PWR_STAT_SLEEP_PENDING then
    let s1 := if s.get (R.PWR_STAGE_T_T 3) = 0xFFFFFF then s.put (R.PWR_STAGE_T_T 3) t else s
    ((s1.put R.GLOBAL_STAGE_STAGE 4).resumeRings).report 0x1006 chip [p1 cause]
  else if s.stage = 4 && !ok then ((s.put R.GLOBAL_STAGE_STAGE 3).pauseRings).report 0x1006 chip [p1 cause]
  else s

/-- Registers of the rings, the causes and the MSI-X state back at reset; publication counters and image fields stay (R75, R528). (DEDUCED, log 83) -/
def State.resetEndpoint (s : State) : State :=
  let keep (p : Nat × Word) : Bool := decide (p.1 < 0x28000) || decide (0x2A000 ≤ p.1 && p.1 < 0x2C010) || decide (0x2C040 ≤ p.1) || p.1 == 0x29044 || p.1 == 0x29048
  let s1 := { s with regs := s.regs.filter keep }
  let s2 := s1.putAll ((List.range 64).map (fun n => (R.RING_STAT_TYPE n, s.ringType n))
    ++ [ (R.HOST_PUB_STAT_FLAGS, s.get R.HOST_PUB_STAT_FLAGS), (R.HOST_PUB_STAT_RING, s.get R.HOST_PUB_STAT_RING) ])
  let rings := s.host.rings.map (fun p => (p.1, { ({} : RingX) with pos := p.2.pos }))
  { s2 with host := { s2.host with icause := 0#9, pba := 0#72, busMaster := false, rings := rings.filter (fun p => p.2 != ({} : RingX)) } }

/-- The endpoint is reset: by PERST_N, which also takes the link down, or by a function-level reset (R505). -/
def State.endpointReset (s : State) (perst : Bool) (t : Nat) : State :=
  let s1 := s.resetEndpoint
  let s2 := if perst then { s1 with host := { s1.host with linkUp := false, perstHigh := false } } else s1
  let s3 := s2.stage4 1 t
  s3.report 0x100A chip []

/-- PERST_N changes its level. -/
def perstN (high : Bool) (t : Nat) (s : State) : State :=
  if high then ({ s with host := { s.host with perstHigh := true } }).stage4 1 t
  else if s.pwr.mainOn then s.endpointReset true t
  else { s with host := { s.host with perstHigh := false } }
def execPerstN (rise : Option (BitVec 24)) (s : State) : Host.Outcome State Fault Refusal := finish s (perstN rise.isSome (rise.getD 0#24).toNat s)

/-- FUNCTION_LEVEL_RESET. -/
def execFunctionLevelReset (s : State) : Host.Outcome State Fault Refusal := finish s (whenOn s (fun s => s.endpointReset false 0))

/-- PCIE_LINK_CHANGE: the link state and bus mastering as they now are; the endpoint is in reset while PERST_N is low. -/
def pcieLinkChange (link master : Bool) (t : Nat) (s : State) : State :=
  let up := link && s.host.perstHigh
  let cause := if up = s.host.linkUp then 2 else 0
  (({ s with host := { s.host with linkUp := up, busMaster := master && up } }).stage4 cause t).flushPba
def execPcieLinkChange (link : Option (BitVec 24)) (master : Bool) (s : State) : Host.Outcome State Fault Refusal :=
  finish s (whenOn s (pcieLinkChange link.isSome master (link.getD 0#24).toNat))

/-! MACs and host traffic (R525 to R528). -/

/-- ETH_LINK_CHANGE and CAN_BUS_OFF. -/
def ethLinkChange (eth1 up : Bool) (speed : Nat) (s : State) : State :=
  let v := if up then speed else 0
  if eth1 then s.putAll [ (R.MAC_STAT_ETH1_UP, b2n up), (R.MAC_STAT_ETH1_SPEED, v) ] else s.putAll [ (R.MAC_STAT_ETH0_UP, b2n up), (R.MAC_STAT_ETH0_SPEED, v) ]
def execEthLinkChange (eth1 up : Bool) (speed : BitVec 2) (s : State) : Host.Outcome State Fault Refusal := finish s (whenOn s (ethLinkChange eth1 up speed.toNat))
def canBusOff (can1 off : Bool) (s : State) : State := s.putB (if can1 then R.MAC_STAT_CAN1_BUSOFF else R.MAC_STAT_CAN0_BUSOFF) off
def execCanBusOff (can1 off : Bool) (s : State) : Host.Outcome State Fault Refusal := finish s (whenOn s (canBusOff can1 off))

/-- The answer to an ARP request or an ICMP echo request for the module's address (R525). (DEDUCED, log 84) -/
def Img.inetAnswer (i : Img) (m : Nat) (d : List Byte) : Option (List Byte) :=
  let ip := i.ipAddr m
  let mac := i.macAddr m
  let ihl := 4 * (nth 0#8 d 14).toNat % 64
  if slice 0#8 d 12 2 == [0x08#8, 0x06#8] && slice 0#8 d 20 2 == [0x00#8, 0x01#8] && slice 0#8 d 38 4 == ip then
    some (slice 0#8 d 22 6 ++ mac ++ slice 0#8 d 12 8 ++ [0x00#8, 0x02#8] ++ mac ++ ip ++ slice 0#8 d 22 10)
  else if slice 0#8 d 12 2 == [0x08#8, 0x00#8] && nth 0#8 d 23 == 1#8 && slice 0#8 d 30 4 == ip && nth 0#8 d (14 + ihl) == 8#8 then
    let body := d.drop (14 + ihl + 4)
    let icmp := [0#8, 0#8] ++ beBytes 2 (inetSum ([0#8, 0#8, 0#8, 0#8] ++ body)) ++ body
    some (slice 0#8 d 6 6 ++ mac ++ slice 0#8 d 12 14 ++ slice 0#8 d 30 4 ++ slice 0#8 d 26 4 ++ slice 0#8 d 34 (ihl - 20) ++ icmp)
  else none

/-- A UDP datagram on a port pair of an enabled connection of the medium. -/
def Img.sflPorts (i : Img) (m : Nat) (d : List Byte) : Bool :=
  let ihl := 4 * (nth 0#8 d 14).toNat % 64
  let sp := ofBe (slice 0#8 d (14 + ihl) 2)
  let dp := ofBe (slice 0#8 d (16 + ihl) 2)
  slice 0#8 d 12 2 == [0x08#8, 0x00#8] && nth 0#8 d 23 == 17#8
    && (List.range 16).any (fun n => i.cnFlag n 0 && i.cnMedium n == m && bitsOf (i.cnTx n) 0 16 == dp && bitsOf (i.cnTx n) 16 16 == sp)

/-- A frame as its G2H slot is to hold it (Table HOST-10). -/
def State.slotBytes (s : State) (m ident fl : Nat) (data : List Byte) : List Byte :=
  leBytes 2 data.length ++ leBytes 1 m ++ leBytes 1 fl ++ leBytes 4 (bitsOf ident 0 29) ++ leBytes 4 s.now ++ leBytes 4 0 ++ data

def State.waitRx (s : State) (m : Nat) (b : List Byte) : State := { s with host := { s.host with rxWait := s.host.rxWait ++ [(m, b)] } }

/-- MAC_FRAME_RX: from stage 2 on (R49) a received frame is answered, goes to host software, or is none of it (R525, R526). A request beyond the 10
answers of a second is a frame that the module does not answer, and goes to host software. (DEDUCED, log 84) -/
def macFrameRx (m ident : Nat) (fd brs : Bool) (d : List Byte) (s : State) : State :=
  let i := s.tab
  if !i.hostOn m || s.stage < 2 then s
  else if m < 2 then
    if i.canFilter m ident && 3 ≤ s.stage then s.waitRx m (s.slotBytes m ident (b2n fd + 2 * b2n brs + 4 * bitsOf ident 31 1) d) else s
  else
    let times := (Sparse.get (fun _ => []) s.host.answers (m - 2)).filter (fun t => decide (s.now < t + 1000))
    let mine := slice 0#8 d 0 6 == i.macAddr m
    if !mine && slice 0#8 d 0 6 ≠ List.replicate 6 0xFF#8 then s
    else match (if times.length < 10 then i.inetAnswer m d else none) with
      | some b => { s.emit (.eth (m - 2) b) with host := { s.host with answers := Sparse.set (fun _ => []) s.host.answers (m - 2) (s.now :: times) } }
      | none => if i.sflPorts m d || s.stage < 3 then s else s.waitRx m (s.slotBytes m 0 0 d)
def execMacFrameRx (medium : Fin 4) (ident : Word) (fd brs : Bool) (data : List Byte) (s : State) : Host.Outcome State Fault Refusal :=
  finish s (whenOn s (macFrameRx medium.val ident.toNat fd brs data))

/-! The queues in the Exchange RAM (R527). -/

/-- Bytes of the Exchange RAM from an offset. -/
def State.xbytes (s : State) (off n : Nat) : List Byte :=
  ((List.range ((n + 3) / 4)).flatMap (fun k => leBytes 4 (s.xword (off / 4 + k)).toNat)).take n
def State.xputBytes (s : State) (off : Nat) (bs : List Byte) : State :=
  (List.range ((bs.length + 3) / 4)).foldl (fun s k => s.setXword (off / 4 + k) (BitVec.ofNat 32 (ofLe (slice 0#8 bs (4 * k) 4)))) s

/-- A word of an H2G slot is among those met with an uncorrectable error. -/
def slotLost (lost : List Nat) (j : Nat) : Bool := lost.any (fun w => decide (0x200 + 512 * j ≤ w) && decide (w < 0x200 + 512 * (j + 1)))

/-- One frame from the host to its medium; a message with a word of `lost` is discarded (Table STO-4). (DEDUCED, log 84) -/
def State.h2gOne (lost : List Nat) (s : State) : State :=
  let rd := s.xword 0x2000
  if s.xword 0 = rd then s
  else if slotLost lost (rd.toNat % 15) then s.setXword 0x2000 (rd + 1#32)
  else
    let o := 0x800 + 2048 * (rd.toNat % 15)
    let h := s.xbytes o 16
    let len := ofLe (h.take 2)
    let m := (nth 0#8 h 2).toNat
    let ok := decide (m < 4) && s.tab.hostOn m && (if m < 2 then decide (len ≤ 64) else decide (14 ≤ len) && decide (len ≤ 1518))
    let data := (s.xbytes o (16 + len)).drop 16
    let fl := (nth 0#8 h 3).toNat
    let frame : Output := if m < 2 then .can m (bitsOf (ofLe (slice 0#8 h 4 4)) 0 29 + 2 ^ 31 * bitsOf fl 2 1) (fl.testBit 0) (fl.testBit 1) data else .eth (m - 2) data
    let s1 := if ok then (s.inc (R.MAC_HTX m)).emit frame else s.inc (R.MAC_HDROP (m % 4))
    s1.setXword 0x2000 (rd + 1#32)

/-- One received frame to the host; a full queue drops it. -/
def State.g2hOne (s : State) : State :=
  match s.host.rxWait with
  | [] => s
  | (m, b) :: rest =>
    let s0 := { s with host := { s.host with rxWait := rest } }
    let wr := s.xword 0x2001
    let rd := s.xword 1
    if 15 ≤ (wr - rd).toNat then
      let s1 := s0.inc (R.MAC_HDROP m)
      s1.report 0x1009 chip [p1 m, p2 (s1.get (R.MAC_HDROP m))]
    else
      let s1 := ((s0.xputBytes (0x8800 + 2048 * (wr.toNat % 15)) b).setXword 0x2001 (wr + 1#32)).inc (R.MAC_HRX m)
      if wr = rd then s1.setCause 8 else s1

/-- The queues in a safety cycle: at most 8 frames each way, from stage 3, not in image recovery. `ecc`: words read with an error (R287). -/
def State.hostQueues (ecc : List (Nat × Bool)) (s : State) : State :=
  let s0 := forAll ecc (fun p s => s.eccX p.2) s
  let lost := (ecc.filter (fun p => p.2)).map (fun p => p.1)
  if s.stage < 3 || s.getB R.GLOBAL_STAGE_IMAGE_RECOVERY then s0
  else (List.range 8).foldl (fun s _ => s.g2hOne) ((List.range 8).foldl (fun s _ => s.h2gOne lost) s0)

end Sys2Proof.Machine
end

