-- ==== Sys2Proof/Machine/Maint.lean ====
section
/-! DEFINITION. Responses to maintenance transactions (R236, R245, R513): register reads, CTR_SET, host commands, configuration, self-tests. -/

namespace Sys2Proof.Machine

/-- The 28 words from 0x010 of a node enter its block record (R236, Table STO-8) and the duty map (R260); what is new in them is logged (Table NODE-15). (DEDUCED, log 35) -/
def State.regRead (s : State) (c h : Nat) (w : List Byte) : State :=
  let o := blkOff c h
  let u (k : Nat) : Nat := ofLe (slice 0#8 w (2 * k) 2)
  let was := s.stoGet (o 0x0E) 2
  let s1 := (((s.stoPut (o 0x0C) 2 (u 1)).stoPut (o 0x0E) 2 (u 0)).stoPut (o 0x2E) 2 (u 2)).stoPut (o 0x30) 2 (u 3)
  let s2 := s1.stoPut (o 0x3C) 2 s.swp.epoch.toNat
  let duty := slice 0#8 w 32 24
  let s3 := if s.tab.nodeType c h = 1 then (s2.stoPutBytes (o 0x10) duty).setDuties c h (duty.map BitVec.toNat) else s2
  let s4 := if (u 0).testBit 3 && !was.testBit 3 then s3.report 0x0508 (srcHop c h) [pS (signedOf 16 (u 1) / 10)] else s3
  if (u 0).testBit 9 && !was.testBit 9 then s4.report 0x0506 (srcHop c h) [p2 (u 4)] else s4

/-- A configuration command after enumeration is answered: a write is followed by its read-back, a block's thresholds by its corners; what is
refused or not verified is logged and goes on being retried (R214, R217, R234). (DEDUCED, log 34) -/
def State.configAnswer (s : State) (c h : Nat) (w : WaitCmd) (payload : List Byte) : State :=
  let a := ofLe (w.payload.take 2)
  let mine := (s.tab.cfgExpect c h).filter (fun e => decide (a ≤ e.1) && decide (e.1 < a + 3))
  let word := ofLe (slice 0#8 payload 1 2)
  if (nth 0#8 payload 0).toNat ≠ 0 then (if mine.any (fun e => e.1 == word) then s.cfgFound c h [word] else s)
  else if w.opcode = 0x41 then forAll ((s.tab.cfgReads c h).filter (fun r => r.1 == a)) (fun r s => s.maintCmd c h 0x40 4 (readPay r)) s
  else if a = 0x0C0 then s.takeCorners c h ((List.range 4).map (fun k => ofLe (slice 0#8 payload (3 + 2 * k) 2)))
  else
    let s1 := s.cfgFound c h ((mine.filter (fun e => ofLe (slice 0#8 payload (3 + 2 * (e.1 - a)) 2) != e.2)).map Prod.fst)
    if a = 0x082 then s1.maintCmd c h 0x40 4 (readPay (0x0C0, 4)) else s1

/-- A host's write of SLP_PERIOD (0x084) has been taken: sleep sends it again (R114, R237). (DESIGN CHOICE, log 116) -/
def State.noteSlp (s : State) (c h : Nat) (payload : List Byte) : State :=
  let a := ofLe (payload.take 2)
  let k := 0x084 - a
  if a ≤ 0x084 && 2 + 2 * k < payload.length then
    let x := s.chain c
    s.setChain c { x with slp := Sparse.set (fun _ => 60) x.slp h (ofLe (slice 0#8 payload (2 + 2 * k) 2)) }
  else s

/-- What a response of status `st` to a maintenance command does; `quar`: its tag was in quarantine. (DEDUCED, log 35) -/
def State.maintAct (s : State) (c h : Nat) (w : WaitCmd) (quar : Bool) (payload : List Byte) : State :=
  let st := (nth 0#8 payload 0).toNat
  match w.kind with
  | 1 => if st = 0 then s.regRead c h (payload.drop 3) else s
  | 2 => if quar then s else match s.tab.stringAt c h with | some n => s.ctrSetDone n (some st) | none => s
  | 3 =>
    let s1 := if w.opcode = 0x42 && st = 0 then s.setDuties c h (w.payload.map BitVec.toNat) else s
    let s2 := if w.opcode = 0x41 && st = 0 then s1.noteSlp c h w.payload else s1
    s2.nodeAnswer c h w.opcode payload
  | 4 => s.configAnswer c h w payload
  | 6 => s.sleepChain c
  | _ => if st = 0 then s else s.testRefused (c * 128 + h)

/-- The word address that a response of status `st` gives (R209, R239): READ_REG and WRITE_REG have one. -/
def refusedWord (opc : Nat) (payload : List Byte) : Nat := if opc = 0x40 || opc = 0x41 then ofLe (slice 0#8 payload 1 2) else 0

/-- MAINT_RESPONSE: matched by the link engine (R191, R245); a refusal is logged as 0x0507. (DEDUCED, log 35) -/
def maintResponse (c : Nat) (line : List (BitVec 10)) (s : State) : State :=
  if !s.active c then s
  else match rxFrame line with
    | none => s.inc (R.LNK_CNT_CRC c)
    | some f =>
      let s0 := s.heardChain c
      let x := s0.chain c
      match x.matching (s.tab.nodes c) f with
      | none => s0.inc (R.LNK_CNT_CRC c)
      | some (w, quar) =>
        if w.kind = 0 then s0.inc (R.LNK_CNT_CRC c)
        else
          let s1 := if quar then s0 else s0.setChain c (x.setTag f.tag .free)
          let st := (nth 0#8 f.payload 0).toNat
          let s2 := if st = 0 then s1 else s1.report 0x0507 (srcHop c w.hop) [p1 w.opcode, p1 st, p2 (refusedWord w.opcode f.payload)]
          (s2.maintAct c w.hop w quar f.payload).issue c
def execMaintResponse (c : Fin 64) (idle line : List (BitVec 10)) (s : State) : Host.Outcome State Fault Refusal :=
  finish s (whenOn s (maintResponse c.val (idle ++ line)))

end Sys2Proof.Machine
end

