-- ==== Sys2Proof/Machine/Ripple.lean ====
section
/-! DEFINITION. Excitation requests and the ripple status (chapter 11, R330, R338 to R341, R347). -/

namespace Sys2Proof.Machine

/-- EST_RIP_STAT follows the image, the decimation and the last closed epoch; 0x0811 where impedance goes off or on (R330). -/
def State.refreshRip (s : State) : State :=
  let w := s.tab.window
  let off := (List.range 8).foldl (fun m r => if w ≠ 0 && s.ripOff r then m + 2 ^ r else m) 0
  let s1 := s.putAll [ (R.EST_RIP_STAT_OFF_P0, b2n (w == 0)), (R.EST_RIP_STAT_NOT_LOCKED, b2n !s.swp.angleLocked), (R.EST_RIP_STAT_OFF_DEC, off), (R.EST_RIP_STAT_W, w) ]
  if s1.get R.EST_RIP_STAT_OFF_P0 ≠ s.get R.EST_RIP_STAT_OFF_P0 || off ≠ s.get R.EST_RIP_STAT_OFF_DEC then
    s1.report 0x0811 chip [p2 (s1.get R.EST_RIP_STAT)] else s1

/-- A string is ripple-starved (R338): its mean 2f current over its last W ring entries, the valid ones, against its profiles' I_rip2_min.
(DEDUCED, log 51) -/
def State.starved (s : State) (m : Nat) : Bool :=
  let i := s.tab
  let l := ((s.phRing m).take i.window).filter (fun e => e.valid)
  let sum := l.foldl (fun (a : Word × Word) e => (Fp.add a.1 e.i2re, Fp.add a.2 e.i2im)) (0#32, 0#32)
  let n := Fp.ofNat l.length
  let mean := if l.isEmpty then (0#32, 0#32) else (Fp.div sum.1 n, Fp.div sum.2 n)
  let least := (((i.strCells m).map i.cellProf).eraseDups).foldl (fun a p => Fp.max a (i.pc p 0x74)) 0#32
  Fp.lt (cAbs2 mean) (sq least)

/-- A_exc of a request with an amplitude cap of `amp` × 0.1 A (R339). -/
def State.excAmpOf (s : State) (amp : Nat) : Word :=
  Fp.min (fr amp 10) (Fp.mul (fr 5 100) (Fp.min (nth 0#32 s.sop.lim 4) (nth 0#32 s.sop.lim 5)))

def State.excActive (s : State) : Bool := s.get R.EST_EXC_STAT_STATE == 2
/-- The state a request's end or a change of EXC_EN leaves. -/
def State.excIdle (s : State) : Nat :=
  if s.get R.EST_EXC_STAT_UNANSWERED = 3 then 3 else s.get R.EST_EXC_CTRL_EXC_EN

/-- A request starts (R339). (DEDUCED, log 51) -/
def State.excStart (s : State) : State :=
  let amp := s.get R.EST_EXC_CFG_AMP
  let f := s.get R.ANG_SFREQ
  let ms := if f = 0 then 0 else s.get R.EST_EXC_CFG_WINDOWS * s.tab.window * s.tab.intervalAu * 10000000 / (65536 * f)
  let a := s.excAmpOf amp
  let s1 := { s with est := { s.est with
    excEnd := s.now + ms, excNum := s.est.excNum + 1#16, excAmp := a, excStops := 0, excSent := false, excCfgAmp := amp, excCfgLow := s.get R.EST_EXC_CFG_LOW_SHARE } }
  (s1.put R.EST_EXC_STAT_STATE 2).report 0x080D chip [pS (Fp.toIntScaled a 10 1), pS ms]

/-- The active request ends: cause 0 duration, 1 safety state, 2 STOP, 3 limits (R340, R341). (DEDUCED, log 51) -/
def State.excFinish (s : State) (cause : Nat) : State :=
  if !s.excActive then s
  else
    let s1 := ({ s with est := { s.est with excStops := if s.est.excSent then 8 else 0, excLast := some s.now, excLow := 0 } }).report 0x080E chip [p1 cause]
    let share := s1.get R.EST_EXC_STAT_STARVED
    let open_ := decide (s1.est.excCfgLow ≤ share)
    let n := if open_ then s1.get R.EST_EXC_STAT_UNANSWERED + 1 else 0
    let s2 := s1.put R.EST_EXC_STAT_UNANSWERED n
    let s3 := if open_ then s2.report 0x080F chip [p1 share] else s2
    let s4 := if n = 3 then s3.report 0x0810 chip [] else s3
    s4.put R.EST_EXC_STAT_STATE s4.excIdle

/-- The evaluation at the close of epoch `n` (R338); a request starts unless STOP was written in this epoch (R340). (DEDUCED, log 51) -/
def State.excEvaluate (s : State) (n : Word) : State :=
  let w := s.tab.window
  let stop := s.est.excStop
  let s := { s with est := { s.est with excStop := false } }
  if w = 0 || n.toNat % w ≠ 0 then s
  else
    let shut := s.tab.strings.filter (fun m => (s.str m).state == 6)
    let k := (shut.filter s.starved).length
    let share := if shut.isEmpty then 0 else 100 * k / shut.length
    let low := decide (s.get R.EST_EXC_CFG_LOW_SHARE ≤ share)
    let run := if low then min 8 (s.est.excLow + 1) else 0
    let s1 := ({ s with est := { s.est with excLow := run } }).put R.EST_EXC_STAT_STARVED share
    let spaced := match s1.est.excLast with | none => true | some t => decide (t + 1000 * s1.get R.EST_EXC_SPACE_SPACING_S ≤ s1.now)
    if s1.get R.EST_EXC_STAT_STATE = 1 && s1.safety = 2 && run = 8 && spaced && !stop && Fp.lt 0#32 (s1.excAmpOf (s1.get R.EST_EXC_CFG_AMP)) then s1.excStart
    else s1

/-- EXCITATION_END: the active request has reached an end of R340: its duration, the safety state, or its amplitude. -/
def excitationEnd (s : State) : State :=
  s.excFinish (if s.safety ≠ 2 then 1 else if !Fp.lt 0#32 (s.excAmpOf s.est.excCfgAmp) then 3 else 0)
def execExcitationEnd (s : State) : Host.Outcome State Fault Refusal := finish s (whenOn s excitationEnd)

/-- STOP in EST_EXC_CTRL. -/
def excStopReq (s : State) : State := ({ s with est := { s.est with excStop := true } }).excFinish 2

/-- EXC_EN as written: a write of 1 ends a suspension (R341). -/
def excEnWritten (on : Bool) (s : State) : State :=
  let s1 := if on then s.put R.EST_EXC_STAT_UNANSWERED 0 else s
  if s1.excActive then s1 else s1.put R.EST_EXC_STAT_STATE s1.excIdle

/-- The excitation message (Table RIP-4). -/
def State.excPayload (s : State) (on : Bool) (a : Word) : List Byte :=
  [0x04#8] ++ leBytes 1 (b2n on) ++ leBytes 2 s.est.excNum.toNat ++ leBytes 4 (if on then a.toNat else 0)
    ++ leBytes 4 (fr (2 * s.get R.ANG_SFREQ : Nat) 10000).toNat ++ leBytes 4 (if on then s.est.excEnd - s.now else 0) ++ leBytes 4 s.sop.epoch.toNat ++ leBytes 4 0

/-- The message of a safety cycle that carries an epoch's limits, and the ends that the cores see (R339, R340). -/
def State.excCycle (s : State) : State :=
  if s.excActive then
    let a := s.excAmpOf s.est.excCfgAmp
    if s.safety ≠ 2 then s.excFinish 1
    else if !s.sop.fresh then s
    else if !Fp.lt 0#32 a then s.excFinish 3
    else { s.addKind 4 (s.excPayload true a) with est := { s.est with excSent := true, excAmp := a } }
  else if s.sop.fresh && 0 < s.est.excStops then
    { s.addKind 4 (s.excPayload false 0#32) with est := { s.est with excStops := s.est.excStops - 1 } }
  else s

end Sys2Proof.Machine
end

