-- ==== Sys2Proof/Machine/Close.lean ====
section
/-! DEFINITION. The epoch close (R262, Table SWP-5) and all that happens at it: handover and fill of the sample sets, counts, retention, lane checks, overruns,
the release of the update, the cullet share, check comparisons and the start of the publication. -/

namespace Sys2Proof.Machine

/-! Step 1: chains (R31, R194, R199, R200). -/

/-- Unfinished collection is cancelled. -/
def State.cancelChain (s : State) (c : Nat) : State :=
  let x := s.chain c
  s.setChain c { x with tags := x.tags.map (fun t => match t with | .busy w => if w.kind = 0 then .free else .busy w | t => t), wait := x.wait.filter (fun w => w.kind != 0) }

/-- Figures and state of a chain at the close. -/
def State.closeChain (s : State) (c : Nat) : State :=
  let x := s.chain c
  let s1 := (s.put (R.LNK_TRANSIT_LAST_T c) x.lastUs).putAll ((List.range 4).map (fun m =>
    (R.LNK_LATE c m, (List.range 32).foldl (fun v j => v + 2 ^ j * b2n (x.lateHops.contains (32 * m + j))) 0)))
  let s2 := if s.active c then (s1.countSilent c).judgeChain c else s1
  let s3 := s2.cancelChain c
  if x.reenum then s3.toEnum c else s3

/-- A string's data at the close: valid in this epoch or not (R294); LATCHED_OPEN under a hold command excludes it (R387). -/
def State.closeString (s : State) (n : Nat) : State :=
  let fl := s.stoGet (strOff n 0x24) 4
  let own := BitVec.ofNat 32 (s.stoGet (strOff n 0x28) 4) == s.swp.epoch
  let ok := fl.testBit 0 && own
  let s1 := if own then s else s.stoPut (strOff n 0x24) 4 (setBits fl 0 1 0)
  let s2 := s1.setStr n { s1.str n with valid := ok }
  let held := s.stoGet (strOff n 0x95) 1 == 0xA5 && s.stoGet (strOff n 0x96) 1 == 0xA5
  if ok && held && (s2.str n).state == 6 && (s2.str n).contactor.getLsbD 7 then s2.exclude n 3 else s2

/-! Step 2: owners (R262, R263, R277, R280, R281). -/

/-- A pending host claim or release of a set takes effect. -/
def State.applyPending (s : State) (u : Nat) : State :=
  let pend := if u < 16 then s.get (R.STO_OWN_S_PEND u) else s.get (R.STO_OWN_R_PEND (u - 16))
  let who := if u < 16 then s.get (R.STO_OWN_S_PEND_OWNER u) else s.get (R.STO_OWN_R_PEND_OWNER (u - 16))
  if pend = 0 then s
  else
    let s1 := if u < 16 then s.putAll [ (R.STO_OWN_S_PEND u, 0), (R.STO_OWN_S_PEND_OWNER u, 0), (R.STO_OWN_S_OWNER u, if who = 2 then 2 else 1) ]
      else s.putAll [ (R.STO_OWN_R_PEND (u - 16), 0), (R.STO_OWN_R_PEND_OWNER (u - 16), 0), (R.STO_OWN_R_OWNER (u - 16), if who = 2 then 2 else 1) ]
    s1.report 0x0703 chip [p1 u, p1 (if who = 2 then 2 else if u < 16 && u % 2 = (s.swp.epoch + 1#32).toNat % 2 then 0 else 1)]

/-- The set that intake fills for the coming epoch: the one of its parity, or the other while host software holds that; 16 with both held. (DEDUCED, log 41) -/
def State.nextSet (s : State) (r : Nat) : Nat :=
  let want := 2 * r + (s.swp.epoch + 1#32).toNat % 2
  let other := 2 * r + s.swp.epoch.toNat % 2
  if !s.hostHolds want then want else if !s.hostHolds other then other else 16

/-- The handover of one region. (DEDUCED, log 41) -/
def State.handover (s : State) (r : Nat) : State :=
  let s1 := ((s.applyPending (2 * r)).applyPending (2 * r + 1)).applyPending (16 + r)
  let cur := s1.nextSet r
  let s2 := forAll [2 * r, 2 * r + 1] (fun u s => if s.hostHolds u then s else s.put (R.STO_OWN_S_OWNER u) (if u = cur then 0 else 1)) s1
  let last := if 16 ≤ s.curSet r then s.lastSet r else s.curSet r
  { s2 with sto := { s2.sto with cur := setNth s2.sto.cur r cur, last := setNth s2.sto.last r last } }

/-! Step 3: counts (R252, R379). -/

/-- Records of a set that are listed, by local point. -/
def State.listed (s : State) (set : Nat) : List (Nat × Option (BitVec 64)) :=
  (s.sto.smp.filter (fun p => decide (set * 32768 ≤ p.1) && decide (p.1 < set * 32768 + 32768))).map (fun p => (p.1 - set * 32768, p.2))

/-- Populated points of a region (R250). -/
def State.populatedIn (s : State) (r : Nat) : Nat :=
  (List.range 8).foldl (fun a k => let c := 8 * r + k
    if !s.tab.chainOn c then a else
      (List.range (s.tab.nodes c)).foldl (fun a h => a + (if s.tab.nodeType c h = 1 then 32 else 8)) a) 0

/-- Points of a region's closed set with a flag: bit 33 LATE, 34 CULLET, 37 BAL. A populated point without a record is a cullet point (R250). -/
def State.countPts (s : State) (r bit : Nat) : Nat :=
  let l := s.listed (s.lastSet r)
  (l.filter (fun p => (s.smp (s.lastSet r) p.1).getLsbD bit)).length
    + (if bit = 34 then s.populatedIn r - (l.filter (fun p => s.tab.populated (r * 32768 + p.1))).length else 0)

/-- A hop's points count toward the cullet share (R379). -/
def State.countsHop (s : State) (c h : Nat) : Bool :=
  s.linkState c != 6 && (match s.tab.nodeType c h with
    | 2 => (match s.tab.stringAt c h with | some n => !s.excluded n | none => true)
    | _ => !(decide (s.tab.nodeString c h < 512) && s.excluded (s.tab.nodeString c h)))

/-- Cullet points and populated points of R379. -/
def State.cullet (s : State) : Nat × Nat :=
  (List.range 64).foldl (fun a c => if !s.tab.chainOn c then a else
    (List.range (s.tab.nodes c)).foldl (fun a h => if !s.countsHop c h then a else
      (List.range (if s.tab.nodeType c h = 1 then 32 else 8)).foldl (fun a k =>
        (a.1 + b2n ((s.smp (s.lastSet (regionOf c)) (pointOf c h k % 32768)).getLsbD 34), a.2 + 1)) a) a) (0, 0)

/-- The cullet share in 0.1 %, rounded up, and the runs that trigger 0x0B and Lehr cause 4 go by. -/
def State.shareCycle (s : State) : State :=
  let (k, n) := s.cullet
  let share := if n = 0 then 0 else (1000 * k + n - 1) / n
  let lehr := decide (s.tab.sp16 0x42E ≤ share)
  let x := { s.dsc with
    runSd1 := if s.tab.sp16 0x430 ≤ share then satNat 255 (s.dsc.runSd1 + 1) else 0
    runClear := if lehr then 0 else satNat 255 (s.dsc.runClear + 1) }
  ({ s with dsc := x }).putAll [ (R.DSC_CULLET_SHARE, share), (R.DSC_CULLET_RUN, if lehr then satNat 255 (s.get R.DSC_CULLET_RUN + 1) else 0) ]

/-- SWP_EPOCH, SWP_CLOSE and the point counts. (DEDUCED, log 44) -/
def State.closeFigures (s : State) (us unfinished : Nat) (byAngle : Bool) : State :=
  let cul := (List.range 8).map (fun r => s.countPts r 34)
  let sum (f : Nat → Nat) : Nat := (List.range 8).foldl (fun a r => a + f r) 0
  let s1 := s.putAll [ (R.SWP_EPOCH, s.swp.epoch.toNat), (R.SWP_CLOSE_CLOSE_US, us), (R.SWP_CLOSE_UNFINISHED, unfinished), (R.SWP_STAT_LAST_BY_ANGLE, b2n byAngle),
    (R.SWP_CULLET_CULLET, sum (fun r => nth 0 cul r)), (R.SWP_LATEPTS_LATEPTS, sum (fun r => s.countPts r 33)), (R.SWP_BALPTS_BALPTS, sum (fun r => s.countPts r 37)) ]
  s1.putAll ((List.range 8).map (fun r => (R.SWP_REG_REG_CULLET r, nth 0 cul r)))

/-! Retention (R43, R44) and step 4: the fill (R251). -/

/-- A sorted map with the keys from `lo` to `lo + n` replaced. -/
def replaceRange {α : Type} (m : List (Nat × α)) (lo n : Nat) (new : List (Nat × α)) : List (Nat × α) :=
  m.filter (fun p => decide (p.1 < lo)) ++ new ++ m.filter (fun p => decide (lo + n ≤ p.1))

/-- Slot of epoch N in the rotation. (DEDUCED, log 45) -/
def State.retainSlot (s : State) : Nat :=
  ((s.diag.pins.find? (fun p => p.1 == s.swp.epoch)).map (fun p => p.2)).getD (s.get R.STO_SLOTSTAT_NEXT)

/-- The next slot of the rotation after one that has been written. -/
def State.slotAfter (s : State) (k : Nat) : Nat :=
  (([1, 2, 3].map (fun j => (k + j) % 4)).find? (fun j => !s.bit R.STO_SLOTSTAT_PINNED j)).getD ((k + 1) % 4)

/-- A region's closed set goes into its retention slot. (DEDUCED, log 45) -/
def State.retain (s : State) (k r : Nat) : State :=
  if s.regionHeld r || s.getB (R.IMG_REGION_EXCLUDED r) then s
  else
    let lo := (4 * r + k) * 32768
    { s with sto := { s.sto with
      ret := replaceRange s.sto.ret lo 32768 ((s.listed (s.lastSet r)).map (fun p => (lo + p.1, p.2)))
      retEpoch := Sparse.set noEpoch s.sto.retEpoch (4 * r + k) s.swp.epoch } }

/-- The rotation of epoch N. (DEDUCED, log 45) -/
def State.retention (s : State) : State :=
  let k := s.retainSlot
  (forAll (List.range 8) (fun r s => s.retain k r) s).putAll [ (R.STO_SLOT k, s.swp.epoch.toNat), (R.STO_SLOTSTAT_NEXT, s.slotAfter k) ]

/-- A record as the fill of epoch `n` leaves it. -/
def filled (w : BitVec 64) (n : Nat) : BitVec 64 :=
  let v := w.toNat
  let fl := bitsOf v 38 2 * 64 + 4
  BitVec.ofNat 64 (setBits (setBits (setBits v 16 16 n) 32 8 fl) 40 8 (satNat 255 (bitsOf v 40 8 + 1)))

/-- The intake set of a region for epoch N + 1. -/
def State.fillSet (s : State) (r : Nat) : State :=
  let dst := s.curSet r
  let n1 := s.swp.epoch + 1#32
  let from_ := if s.hostHolds (2 * r) || s.hostHolds (2 * r + 1) then dst else s.lastSet r
  if 16 ≤ dst then s
  else
    let new := (s.listed from_).map (fun p => (dst * 32768 + p.1, p.2.map (fun w => filled w n1.toNat)))
    { s with sto := { s.sto with smp := replaceRange s.sto.smp (dst * 32768) 32768 new, smpEpoch := Sparse.set zeroW s.sto.smpEpoch dst n1 } }

/-! Lanes, overruns, the release of update N (R32, R312, R362). -/

/-- Lanes that failed at the last close are replaced; those that fail now are taken out (R312). -/
def State.checkLanes (s : State) (l : List (Nat × Nat)) : State :=
  let s1 := forAll s.est.lanePend (fun p s => s.replaceLane p.1 p.2) s
  let s2 := forAll l (fun p s => (s.put R.EST_STAT_LANE_FAIL 1).put (R.EST_REG_LANES p.1) (s.get (R.EST_REG_LANES p.1) - 1)) s1
  { s2 with est := { s2.est with lanePend := l } }

/-- A region whose update has not finished (R32, Table EST-14); none is counted for a region that the host now holds (R281). (DEDUCED, log 46) -/
def State.overrun (s : State) (r : Nat) : State :=
  if s.regionHeld r then s
  else
  let n := s.est.updEpoch
  let run := s.get (R.EST_REG_OVERRUN_RUN r) + 1
  let s1 := ((s.put R.EST_STAT_OVERRUN 1).inc (R.EST_REG_OVERRUNS r)).put (R.EST_REG_OVERRUN_RUN r) (satNat 8 run)
  let s2 := s1.report 0x0801 (src 5 r) [p2 n.toNat, pn 2 (s.est.owed.filter (fun c => decide (c / 24576 = r))).length]
  if 8 ≤ run then (s2.report 0x0802 (src 5 r) [p2 n.toNat]).regionFault r 3 else s2

/-- Regions still busy overrun, and a step 8 that has not started is abandoned. -/
def State.overruns (s : State) : State :=
  let s1 := forAll ((List.range 8).filter (fun r => s.est.busy.getLsbD r)) (fun r s => s.overrun r) s
  match s.sop.step with
  | none => s1
  | some n => ({ s1 with sop := { s1.sop with step := none } }.inc R.SOP_TIME_MISSED).report 0x0904 chip [p2 n.toNat]

/-- Update N is released to the lane groups once the restore has ended; with none to run step 8 follows at once. (DEDUCED, log 46) -/
def State.release (s : State) : State :=
  let held := (List.range 8).foldl (fun m r => m + 2 ^ r * b2n (s.regionHeld r)) 0
  let s0 := s.put R.EST_STAT_HELD held
  if !s.est.restored then s0
  else
    let busy := (List.range 8).foldl (fun m r => m + 2 ^ r * b2n (!s.regionHeld r && !s.getB (R.IMG_REGION_EXCLUDED r))) 0
    let n := s.swp.epoch
    let s1 := ({ s0 with est := { s0.est with busy := BitVec.ofNat 8 busy, updEpoch := n, updAngle := s.swp.angle, updFreq := s.swp.angleFreq, updLocked := s.swp.angleLocked }, sop := { s0.sop with step := some n } }).put R.EST_STAT_RUNNING 1
    if busy = 0 then s1.step8 n 0 196608 else s1

/-! The close. -/

/-- Chains that have not finished the sweep. -/
def State.unfinished (s : State) : List Nat := (List.range 64).filter (fun c => s.active c && !s.chainDone c)

/-- Epoch close N. (DEDUCED, log 44) -/
def State.closeEpoch (s : State) (byAngle : Bool) (e : CloseInfo) : State :=
  let n := s.swp.epoch
  let un := s.unfinished
  let s0 := forAll ((List.range 8).filter (fun r => s.est.busy.getLsbD r)) (fun r s => s.cutUpdate r (fun l => (nth 0#16 (nth [] e.progress r) l).toNat)) (s.eccWords e.ecc)
  let s1 := if byAngle then
      let t := s0.inc R.SWP_CNT_BYANGLE
      (if un.isEmpty then t else t.report 0x0605 chip [p1 un.length, p1 (un.headD 0)])
    else s0
  let s2 := forAll (List.range 64) (fun c s => s.closeChain c) s1
  let s3 := forAll s.tab.strings (fun m s => s.closeString m) s2
  let s4 := forAll (List.range 8) (fun r s => s.handover r) s3
  let s5 := (s4.closeFigures e.us.toNat un.length byAngle).shareCycle
  let s6 := forAll (List.range 8) (fun r s => s.fillSet r) s5.retention
  let s7 := (s6.enterRings n).overruns.checkLanes (e.lanes.map (fun p => (p.1.val, p.2.val)))
  let s8 := s7.pubAbort e.pubBytes.toNat e.pubUs.toNat
  let s9 := (s8.pubStart n byAngle e.entries).checkCompare e.okA e.okB
  let s10 := (s9.release.excEvaluate n).refreshRip.ctrEpoch
  let s11 := { s10 with swp := { s10.swp with open_ := false, first := true }, sop := { s10.sop with closes := s10.sop.closes + 1 } }
  forAll (List.range 64) (fun c s => s.issue c) s11

/-- EPOCH_CLOSE: every chain has finished (R261). -/
def epochClose (e : CloseInfo) (s : State) : State := if s.swp.open_ && s.unfinished.isEmpty then s.closeEpoch false e else s
def execEpochClose (e : CloseInfo) (s : State) : Host.Outcome State Fault Refusal := finish s (whenOn s (epochClose e))

/-- CLOSE_ANGLE: the epoch closes if it has not, and the test slots that the credit and the gap allow open (R168, R261). (DEDUCED, log 44) -/
def closeAngle (e : CloseInfo) (s : State) : State :=
  if !s.swp.any then s
  else
    let s0 := s.moveTo (s.swp.angle + s.tab.schedC)
    let s1 := if s0.swp.open_ then s0.closeEpoch true e else s0
    let k := min s1.ang.credit s1.nFitNow
    ({ s1 with ang := { s1.ang with credit := s1.ang.credit - k }, swp := { s1.swp with slots := k } }).startSlot
def execCloseAngle (e : CloseInfo) (s : State) : Host.Outcome State Fault Refusal := finish s (whenOn s (closeAngle e))

end Sys2Proof.Machine
end

