-- ==== Sys2Proof/Machine/Operands.lean ====
section
/-! DEFINITION. How a field takes the operand of a host write, by its kind (R19 to R21, Table SCOPE-4). -/

namespace Sys2Proof.Machine

/-- A value lies in a closed range. -/
def inRange (x a b : Nat) : Bool := decide (a ≤ x) && decide (x ≤ b)

/-- The value of a field in a word. -/
def FieldSpec.of (f : FieldSpec) (v : Nat) : Nat := bitsOf v f.lo f.w

/-- The field takes host writes. -/
def FieldSpec.writable (f : FieldSpec) : Bool := f.acc != .ro

/-- A write gives a field an undefined code: one outside its ranges, whatever the field holds (R21). -/
def FieldSpec.undefined (f : FieldSpec) (v : Nat) : Bool :=
  f.writable && !f.codes.isEmpty && !(f.codes.any (fun r => inRange (f.of v) r.1 r.2))

/-- A write is an attempt on an RWP field (R19). (DEDUCED, log 13) -/
def FieldSpec.attempts (f : FieldSpec) (old v : Nat) : Bool :=
  match f.acc with
  | .rwp => f.of v != f.of old
  | .rwpAct => f.of v != 0
  | _ => false

/-- What a field holds after a write (Table SCOPE-4). -/
def FieldSpec.taken (f : FieldSpec) (ok : Bool) (v w : Nat) : Nat :=
  match f.acc with
  | .rw => setBits w f.lo f.w (f.of v)
  | .rwp => if ok then setBits w f.lo f.w (f.of v) else w
  | .w1c => setBits w f.lo f.w (f.of w - (f.of w &&& f.of v))
  | _ => w

end Sys2Proof.Machine
end

