-- ==== Sys2Proof/Machine/SafetyCycle.lean ====
section
/-! DEFINITION. The 500 µs safety cycle (R371): what the pair does at a boundary, in order. -/

namespace Sys2Proof.Machine

/-! Sense inputs (R64, R448): a density d of ones reads (2d - 1) × full scale; HALL reads 5 V / 65,536 per step, times its scale. Offsets are
added; the Servitor's calibration takes its zero off HALL and its gain off DSM3 (R437). (DEDUCED, log 111) -/

def Img.senseF (i : Img) (o : Nat) : Word := i.f32 13 o
/-- A reading of n / 2^24 ones at the full scale of offset `o`, against a gain of 1 + k × 10^-5. -/
def Img.dsmRead (i : Img) (o n : Nat) (k : Int) : Word := Fp.mul (fr ((2 * n - 2 ^ 24 : Int) * 100000) (2 ^ 24 * (100000 + k).toNat)) (i.senseF o)
/-- Array current of the Gaffer (DSM0) and of the Servitor (HALL), A. -/
def State.ampsG (s : State) (m : Meas) : Word := Fp.add (s.tab.dsmRead 0x04 m.dsm0.toNat 0) (s.tab.senseF 0x08)
def State.ampsS (s : State) (m : Meas) : Word := Fp.fma (fr (5 * (m.hall.toInt - s.pair.hallUse)) 65536) (s.tab.senseF 0x18) (s.tab.senseF 0x1C)
/-- Battery-side voltages (DSM1, DSM3) and DSM2 at each core, V. -/
def State.voltsG (s : State) (m : Meas) : Word := s.tab.dsmRead 0x0C m.dsm1.toNat 0
def State.voltsS (s : State) (m : Meas) : Word := s.tab.dsmRead 0x14 m.dsm3.toNat s.pair.dsmUse
def State.linkG (s : State) (m : Meas) : Word := s.tab.dsmRead 0x10 m.dsm2G.toNat 0
def State.linkS (s : State) (m : Meas) : Word := s.tab.dsmRead 0x10 m.dsm2S.toNat 0

/-- What the cores have measured enters the registers (R63 to R65, R421, R443, Table DSC-10). -/
def State.takeMeas (s : State) (m : Meas) : State :=
  let s1 := { s with
    dsc := { s.dsc with vlG := s.linkG m, vlS := s.linkS m }
    pair := { s.pair with retire := (s.pair.retire + m.retired.toNat) % 2 ^ 48 } }
  let s2 := (((s1.putW (R.DSC_I 0) (s.ampsG m)).putW (R.DSC_I 1) (s.ampsS m)).putW (R.DSC_VBAT 0) (s.voltsG m)).putW (R.DSC_VBAT 1) (s.voltsS m)
  let s3 := (s2.putW R.DSC_VLINK (s.linkG m)).put R.PAIR_LAG_LAG m.lag.toNat
  let mode := s.get R.PAIR_STAT_MODE
  (s3.putB R.PAIR_STAT_LAG_MODE (s.getB R.DIAG_DBG_STAT_UNLOCKED && (mode == 1 || mode == 4))).traceBytes m.trace

/-- A string's count of cycles without a hold token (R612): the last token sent and the coming one carry the open command. (DEDUCED, log 68) -/
def State.openCount (s : State) (n : Nat) : State :=
  let hold := s.tokenHold n || s.stoGet (strOff n 0x95) 1 == 0xA5 || s.stoGet (strOff n 0x96) 1 == 0xA5
  let x := s.str n
  s.setStr n { x with openT := if hold then 0 else satNat 65535 (x.openT + 1) }

/-- A close request of the cycle (R401, R402, R572): refused with its bit, or accepted. -/
def State.judgeClose (s : State) (trigger : Bool) : State :=
  if !s.ctr.closeReq then s
  else
    let s0 := { s with ctr := { s.ctr with closeReq := false } }
    let bit := if trigger then 2 else s0.lowestUnmet
    if bit < 14 then
      let s1 := if s0.getB R.GLOBAL_STAGE_FOREIGN_IMAGE then s0.report 0x020E chip [p2 (blockOff R.CTR_CTRL.addr)] else s0
      s1.report 0x0B01 chip [p1 bit]
    else (s0.toSafety 1).acceptClose.closeDebug

/-- Requests before stage 3, when the pair takes no state decision: all refused. (DEDUCED, log 57) -/
def State.refuseEarly (s : State) : State :=
  let s1 := if s.dsc.ackReq.isSome then s.refuseReq 1 else s
  let s2 := if s.dsc.ack0Req.isSome then s1.refuseReq 2 else s1
  let s3 := if s.dsc.maintReq then s2.refuseReq 3 else s2
  (if s.dsc.exitReq.isSome then s3.refuseReq 4 else s3).dropRequests

/-- The decisions of a boundary: the disconnect states from stage 3, the split, the close. (DEDUCED, log 56) (DEDUCED, log 57) -/
def State.decisions (s : State) : State :=
  let trigger := s.decisionWord != 0#64
  let s1 := if 3 ≤ s.stage then s.decideCycle else s.refuseEarly
  (s1.judgeSplit trigger).judgeClose (trigger && decide (3 ≤ s.stage))

/-- What belongs to one cycle only is dropped at its end. (DEDUCED, log 56) -/
def State.endCycle (s : State) : State :=
  { s with
    ctr := { s.ctr with result := none, abort := false, freshP := 0#8, freshS := [] } }

/-- SAFETY_CYCLE: the boundary, once the start-up injection has passed. In Halted nothing is decided or sent (R442). (DEDUCED, log 56) (DEDUCED, log 57) -/
def safetyCycle (m : Meas) (s : State) : State :=
  if !s.getB R.PAIR_STAT_INJ_START_OK then s
  else
    let s0 := s.cancelHalt.takeMode
    if s0.get R.PAIR_STAT_MODE = 4 then s0
    else
      let s1 := ((s.nextCycle.cancelHalt.takeMode.takeMeas m).timeBase m.sByG.toNat m.gByS.toNat).sflReceive.inputsCycle
      let s2 := forAll s1.tab.strings (fun n s => s.openCount n) s1
      let s3 := s2.lehrCycle.dscTimers.exclusionCycle.ctrCycle.verifyCycle.decisions
      let s4 := s3.demandCycle.excCycle.limitCycle.lifeFrames.sendFrames.hostQueues (m.xecc.map (fun p => (p.1.val, p.2)))
      s4.endCycle.settle
def execSafetyCycle (m : Meas) (s : State) : Host.Outcome State Fault Refusal := finish s (whenOn s (safetyCycle m))

end Sys2Proof.Machine
end

