-- ==== Sys2Proof/Machine/Power.lean ====
section
/-! DEFINITION. Supply, sleep and staged start (chapter 03, and R49 to R55, R80 to R82, R87 of chapter 02). -/

namespace Sys2Proof.Machine

/-! What a start keeps. -/

/-- Bits of a register that a start keeps (Table REG-2, "Kept"). -/
def keptMask (a : Nat) : Nat :=
  match lookupReg a with
  | none => 0
  | some r => r.fields.foldl (fun m f => if f.kept then m + (2 ^ f.w - 1) * 2 ^ f.lo else m) 0

/-- A register word after a start: its kept bits, and reset elsewhere. (DESIGN CHOICE, log 2) -/
def startWord (a : Nat) (w : Word) : Word :=
  let m := BitVec.ofNat 32 (keptMask a)
  (w &&& m) ||| (resetWord a &&& ~~~m)

/-- The registers after a start. -/
def State.startRegs (s : State) : List (Nat × Word) :=
  (s.regs.map (fun p => (p.1, startWord p.1 p.2))).filter (fun p => p.2 != resetWord p.1)

/-- The repair map as a start loads it: the record's newer valid copy, each invalid copy logged (R564). (DESIGN CHOICE, log 21) -/
def State.loadRepair (s : State) : State :=
  let a := s.diag.repA
  let b := s.diag.repB
  let c : RepairCopy := if a.valid && (!b.valid || decide (b.seq.toNat ≤ a.seq.toNat)) then a else if b.valid then b else {}
  let bad := b2n (!a.valid) + b2n (!b.valid)
  let s1 := ((s.putW R.DIAG_REP_STAT c.stat).putW R.DIAG_REP_SEQ c.seq).put R.DIAG_REP_STAT_RECORD bad
  let s2 := s1.putW R.STO_STAT c.spares
  let s3 := s2.putAll [ (R.DIAG_BG_STAT_LENDING_OFF, b2n (s2.getB R.DIAG_REP_STAT_WIN_G || s2.getB R.DIAG_REP_STAT_WIN_S)), (R.EST_STAT_SPARES_FREE, s2.sparesFree) ]
  let s4 := if a.valid then s3 else s3.report 0x1207 chip [p1 0]
  if b.valid then s4 else s4.report 0x1207 chip [p1 1]

/-- Everything that the main domain does not hold through a start goes to its reset value; what stays is in MRAM, in the external memories,
in the always-on domain, outside the module, or kept by its own rule. -/
def State.coreReset (s : State) : State :=
  let s0 : State := {
    regs := s.startRegs
    pending := s.pending
    free := s.free
    out := s.out
    nodes := s.nodes
    pwr := { s.pwr with hiLatch := 0, refTime := s.pwr.optime, held := false, voutLogged := false, latchedWake := none, asleep := false, wakeOut := false, supplyAt := [0, 0, 0, 0, 0, 0], lastPub := false }
    img := { nor := s.img.nor, slotSize := s.img.slotSize, bindCount := s.img.bindCount, shadow := s.img.shadow, lockoutEnd := s.img.lockoutEnd }
    est := { cs1 := s.est.cs1 }
    dsc := { used := s.dsc.used }
    ctr := { coolEnd := s.ctr.coolEnd }
    pair := { hallZero := s.pair.hallZero, dsmRatio := s.pair.dsmRatio, hallUse := s.pair.hallZero, dsmUse := s.pair.dsmRatio }
    sio := { rawA := s.sio.rawA, rawB := s.sio.rawB, proofDigest := s.sio.proofDigest, proofTime := s.sio.proofTime, proven := s.sio.proven,
             stuckOn := s.sio.stuckOn, stuckOff := s.sio.stuckOff }
    host := { perstHigh := s.host.perstHigh }
    log := { slots := s.log.slots, nextSeq := s.log.nextSeq, drops := s.log.drops, clearSeq := s.log.clearSeq, queue := s.log.queue }
    diag := { repA := s.diag.repA, repB := s.diag.repB, trstHigh := s.diag.trstHigh } }
  s0.putAll [ (R.PWR_STAT_WAKE_IN, s.get R.PWR_STAT_WAKE_IN), (R.SW_SUM_IN, s.get R.SW_SUM_IN),
    (R.GLOBAL_RESET_CAUSE_STUCK_RESET_IGNORED, s.get R.GLOBAL_RESET_CAUSE_STUCK_RESET_IGNORED), (R.GLOBAL_STAGE_BOARD_TEST, b2n s.pwr.boardTest) ]

/-- Operating time and power-cycle count are copied to the log memory (R96, R97). -/
def State.copyTimes (s : State) : State := { s with pwr := { s.pwr with optimeCopy := s.pwr.optime, cyclesCopy := s.pwr.cycles } }

/-- The main domain is switched off: its outputs are off and what it held is lost (R92). (DEDUCED, log 20) -/
def State.powerDown (s : State) : State :=
  let s1 := s.coreReset
  { s1 with pwr := { s1.pwr with mainOn := false, vout33 := false }, log := { s1.log with queue := [] } }

/-- Stage 0 is entered for a cause of Table PWR-15 (R49, R99, R112): the supplies of the module are on, VOUT33_OK among them until VOUT33 is read
below 3.0 V, and with `pulse` a staged start begins at its reference instant with the pulse of R82. (DESIGN CHOICE, log 105) -/
def State.enterStage0 (s : State) (cause : Nat) (pulse : Bool) : State :=
  let s1 := s.coreReset
  let on := b2n (!s.pwr.boardTest)
  let s2 := { s1 with pwr := { s1.pwr with mainOn := true, vout33 := true, wakeOut := pulse } }
  (s2.putAll [ (R.GLOBAL_RESET_CAUSE_CAUSE, cause), (R.GLOBAL_RESET_CAUSE_WAKE_SRC, 0), (R.GLOBAL_RESET_CAUSE_TONE_CHAIN, 0),
    (R.GLOBAL_RESET_CAUSE_TONE_PORT, 0), (R.PWR_STAT_VOUT33_OK, 1), (R.SIO_TPO_TPO_A_ON, on), (R.SIO_TPO_TPO_B_ON, on) ]).loadRepair.settle

/-- A start of a main domain that was unpowered: the power-cycle count grows, modulo 2^24, and is copied (R96). (DESIGN CHOICE, log 104) -/
def State.coldStart (s : State) (cause : Nat) : State :=
  let n := (s.pwr.cycles + 1) % 2 ^ 24
  ({ s with pwr := { s.pwr with cycles := n, cyclesCopy := n } }).enterStage0 cause true

/-! VBUS (R93 to R97). -/

/-- VBUS_START: VBUS rises to 34 V: a power-on, or the recovery from a brown-out. A module that runs goes on (R50). A sample of DBG_EN that a
brown-out has cut off stays due (R87, R96). (DESIGN CHOICE, log 102) (DEDUCED, log 19) -/
def vbusStart (s : State) : State :=
  if s.pwr.mainOn then s
  else if s.pwr.alwaysOn then s.coldStart 1
  else
    let s1 := { s with
      pwr := { s.pwr with alwaysOn := true, optime := s.pwr.optimeCopy, cycles := s.pwr.cyclesCopy, dbgDue := true, boardTest := false }
      sio := { s.sio with proven := 0#8 } }
    (s1.putB R.GLOBAL_RESET_CAUSE_STUCK_RESET_IGNORED false).coldStart 0
def execVbusStart (s : State) : Host.Outcome State Fault Refusal := finish s (vbusStart s)

/-- DBG_EN_SAMPLE: DBG_EN is read once in a power-on (R87, R118). -/
def dbgEnSample (high : Bool) (s : State) : State :=
  if !s.pwr.dbgDue then s
  else
    let s1 := { s with pwr := { s.pwr with dbgDue := false, boardTest := high } }
    if high then (s1.putAll [ (R.GLOBAL_STAGE_BOARD_TEST, 1), (R.SIO_TPO_TPO_A_ON, 0), (R.SIO_TPO_TPO_B_ON, 0) ]).settle else s1
def execDbgEnSample (high : Bool) (s : State) : Host.Outcome State Fault Refusal := finish s (whenOn s (dbgEnSample high))

/-- VOUT33_RETRY: VOUT33 as it reads when the image read is due (R55). -/
def vout33Retry (mv : Nat) (s : State) : State :=
  let s1 := (s.setVout33 mv).putB R.PWR_STAT_VOUT33_OK (decide (3000 ≤ mv))
  if mv < 3000 && s.stage == 0 && !s.img.attempted && !s.pwr.boardTest && !s.pwr.held && !s.pwr.voutLogged then
    ({ s1 with pwr := { s1.pwr with voutLogged := true } }).report 0x0109 chip [pS mv]
  else s1
def execVout33Retry (mv : BitVec 16) (s : State) : Host.Outcome State Fault Refusal := finish s (whenOn s (vout33Retry mv.toNat))

/-- BROWN_OUT: outputs off, a Fault record and the operating time, then the main domain off (R95); a scan of the log that has not ended is
ended first, so that the record has its place. (DEDUCED, log 20) -/
def brownOut (s : State) : State := (((logScan none s).report 0x0101 chip [p1 s.stage, p1 s.safety]).drain.copyTimes).powerDown
def execBrownOut (s : State) : Host.Outcome State Fault Refusal := finish s (whenOn s brownOut)

/-- POWER_LOSS: the always-on domain is lost, and a record in progress with it (R93, R532). -/
def powerLoss (s : State) : State :=
  let s1 := if s.pwr.mainOn then s.tearRecord.powerDown else s
  { s1 with pwr := { s1.pwr with alwaysOn := false, asleep := false, optime := 0, cycles := 0, latchedWake := none, tones := 0#64, timer := 0 } }
def execPowerLoss (s : State) : Host.Outcome State Fault Refusal := finish s (powerLoss s)

/-- A warning of VBUS sets or clears by its own thresholds, and stays as it is between them (R93, R94). -/
def State.vbusWarn (s : State) (f : Fld) (code flag : Nat) (sets clears : Bool) (v : Nat) : State :=
  let s1 := s.setVbus v
  if s.getB f then (if clears then (s1.putB f false).report 0x0105 chip [p1 flag, pS v] else s1)
  else if sets then (s1.putB f true).report code chip [pS v] else s1
/-- VBUS_LOW: below 36 V for 10 ms sets, 36.5 V or above for 10 ms clears (Table PWR-2); `v` in 10 mV. -/
def vbusLow (ms v : Nat) (s : State) : State :=
  s.vbusWarn R.PWR_STAT_VBUS_LOW 0x0103 0 (decide (v < 3600) && decide (10 ≤ ms)) (decide (3650 ≤ v) && decide (10 ≤ ms)) v
def execVbusLow (ms v : BitVec 16) (s : State) : Host.Outcome State Fault Refusal := finish s (whenOn s (vbusLow ms.toNat v.toNat))
/-- VBUS_HIGH: above 75 V for 10 ms sets, 74.5 V or below for 10 ms clears (Table PWR-2). -/
def vbusHigh (ms v : Nat) (s : State) : State :=
  s.vbusWarn R.PWR_STAT_VBUS_HIGH 0x0104 1 (decide (7500 < v) && decide (10 ≤ ms)) (decide (v ≤ 7450) && decide (10 ≤ ms)) v
def execVbusHigh (ms v : BitVec 16) (s : State) : Host.Outcome State Fault Refusal := finish s (whenOn s (vbusHigh ms.toNat v.toNat))

/-- OPTIME_COPY (R97). -/
def optimeCopy (s : State) : State := { s with pwr := { s.pwr with optimeCopy := s.pwr.optime } }
def execOptimeCopy (s : State) : Host.Outcome State Fault Refusal := finish s (whenOn s optimeCopy)

/-! Stages (R99 to R107). -/

/-- Entry to a stage at `t` (10 µs units after the reference instant), with its deadline in the same units (R101). -/
def State.enterStage (s : State) (n t deadline : Nat) : State :=
  let s1 := (s.put R.GLOBAL_STAGE_STAGE n).put (R.PWR_STAGE_T_T (n - 1)) t
  if deadline < t then s1.report 0x0102 chip [p1 n, pS (t / 100 : Nat)] else s1

/-- The guarantees of stage 1 hold, or one of them is replaced by its flag (R99). -/
def State.ready1 (s : State) : Bool :=
  s.stage == 0 && s.img.attempted && s.diag.testsDone && s.log.scanDone && (s.getB R.PAIR_STAT_INJ_START_OK || s.get R.PAIR_STAT_MODE == 5)
    && !s.pwr.boardTest && !s.pwr.held

/-- STAGE_1_ENTRY: HS8 to HS15 take their fail-safe states, and the schedule starts (R49, R162). (DEDUCED, log 18) -/
def stage1Entry (t : Nat) (s : State) : State :=
  if s.ready1 then
    let s1 := s.enterStage 1 t 45000
    ({ s1 with ang := { s1.ang with cycle := 0#32, sched := 0, mains := 0, mainsCyc := 0, credit := 0 }, swp := { s1.swp with nextEpoch := 0#32 } }).settle
  else s
def execStage1Entry (t : BitVec 24) (s : State) : Host.Outcome State Fault Refusal := finish s (whenOn s (stage1Entry t.toNat))

/-- The guarantees of stage 2 hold: every mapped chain enumerated or in fault, the first complete epoch taken. -/
def State.ready2 (s : State) : Bool :=
  s.stage == 1 && s.img.loaded && !s.held1 && s.swp.first
    && (List.range 64).all (fun c => !s.tab.chainOn c || (s.linkState c != 0 && s.linkState c != 1))

/-- STAGE_2_ENTRY: both limit paths are armed with their counters at 0 (R257); the coils come under the pair, HS8 to HS15 under their
sources; the deadline check of R105 is requested. (DEDUCED, log 18) -/
def stage2Entry (t : Nat) (s : State) : State :=
  if s.ready2 then
    let s1 := (s.enterStage 2 t 70000).putAll [ (R.SWP_STAT_ARMED_A, 1), (R.SWP_STAT_ARMED_B, 1) ]
    ({ s1 with swp := { s1.swp with persist := [] } }.settle).requestCheck 1
  else s
def execStage2Entry (t : BitVec 24) (s : State) : Host.Outcome State Fault Refusal := finish s (whenOn s (stage2Entry t.toNat))

/-- The guarantees of stage 3 hold: the restore has ended and the deadline check has passed. -/
def State.ready3 (s : State) : Bool := s.stage == 2 && s.est.restored && s.img.checked

/-- STAGE_3_ENTRY: proof-test demands are evaluated, connections begin to connect, campaigns and saves begin their periods; stage 4
follows where its conditions hold (R106). (DEDUCED, log 18) -/
def stage3Entry (t : Nat) (s : State) : State :=
  if s.ready3 then
    let s1 := forAll (List.range 8) (fun n s => s.evalProof n) (s.enterStage 3 t 150000)
    let s2 := s1.startSfl
    let camps := (List.range s.tab.campCount).map (fun e => ({ periodEnd := s.now + 60000 * s.tab.campMin e } : CampX))
    let s3 := { s2 with swp := { s2.swp with camps := camps }, est := { s2.est with nextSave := s.now + 60000 } }
    s3.stage4 0 t
  else s
def execStage3Entry (t : BitVec 24) (s : State) : Host.Outcome State Fault Refusal := finish s (whenOn s (stage3Entry t.toNat))

/-! RESET_N and the host restart (R108 to R111). -/

/-- RESET_N_LOW: the module is held in stage 0 (R108); a stuck input is ignored (R109). (DEDUCED, log 19) -/
def resetNLow (s : State) : State :=
  if s.getB R.GLOBAL_RESET_CAUSE_STUCK_RESET_IGNORED then s
  else
    let s1 := s.drain.enterStage0 3 false
    { s1 with pwr := { s1.pwr with held := true } }
def execResetNLow (s : State) : Host.Outcome State Fault Refusal := finish s (whenOn s resetNLow)

/-- RESET_N_RELEASE: the staged start begins (R108). (DEDUCED, log 19) -/
def resetNRelease (s : State) : State := if s.pwr.held then s.enterStage0 3 true else s
def execResetNRelease (s : State) : Host.Outcome State Fault Refusal := finish s (whenOn s resetNRelease)

/-- STUCK_RESET: 5 s after its fall RESET_N counts as stuck (R109). -/
def stuckReset (s : State) : State :=
  if s.pwr.held then ((s.enterStage0 2 true).putB R.GLOBAL_RESET_CAUSE_STUCK_RESET_IGNORED true).report 0x0106 chip [] else s
def execStuckReset (s : State) : Host.Outcome State Fault Refusal := finish s (whenOn s stuckReset)

/-- STUCK_RESET_CLEAR (R109). -/
def stuckResetClear (s : State) : State := s.putB R.GLOBAL_RESET_CAUSE_STUCK_RESET_IGNORED false
def execStuckResetClear (s : State) : Host.Outcome State Fault Refusal := finish s (whenOn s stuckResetClear)

/-- RESTART: accepted in SAFE with all contactors proven open (R111). -/
def restartReq (s : State) : State :=
  if s.safety = 0 && s.provenOpen then ((s.report 0x010B chip []).drain).enterStage0 4 true
  else s.report 0x0107 chip [p1 s.safety]

/-! Sleep (R113 to R116). -/

/-- An image transfer is in progress (R141, R134). (DEDUCED, log 22) -/
def State.transferring (s : State) : Bool := let u := s.get R.IMG_STAT_UPD_STATE; (decide (1 ≤ u) && decide (u ≤ 4)) || s.img.recomm

/-- The first condition of R113 that fails; 0: none. (DEDUCED, log 22) -/
def State.sleepRefusal (s : State) : Nat :=
  if s.stage < 3 then 1
  else if s.safety ≠ 0 || !s.provenOpen then 2
  else if s.getB R.PWR_STAT_WAKE_IN then 3
  else if s.get R.PAIR_STAT_MODE ≠ 1 then 4
  else if s.transferring then 5 else 0

/-- The path-A classes of a kind that the points of a block name. -/
def Img.blockClasses (i : Img) (c h kind : Nat) : List Nat :=
  ((List.range 32).map (fun k => i.classOf 0 (pointOf c h k))).filter (fun cl => cl != 0 && i.classKind 0 cl == kind)

/-- SLP_OV, SLP_UV, SLP_TH, SLP_TL and SLP_MASK of a block (R222); a limit beyond its word saturates. (DEDUCED, log 22) -/
def Img.slpWords (i : Img) (c h : Nat) : List Nat :=
  let clamp (lo hi x : Int) : Int := max lo (min hi x)
  let least (d : Int) (l : List Int) : Int := match l with | [] => d | x :: xs => leastOf x xs
  let pair (kind : Nat) (lo hi : Int) : List Nat :=
    let l := i.blockClasses c h kind
    [wrapInt 16 (clamp lo hi (least hi (l.map (i.classHigh 0)))), wrapInt 16 (clamp lo hi (-(least (-lo) (l.map (fun k => -(i.classLow 0 k))))))]
  pair 0 0 0xFFFF ++ pair 1 (-0x8000) 0x7FFF
    ++ [(List.range 8).foldl (fun m k => if i.classOf 0 (pointOf c h (24 + k)) = 0 then m else m + 2 ^ k) 0]

/-- The check period and the sleep thresholds go to a block: words 0x084 to 0x089 (R114, R222). (DEDUCED, log 22) -/
def State.sendSlp (s : State) (c h : Nat) : State :=
  if s.tab.nodeType c h = 1 then
    s.maintCmd c h 0x41 6 (leBytes 2 0x084 ++ (Sparse.get (fun _ => 60) (s.chain c).slp h :: s.tab.slpWords c h).flatMap (leBytes 2))
  else s

/-- Hops of a chain that can be reached, muted ones among them. -/
def State.reachable (s : State) (c : Nat) : List Nat := (List.range (s.tab.nodes c)).filter (fun h => !s.hopBit R.LNK_UNRCH c h)

/-- Steps 1 to 3 of Table PWR-5 begin: the rings but the publication's stop, the sleep thresholds and SLEEP go out, the state is saved. -/
def State.beginSleep (s : State) : State :=
  let s1 := s.putB R.PWR_STAT_SLEEP_PENDING true
  let s2 := forAll ((List.range 64).filter (fun n => s.get (R.RING_STAT_STATE n) == 1 && s.ringType n != 2)) (fun n s => s.put (R.RING_STAT_STATE n) 2) s1
  let cs := (List.range 64).filter (fun c => s.active c)
  let s3 := forAll cs (fun c s => forAll (s.reachable c) (fun h s => s.sendSlp c h) s) s2
  (forAll cs (fun c s => s.sleepChain c) s3).sleepSave

/-- SLEEP_REQ (R113). -/
def sleepReq (s : State) : State :=
  if s.getB R.PWR_STAT_SLEEP_PENDING then s
  else match s.sleepRefusal with
    | 0 => s.beginSleep
    | c => (s.put R.PWR_STAT_SLEEP_REFUSE c).report 0x0108 chip [p1 c]

/-- Steps 2 and 3 of Table PWR-5 have ended: no threshold waits for its node, and no save runs. -/
def State.sleepReady (s : State) : Bool := (List.range 64).all (fun c => (s.chain c).cmds.all (fun w => w.kind != 6)) && s.est.saving.isNone

/-- SLEEP_SEQUENCE_DONE: steps 4 and 5 of Table PWR-5, once the steps before them have ended. -/
def sleepSequenceDone (s : State) : State :=
  if !s.getB R.PWR_STAT_SLEEP_PENDING || !s.sleepReady then s
  else
    let min := s.get R.PWR_WAKE_WAKE_MIN
    let tones := BitVec.ofNat 64 ((List.range 64).foldl (fun m c => if s.tab.chainOn c then m + 2 ^ c else m) 0)
    let s1 := ((s.report 0x010A chip [p2 min]).drain.copyTimes).powerDown
    { s1 with pwr := { s1.pwr with asleep := true, latchedWake := s.pwr.latchedWake, tones := tones, timer := min } }
def execSleepSequenceDone (s : State) : Host.Outcome State Fault Refusal := finish s (whenOn s sleepSequenceDone)

/-- The module wakes (R115). -/
def State.wake (s : State) (e : WakeEvent) : State :=
  (s.coldStart 5).putAll [ (R.GLOBAL_RESET_CAUSE_WAKE_SRC, e.src), (R.GLOBAL_RESET_CAUSE_TONE_CHAIN, e.chain), (R.GLOBAL_RESET_CAUSE_TONE_PORT, e.port) ]

/-- A wake event: in sleep it wakes, with the event that is held where there is one; within the sleep sequence it is held, the first one (R116); otherwise it does nothing. -/
def State.wakeEvent (s : State) (e : WakeEvent) : State :=
  if s.pwr.asleep then s.wake (s.pwr.latchedWake.getD e)
  else if s.pwr.mainOn && s.getB R.PWR_STAT_SLEEP_PENDING && s.pwr.latchedWake.isNone then { s with pwr := { s.pwr with latchedWake := some e } }
  else s

/-- WAKE_IN_EDGE: the level, and at a rise after `lowMs` ms low, 10 or more, the wake event (R81). -/
def wakeInEdge (high : Bool) (lowMs : Nat) (s : State) : State :=
  let s1 := s.putB R.PWR_STAT_WAKE_IN high
  if high && !s.getB R.PWR_STAT_WAKE_IN && decide (10 ≤ lowMs) then s1.wakeEvent { src := 1 } else s1
def execWakeInEdge (rise : Option (BitVec 16)) (s : State) : Host.Outcome State Fault Refusal := finish s (wakeInEdge rise.isSome (rise.getD 0#16).toNat s)

/-- WAKE_TONE_DETECTED: on a chain of the chain map (R115). -/
def wakeTone (c port : Nat) (s : State) : State :=
  if (if s.pwr.asleep then s.pwr.tones.getLsbD c else s.img.loaded && s.tab.chainOn c) then s.wakeEvent { src := 2, chain := c, port := port } else s
def execWakeToneDetected (chain : Fin 64) (ret : Bool) (s : State) : Host.Outcome State Fault Refusal := finish s (wakeTone chain.val (b2n ret) s)

/-- WAKE_TIMER_EXPIRY: the timer runs in sleep where it is not off. -/
def wakeTimer (s : State) : State := if s.pwr.asleep && s.pwr.timer != 0 then s.wakeEvent { src := 3 } else s
def execWakeTimerExpiry (s : State) : Host.Outcome State Fault Refusal := finish s (wakeTimer s)

/-- LATCHED_WAKE (R116). -/
def latchedWake (s : State) : State :=
  match s.pwr.latchedWake with
  | some e => if s.pwr.asleep then s.wake e else s
  | none => s
def execLatchedWake (s : State) : Host.Outcome State Fault Refusal := finish s (latchedWake s)

/-- WAKE_PULSE and the end of a pulse (R82). -/
def wakePulse (s : State) : State := { s with pwr := { s.pwr with wakeOut := true } }
def wakeOutPulseEnd (s : State) : State := { s with pwr := { s.pwr with wakeOut := false } }
def execWakeOutPulseEnd (s : State) : Host.Outcome State Fault Refusal := finish s (whenOn s wakeOutPulseEnd)

/-- FAULT_N is pulled low (R85): from power-up, while the main domain waits for its start, below stage 3, in board-test mode, and on the fault
summary; released in sleep. (DEDUCED, log 89) -/
def State.faultN (s : State) : Bool := !s.pwr.asleep && (!s.pwr.mainOn || decide (s.stage < 3) || s.pwr.boardTest || s.statusFlags != 0)

end Sys2Proof.Machine
end

