-- ==== Sys2Proof/Machine/Views.lean ====
section
/-! DEFINITION. What a host read of a BAR0 register returns where the module computes it at the read, and the reads that latch (R577, R580). -/

namespace Sys2Proof.Machine

/-- Valid records of a class that the log, without the reserve log, holds (Table LOG-6). -/
def State.classHeld (s : State) (c : Nat) : Nat := (s.log.held.filter (fun p => decide (p.1 < logSlots) && p.2.cls == c)).length

/-- LOG_STAT as it reads: the recorder's flags, the staging queue, the RETAINED records. -/
def State.logStat (s : State) : Nat :=
  b2n s.log.failed + 2 * b2n s.log.scanDone + 16 * b2n s.log.lostSeen + 32 * b2n s.log.dropSeen + 256 * s.log.queue.length
    + 65536 * (s.log.held.filter (fun p => p.2.retained)).length

/-- Whole seconds from now to an operating time, rounded up. (DEDUCED, log 93) -/
def State.secsTo (s : State) (t : Nat) : Nat := (t - s.now + 999) / 1000

/-- Seconds since the last complete save; 0xFFFF where there is none since the start (Table EST-10). (DEDUCED, log 93) -/
def State.saveAge (s : State) : Nat := match s.est.lastSave with | none => 0xFFFF | some t => satNat 0xFFFF ((s.now - t) / 1000)

/-- Operating hours until an input's proof interval expires; 0 when overdue (Table SIO-9). (DEDUCED, log 93) -/
def State.proofHours (s : State) (n : Nat) : Nat :=
  if s.get (R.SIO_PROOF_STATE n) = 2 && s.tab.inProof n = 2 then satNat 0xFFFF ((nth 0 s.sio.proofTime n + 3600000 * s.tab.inProofH n - s.now + 3599999) / 3600000) else 0

/-- Fields of the identity block and of the units that have no stored word: they are formed when they are read. (DEDUCED, log 17) -/
def State.liveWord (s : State) (a : Nat) : Option Nat :=
  if a = 0x0 then some (Config.vendorId.toNat + 0x6440 * 65536)
  else if a = 0x4 then some Config.revision.toNat
  else if 0x10 ≤ a && a < 0x20 && a % 4 == 0 then some (bitsOf Config.moduleUid.toNat (8 * (a - 0x10)) 32)
  else if a = R.GLOBAL_STATUS.addr then some s.globalStatus
  else if a = 0x1018 then some (s.now % 2 ^ 32)
  else if a = 0x101C then some s.pwr.hiLatch
  else if a = 0x1020 then some s.pwr.cycles
  else if a = R.PWR_VBUS_VBUS.addr then some (s.supply 0 (s.get R.PWR_VBUS_VBUS) + 65536 * s.supply 1 (s.get R.PWR_VBUS_VOUT33))
  else if a = (vswField 0).addr then some (s.vsw 0 + 65536 * s.vsw 1)
  else if a = (vswField 2).addr then some (s.vsw 2 + 65536 * s.vsw 3)
  else if a = R.IMG_TIMERS.addr then
    some ((if s.session then satNat 0xFFFF (s.secsTo s.img.sessionEnd) else 0) + 65536 * (if s.getB R.IMG_STAT_LOCKOUT then s.secsTo s.img.lockoutEnd else 0))
  else if a = R.ANG_AMPL.addr then some s.ampl
  else if a = R.ANG_NOW_AU.addr then some s.ang.au
  else if a = R.ANG_NOW_CYC.addr then some s.ang.cycLatch.toNat
  else if a = R.CTR_PERM.addr then some s.ctrPerm
  else if a = R.CTR_COOL.addr then some s.coolLeft
  else if a = R.PAIR_RETIRE_LO.addr then some (s.pair.retire % 2 ^ 32)
  else if a = R.PAIR_RETIRE_HI.addr then some s.pair.hiLatch
  else if a = R.EST_SAVE_AGE_S.addr then some (setBits (s.get ⟨a, 0, 32⟩) 16 16 s.saveAge)
  else if a = R.HOST_ICAUSE.addr then some s.host.icause.toNat
  else if a = R.LOG_STAT.addr then some s.logStat
  else if a = R.LOG_HEAD_SEQ.addr then some s.log.nextSeq.toNat
  else if a = R.LOG_TAIL_SEQ.addr then some s.log.tailLatch.toNat
  else if a = R.LOG_CNT_OVW.addr then some s.log.ovwLatch.toNat
  else if a = R.LOG_CNT_LOST.addr then some s.log.lost.toNat
  else if a = R.LOG_CNT_CRC.addr then some s.log.crcBad.toNat
  else if a = R.LOG_CLEAR_SEQ.addr then some s.log.clearSeq.toNat
  else if 0x2A020 ≤ a && a < 0x2A030 && a % 4 == 0 then some (nth 0 s.log.drops ((a - 0x2A020) / 4))
  else if 0x2A030 ≤ a && a < 0x2A040 && a % 4 == 0 then some (s.classHeld ((a - 0x2A030) / 4))
  else if 0x29C00 ≤ a && a < 0x29C10 && a % 4 == 0 then some (bitsOf s.host.pba.toNat (8 * (a - 0x29C00)) 32)
  else if 0x25010 ≤ a && a < 0x25030 && a % 4 == 0 then some (setBits (s.get ⟨a, 0, 32⟩) 0 16 (s.proofHours ((a - 0x25010) / 4)))
  else if 0x26100 ≤ a && a < 0x26300 && (a - 0x26100) % 32 == 0 then some (setBits (s.get ⟨a, 0, 32⟩) 16 16 (s.sinceMs ((a - 0x26100) / 32)))
  else none

/-- A block is served in the present stage (R74, R506), while PERST_N does not hold the endpoint (R75). (DEDUCED, log 15) -/
def State.served (s : State) (a : Nat) : Bool := s.pwr.mainOn && s.host.perstHigh && (decide (a < 0x1000) || decide (1 ≤ s.stage))

/-- An offset lies inside a block of Table SCOPE-5, of 4 KiB or as many as its registers need, in the trace buffer or the Exchange RAM. (DEDUCED, log 15) -/
def inBlock (a : Nat) : Bool := decide (a < 0x5000) || (decide (0x10000 ≤ a) && decide (a < 0x32000)) || (decide (0x100000 ≤ a) && decide (a < 0x110000))

/-- A BAR0 read: what is not served reads all ones, offsets between blocks 0 in every stage (R575), Exchange RAM and registers as held, anything
else 0. (DEDUCED, log 17) -/
def State.hostRead (s : State) (a : Nat) : Word :=
  if s.pwr.mainOn && s.host.perstHigh && !inBlock a then 0#32
  else if !s.served a then 0xFFFFFFFF#32
  else if 0x100000 ≤ a && a < 0x110000 then s.xword ((a - 0x100000) / 4)
  else match s.liveWord a with
    | some v => BitVec.ofNat 32 v
    | none => s.word a

/-- A BAR2 read of an aligned 64-bit word (R276, R506). -/
def State.bar2Read (s : State) (off : Nat) : BitVec 64 := if 2 ≤ s.stage && s.host.perstHigh then s.bar2Word (off / 8 * 8) else 0xFFFFFFFFFFFFFFFF#64

/-- What a host read of a register does besides: nothing where the register is not served. -/
def whenRead (s : State) (a : Nat) (f : State → State) : State := if s.served a then f s else s

/-- PWR_OPTIME_LO: a read latches the high part of the operating time (R119). -/
def pwrOptimeLo (s : State) : State := { s with pwr := { s.pwr with hiLatch := s.now / 2 ^ 32 % 65536 } }
def execPwrOptimeLo (s : State) : Host.Outcome State Fault Refusal := finish s (whenRead s 0x1018 pwrOptimeLo)

/-- ANG_NOW_AU: its read latches (R172). -/
def execAngNowAu (au : BitVec 16) (s : State) : Host.Outcome State Fault Refusal := finish s (whenRead s R.ANG_NOW_AU.addr (angNowAu au.toNat))

/-- LOG_HEAD_SEQ: its read latches (R549). -/
def execLogHeadSeq (s : State) : Host.Outcome State Fault Refusal := finish s (whenRead s R.LOG_HEAD_SEQ.addr logHeadSeq)

/-- PAIR_RETIRE_LO: a read latches the high part of the retire count (R443). -/
def pairRetireLo (s : State) : State := { s with pair := { s.pair with hiLatch := s.pair.retire / 2 ^ 32 } }
def execPairRetireLo (s : State) : Host.Outcome State Fault Refusal := finish s (whenRead s R.PAIR_RETIRE_LO.addr pairRetireLo)

end Sys2Proof.Machine
end

