-- ==== Sys2Proof/Machine/HostWrites.lean ====
section
/-! DEFINITION. Host writes of BAR0 registers: the gates of W1S and RWP fields, the rows of the table that are writes, and REGISTER_WRITE
for every other one (R19 to R22, R74, R133, R137). -/

namespace Sys2Proof.Machine

/-! Gates. -/

/-- A write of a block that only stage 1 and later serve, and that no endpoint held in reset takes (R74, R75). -/
def State.from1 (s : State) (f : State → State) : State := if 1 ≤ s.stage ∧ s.host.perstHigh then f s else s

/-- A debug operation: the TAP's reaches the debug port without the endpoint, where the TAP offers it (R74, R75, R88, R89, R569). -/
def State.fromPort (tap : Bool) (s : State) (f : State → State) : State :=
  if tap then (if 1 ≤ s.stage && s.tapOffers.contains .debug then f s else s) else s.from1 f

/-- An accepted RWP write restarts the 600 s of the session (R137). (DEDUCED, log 14) -/
def State.keepSession (s : State) : State := { s with img := { s.img with sessionEnd := s.now + 600000 } }

/-- An attempt outside a session, or a write refused in the foreign state: 0x020E with the register's offset (R19, R133). (DEDUCED, log 12) (DEDUCED, log 14) -/
def State.attempt (s : State) (a : Nat) : State := s.report 0x020E chip [p2 (blockOff a)]

/-- A write that only a session may make, to the register at `a` (R19). (DEDUCED, log 14) -/
def State.rwp (s : State) (a : Nat) (f : State → State) : State := s.from1 (fun s => if s.session then f s.keepSession else s.attempt a)

/-- An undefined code: the write is discarded as a whole (R21). -/
def State.undefinedCode (s : State) (a : Nat) : State := s.report 0x1001 chip [p2 (blockOff a)]

/-! Rows that are writes. -/

def execSleepReq (s : State) : Host.Outcome State Fault Refusal := finish s (whenOn s (fun s => s.from1 sleepReq))
def execWakePulse (s : State) : Host.Outcome State Fault Refusal := finish s (whenOn s (fun s => s.from1 wakePulse))
def execSaveState (s : State) : Host.Outcome State Fault Refusal := finish s (whenOn s (fun s => s.from1 saveState))
def execRestartModule (s : State) : Host.Outcome State Fault Refusal := finish s (whenOn s (fun s => s.rwp 0x1004 restartReq))
def execOpenSession (s : State) : Host.Outcome State Fault Refusal := finish s (whenOn s (fun s => s.from1 openSession))
def execCloseSession (s : State) : Host.Outcome State Fault Refusal := finish s (whenOn s (fun s => s.from1 closeSession))
def execRecommission (s : State) : Host.Outcome State Fault Refusal := finish s (whenOn s (fun s => s.rwp 0x2040 recommission))
def execStartUpdate (s : State) : Host.Outcome State Fault Refusal := finish s (whenOn s (fun s => s.rwp 0x2080 startUpdate))
def execCommitUpdate (s : State) : Host.Outcome State Fault Refusal := finish s (whenOn s (fun s => s.rwp 0x2080 commitUpdate))
def execUpdateAbort (s : State) : Host.Outcome State Fault Refusal := finish s (whenOn s (fun s => s.rwp 0x2080 updateAbort))
def execRecWrite (s : State) : Host.Outcome State Fault Refusal := finish s (whenOn s (fun s => s.rwp 0x2090 recWrite))
def execRecCommit (s : State) : Host.Outcome State Fault Refusal := finish s (whenOn s (fun s => s.rwp 0x2090 recCommit))
def execRunCheck (s : State) : Host.Outcome State Fault Refusal := finish s (whenOn s (fun s => s.from1 runCheck))
def execAcquireLock (s : State) : Host.Outcome State Fault Refusal := finish s (whenOn s (fun s => s.from1 acquireLock))

/-- SRC_OVR as written: a change of its value acts (R154). -/
def srcOvrWrite (v : Nat) (s : State) : State :=
  if v = s.get R.ANG_CTRL_SRC_OVR then s else s.rwp 0x3004 (fun s => srcOvr (s.put R.ANG_CTRL_SRC_OVR v))
def execSrcOvr (v : BitVec 2) (s : State) : Host.Outcome State Fault Refusal := finish s (whenOn s (srcOvrWrite v.toNat))

def execUnmuteAll (c : Fin 64) (s : State) : Host.Outcome State Fault Refusal := finish s (whenOn s (fun s => s.from1 (unmuteAll c.val)))
def execReenum (c : Fin 64) (s : State) : Host.Outcome State Fault Refusal := finish s (whenOn s (fun s => s.from1 (reenum c.val)))

/-- GO with its code and chain; the hops and the deadline stand in SWP_TREQ_RANGE (R266). -/
def goWrite (code chain : Nat) (s : State) : State :=
  s.from1 (fun s => testGo (s.putAll [ (R.SWP_TREQ_CODE, code), (R.SWP_TREQ_CHAIN, chain) ]))
def execTestGo (code : BitVec 3) (chain : Fin 64) (s : State) : Host.Outcome State Fault Refusal := finish s (whenOn s (goWrite code.toNat chain.val))
def execTestRequestAbort (s : State) : Host.Outcome State Fault Refusal := finish s (whenOn s (fun s => s.from1 testAbort))

/-- Address of a set's owner field. -/
def ownerAddr (u : Nat) : Nat := if u < 16 then (R.STO_OWN_S u).addr else (R.STO_OWN_R (u - 16)).addr

/-- A write of an owner field: code 3 is undefined (R277); outside a session one that differs is an attempt. -/
def ownerWrite (u v : Nat) (s : State) : State :=
  s.from1 (fun s =>
    if v = 3 then s.undefinedCode (ownerAddr u)
    else if s.session then ownerReq u v s.keepSession
    else if v = s.owner u then s else s.attempt (ownerAddr u))
def execOwner (set : Fin 24) (owner : BitVec 2) (s : State) : Host.Outcome State Fault Refusal := finish s (whenOn s (ownerWrite set.val owner.toNat))

/-- CELL and GO of EST_CELLRST; a reset of an unassigned cell is an undefined code (R326, R21). -/
def cellResetWrite (cell : Nat) (s : State) : State :=
  if s.tab.assigned cell then s.rwp 0x21008 (fun s => cellResetReq cell (s.put R.EST_CELLRST_CELL cell))
  else s.from1 (fun s => s.undefinedCode 0x21008)
def execCellReset (cell : BitVec 18) (s : State) : Host.Outcome State Fault Refusal := finish s (whenOn s (cellResetWrite cell.toNat))
def execExcitationStop (s : State) : Host.Outcome State Fault Refusal := finish s (whenOn s (fun s => s.from1 excStopReq))

/-- EXC_EN as written; a value that the field has is carried out without a session (R19). -/
def excEnWrite (on : Bool) (s : State) : State :=
  if s.getB R.EST_EXC_CTRL_EXC_EN = on then s.from1 (excEnWritten on)
  else s.rwp 0x210B0 (fun s => excEnWritten on (s.putB R.EST_EXC_CTRL_EXC_EN on))
def execExcEn (on : Bool) (s : State) : Host.Outcome State Fault Refusal := finish s (whenOn s (excEnWrite on))

def execOpenReq (s : State) : Host.Outcome State Fault Refusal := finish s (whenOn s (fun s => s.from1 openReq))
def execAckTrip (okA okB : Bool) (s : State) : Host.Outcome State Fault Refusal := finish s (whenOn s (fun s => s.from1 (ackReq okA okB)))
def execAckSd0 (okA okB : Bool) (s : State) : Host.Outcome State Fault Refusal := finish s (whenOn s (fun s => s.rwp 0x23010 (ackSd0Req okA okB)))
def execMaintReq (s : State) : Host.Outcome State Fault Refusal := finish s (whenOn s (fun s => s.rwp 0x23010 maintReq))
def execMaintExit (okA okB : Bool) (s : State) : Host.Outcome State Fault Refusal := finish s (whenOn s (fun s => s.from1 (maintExitReq okA okB)))

/-- STRING with EXCLUDE or INCLUDE (R387). -/
def excludeWrite (n : Nat) (s : State) : State := s.rwp 0x230A0 (fun s => excludeReq n (s.put R.DSC_EXCL_CTRL_STRING n))
def execExcludeString (n : Fin 512) (s : State) : Host.Outcome State Fault Refusal := finish s (whenOn s (excludeWrite n.val))
def includeWrite (n : Nat) (s : State) : State := s.rwp 0x230A0 (fun s => includeReq n (s.put R.DSC_EXCL_CTRL_STRING n))
def execIncludeString (n : Fin 512) (s : State) : Host.Outcome State Fault Refusal := finish s (whenOn s (includeWrite n.val))

def execCloseReq (s : State) : Host.Outcome State Fault Refusal := finish s (whenOn s (fun s => s.from1 closeReq))
def execAbortPrecharge (s : State) : Host.Outcome State Fault Refusal := finish s (whenOn s (fun s => s.from1 abortReq))

/-- JOIN with its string (R416). -/
def joinWrite (n : Nat) (s : State) : State := s.from1 (fun s => joinReq n (s.put R.CTR_CTRL_JOIN_STRING n))
def execJoinString (n : Fin 512) (s : State) : Host.Outcome State Fault Refusal := finish s (whenOn s (joinWrite n.val))

/-- WELD_CLR with its pairs, and WELD_STR_CLR with its string, which is an RW field and so taken outside a session too (R415, R19). -/
def weldClrWrite (mask : Nat) (s : State) : State := s.rwp 0x23104 (fun s => weldClrReq mask (s.put R.CTR_CTRL_PAIR_MASK mask))
def execWeldClr (mask : BitVec 8) (s : State) : Host.Outcome State Fault Refusal := finish s (whenOn s (weldClrWrite mask.toNat))
def weldStrClrWrite (n : Nat) (s : State) : State := (s.from1 (fun s => s.put R.CTR_CTRL_JOIN_STRING n)).rwp 0x23104 (weldStrClrReq n)
def execWeldStrClr (n : Fin 512) (s : State) : Host.Outcome State Fault Refusal := finish s (whenOn s (weldStrClrWrite n.val))

def execSplitPair (s : State) : Host.Outcome State Fault Refusal := finish s (whenOn s (fun s => s.rwp 0x24004 splitReq))
def execRejoin (s : State) : Host.Outcome State Fault Refusal := finish s (whenOn s (fun s => s.rwp 0x24004 rejoinReq))

/-- CAMP_GO with its code; a code that is not defined discards the write (R21, R437). -/
def campWrite (code : Nat) (s : State) : State :=
  s.from1 (fun s =>
    if !(within code 1 4) then s.undefinedCode 0x24004
    else s.rwp 0x24004 (fun s => campGo code (s.put R.PAIR_CTRL_CAMP_CODE code)))
def execCampGo (code : BitVec 3) (s : State) : Host.Outcome State Fault Refusal := finish s (whenOn s (campWrite code.toNat))

def execChanOn (n : Fin 24) (on : Bool) (s : State) : Host.Outcome State Fault Refusal := finish s (whenOn s (fun s => s.from1 (fun s => s.writeOn n.val on)))
def execChanClr (n : Fin 24) (s : State) : Host.Outcome State Fault Refusal := finish s (whenOn s (fun s => s.from1 (fun s => s.clr n.val)))
def execSwWd (key : BitVec 16) (s : State) : Host.Outcome State Fault Refusal := finish s (whenOn s (fun s => s.from1 (fun s => s.wdWrite key.toNat)))

/-- A generator setting is defined: frequency, duty, phase, and in the compatibility mode a phase in steps of 45° (R489, R503). -/
def State.genOk (s : State) (phase : Bool) (v : Nat) : Bool :=
  if phase then decide (bitsOf v 0 12 ≤ 3599) && (!s.tab.swFlags.testBit 1 || bitsOf v 0 12 % 450 == 0)
  else within (bitsOf v 0 16) 50 2000 && decide (bitsOf v 16 16 ≤ 1000)

/-- A write of a generator register, in force from the next period on (R489); refused in the foreign state where it would change (R133). (DEDUCED, log 78) -/
def genWrite (g : Nat) (phase : Bool) (v : Nat) (s : State) : State :=
  let f := if phase then R.SW_GEN_P_PHASE g else R.SW_GEN_F g
  s.from1 (fun s =>
    if !s.genOk phase v then s.undefinedCode f.addr
    else if bitsOf v 0 f.w = s.get f then s
    else if s.getB R.GLOBAL_STAGE_FOREIGN_IMAGE then s.attempt f.addr
    else s.put f v)
def execSwGenWrite (g : Fin 8) (phase : Bool) (v : Word) (s : State) : Host.Outcome State Fault Refusal := finish s (whenOn s (genWrite g.val phase v.toNat))

def execRingTail (ring : Fin 64) (tail : BitVec 16) (s : State) : Host.Outcome State Fault Refusal :=
  finish s (whenOn s (fun s => s.from1 (tailWrite ring.val tail.toNat)))
/-- INT_EN and ENABLE of a ring. (DESIGN CHOICE, log 16) -/
def ringCtl (n : Nat) (on intEn : Bool) (s : State) : State := ringEnable n on (s.putB (R.RING_CTRL_INT_EN n) intEn)
def execRingEnable (ring : Fin 64) (on intEn : Bool) (s : State) : Host.Outcome State Fault Refusal :=
  finish s (whenOn s (fun s => s.from1 (ringCtl ring.val on intEn)))
def execRingStop (ring : Fin 64) (ctls : List (BitVec 32)) (s : State) : Host.Outcome State Fault Refusal :=
  finish s (whenOn s (fun s => s.from1 (ringStop ring.val ctls)))
def execHostIcause (clear same : BitVec 9) (s : State) : Host.Outcome State Fault Refusal := finish s (whenOn s (fun s => s.from1 (icauseWrite clear same)))
def execHostImask (v : Word) (s : State) : Host.Outcome State Fault Refusal := finish s (whenOn s (fun s => s.from1 (imaskWrite v.toNat)))
def execLogClear (s : State) : Host.Outcome State Fault Refusal := finish s (whenOn s (fun s => s.rwp 0x2A004 logClear))

/-- LOG_RD_IDX as written: a slot that does not exist is an undefined code (R548, R21). -/
def rdIdxWrite (slot : Nat) (s : State) : State :=
  s.from1 (fun s => if allSlots ≤ slot then s.undefinedCode 0x2A080 else logWindow slot (s.put R.LOG_RD_IDX_SLOT slot))
def execLogRdIdx (slot : BitVec 17) (s : State) : Host.Outcome State Fault Refusal := finish s (whenOn s (rdIdxWrite slot.toNat))

def execTrigSnap (s : State) : Host.Outcome State Fault Refusal := finish s (whenOn s (fun s => s.from1 trigSnap))
def execAckFirst (s : State) : Host.Outcome State Fault Refusal := finish s (whenOn s (fun s => s.from1 ackFirst))
def execRelSlot (mask : BitVec 4) (s : State) : Host.Outcome State Fault Refusal := finish s (whenOn s (fun s => s.from1 (relSlots mask.toNat)))
def execClaimPort (s : State) : Host.Outcome State Fault Refusal := finish s (whenOn s (fun s => s.from1 claimPort))
def execReleasePort (s : State) : Host.Outcome State Fault Refusal := finish s (whenOn s (fun s => s.from1 releasePort))
def execUnlockPort (s : State) : Host.Outcome State Fault Refusal := finish s (whenOn s (fun s => s.rwp 0x2D004 unlockPort))
def execLockPort (s : State) : Host.Outcome State Fault Refusal := finish s (whenOn s (fun s => s.from1 lockPort))

/-! Debug operations, by the host through the command registers or by the TAP (R569). -/

def execHaltGaffer (tap : Bool) (s : State) : Host.Outcome State Fault Refusal := finish s (whenOn s (fun s => s.fromPort tap (haltGaffer tap)))
def execResumeGaffer (tap : Bool) (s : State) : Host.Outcome State Fault Refusal := finish s (whenOn s (fun s => s.fromPort tap (resumeGaffer tap)))
def execStepGaffer (tap : Bool) (s : State) : Host.Outcome State Fault Refusal := finish s (whenOn s (fun s => s.fromPort tap (stepGaffer tap)))
def execReadMemory (tap : Bool) (addr : Word) (s : State) : Host.Outcome State Fault Refusal :=
  finish s (whenOn s (fun s => s.fromPort tap (fun s => s.debugRead tap false addr)))
def execWriteMemory (tap : Bool) (addr data : Word) (s : State) : Host.Outcome State Fault Refusal :=
  finish s (whenOn s (fun s => s.fromPort tap (fun s => s.debugWrite tap false addr data)))
def execReadRegister (tap : Bool) (addr : Word) (s : State) : Host.Outcome State Fault Refusal :=
  finish s (whenOn s (fun s => s.fromPort tap (fun s => s.debugRead tap true addr)))
def execWriteRegister (tap : Bool) (addr data : Word) (s : State) : Host.Outcome State Fault Refusal :=
  finish s (whenOn s (fun s => s.fromPort tap (fun s => s.debugWrite tap true addr data)))
def execSetBreakpoint (tap : Bool) (addr : Word) (s : State) : Host.Outcome State Fault Refusal :=
  finish s (whenOn s (fun s => s.fromPort tap (setBreakpoint tap addr)))
def execClearBreakpoint (tap : Bool) (addr : Word) (s : State) : Host.Outcome State Fault Refusal :=
  finish s (whenOn s (fun s => s.fromPort tap (clearBreakpoint tap addr)))

/-- An operation code written to DBG_CMD, with the address and data of its registers. -/
def debugOp (op : Nat) (s : State) : State :=
  let a := s.getW R.DIAG_DBG_ADDR
  let d := s.getW R.DIAG_DBG_DATA
  match op with
  | 1 => haltGaffer false s
  | 2 => resumeGaffer false s
  | 3 => stepGaffer false s
  | 4 => s.debugRead false false a
  | 5 => s.debugWrite false false a d
  | 6 => s.debugRead false true a
  | 7 => s.debugWrite false true a d
  | 8 => setBreakpoint false a s
  | 9 => clearBreakpoint false a s
  | _ => s

/-! The generic write. -/

/-- A free Boolean: what a path's trip test gives where the write does not carry it. (DESIGN CHOICE, log 7) (DESIGN CHOICE, log 16) -/
def State.drawBool (s : State) : Bool × State := let (v, s1) := s.draw; (v.getLsbD 0, s1)

/-- A request whose trip test of both paths comes out as it may. (DESIGN CHOICE, log 16) -/
def State.withTripTest (s : State) (f : Bool → Bool → State → State) : State :=
  let (a, s1) := s.drawBool
  let (b, s2) := s1.drawBool
  f a b s2

/-- The actions of a register's bits: bit, whether only a session may set it, what it does. Fields beside them have been taken. -/
def actionsOf (a : Nat) : List (Nat × Bool × (State → State)) :=
  if a = 0x1004 then [(0, false, sleepReq), (1, false, wakePulse), (2, false, saveState), (3, true, restartReq)]
  else if a = 0x2040 then [(0, false, openSession), (1, false, closeSession), (2, true, recommission)]
  else if a = 0x2080 then [(0, true, startUpdate), (1, true, commitUpdate), (2, true, updateAbort)]
  else if a = 0x2090 then [(0, true, recWrite), (1, true, recCommit)]
  else if a = 0x20C0 then [(0, false, runCheck)]
  else if a = 0x3004 then [(0, false, acquireLock)]
  else if a = 0x4100 then [(0, false, testGo), (1, false, testAbort)]
  else if 0x10000 ≤ a && a < 0x20000 && a % 0x400 == 4 then [(0, false, reenum ((a - 0x10000) / 0x400)), (1, false, unmuteAll ((a - 0x10000) / 0x400))]
  else if a = 0x21008 then [(31, true, fun s => cellResetReq (s.get R.EST_CELLRST_CELL) s)]
  else if a = 0x210B0 then [(1, false, excStopReq)]
  else if a = 0x23010 then
    [(0, false, openReq), (1, false, fun s => s.withTripTest ackReq), (2, true, fun s => s.withTripTest ackSd0Req), (3, true, maintReq),
     (4, false, fun s => s.withTripTest maintExitReq)]
  else if a = 0x230A0 then
    [(16, true, fun s => excludeReq (s.get R.DSC_EXCL_CTRL_STRING) s), (17, true, fun s => includeReq (s.get R.DSC_EXCL_CTRL_STRING) s)]
  else if a = 0x23104 then
    [(0, false, closeReq), (1, false, abortReq), (2, false, fun s => joinReq (s.get R.CTR_CTRL_JOIN_STRING) s),
     (3, true, fun s => weldClrReq (s.get R.CTR_CTRL_PAIR_MASK) s), (4, true, fun s => weldStrClrReq (s.get R.CTR_CTRL_JOIN_STRING) s)]
  else if a = 0x24004 then [(0, true, splitReq), (1, true, rejoinReq), (2, true, fun s => campGo (s.get R.PAIR_CTRL_CAMP_CODE) s)]
  else if a = 0x2A004 then [(0, true, logClear)]
  else if a = 0x2B000 then [(0, false, trigSnap), (1, false, ackFirst)]
  else if a = 0x2D004 then [(1, true, unlockPort), (2, false, lockPort), (3, false, claimPort), (4, false, releasePort)]
  else []

/-- An RW field of the register comes from the image and would change, in the foreign state (R133). (DEDUCED, log 15) -/
def State.foreignWrite (s : State) (a old v : Nat) : Bool := s.getB R.GLOBAL_STAGE_FOREIGN_IMAGE && a == 0x1008 && bitsOf old 0 11 != bitsOf v 0 11

/-- What follows the fields of a register that act when they are written. -/
def State.followUp (s : State) (a old v : Nat) (ok : Bool) : State :=
  if a = 0x3004 then (if ok && bitsOf v 1 2 != bitsOf old 1 2 then srcOvr s else s)
  else if a = 0x210B0 then (if ok then excEnWritten (v.testBit 0) s else s)
  else if a = 0x2B000 then (if bitsOf v 4 4 = 0 then s else relSlots (bitsOf v 4 4) s)
  else if 0x29400 ≤ a && a < 0x29880 && a % 16 == 12 then s.flushPba
  else s

/-- CLOSE in the write that carries RECOMMISSION: the session ends first, and the RWP part of the write is an attempt (R139). -/
def State.endsFirst (s : State) (a v : Nat) : State := if a = 0x2040 ∧ v.testBit 1 ∧ v.testBit 2 then closeSession s else s

/-- A register without a rule of its own takes a write field by field; then its action bits act, in ascending order. A write in a
session that changes no RWP field does not restart the 600 s (R19, R137). (DESIGN CHOICE, log 129) -/
def State.plainWrite (s : State) (r : RegSpec) (a v : Nat) : State :=
  let old := (s.word a).toNat
  if r.fields.any (fun f => f.undefined v) || (a == 0x21008 && v.testBit 31 && !s.tab.assigned (v % 2 ^ 18)) then s.undefinedCode a
  else if s.foreignWrite a old v then s.attempt a
  else
    let s := s.endsFirst a v
    let tries := r.fields.any (fun f => f.attempts old v)
    let ok := s.session || !tries
    let s1 := if tries then (if s.session then s.keepSession else s.attempt a) else s
    let s2 := s1.setWord a (BitVec.ofNat 32 (r.fields.foldl (fun w f => f.taken ok v w) old))
    let s3 := forAll ((actionsOf a).filter (fun p => v.testBit p.1 && (ok || !p.2.1))) (fun p s => p.2.2 s) s2
    s3.followUp a old v ok

/-- A ring register: BASE and SIZE only while the ring is off, TAIL and CTRL by their rules (R509 to R511). The control words that STOP
returns are not in the write. (DEDUCED, log 12) -/
def State.ringWrite (s : State) (r : RegSpec) (a v : Nat) : State :=
  let n := (a - 0x28000) / 64
  match a % 64 with
  | 0x0C => tailWrite n (v % 65536) s
  | 0x14 =>
    let s1 := ringCtl n (v.testBit 0) (v.testBit 2) s
    if v.testBit 1 then
      let ctls := (List.range (s1.given n)).map (fun k => (Config.freeValue (s1.free + k)).setWidth 32)
      ringStop n ctls { s1 with free := s1.free + ctls.length }
    else s1
  | o =>
    if o ≤ 8 && s.getB (R.RING_CTRL_ENABLE n) then s.report 0x1002 (src 9 n) [p2 (blockOff a), p2 v]
    else s.plainWrite r a v

/-- A write of a BAR0 register that its block serves. (DEDUCED, log 13) (DEDUCED, log 15) -/
def State.regWrite (s : State) (a v : Nat) : State :=
  match lookupReg a with
  | none => s
  | some r =>
    if 0x28000 ≤ a && a < 0x29000 then s.ringWrite r a v
    else if a = 0x29000 then icauseWrite (BitVec.ofNat 9 v) 0#9 s
    else if a = 0x29004 then imaskWrite v s
    else if 0x20010 ≤ a && a < 0x20070 then ownerWrite ((a - 0x20010) / 4) (v % 4) s
    else if 0x27000 ≤ a && a < 0x27C00 && a % 128 == 4 then
      let n := (a - 0x27000) / 128
      let s1 := s.writeOn n (v.testBit 0)
      if v.testBit 1 then s1.clr n else s1
    else if a = 0x27C00 then s.wdWrite (v % 65536)
    else if 0x27C20 ≤ a && a < 0x27C60 then genWrite ((a - 0x27C20) / 8) (a % 8 == 4) v s
    else if 0x2050 ≤ a && a < 0x2070 then
      let k := a - 0x2050
      let bs := slice 0#8 s.img.pw 0 32
      { s with img := { s.img with pw := bs.take k ++ leBytes 4 v ++ bs.drop (k + 4) } }
    else if a = 0x2A000 then { s with log := { s.log with lostSeen := s.log.lostSeen && !v.testBit 4, dropSeen := s.log.dropSeen && !v.testBit 5 } }
    else if a = 0x2A080 then rdIdxWrite (v % 2 ^ 17) s
    else if a = 0x2D010 then
      (if within (v % 16) 1 9 then debugOp (v % 16) s else s.undefinedCode a)
    else s.plainWrite r a v

/-- REGISTER_WRITE: a host write to BAR0 (R13, R19, R506). Registers take whole words (R576); the Exchange RAM takes any bytes of one, as R286 has
it. (DEDUCED, log 13) -/
def hostWrite (a be v : Nat) (s : State) : State :=
  if !s.served a then s
  else if 0x100000 ≤ a && a < 0x110000 then exchangeRamWrite (a - 0x100000) be (BitVec.ofNat 32 v) none s
  else if be = 15 then s.regWrite a v
  else s
def execRegisterWrite (addr : Word) (be : BitVec 4) (data : Word) (s : State) : Host.Outcome State Fault Refusal :=
  finish s (whenOn s (hostWrite addr.toNat be.toNat data.toNat))

end Sys2Proof.Machine
end

