-- ==== Sys2Proof/Machine/Dispatch.lean ====
section
/-! DEFINITION. One arm per command. -/

namespace Sys2Proof.Machine

/-- The effect of a command on everything but the queue. -/
def exec (i : Instr) (s : State) : Host.Outcome State Fault Refusal :=
  match i with
  | .vbusStart => Sys2Proof.Machine.execVbusStart s
  | .dbgEnSample high => Sys2Proof.Machine.execDbgEnSample high s
  | .vout33Retry mv => Sys2Proof.Machine.execVout33Retry mv s
  | .brownOut => Sys2Proof.Machine.execBrownOut s
  | .powerLoss => Sys2Proof.Machine.execPowerLoss s
  | .vbusLow ms v => Sys2Proof.Machine.execVbusLow ms v s
  | .vbusHigh ms v => Sys2Proof.Machine.execVbusHigh ms v s
  | .vswSupplyLost n v => Sys2Proof.Machine.execVswSupplyLost n v s
  | .vswSupplyRegained n v => Sys2Proof.Machine.execVswSupplyRegained n v s
  | .optimeCopy => Sys2Proof.Machine.execOptimeCopy s
  | .stage1Entry t => Sys2Proof.Machine.execStage1Entry t s
  | .stage2Entry t => Sys2Proof.Machine.execStage2Entry t s
  | .stage3Entry t => Sys2Proof.Machine.execStage3Entry t s
  | .resetNLow => Sys2Proof.Machine.execResetNLow s
  | .resetNRelease => Sys2Proof.Machine.execResetNRelease s
  | .stuckReset => Sys2Proof.Machine.execStuckReset s
  | .stuckResetClear => Sys2Proof.Machine.execStuckResetClear s
  | .restartModule => Sys2Proof.Machine.execRestartModule s
  | .sleepReq => Sys2Proof.Machine.execSleepReq s
  | .sleepSequenceDone => Sys2Proof.Machine.execSleepSequenceDone s
  | .wakeInEdge rise => Sys2Proof.Machine.execWakeInEdge rise s
  | .wakeToneDetected chain ret => Sys2Proof.Machine.execWakeToneDetected chain ret s
  | .wakeTimerExpiry => Sys2Proof.Machine.execWakeTimerExpiry s
  | .latchedWake => Sys2Proof.Machine.execLatchedWake s
  | .wakePulse => Sys2Proof.Machine.execWakePulse s
  | .wakeOutPulseEnd => Sys2Proof.Machine.execWakeOutPulseEnd s
  | .saveState => Sys2Proof.Machine.execSaveState s
  | .imageLoad density => Sys2Proof.Machine.execImageLoad density s
  | .startupTests t => Sys2Proof.Machine.execStartupTests t s
  | .startupInjection missed eccG eccS okA okB => Sys2Proof.Machine.execStartupInjection missed eccG eccS okA okB s
  | .logScan bad => Sys2Proof.Machine.execLogScan bad s
  | .openSession => Sys2Proof.Machine.execOpenSession s
  | .passwordCompareDone => Sys2Proof.Machine.execPasswordCompareDone s
  | .closeSession => Sys2Proof.Machine.execCloseSession s
  | .sessionExpiry => Sys2Proof.Machine.execSessionExpiry s
  | .lockoutEnd => Sys2Proof.Machine.execLockoutEnd s
  | .recommission => Sys2Proof.Machine.execRecommission s
  | .recommissionDone fail => Sys2Proof.Machine.execRecommissionDone fail s
  | .startUpdate => Sys2Proof.Machine.execStartUpdate s
  | .validationDone => Sys2Proof.Machine.execValidationDone s
  | .commitUpdate => Sys2Proof.Machine.execCommitUpdate s
  | .commitDone fail => Sys2Proof.Machine.execCommitDone fail s
  | .updateAbort => Sys2Proof.Machine.execUpdateAbort s
  | .recWrite => Sys2Proof.Machine.execRecWrite s
  | .recChunkDone fail => Sys2Proof.Machine.execRecChunkDone fail s
  | .recCommit => Sys2Proof.Machine.execRecCommit s
  | .recCommitDone fail => Sys2Proof.Machine.execRecCommitDone fail s
  | .runCheck => Sys2Proof.Machine.execRunCheck s
  | .deadlineCheckDone => Sys2Proof.Machine.execDeadlineCheckDone s
  | .syncInEdge sinceUs => Sys2Proof.Machine.execSyncInEdge sinceUs s
  | .lockAcquired freq obs mv => Sys2Proof.Machine.execLockAcquired freq obs mv s
  | .lockLost o => Sys2Proof.Machine.execLockLost o s
  | .imageSourceRestored phase => Sys2Proof.Machine.execImageSourceRestored phase s
  | .frequencyClamp freq phase => Sys2Proof.Machine.execFrequencyClamp freq phase s
  | .slipResolved phase mv => Sys2Proof.Machine.execSlipResolved phase mv s
  | .acquireLock => Sys2Proof.Machine.execAcquireLock s
  | .srcOvr v => Sys2Proof.Machine.execSrcOvr v s
  | .scheduleCycleBoundary => Sys2Proof.Machine.execScheduleCycleBoundary s
  | .sweepAngle => Sys2Proof.Machine.execSweepAngle s
  | .tokenDeadline lateA lateB => Sys2Proof.Machine.execTokenDeadline lateA lateB s
  | .closeAngle e => Sys2Proof.Machine.execCloseAngle e s
  | .epochClose e => Sys2Proof.Machine.execEpochClose e s
  | .responseFrame c ret num idle line us room ecc => Sys2Proof.Machine.execResponseFrame c ret num idle line us room ecc s
  | .transactionTimeout c tag h found => Sys2Proof.Machine.execTransactionTimeout c tag h found s
  | .tagQuarantineEnd c tag => Sys2Proof.Machine.execTagQuarantineEnd c tag s
  | .maintResponse c idle line => Sys2Proof.Machine.execMaintResponse c idle line s
  | .nodeMute c h => Sys2Proof.Machine.execNodeMute c h s
  | .muteProbe c h missed => Sys2Proof.Machine.execMuteProbe c h missed s
  | .unmuteAll c => Sys2Proof.Machine.execUnmuteAll c s
  | .enumeration c => Sys2Proof.Machine.execEnumeration c s
  | .enumerationDone c r => Sys2Proof.Machine.execEnumerationDone c r s
  | .reenum c => Sys2Proof.Machine.execReenum c s
  | .breakDetected c kOut missed => Sys2Proof.Machine.execBreakDetected c kOut missed s
  | .segmentCollectionDone c => Sys2Proof.Machine.execSegmentCollectionDone c s
  | .gapProbe c ret reply rt => Sys2Proof.Machine.execGapProbe c ret reply rt s
  | .ringProbe c good => Sys2Proof.Machine.execRingProbe c good s
  | .sweepFrame c p f met => Sys2Proof.Machine.execSweepFrame c p f met s
  | .balanceGate c p => Sys2Proof.Machine.execBalanceGate c p s
  | .conversion c p met err => Sys2Proof.Machine.execConversion c p met err s
  | .dataBuild c p d => Sys2Proof.Machine.execDataBuild c p d s
  | .collectFrame c p f => Sys2Proof.Machine.execCollectFrame c p f s
  | .collectSeg c p f met => Sys2Proof.Machine.execCollectSeg c p f met s
  | .enumFrame c p f payload => Sys2Proof.Machine.execEnumFrame c p f payload s
  | .assignNode c p f payload => Sys2Proof.Machine.execAssignNode c p f payload s
  | .echoFrame c p f => Sys2Proof.Machine.execEchoFrame c p f s
  | .readReg c p f payload => Sys2Proof.Machine.execReadReg c p f payload s
  | .writeReg c p f payload => Sys2Proof.Machine.execWriteReg c p f payload s
  | .balSet c p f payload => Sys2Proof.Machine.execBalSet c p f payload s
  | .ctrSet c p f payload aux => Sys2Proof.Machine.execCtrSet c p f payload aux s
  | .selftest c p f payload => Sys2Proof.Machine.execSelftest c p f payload s
  | .selftestDone c p pass data => Sys2Proof.Machine.execSelftestDone c p pass data s
  | .sleepFrame c p f payload => Sys2Proof.Machine.execSleepFrame c p f payload s
  | .clearNode c p m => Sys2Proof.Machine.execClearNode c p m s
  | .commTimeout c p => Sys2Proof.Machine.execCommTimeout c p s
  | .tokenTimeout c p => Sys2Proof.Machine.execTokenTimeout c p s
  | .secondaryFlag c p k under => Sys2Proof.Machine.execSecondaryFlag c p k under s
  | .sleepCheck c p inputs => Sys2Proof.Machine.execSleepCheck c p inputs s
  | .nodeWakeTone c p dn long ident => Sys2Proof.Machine.execNodeWakeTone c p dn long ident s
  | .nodeSleepReturn c p => Sys2Proof.Machine.execNodeSleepReturn c p s
  | .testResultRead c result kOut => Sys2Proof.Machine.execTestResultRead c result kOut s
  | .testGo code chain => Sys2Proof.Machine.execTestGo code chain s
  | .testRequestAbort => Sys2Proof.Machine.execTestRequestAbort s
  | .campaignPeriodEnd e => Sys2Proof.Machine.execCampaignPeriodEnd e s
  | .owner set owner => Sys2Proof.Machine.execOwner set owner s
  | .bar2Write off be data => Sys2Proof.Machine.execBar2Write off be data s
  | .exchangeRamWrite off be data device => Sys2Proof.Machine.execExchangeRamWrite off be data device s
  | .backgroundTestStep bad ecc => Sys2Proof.Machine.execBackgroundTestStep bad ecc s
  | .bankTestPhaseEnd fail => Sys2Proof.Machine.execBankTestPhaseEnd fail s
  | .lentWindowAccess => Sys2Proof.Machine.execLentWindowAccess s
  | .windowStepDone fail => Sys2Proof.Machine.execWindowStepDone fail s
  | .laneGroupUpdateDone r us stepT scanTo ecc => Sys2Proof.Machine.execLaneGroupUpdateDone r us stepT scanTo ecc s
  | .cellReset cell => Sys2Proof.Machine.execCellReset cell s
  | .periodicSave => Sys2Proof.Machine.execPeriodicSave s
  | .saveDone fail => Sys2Proof.Machine.execSaveDone fail s
  | .stateRestoreDone mbit => Sys2Proof.Machine.execStateRestoreDone mbit s
  | .excitationEnd => Sys2Proof.Machine.execExcitationEnd s
  | .excitationStop => Sys2Proof.Machine.execExcitationStop s
  | .excEn on => Sys2Proof.Machine.execExcEn on s
  | .sopScanDone us => Sys2Proof.Machine.execSopScanDone us s
  | .derateHoldEnd n discharge => Sys2Proof.Machine.execDerateHoldEnd n discharge s
  | .safetyCycle m => Sys2Proof.Machine.execSafetyCycle m s
  | .sd0Decision servitor code => Sys2Proof.Machine.execSd0Decision servitor code s
  | .overcurrent servitor => Sys2Proof.Machine.execOvercurrent servitor s
  | .channelDisagreement voltage => Sys2Proof.Machine.execChannelDisagreement voltage s
  | .followTimeout servitor horizon amps => Sys2Proof.Machine.execFollowTimeout servitor horizon amps s
  | .envelopeCompare servitor amps => Sys2Proof.Machine.execEnvelopeCompare servitor amps s
  | .breakCondition => Sys2Proof.Machine.execBreakCondition s
  | .graceEnd => Sys2Proof.Machine.execGraceEnd s
  | .verifyTimeout => Sys2Proof.Machine.execVerifyTimeout s
  | .lehrDurationEnd => Sys2Proof.Machine.execLehrDurationEnd s
  | .lehrBudgetMinute => Sys2Proof.Machine.execLehrBudgetMinute s
  | .lehrClearTimeout => Sys2Proof.Machine.execLehrClearTimeout s
  | .openReq => Sys2Proof.Machine.execOpenReq s
  | .ackTrip okA okB => Sys2Proof.Machine.execAckTrip okA okB s
  | .ackSd0 okA okB => Sys2Proof.Machine.execAckSd0 okA okB s
  | .maintReq => Sys2Proof.Machine.execMaintReq s
  | .maintExit okA okB => Sys2Proof.Machine.execMaintExit okA okB s
  | .excludeString n => Sys2Proof.Machine.execExcludeString n s
  | .includeString n => Sys2Proof.Machine.execIncludeString n s
  | .closeReq => Sys2Proof.Machine.execCloseReq s
  | .abortPrecharge => Sys2Proof.Machine.execAbortPrecharge s
  | .joinString n => Sys2Proof.Machine.execJoinString n s
  | .weldClr mask => Sys2Proof.Machine.execWeldClr mask s
  | .weldStrClr n => Sys2Proof.Machine.execWeldStrClr n s
  | .auxTimeout => Sys2Proof.Machine.execAuxTimeout s
  | .weldCheckEnd => Sys2Proof.Machine.execWeldCheckEnd s
  | .preEarlyCheck => Sys2Proof.Machine.execPreEarlyCheck s
  | .preMaxTimeout => Sys2Proof.Machine.execPreMaxTimeout s
  | .overlapEnd => Sys2Proof.Machine.execOverlapEnd s
  | .strCloseTimeout n => Sys2Proof.Machine.execStrCloseTimeout n s
  | .strPreTimeout n => Sys2Proof.Machine.execStrPreTimeout n s
  | .strVerifyTimeout n => Sys2Proof.Machine.execStrVerifyTimeout n s
  | .preCoolEnd => Sys2Proof.Machine.execPreCoolEnd s
  | .digestCompare errG errS skewUs flagged ecc eccSide => Sys2Proof.Machine.execDigestCompare errG errS skewUs flagged ecc eccSide s
  | .digestTimeout servitor => Sys2Proof.Machine.execDigestTimeout servitor s
  | .exchangeLate servitor => Sys2Proof.Machine.execExchangeLate servitor s
  | .backstopExpiry => Sys2Proof.Machine.execBackstopExpiry s
  | .backstopDisarm => Sys2Proof.Machine.execBackstopDisarm s
  | .splitPair => Sys2Proof.Machine.execSplitPair s
  | .rejoin => Sys2Proof.Machine.execRejoin s
  | .rejoinReloadDone => Sys2Proof.Machine.execRejoinReloadDone s
  | .campGo code => Sys2Proof.Machine.execCampGo code s
  | .campaignDone clean detail => Sys2Proof.Machine.execCampaignDone clean detail s
  | .replayApply => Sys2Proof.Machine.execReplayApply s
  | .dsmLost chan => Sys2Proof.Machine.execDsmLost chan s
  | .hallRangeLost => Sys2Proof.Machine.execHallRangeLost s
  | .hallOpenTest moved => Sys2Proof.Machine.execHallOpenTest moved s
  | .sinFilterChange n chanB high => Sys2Proof.Machine.execSinFilterChange n chanB high s
  | .discrepancyTimeout n => Sys2Proof.Machine.execDiscrepancyTimeout n s
  | .tpoTestPulse tpoB => Sys2Proof.Machine.execTpoTestPulse tpoB s
  | .tpoPulseCheck tpoB before atEnd => Sys2Proof.Machine.execTpoPulseCheck tpoB before atEnd s
  | .tpoCurrentLimit tpoB => Sys2Proof.Machine.execTpoCurrentLimit tpoB s
  | .tpoRetry tpoB => Sys2Proof.Machine.execTpoRetry tpoB s
  | .offPulse ls k => Sys2Proof.Machine.execOffPulse ls k s
  | .offPulseReadback ls k stayedOn => Sys2Proof.Machine.execOffPulseReadback ls k stayedOn s
  | .coilReadbackFault ls k on => Sys2Proof.Machine.execCoilReadbackFault ls k on s
  | .coilTestfailClear ls k => Sys2Proof.Machine.execCoilTestfailClear ls k s
  | .proofIntervalExpired n => Sys2Proof.Machine.execProofIntervalExpired n s
  | .proofGraceExpired n => Sys2Proof.Machine.execProofGraceExpired n s
  | .safeFrameArrival medium ident port fd sumOk data => Sys2Proof.Machine.execSafeFrameArrival medium ident port fd sumOk data s
  | .connectFrameTimer n => Sys2Proof.Machine.execConnectFrameTimer n s
  | .sflWatchdogExpiry n => Sys2Proof.Machine.execSflWatchdogExpiry n s
  | .inPinEdge j high => Sys2Proof.Machine.execInPinEdge j high s
  | .generatorEdge g on start => Sys2Proof.Machine.execGeneratorEdge g on start s
  | .chanOn n on => Sys2Proof.Machine.execChanOn n on s
  | .chanClr n => Sys2Proof.Machine.execChanClr n s
  | .swWd key => Sys2Proof.Machine.execSwWd key s
  | .swWdExpiry => Sys2Proof.Machine.execSwWdExpiry s
  | .swGenWrite g phase v => Sys2Proof.Machine.execSwGenWrite g phase v s
  | .currentLimiting n cur => Sys2Proof.Machine.execCurrentLimiting n cur s
  | .shedTimer cur long => Sys2Proof.Machine.execShedTimer cur long s
  | .thermalLatchSet n dt tj => Sys2Proof.Machine.execThermalLatchSet n dt tj s
  | .thermalLatchClear n dt tj => Sys2Proof.Machine.execThermalLatchClear n dt tj s
  | .retryWindowExpiry n => Sys2Proof.Machine.execRetryWindowExpiry n s
  | .caseOvertemp dieL t => Sys2Proof.Machine.execCaseOvertemp dieL t s
  | .offStateCheck n step1 step2 other1 other2 => Sys2Proof.Machine.execOffStateCheck n step1 step2 other1 other2 s
  | .freewheelCheck n reading => Sys2Proof.Machine.execFreewheelCheck n reading s
  | .ringTail ring tail => Sys2Proof.Machine.execRingTail ring tail s
  | .ringEnable ring on intEn => Sys2Proof.Machine.execRingEnable ring on intEn s
  | .ringStop ring ctls => Sys2Proof.Machine.execRingStop ring ctls s
  | .ringDmaError ring kind addr => Sys2Proof.Machine.execRingDmaError ring kind addr s
  | .ringNop ring ctl => Sys2Proof.Machine.execRingNop ring ctl s
  | .nodeRead ring ctl chain hop addr count => Sys2Proof.Machine.execNodeRead ring ctl chain hop addr count s
  | .nodeWrite ring ctl chain hop addr count words => Sys2Proof.Machine.execNodeWrite ring ctl chain hop addr count words s
  | .nodeCommandTimeout ring => Sys2Proof.Machine.execNodeCommandTimeout ring s
  | .timeAnchor ring ctl utc nanos quality => Sys2Proof.Machine.execTimeAnchor ring ctl utc nanos quality s
  | .publicationAngle us => Sys2Proof.Machine.execPublicationAngle us s
  | .publicationComplete us => Sys2Proof.Machine.execPublicationComplete us s
  | .publicationAbort bytes us => Sys2Proof.Machine.execPublicationAbort bytes us s
  | .eventRingCopy ring ctl => Sys2Proof.Machine.execEventRingCopy ring ctl s
  | .bulkRead ring ctl dest len space off ecc => Sys2Proof.Machine.execBulkRead ring ctl dest len space off ecc s
  | .imageChunk ring ctl addr len last data fail => Sys2Proof.Machine.execImageChunk ring ctl addr len last data fail s
  | .msiXHoldoffEnd ring => Sys2Proof.Machine.execMsiXHoldoffEnd ring s
  | .hostIcause clear same => Sys2Proof.Machine.execHostIcause clear same s
  | .hostImask v => Sys2Proof.Machine.execHostImask v s
  | .perstN rise => Sys2Proof.Machine.execPerstN rise s
  | .functionLevelReset => Sys2Proof.Machine.execFunctionLevelReset s
  | .pcieLinkChange link master => Sys2Proof.Machine.execPcieLinkChange link master s
  | .macFrameRx medium ident fd brs data => Sys2Proof.Machine.execMacFrameRx medium ident fd brs data s
  | .eventRecord code source params ok => Sys2Proof.Machine.execEventRecord code source params ok s
  | .queuedEventWrite ok => Sys2Proof.Machine.execQueuedEventWrite ok s
  | .logClear => Sys2Proof.Machine.execLogClear s
  | .logRdIdx slot => Sys2Proof.Machine.execLogRdIdx slot s
  | .logHeadSeq => Sys2Proof.Machine.execLogHeadSeq s
  | .pwrOptimeLo => Sys2Proof.Machine.execPwrOptimeLo s
  | .angNowAu au => Sys2Proof.Machine.execAngNowAu au s
  | .pairRetireLo => Sys2Proof.Machine.execPairRetireLo s
  | .snapIn sinceUs => Sys2Proof.Machine.execSnapIn sinceUs s
  | .trigSnap => Sys2Proof.Machine.execTrigSnap s
  | .snapOutEnd => Sys2Proof.Machine.execSnapOutEnd s
  | .ackFirst => Sys2Proof.Machine.execAckFirst s
  | .relSlot mask => Sys2Proof.Machine.execRelSlot mask s
  | .claimPort => Sys2Proof.Machine.execClaimPort s
  | .releasePort => Sys2Proof.Machine.execReleasePort s
  | .tapReset => Sys2Proof.Machine.execTapReset s
  | .unlockPort => Sys2Proof.Machine.execUnlockPort s
  | .lockPort => Sys2Proof.Machine.execLockPort s
  | .haltGaffer tap => Sys2Proof.Machine.execHaltGaffer tap s
  | .resumeGaffer tap => Sys2Proof.Machine.execResumeGaffer tap s
  | .stepGaffer tap => Sys2Proof.Machine.execStepGaffer tap s
  | .readMemory tap addr => Sys2Proof.Machine.execReadMemory tap addr s
  | .writeMemory tap addr data => Sys2Proof.Machine.execWriteMemory tap addr data s
  | .readRegister tap addr => Sys2Proof.Machine.execReadRegister tap addr s
  | .writeRegister tap addr data => Sys2Proof.Machine.execWriteRegister tap addr data s
  | .setBreakpoint tap addr => Sys2Proof.Machine.execSetBreakpoint tap addr s
  | .clearBreakpoint tap addr => Sys2Proof.Machine.execClearBreakpoint tap addr s
  | .registerWrite addr be data => Sys2Proof.Machine.execRegisterWrite addr be data s
  | .breakMark c p => Sys2Proof.Machine.execBreakMark c p s
  | .channelValidAgain chan => Sys2Proof.Machine.execChannelValidAgain chan s
  | .nodePowerLoss c p => Sys2Proof.Machine.execNodePowerLoss c p s
  | .overloadEnd n => Sys2Proof.Machine.execOverloadEnd n s
  | .dieTemperatureMeasurement c p t => Sys2Proof.Machine.execDieTemperatureMeasurement c p t s
  | .ethLinkChange eth1 up speed => Sys2Proof.Machine.execEthLinkChange eth1 up speed s
  | .canBusOff can1 off => Sys2Proof.Machine.execCanBusOff can1 off s

end Sys2Proof.Machine
end

