-- ==== Sys2Proof/Machine/Tick.lean ====
section
/-! DEFINITION. What passes by itself in one millisecond while no command waits: operating time, the staging queue, and the free-running angle. -/

namespace Sys2Proof.Machine

/-- A step 8 whose last region has been excluded goes on (R36). -/
def State.step8Ms (s : State) : State :=
  match s.sop.step with
  | none => s
  | some n => if s.est.busy = 0#8 then s.step8 n 0 196608 else s

/-- One millisecond without a command. Operating time counts while the main domain is powered (R97), modulo 2^48. (DESIGN CHOICE, log 5) (DESIGN CHOICE, log 104) -/
def tick (s : State) : State :=
  if s.pwr.mainOn then ({ s with pwr := { s.pwr with optime := (s.pwr.optime + 1) % 2 ^ 48 } }).angleMs.drain.regainMs.saveMs.step8Ms else s

end Sys2Proof.Machine
end

