-- ==== Sys2Proof/Machine/Step.lean ====
section
/-! DEFINITION. One step: the command at the front of the queue, or a millisecond without one. -/

namespace Sys2Proof.Machine

/-- Takes the front of the queue and runs it on the state with the rest of the queue; with an empty queue a millisecond passes. (DESIGN CHOICE, log 1) (DESIGN CHOICE, log 4) (DEDUCED, log 94) -/
def step (s : State) : Host.Outcome State Fault Refusal :=
  match s.pending with
  | [] => finish s (tick s)
  | c :: q => exec c { s with pending := q }

/-- The state with the command that a word spells put at the front of the queue; unchanged where it spells none. (DESIGN CHOICE, log 4) -/
def State.withFetchWord (s : State) (nbits w : Nat) : State :=
  match decodeTableWord nbits w with
  | none => s
  | some c => { s with pending := c :: s.pending }

end Sys2Proof.Machine
end

