-- ==== Sys2Proof/Safety.lean ====
section
/-! DEFINITION. The terms of the statements: a command that completes, what it may change, and the canonical form of the state. -/

namespace Sys2Proof

open Sys2Proof.Machine

/-- The outcome is a next state, and the next state has the property. -/
def Gives (o : Host.Outcome Machine.State Machine.Fault Machine.Refusal) (P : Machine.State → Prop) : Prop := ∃ t, o = .next t ∧ P t

/-- Bit `i` of the register word at address `a` belongs to the field. -/
def Machine.Fld.has (f : Machine.Fld) (a i : Nat) : Bool := f.addr == a && decide (f.lo ≤ i) && decide (i < f.lo + f.w)

/-- No bit of a register changes outside the fields named. -/
def FieldsBut (s t : Machine.State) (fs : List Machine.Fld) : Prop :=
  ∀ a i, (∀ f ∈ fs, f.has a i = false) → (t.word a).getLsbD i = (s.word a).getLsbD i

/-- No register changes outside the address ranges named (first address, one past the last). -/
def RegsBut (s t : Machine.State) (rs : List (Nat × Nat)) : Prop :=
  ∀ a, (∀ r ∈ rs, a < r.1 ∨ r.2 ≤ a) → t.word a = s.word a

/-- The event recorder takes these events and nothing else: code, source and parameters. -/
def Logs (s t : Machine.State) (l : List (Nat × Nat × List Machine.Par)) : Prop :=
  t.log = (l.foldl (fun s e => s.report e.1 e.2.1 e.2.2) s).log

/-- The register file is in its canonical form. -/
def Machine.State.regsWf (s : Machine.State) : Bool := Sparse.wf resetWord s.regs

/-- The commands that do not depend on the main domain: the supply and wake inputs, PERST_N, and what happens at a companion node, which
has its own supply. (DESIGN CHOICE, log 6) -/
def Instr.worksUnpowered : Instr → Bool
  | .vbusStart => true
  | .powerLoss => true
  | .wakeInEdge .. => true
  | .wakeToneDetected .. => true
  | .wakeTimerExpiry => true
  | .latchedWake => true
  | .perstN .. => true
  | .sweepFrame .. => true
  | .balanceGate .. => true
  | .conversion .. => true
  | .dataBuild .. => true
  | .collectFrame .. => true
  | .collectSeg .. => true
  | .enumFrame .. => true
  | .assignNode .. => true
  | .echoFrame .. => true
  | .readReg .. => true
  | .writeReg .. => true
  | .balSet .. => true
  | .ctrSet .. => true
  | .selftest .. => true
  | .selftestDone .. => true
  | .sleepFrame .. => true
  | .clearNode .. => true
  | .commTimeout .. => true
  | .tokenTimeout .. => true
  | .secondaryFlag .. => true
  | .sleepCheck .. => true
  | .nodeWakeTone .. => true
  | .nodeSleepReturn .. => true
  | .breakMark .. => true
  | .nodePowerLoss .. => true
  | .dieTemperatureMeasurement .. => true
  | _ => false

/-- The memories are in their canonical form: the NOR, the state memory on CS1, the Exchange RAM, the stores' words, the log slots. -/
def Machine.State.memoriesWf (s : Machine.State) : Bool :=
  Sparse.wf erased s.img.nor && Sparse.wf erased s.est.cs1 && Sparse.wf zeroW s.host.xram && Sparse.wf zeroWord s.sto.words && Sparse.wf blankRec s.log.slots

/-- Only registers change, and with them the log, the interrupt-cause bookkeeping and the outputs' record. -/
def RegsOnly (s t : Machine.State) : Prop :=
  t = { s with regs := t.regs, log := t.log, host := { s.host with icause := t.host.icause, pba := t.host.pba }, out := t.out }

/-- No node changes but the one with this key, and nothing else of the state but what the chip sends. -/
def NodeOnly (s t : Machine.State) (k : Nat) : Prop :=
  (∀ j, j ≠ k → Sparse.get blankNode t.nodes j = Sparse.get blankNode s.nodes j) ∧ t = { s with nodes := t.nodes, out := t.out }

/-- A tag holds a transaction in flight; a tag is in quarantine. -/
def Machine.TagState.isBusy : Machine.TagState → Bool
  | .busy _ => true
  | _ => false
def Machine.TagState.isQuarantine : Machine.TagState → Bool
  | .quarantine _ => true
  | _ => false

/-- A node is known at this place, has supply and is awake. -/
def Machine.State.nodeUp (s : Machine.State) (c p : Nat) : Bool :=
  (s.node c p).typ != 0 && (s.node c p).powered && !(s.node c p).asleep

/-- Something has left on an end of a chain: port 0 OUT, 1 RET. -/
def Machine.State.linkOut (s : Machine.State) (c p : Nat) : Bool :=
  s.out.any (fun o => match o with | .link a b _ _ => a == c && b == p | _ => false)

/-- No chain's own record changes but that of chain `c`, and no node. -/
def ChainOnly (s t : Machine.State) (c : Nat) : Prop :=
  (∀ j, j ≠ c → Sparse.get blankChain t.chains j = Sparse.get blankChain s.chains j) ∧ t.nodes = s.nodes

/-- A register whose writes do more than its fields' kinds say: it has action bits, or a rule of its own (rings, causes and masks of the
host, MSI-X masks, set owners, channels, generators, the password, the wake interval, the log, the debug operation). -/
def ownRule (a : Nat) : Bool :=
  (actionsOf a).length != 0 || [0x1008, 0x29000, 0x29004, 0x27C00, 0x2A000, 0x2A080, 0x2D010].contains a
    || (decide (0x2050 ≤ a) && decide (a < 0x2070)) || (decide (0x20010 ≤ a) && decide (a < 0x20070))
    || (decide (0x27000 ≤ a) && decide (a < 0x27C00) && a % 128 == 4) || (decide (0x27C20 ≤ a) && decide (a < 0x27C60))
    || (decide (0x28000 ≤ a) && decide (a < 0x29000)) || (decide (0x29400 ≤ a) && decide (a < 0x29880) && a % 16 == 12)

/-- What a field holds after a host write of `v` over `old` (Table SCOPE-4), as the session stands. -/
def Machine.FieldSpec.written (f : Machine.FieldSpec) (session : Bool) (old v : Nat) : Nat :=
  match f.acc with
  | .rw => bitsOf v f.lo f.w
  | .rwp => if session then bitsOf v f.lo f.w else bitsOf old f.lo f.w
  | .w1c => bitsOf old f.lo f.w - (bitsOf old f.lo f.w &&& bitsOf v f.lo f.w)
  | _ => bitsOf old f.lo f.w

/-! Address ranges of the register blocks of Table SCOPE-5: first address, one past the last register. -/
def Blk.GLOBAL : Nat × Nat := (0x0, 0x2C)
def Blk.PWR : Nat × Nat := (0x1000, 0x1040)
def Blk.IMG : Nat × Nat := (0x2000, 0x2320)
def Blk.ANG : Nat × Nat := (0x3000, 0x3024)
def Blk.SWP : Nat × Nat := (0x4000, 0x4114)
def Blk.STO : Nat × Nat := (0x20000, 0x200C4)
def Blk.EST : Nat × Nat := (0x21000, 0x210D0)
def Blk.SOP : Nat × Nat := (0x22000, 0x22080)
def Blk.DSC : Nat × Nat := (0x23000, 0x230B4)
def Blk.CTR : Nat × Nat := (0x23100, 0x231A0)
def Blk.PAIR : Nat × Nat := (0x24000, 0x24050)
def Blk.SIO : Nat × Nat := (0x25000, 0x25058)
def Blk.SFL : Nat × Nat := (0x26000, 0x26300)
def Blk.SW : Nat × Nat := (0x27000, 0x27C60)
def Blk.RING : Nat × Nat := (0x28000, 0x28FEC)
def Blk.HOST : Nat × Nat := (0x29000, 0x29050)
def Blk.MSIX : Nat × Nat := (0x29400, 0x29C0C)
def Blk.LOG : Nat × Nat := (0x2A000, 0x2A0C0)
def Blk.DIAG : Nat × Nat := (0x2B000, 0x2C000)
def Blk.DIAGX : Nat × Nat := (0x2D000, 0x2D020)
def Blk.MAC : Nat × Nat := (0x2C000, 0x2C040)
def Blk.TRACE : Nat × Nat := (0x2E000, 0x32000)
def Blk.LNKALL : Nat × Nat := (0x10000, 0x20000)
/-- The registers of one link controller. -/
def Blk.LNK (c : Nat) : Nat × Nat := (0x10000 + 0x400 * c, 0x10000 + 0x400 * c + 0x400)

end Sys2Proof
end

