-- ==== Sys2Proof/Certificates/Slice0/Obligations.lean ====
section
/-! DEFINITION. The statements for the provers. -/

open Sys2Proof Sys2Proof.Machine

/-- Starts of an unpowered main domain: cause, power-cycle count, operating time, stage 0. VBUS_START without the always-on domain is a power-on: cause 0; the power-cycle count is that of the copy plus 1 and is copied, operating time is that of the copy. With the always-on domain it is a brown-out recovery: cause 1, the held count plus 1. A module that runs ignores it. In sleep, a rise of WAKE_IN that was low for 10 ms or longer (R81), a tone on an armed chain and the wake timer start the module with cause 5, their wake source (1, 2, 3), chain and port, and the count plus 1; where an event is latched, they and LATCHED_WAKE do so with the latched event. Each such start enters stage 0, drives WAKE_OUT, leaves the nodes as they are, loads no image and puts TPO_A and TPO_B on. That VBUS_START in sleep starts the module is the model's choice (log entry 19). A rise after a shorter low and a fall only show their level. A wake event outside sleep and outside the sleep sequence has no effect; one within the sequence is latched once (R116). Readings that are the model's own, and no rule of the manual: log entries 2, 18, 19, 102, 104 and 105. -/
def Obligations.SupplyStarts : Prop :=
  (∀ (s : State), (s.pwr.mainOn = false) →
      (s.pwr.alwaysOn = false) →
      Gives (exec (.vbusStart) s) fun t =>
        t.pwr.alwaysOn = true ∧
        t.pwr.mainOn = true ∧
        t.pwr.optime = s.pwr.optimeCopy ∧
        t.pwr.cycles = (s.pwr.cyclesCopy + 1) % 2 ^ 24 ∧
        t.pwr.cyclesCopy = t.pwr.cycles ∧
        t.get R.GLOBAL_RESET_CAUSE_CAUSE = 0 ∧
        t.get R.GLOBAL_STAGE_STAGE = 0 ∧
        t.pwr.wakeOut = true ∧
        t.pwr.dbgDue = true ∧
        t.get R.SIO_TPO_TPO_A_ON = 1 ∧
        t.get R.SIO_TPO_TPO_B_ON = 1 ∧
        t.img.loaded = false ∧
        t.nodes = s.nodes ∧
        t.img.nor = s.img.nor ∧
        t.est.cs1 = s.est.cs1) ∧
  (∀ (s : State), (s.pwr.mainOn = false) →
      (s.pwr.alwaysOn = true) →
      Gives (exec (.vbusStart) s) fun t =>
        t.pwr.mainOn = true ∧
        t.pwr.optime = s.pwr.optime ∧
        t.pwr.cycles = (s.pwr.cycles + 1) % 2 ^ 24 ∧
        t.pwr.cyclesCopy = t.pwr.cycles ∧
        t.get R.GLOBAL_RESET_CAUSE_CAUSE = 1 ∧
        t.get R.GLOBAL_STAGE_STAGE = 0 ∧
        t.pwr.dbgDue = s.pwr.dbgDue ∧
        t.nodes = s.nodes) ∧
  (∀ (s : State), (s.pwr.mainOn = true) →
      Gives (exec (.vbusStart) s) fun t =>
        t = s) ∧
  (∀ (s : State) (d : BitVec 16), (s.pwr.asleep = true) →
      (s.pwr.latchedWake = none) →
      (s.get R.PWR_STAT_WAKE_IN = 0) →
      (10 ≤ d.toNat) →
      Gives (exec (.wakeInEdge (some d)) s) fun t =>
        t.pwr.mainOn = true ∧
        t.pwr.asleep = false ∧
        t.pwr.cycles = (s.pwr.cycles + 1) % 2 ^ 24 ∧
        t.get R.GLOBAL_RESET_CAUSE_CAUSE = 5 ∧
        t.get R.GLOBAL_RESET_CAUSE_WAKE_SRC = 1 ∧
        t.get R.GLOBAL_STAGE_STAGE = 0 ∧
        t.get R.PWR_STAT_WAKE_IN = 1 ∧
        t.nodes = s.nodes) ∧
  (∀ (s : State) (e : Option (BitVec 16)), (s.pwr.asleep = true) →
      (e = none ∨ s.get R.PWR_STAT_WAKE_IN = 1 ∨ (e.getD 0#16).toNat < 10) →
      Gives (exec (.wakeInEdge e) s) fun t =>
        t.get R.PWR_STAT_WAKE_IN = b2n e.isSome ∧
        FieldsBut s t [R.PWR_STAT_WAKE_IN] ∧
        t = { s with regs := t.regs }) ∧
  (∀ (s : State) (e : WakeEvent) (d : BitVec 16), (s.pwr.asleep = true) →
      (s.pwr.latchedWake = some e) →
      (e.src < 4) →
      (e.chain < 64) →
      (e.port < 2) →
      (s.get R.PWR_STAT_WAKE_IN = 0) →
      (10 ≤ d.toNat) →
      Gives (exec (.wakeInEdge (some d)) s) fun t =>
        t.pwr.mainOn = true ∧
        t.pwr.latchedWake = none ∧
        t.get R.GLOBAL_RESET_CAUSE_CAUSE = 5 ∧
        t.get R.GLOBAL_RESET_CAUSE_WAKE_SRC = e.src ∧
        t.get R.GLOBAL_RESET_CAUSE_TONE_CHAIN = e.chain ∧
        t.get R.GLOBAL_RESET_CAUSE_TONE_PORT = e.port) ∧
  (∀ (s : State) (e : Option (BitVec 16)), (s.pwr.asleep = false) →
      (s.pwr.mainOn = true → s.get R.PWR_STAT_SLEEP_PENDING = 0) →
      Gives (exec (.wakeInEdge e) s) fun t =>
        t.get R.PWR_STAT_WAKE_IN = b2n e.isSome ∧
        FieldsBut s t [R.PWR_STAT_WAKE_IN] ∧
        t = { s with regs := t.regs }) ∧
  (∀ (s : State) (e : Option (BitVec 16)), (s.pwr.asleep = false) →
      (s.pwr.mainOn = true) →
      (s.get R.PWR_STAT_SLEEP_PENDING = 1) →
      (s.pwr.latchedWake = none) →
      Gives (exec (.wakeInEdge e) s) fun t =>
        t.get R.PWR_STAT_WAKE_IN = b2n e.isSome ∧
        t.pwr.latchedWake = (if e.isSome && s.get R.PWR_STAT_WAKE_IN == 0 && decide (10 ≤ (e.getD 0#16).toNat) then some { src := 1 } else none) ∧
        FieldsBut s t [R.PWR_STAT_WAKE_IN] ∧
        t = { s with regs := t.regs, pwr := { s.pwr with latchedWake := t.pwr.latchedWake } }) ∧
  (∀ (s : State) (c : Fin 64) (ret : Bool), (s.pwr.asleep = true) →
      (s.pwr.latchedWake = none) →
      (s.pwr.tones.getLsbD c.val = true) →
      Gives (exec (.wakeToneDetected c ret) s) fun t =>
        t.pwr.mainOn = true ∧
        t.pwr.cycles = (s.pwr.cycles + 1) % 2 ^ 24 ∧
        t.get R.GLOBAL_RESET_CAUSE_CAUSE = 5 ∧
        t.get R.GLOBAL_RESET_CAUSE_WAKE_SRC = 2 ∧
        t.get R.GLOBAL_RESET_CAUSE_TONE_CHAIN = c.val ∧
        t.get R.GLOBAL_RESET_CAUSE_TONE_PORT = b2n ret ∧
        t.nodes = s.nodes) ∧
  (∀ (s : State) (c : Fin 64) (ret : Bool), (s.pwr.asleep = true) →
      (s.pwr.tones.getLsbD c.val = false) →
      Gives (exec (.wakeToneDetected c ret) s) fun t =>
        t = s) ∧
  (∀ (s : State), (s.pwr.asleep = true) →
      (s.pwr.latchedWake = none) →
      (s.pwr.timer ≠ 0) →
      Gives (exec (.wakeTimerExpiry) s) fun t =>
        t.pwr.mainOn = true ∧
        t.pwr.cycles = (s.pwr.cycles + 1) % 2 ^ 24 ∧
        t.get R.GLOBAL_RESET_CAUSE_CAUSE = 5 ∧
        t.get R.GLOBAL_RESET_CAUSE_WAKE_SRC = 3 ∧
        t.nodes = s.nodes) ∧
  (∀ (s : State), (s.pwr.asleep = true → s.pwr.timer = 0) →
      Gives (exec (.wakeTimerExpiry) s) fun t =>
        t = s) ∧
  (∀ (s : State) (e : WakeEvent), (s.pwr.asleep = true) →
      (s.pwr.latchedWake = some e) →
      (e.src < 4) →
      (e.chain < 64) →
      (e.port < 2) →
      Gives (exec (.latchedWake) s) fun t =>
        t.pwr.mainOn = true ∧
        t.pwr.latchedWake = none ∧
        t.get R.GLOBAL_RESET_CAUSE_CAUSE = 5 ∧
        t.get R.GLOBAL_RESET_CAUSE_WAKE_SRC = e.src ∧
        t.get R.GLOBAL_RESET_CAUSE_TONE_CHAIN = e.chain ∧
        t.get R.GLOBAL_RESET_CAUSE_TONE_PORT = e.port) ∧
  (∀ (s : State), (s.pwr.asleep = false ∨ s.pwr.latchedWake = none) →
      Gives (exec (.latchedWake) s) fun t =>
        t = s)

/-- Low and high supply only warn. In a powered main domain, VBUS_LOW and VBUS_HIGH put the measured VBUS into PWR_VBUS. VBUS below 36 V for 10 ms sets the low-supply bit with 0x0103, at 36.5 V or above for 10 ms it clears with 0x0105; above 75 V for 10 ms the high-supply bit sets with 0x0104, at 74.5 V or below for 10 ms it clears with 0x0105; between its two thresholds, or before the 10 ms, a bit stays and nothing is logged (Table PWR-2). Nothing else of the state changes but which millisecond the measurement belongs to: not the stage, the safety state or any output. -/
def Obligations.SupplyWarnings : Prop :=
  (∀ (s : State) (ms v : BitVec 16), (s.pwr.mainOn = true) →
      (s.getB R.PWR_STAT_VBUS_LOW = false) →
      (v.toNat < 3600) →
      (10 ≤ ms.toNat) →
      Gives (exec (.vbusLow ms v) s) fun t =>
        t.get R.PWR_STAT_VBUS_LOW = 1 ∧
        t.get R.PWR_VBUS_VBUS = v.toNat ∧
        Logs s t [(0x0103, chip, [pS v.toNat])] ∧
        FieldsBut s t [R.PWR_STAT_VBUS_LOW, R.PWR_VBUS_VBUS] ∧
        RegsOnly { s with pwr := { s.pwr with supplyAt := t.pwr.supplyAt } } t) ∧
  (∀ (s : State) (ms v : BitVec 16), (s.pwr.mainOn = true) →
      (s.getB R.PWR_STAT_VBUS_LOW = true) →
      (3650 ≤ v.toNat) →
      (10 ≤ ms.toNat) →
      Gives (exec (.vbusLow ms v) s) fun t =>
        t.get R.PWR_STAT_VBUS_LOW = 0 ∧
        t.get R.PWR_VBUS_VBUS = v.toNat ∧
        Logs s t [(0x0105, chip, [p1 0, pS v.toNat])] ∧
        FieldsBut s t [R.PWR_STAT_VBUS_LOW, R.PWR_VBUS_VBUS] ∧
        RegsOnly { s with pwr := { s.pwr with supplyAt := t.pwr.supplyAt } } t) ∧
  (∀ (s : State) (ms v : BitVec 16), (s.pwr.mainOn = true) →
      (ms.toNat < 10 ∨ (s.getB R.PWR_STAT_VBUS_LOW = false ∧ ¬ v.toNat < 3600) ∨ (s.getB R.PWR_STAT_VBUS_LOW = true ∧ ¬ 3650 ≤ v.toNat)) →
      Gives (exec (.vbusLow ms v) s) fun t =>
        t.get R.PWR_VBUS_VBUS = v.toNat ∧
        FieldsBut s t [R.PWR_VBUS_VBUS] ∧
        t = { s with regs := t.regs, pwr := { s.pwr with supplyAt := t.pwr.supplyAt } }) ∧
  (∀ (s : State) (ms v : BitVec 16), (s.pwr.mainOn = true) →
      (s.getB R.PWR_STAT_VBUS_HIGH = false) →
      (7500 < v.toNat) →
      (10 ≤ ms.toNat) →
      Gives (exec (.vbusHigh ms v) s) fun t =>
        t.get R.PWR_STAT_VBUS_HIGH = 1 ∧
        t.get R.PWR_VBUS_VBUS = v.toNat ∧
        Logs s t [(0x0104, chip, [pS v.toNat])] ∧
        FieldsBut s t [R.PWR_STAT_VBUS_HIGH, R.PWR_VBUS_VBUS] ∧
        RegsOnly { s with pwr := { s.pwr with supplyAt := t.pwr.supplyAt } } t) ∧
  (∀ (s : State) (ms v : BitVec 16), (s.pwr.mainOn = true) →
      (s.getB R.PWR_STAT_VBUS_HIGH = true) →
      (v.toNat ≤ 7450) →
      (10 ≤ ms.toNat) →
      Gives (exec (.vbusHigh ms v) s) fun t =>
        t.get R.PWR_STAT_VBUS_HIGH = 0 ∧
        t.get R.PWR_VBUS_VBUS = v.toNat ∧
        Logs s t [(0x0105, chip, [p1 1, pS v.toNat])] ∧
        FieldsBut s t [R.PWR_STAT_VBUS_HIGH, R.PWR_VBUS_VBUS] ∧
        RegsOnly { s with pwr := { s.pwr with supplyAt := t.pwr.supplyAt } } t) ∧
  (∀ (s : State) (ms v : BitVec 16), (s.pwr.mainOn = true) →
      (ms.toNat < 10 ∨ (s.getB R.PWR_STAT_VBUS_HIGH = false ∧ ¬ 7500 < v.toNat) ∨ (s.getB R.PWR_STAT_VBUS_HIGH = true ∧ ¬ v.toNat ≤ 7450)) →
      Gives (exec (.vbusHigh ms v) s) fun t =>
        t.get R.PWR_VBUS_VBUS = v.toNat ∧
        FieldsBut s t [R.PWR_VBUS_VBUS] ∧
        t = { s with regs := t.regs, pwr := { s.pwr with supplyAt := t.pwr.supplyAt } })

/-- Brown-out, power loss, sleep entry and the copy of operating time. BROWN_OUT switches the main domain off, copies operating time and the power-cycle count to the log memory and leaves the always-on domain powered. POWER_LOSS ends both domains and keeps the copies. The end of the sleep sequence, while SLEEP_PENDING is set and steps 2 and 3 of Table PWR-5 have ended (no threshold write waits for its node, no save runs), switches the main domain off into sleep with the wake timer of PWR_WAKE armed; otherwise it has no effect. OPTIME_COPY copies operating time alone. The main domain off means VOUT33 off and WAKE_OUT released. None of them changes a node, the NOR or CS1. Readings that are the model's own, and no rule of the manual: log entry 20. -/
def Obligations.SupplyEnds : Prop :=
  (∀ (s : State), (s.pwr.mainOn = true) →
      Gives (exec (.brownOut) s) fun t =>
        t.pwr.mainOn = false ∧
        t.pwr.alwaysOn = s.pwr.alwaysOn ∧
        t.pwr.optime = s.pwr.optime ∧
        t.pwr.optimeCopy = s.pwr.optime ∧
        t.pwr.cyclesCopy = s.pwr.cycles ∧
        t.pwr.vout33 = false ∧
        t.pwr.wakeOut = false ∧
        t.pwr.asleep = false ∧
        t.img.loaded = false ∧
        t.nodes = s.nodes ∧
        t.img.nor = s.img.nor ∧
        t.est.cs1 = s.est.cs1) ∧
  (∀ (s : State), Gives (exec (.powerLoss) s) fun t =>
        t.pwr.mainOn = false ∧
        t.pwr.alwaysOn = false ∧
        t.pwr.asleep = false ∧
        t.pwr.optimeCopy = s.pwr.optimeCopy ∧
        t.pwr.cyclesCopy = s.pwr.cyclesCopy ∧
        t.nodes = s.nodes ∧
        t.img.nor = s.img.nor ∧
        t.est.cs1 = s.est.cs1) ∧
  (∀ (s : State), (s.pwr.mainOn = true) →
      (s.get R.PWR_STAT_SLEEP_PENDING = 1) →
      (s.sleepReady = true) →
      Gives (exec (.sleepSequenceDone) s) fun t =>
        t.pwr.mainOn = false ∧
        t.pwr.asleep = true ∧
        t.pwr.timer = s.get R.PWR_WAKE_WAKE_MIN ∧
        t.pwr.optimeCopy = s.pwr.optime ∧
        t.pwr.latchedWake = s.pwr.latchedWake ∧
        t.pwr.vout33 = false ∧
        t.nodes = s.nodes ∧
        t.img.nor = s.img.nor ∧
        t.est.cs1 = s.est.cs1) ∧
  (∀ (s : State), (s.pwr.mainOn = true) →
      (s.get R.PWR_STAT_SLEEP_PENDING = 0 ∨ s.sleepReady = false) →
      Gives (exec (.sleepSequenceDone) s) fun t =>
        t = s) ∧
  (∀ (s : State), (s.pwr.mainOn = true) →
      Gives (exec (.optimeCopy) s) fun t =>
        t = { s with pwr := { s.pwr with optimeCopy := s.pwr.optime } })

/-- A stage is entered when its guarantees hold, records its time, and logs 0x0102 when late. STAGE_n_ENTRY, n = 1 to 3, where the stage before it holds and every guarantee of Table PWR-3 is met: STAGE becomes n (stage 3 goes on to 4 at once where the PCIe link, bus mastering and PERST_N allow it), PWR_STAGE_Tn holds the time of entry in 10 us units. Entry to stage 2 arms both limit paths and requests the deadline check. Where a guarantee is missing the command has no effect: no stage is skipped. Readings that are the model's own, and no rule of the manual: log entries 18 and 106. -/
def Obligations.StageEntries : Prop :=
  (∀ (s : State) (t0 : BitVec 24), (s.pwr.mainOn = true) →
      (s.ready1 = true) →
      Gives (exec (.stage1Entry t0) s) fun t =>
        t.get R.GLOBAL_STAGE_STAGE = 1 ∧
        t.get (R.PWR_STAGE_T_T 0) = t0.toNat ∧
        t.swp.nextEpoch = 0#32 ∧
        t.ang.cycle = 0#32 ∧
        t.ang.au = 0 ∧
        t.chains = s.chains ∧
        t.nodes = s.nodes ∧
        t.img = s.img ∧
        Logs s t (if 45000 < t0.toNat then [(0x0102, chip, [p1 1, pS (t0.toNat / 100 : Nat)])] else [])) ∧
  (∀ (s : State) (t0 : BitVec 24), (s.pwr.mainOn = true) →
      (s.ready1 = false) →
      Gives (exec (.stage1Entry t0) s) fun t =>
        t = s) ∧
  (∀ (s : State) (t0 : BitVec 24), (s.pwr.mainOn = true) →
      (s.ready2 = true) →
      Gives (exec (.stage2Entry t0) s) fun t =>
        t.get R.GLOBAL_STAGE_STAGE = 2 ∧
        t.get (R.PWR_STAGE_T_T 1) = t0.toNat ∧
        t.get R.SWP_STAT_ARMED_A = 1 ∧
        t.get R.SWP_STAT_ARMED_B = 1 ∧
        t.swp.persist = [] ∧
        t.get R.IMG_CHECK_BUSY = 1 ∧
        t.img.checks = s.img.checks ++ [1] ∧
        t.nodes = s.nodes ∧
        Logs s t (if 70000 < t0.toNat then [(0x0102, chip, [p1 2, pS (t0.toNat / 100 : Nat)])] else [])) ∧
  (∀ (s : State) (t0 : BitVec 24), (s.pwr.mainOn = true) →
      (s.ready2 = false) →
      Gives (exec (.stage2Entry t0) s) fun t =>
        t = s) ∧
  (∀ (s : State) (t0 : BitVec 24), (s.pwr.mainOn = true) →
      (s.ready3 = true) →
      Gives (exec (.stage3Entry t0) s) fun t =>
        t.get R.GLOBAL_STAGE_STAGE = (if s.host.linkUp && s.host.busMaster && s.host.perstHigh then 4 else 3) ∧
        t.get (R.PWR_STAGE_T_T 2) = t0.toNat ∧
        t.est.nextSave = s.pwr.optime + 60000 ∧
        t.nodes = s.nodes ∧
        t.img = s.img) ∧
  (∀ (s : State) (t0 : BitVec 24), (s.pwr.mainOn = true) →
      (s.ready3 = false) →
      Gives (exec (.stage3Entry t0) s) fun t =>
        t = s)

/-- RESET_N, the stuck rule and the host restart: causes of Table PWR-15, and what they keep. RESET_N low resets a running module to stage 0 with cause 3 and holds it there; release starts it with cause 3; the stuck rule starts a held module with cause 2, sets STUCK_RESET_IGNORED and puts 0x0106 into the recorder; once STUCK_RESET_IGNORED is set a low level has no effect until STUCK_RESET_CLEAR. A host restart is taken in SAFE with all contactors proven open inside a password session, with cause 4; inside a session otherwise it is refused with 0x0107 and the safety state. None of these starts changes the power-cycle count or operating time (R96, R97), a node, the NOR or CS1. The order in which the drained records and the reset fall is the model's (log entry 19). Readings that are the model's own, and no rule of the manual: log entry 19. -/
def Obligations.ResetsAndRestart : Prop :=
  (∀ (s : State), (s.pwr.mainOn = true) →
      (s.get R.GLOBAL_RESET_CAUSE_STUCK_RESET_IGNORED = 0) →
      Gives (exec (.resetNLow) s) fun t =>
        t.get R.GLOBAL_STAGE_STAGE = 0 ∧
        t.pwr.held = true ∧
        t.pwr.mainOn = true ∧
        t.get R.GLOBAL_RESET_CAUSE_CAUSE = 3 ∧
        t.pwr.cycles = s.pwr.cycles ∧
        t.pwr.optime = s.pwr.optime ∧
        t.nodes = s.nodes ∧
        t.img.nor = s.img.nor ∧
        t.est.cs1 = s.est.cs1 ∧
        t.img.loaded = false) ∧
  (∀ (s : State), (s.pwr.mainOn = true) →
      (s.get R.GLOBAL_RESET_CAUSE_STUCK_RESET_IGNORED = 1) →
      Gives (exec (.resetNLow) s) fun t =>
        t = s) ∧
  (∀ (s : State), (s.pwr.mainOn = true) →
      (s.pwr.held = true) →
      Gives (exec (.resetNRelease) s) fun t =>
        t.get R.GLOBAL_STAGE_STAGE = 0 ∧
        t.pwr.held = false ∧
        t.pwr.wakeOut = true ∧
        t.get R.GLOBAL_RESET_CAUSE_CAUSE = 3 ∧
        t.pwr.cycles = s.pwr.cycles ∧
        t.pwr.refTime = s.pwr.optime ∧
        t.nodes = s.nodes) ∧
  (∀ (s : State), (s.pwr.mainOn = true) →
      (s.pwr.held = false) →
      Gives (exec (.resetNRelease) s) fun t =>
        t = s) ∧
  (∀ (s : State), (s.pwr.mainOn = true) →
      (s.pwr.held = true) →
      Gives (exec (.stuckReset) s) fun t =>
        t.get R.GLOBAL_STAGE_STAGE = 0 ∧
        t.pwr.held = false ∧
        t.get R.GLOBAL_RESET_CAUSE_CAUSE = 2 ∧
        t.get R.GLOBAL_RESET_CAUSE_STUCK_RESET_IGNORED = 1 ∧
        t.pwr.cycles = s.pwr.cycles ∧
        t.pwr.refTime = s.pwr.optime ∧
        t.nodes = s.nodes) ∧
  (∀ (s : State), (s.pwr.mainOn = true) →
      (s.pwr.held = false) →
      Gives (exec (.stuckReset) s) fun t =>
        t = s) ∧
  (∀ (s : State), (s.pwr.mainOn = true) →
      Gives (exec (.stuckResetClear) s) fun t =>
        t.get R.GLOBAL_RESET_CAUSE_STUCK_RESET_IGNORED = 0 ∧
        FieldsBut s t [R.GLOBAL_RESET_CAUSE_STUCK_RESET_IGNORED] ∧
        t = { s with regs := t.regs }) ∧
  (∀ (s : State), (s.pwr.mainOn = true) →
      (1 ≤ s.stage) →
      (s.host.perstHigh = true) →
      (s.session = true) →
      (s.safety = 0) →
      (s.provenOpen = true) →
      Gives (exec (.restartModule) s) fun t =>
        t.get R.GLOBAL_STAGE_STAGE = 0 ∧
        t.get R.GLOBAL_RESET_CAUSE_CAUSE = 4 ∧
        t.pwr.wakeOut = true ∧
        t.pwr.cycles = s.pwr.cycles ∧
        t.pwr.optime = s.pwr.optime ∧
        t.nodes = s.nodes ∧
        t.img.nor = s.img.nor ∧
        t.est.cs1 = s.est.cs1) ∧
  (∀ (s : State), (s.pwr.mainOn = true) →
      (1 ≤ s.stage) →
      (s.host.perstHigh = true) →
      (s.session = true) →
      ((s.safety = 0 ∧ s.provenOpen = true) → False) →
      Gives (exec (.restartModule) s) fun t =>
        Logs s t [(0x0107, chip, [p1 s.safety])] ∧
        FieldsBut s t [] ∧
        RegsOnly s.keepSession t)

/-- Sleep requests refused with their code, and the other commands of the supply block. SLEEP_REQ from stage 1 on, with no sequence running: refused with the first failing condition of R113 as SLEEP_REFUSE and 0x0108, and nothing else changes; accepted, SLEEP_PENDING is set. WAKE_PULSE drives WAKE_OUT from stage 1 on, WAKE_OUT_PULSE_END releases it. DBG_EN is sampled once in a power-on: high enters board-test mode with TPO_A and TPO_B off. VOUT33_RETRY updates PWR_VBUS and VOUT33_OK at 3.0 V and logs 0x0109 once, while the image read is due. Readings that are the model's own, and no rule of the manual: log entries 22 and 116. -/
def Obligations.SleepAndPulses : Prop :=
  (∀ (s : State), (s.pwr.mainOn = true) →
      (1 ≤ s.stage) →
      (s.host.perstHigh = true) →
      (s.get R.PWR_STAT_SLEEP_PENDING = 0) →
      (s.sleepRefusal ≠ 0) →
      Gives (exec (.sleepReq) s) fun t =>
        t.get R.PWR_STAT_SLEEP_REFUSE = s.sleepRefusal ∧
        Logs s t [(0x0108, chip, [p1 s.sleepRefusal])] ∧
        FieldsBut s t [R.PWR_STAT_SLEEP_REFUSE] ∧
        RegsOnly s t) ∧
  (∀ (s : State), (s.pwr.mainOn = true) →
      (1 ≤ s.stage) →
      (s.host.perstHigh = true) →
      (s.get R.PWR_STAT_SLEEP_PENDING = 0) →
      (s.sleepRefusal = 0) →
      Gives (exec (.sleepReq) s) fun t =>
        t.get R.PWR_STAT_SLEEP_PENDING = 1 ∧
        t.get R.PWR_STAT_SLEEP_REFUSE = s.get R.PWR_STAT_SLEEP_REFUSE ∧
        t.pwr.wakeOut = s.pwr.wakeOut ∧
        t.pwr.mainOn = true ∧
        t.img = s.img ∧
        t.nodes = s.nodes) ∧
  (∀ (s : State), (s.stage = 3) →
      (s.get R.DSC_STATE_STATE ≠ 0) →
      (s.sleepRefusal = 2)) ∧
  (∀ (s : State), (s.stage < 3) →
      (s.sleepRefusal = 1)) ∧
  (∀ (s : State), (s.pwr.mainOn = true) →
      (1 ≤ s.stage) →
      (s.host.perstHigh = true) →
      Gives (exec (.wakePulse) s) fun t =>
        t = { s with pwr := { s.pwr with wakeOut := true } }) ∧
  (∀ (s : State), (s.pwr.mainOn = true) →
      Gives (exec (.wakeOutPulseEnd) s) fun t =>
        t = { s with pwr := { s.pwr with wakeOut := false } }) ∧
  (∀ (s : State), (s.pwr.mainOn = true) →
      (s.pwr.dbgDue = true) →
      Gives (exec (.dbgEnSample true) s) fun t =>
        t.pwr = { s.pwr with dbgDue := false, boardTest := true } ∧
        t.get R.GLOBAL_STAGE_BOARD_TEST = 1 ∧
        t.get R.SIO_TPO_TPO_A_ON = 0 ∧
        t.get R.SIO_TPO_TPO_B_ON = 0) ∧
  (∀ (s : State), (s.pwr.mainOn = true) →
      (s.pwr.dbgDue = true) →
      Gives (exec (.dbgEnSample false) s) fun t =>
        t = { s with pwr := { s.pwr with dbgDue := false, boardTest := false } }) ∧
  (∀ (s : State) (h : Bool), (s.pwr.mainOn = true) →
      (s.pwr.dbgDue = false) →
      Gives (exec (.dbgEnSample h) s) fun t =>
        t = s) ∧
  (∀ (s : State) (mv : BitVec 16), (s.pwr.mainOn = true) →
      Gives (exec (.vout33Retry mv) s) fun t =>
        t.get R.PWR_VBUS_VOUT33 = mv.toNat ∧
        t.get R.PWR_STAT_VOUT33_OK = b2n (decide (3000 ≤ mv.toNat)) ∧
        FieldsBut s t [R.PWR_VBUS_VOUT33, R.PWR_STAT_VOUT33_OK] ∧
        RegsOnly { s with pwr := t.pwr } t ∧
        ((3000 ≤ mv.toNat → t.log = s.log ∧ t.pwr = { s.pwr with supplyAt := t.pwr.supplyAt }))) ∧
  (∀ (s : State) (mv : BitVec 16), (s.pwr.mainOn = true) →
      (mv.toNat < 3000) →
      (s.stage = 0) →
      (s.img.attempted = false) →
      (s.pwr.boardTest = false) →
      (s.pwr.held = false) →
      (s.pwr.voutLogged = false) →
      Gives (exec (.vout33Retry mv) s) fun t =>
        t.pwr = { s.pwr with voutLogged := true, supplyAt := t.pwr.supplyAt } ∧
        Logs s t [(0x0109, chip, [pS mv.toNat])])

/-- VSW supply lost and regained. VSW_SUPPLY_LOST with a voltage below 32 V, of a supply that is not lost, puts the voltage into PWR_VSW, sets the bit of VSW_LOST, logs 0x0F01 and switches off every channel the supply feeds. VSW_SUPPLY_REGAINED at 34 V or above, of a lost supply, clears the bit, logs 0x0F02 and switches no output of HS8 to HS15 on at that instant. At another voltage, or with the bit as it would become, the voltage is all that changes. From the next millisecond the channels take their commands (log entry 107). Registers outside the PWR, SW and SIO blocks, and everything but the registers, the recorder and the switch channels' own state, stay. Readings that are the model's own, and no rule of the manual: log entries 78 and 107. -/
def Obligations.SwitchSupplies : Prop :=
  (∀ (s : State) (n : Fin 4) (v : BitVec 16), (s.pwr.mainOn = true) →
      (v.toNat < 3200) →
      (s.bit R.PWR_STAT_VSW_LOST n.val = false) →
      Gives (exec (.vswSupplyLost n v) s) fun t =>
        t.vsw n.val = v.toNat ∧
        t.bit R.PWR_STAT_VSW_LOST n.val = true ∧
        (∀ m < 16, m / 4 = n.val → t.get (R.SW_STAT_OUT_ON m) = 0 ∧ t.get (R.SW_STAT_STATE m) = 4) ∧
        Logs s t [(0x0F01, src 7 (0x100 + n.val), [p1 n.val, pS v.toNat])] ∧
        RegsBut s t [Blk.PWR, Blk.SW, Blk.SIO] ∧
        RegsOnly { s with sio := t.sio, pwr := { s.pwr with supplyAt := t.pwr.supplyAt } } t) ∧
  (∀ (s : State) (n : Fin 4) (v : BitVec 16), (s.pwr.mainOn = true) →
      (3200 ≤ v.toNat ∨ s.bit R.PWR_STAT_VSW_LOST n.val = true) →
      Gives (exec (.vswSupplyLost n v) s) fun t =>
        t.vsw n.val = v.toNat ∧
        RegsBut s t [Blk.PWR] ∧
        t.get R.PWR_STAT_VSW_LOST = s.get R.PWR_STAT_VSW_LOST ∧
        t = { s with regs := t.regs, pwr := { s.pwr with supplyAt := t.pwr.supplyAt } }) ∧
  (∀ (s : State) (n : Fin 4) (v : BitVec 16), (s.pwr.mainOn = true) →
      (3400 ≤ v.toNat) →
      (s.bit R.PWR_STAT_VSW_LOST n.val = true) →
      Gives (exec (.vswSupplyRegained n v) s) fun t =>
        t.vsw n.val = v.toNat ∧
        t.bit R.PWR_STAT_VSW_LOST n.val = false ∧
        (∀ m, 8 ≤ m → m < 16 → m / 4 = n.val → t.get (R.SW_STAT_OUT_ON m) = 0) ∧
        Logs s t [(0x0F02, src 7 (0x100 + n.val), [p1 n.val])] ∧
        RegsBut s t [Blk.PWR, Blk.SW, Blk.SIO] ∧
        RegsOnly { s with sio := t.sio, sw := t.sw, pwr := { s.pwr with supplyAt := t.pwr.supplyAt } } t) ∧
  (∀ (s : State) (n : Fin 4) (v : BitVec 16), (s.pwr.mainOn = true) →
      (v.toNat < 3400 ∨ s.bit R.PWR_STAT_VSW_LOST n.val = false) →
      Gives (exec (.vswSupplyRegained n v) s) fun t =>
        t.vsw n.val = v.toNat ∧
        RegsBut s t [Blk.PWR] ∧
        t.get R.PWR_STAT_VSW_LOST = s.get R.PWR_STAT_VSW_LOST ∧
        t = { s with regs := t.regs, pwr := { s.pwr with supplyAt := t.pwr.supplyAt } })

/-- Control sources of HS8 to HS15: ON, IN pins, generators. A write of ON is held by a register-sourced channel of HS8 to HS15; on any other channel a write of 1 is discarded with 0x0F0E, one of 0 without (that only a write of 1 is logged is the model's choice, log entry 78). IN_PIN_EDGE shows the level in SW_SUM. A generator edge sets the generator's level, but duty 0 holds it off and duty 1000 on; at the start of a period the written settings come into force. SW_GEN_WRITE from stage 1 on, outside the foreign state: a defined frequency and duty, or phase (in the compatibility mode of R503 a multiple of 45°), is held; an undefined one is discarded with 0x1001 in either state. After an edge every output of HS8 to HS15 is what Table SW-1 gives. Readings that are the model's own, and no rule of the manual: log entry 78. -/
def Obligations.SwitchSources : Prop :=
  (∀ (s : State) (n : Fin 24) (b : Bool), (s.pwr.mainOn = true) →
      (1 ≤ s.stage) →
      (s.host.perstHigh = true) →
      (8 ≤ n.val) →
      (n.val < 16) →
      (s.get (R.SW_CFG_SRC n.val) = 0) →
      Gives (exec (.chanOn n b) s) fun t =>
        t.get (R.SW_CTRL_ON n.val) = b2n b ∧
        RegsBut s t [Blk.SW, Blk.SIO]) ∧
  (∀ (s : State) (n : Fin 24), (s.pwr.mainOn = true) →
      (1 ≤ s.stage) →
      (s.host.perstHigh = true) →
      (n.val < 8 ∨ 16 ≤ n.val ∨ s.get (R.SW_CFG_SRC n.val) ≠ 0) →
      Gives (exec (.chanOn n true) s) fun t =>
        Logs s t [(0x0F0E, src 7 n.val, [p1 n.val, p1 (s.get (R.SW_CFG_SRC n.val))])] ∧
        FieldsBut s t [] ∧
        RegsOnly s t) ∧
  (∀ (s : State) (n : Fin 24), (s.pwr.mainOn = true) →
      (n.val < 8 ∨ 16 ≤ n.val ∨ s.get (R.SW_CFG_SRC n.val) ≠ 0) →
      Gives (exec (.chanOn n false) s) fun t =>
        t = s) ∧
  (∀ (s : State) (j : Fin 8) (b : Bool), (s.pwr.mainOn = true) →
      Gives (exec (.inPinEdge j b) s) fun t =>
        t.bit R.SW_SUM_IN j.val = b ∧
        (∀ n, 8 ≤ n → n < 16 → t.get (R.SW_STAT_OUT_ON n) = b2n (t.loadOn n)) ∧
        RegsBut s t [Blk.SW, Blk.SIO] ∧
        RegsOnly { s with sw := t.sw, sio := t.sio } t) ∧
  (∀ (s : State) (g : Fin 8) (b : Bool), (s.pwr.mainOn = true) →
      (1 ≤ s.stage) →
      (s.sw.genF.length = 8) →
      Gives (exec (.generatorEdge g b false) s) fun t =>
        t.sw.gen.getLsbD g.val = (if bitsOf (nth 0#32 s.sw.genF g.val).toNat 16 16 = 0 then false else if bitsOf (nth 0#32 s.sw.genF g.val).toNat 16 16 = 1000 then true else b) ∧
        t.sw.genF = s.sw.genF ∧
        t.sw.genP = s.sw.genP ∧
        (∀ n, 8 ≤ n → n < 16 → t.get (R.SW_STAT_OUT_ON n) = b2n (t.loadOn n)) ∧
        RegsBut s t [Blk.SW, Blk.SIO] ∧
        RegsOnly { s with sw := t.sw, sio := t.sio } t) ∧
  (∀ (s : State) (g : Fin 8) (b : Bool), (s.pwr.mainOn = true) →
      (1 ≤ s.stage) →
      (s.sw.genF.length = 8) →
      (s.sw.genP.length = 8) →
      (s.get R.SW_WDSTAT_STATE ≠ 2) →
      Gives (exec (.generatorEdge g b true) s) fun t =>
        nth 0#32 t.sw.genF g.val = s.getW (R.SW_GEN_F g.val) ∧
        nth 0#32 t.sw.genP g.val = s.getW (R.SW_GEN_P g.val)) ∧
  (∀ (s : State) (g : Fin 8) (b w : Bool), (s.pwr.mainOn = true) →
      (s.stage = 0) →
      Gives (exec (.generatorEdge g b w) s) fun t =>
        t = s) ∧
  (∀ (s : State) (g : Fin 8) (v : Word), (s.pwr.mainOn = true) →
      (1 ≤ s.stage) →
      (s.host.perstHigh = true) →
      (s.get R.GLOBAL_STAGE_FOREIGN_IMAGE = 0) →
      (50 ≤ bitsOf v.toNat 0 16) →
      (bitsOf v.toNat 0 16 ≤ 2000) →
      (bitsOf v.toNat 16 16 ≤ 1000) →
      Gives (exec (.swGenWrite g false v) s) fun t =>
        t.get (R.SW_GEN_F g.val) = v.toNat ∧
        FieldsBut s t [R.SW_GEN_F g.val] ∧
        t = { s with regs := t.regs }) ∧
  (∀ (s : State) (g : Fin 8) (v : Word), (s.pwr.mainOn = true) →
      (1 ≤ s.stage) →
      (s.host.perstHigh = true) →
      (bitsOf v.toNat 0 16 < 50 ∨ 2000 < bitsOf v.toNat 0 16 ∨ 1000 < bitsOf v.toNat 16 16) →
      Gives (exec (.swGenWrite g false v) s) fun t =>
        Logs s t [(0x1001, chip, [p2 (blockOff (R.SW_GEN_F g.val).addr)])] ∧
        FieldsBut s t [] ∧
        RegsOnly s t) ∧
  (∀ (s : State) (g : Fin 8) (v : Word), (s.pwr.mainOn = true) →
      (1 ≤ s.stage) →
      (s.host.perstHigh = true) →
      (s.get R.GLOBAL_STAGE_FOREIGN_IMAGE = 0) →
      (bitsOf v.toNat 0 12 ≤ 3599) →
      (s.tab.swFlags.testBit 1 = true → bitsOf v.toNat 0 12 % 450 = 0) →
      Gives (exec (.swGenWrite g true v) s) fun t =>
        t.get (R.SW_GEN_P_PHASE g.val) = bitsOf v.toNat 0 12 ∧
        FieldsBut s t [R.SW_GEN_P_PHASE g.val] ∧
        t = { s with regs := t.regs }) ∧
  (∀ (s : State) (g : Fin 8) (v : Word), (s.pwr.mainOn = true) →
      (1 ≤ s.stage) →
      (s.host.perstHigh = true) →
      (3599 < bitsOf v.toNat 0 12 ∨ (s.tab.swFlags.testBit 1 = true ∧ bitsOf v.toNat 0 12 % 450 ≠ 0)) →
      Gives (exec (.swGenWrite g true v) s) fun t =>
        Logs s t [(0x1001, chip, [p2 (blockOff (R.SW_GEN_P_PHASE g.val).addr)])] ∧
        FieldsBut s t [] ∧
        RegsOnly s t)

/-- Limiting, thermal latch, retry window, case sensors. CURRENT_LIMITING on a channel that is on sets LIMITING and its current and puts 0x0F0D into the recorder; the end of the overload clears LIMITING. The thermal comparators at DT_LIMIT or 175 C set THERM, switch the channel off, raise the shutdown count and log 0x0F03; at DT_LIMIT - 15 K and 160 C or below THERM clears. RETRY_WINDOW_EXPIRY drops the restarts whose window has ended and gives their retries back. A case sensor above 125 C logs 0x0F0C. CLR of a latched-off channel whose thermal latch still stands is refused with 0x0F0F. Readings that are the model's own, and no rule of the manual: log entry 78. -/
def Obligations.SwitchProtection : Prop :=
  (∀ (s : State) (n : Fin 24) (cur : BitVec 12), (s.pwr.mainOn = true) →
      (s.get (R.SW_STAT_OUT_ON n.val) = 1) →
      Gives (exec (.currentLimiting n cur) s) fun t =>
        t.get (R.SW_STAT_LIMITING n.val) = 1 ∧
        t.get (R.SW_MEAS_I n.val) = cur.toNat ∧
        Logs s t [(0x0F0D, src 7 n.val, [pS (deciAmp cur.toNat)])] ∧
        FieldsBut s t [R.SW_STAT_LIMITING n.val, R.SW_MEAS_I n.val] ∧
        RegsOnly s t) ∧
  (∀ (s : State) (n : Fin 24) (cur : BitVec 12), (s.pwr.mainOn = true) →
      (s.get (R.SW_STAT_OUT_ON n.val) = 0) →
      Gives (exec (.currentLimiting n cur) s) fun t =>
        t = s) ∧
  (∀ (s : State) (n : Fin 24), (s.pwr.mainOn = true) →
      Gives (exec (.overloadEnd n) s) fun t =>
        t.get (R.SW_STAT_LIMITING n.val) = 0 ∧
        FieldsBut s t [R.SW_STAT_LIMITING n.val] ∧
        t = { s with regs := t.regs }) ∧
  (∀ (s : State) (n : Fin 24) (dt tj : BitVec 16), (s.pwr.mainOn = true) →
      (s.get (R.SW_STAT_THERM n.val) = 0) →
      ((10 * s.get (R.SW_CFG_DT_LIMIT n.val) : Nat) ≤ dt.toInt ∨ 1750 ≤ tj.toInt) →
      Gives (exec (.thermalLatchSet n dt tj) s) fun t =>
        t.get (R.SW_STAT_THERM n.val) = 1 ∧
        t.get (R.SW_STAT_OUT_ON n.val) = 0 ∧
        t.get (R.SW_CNT_SHUTDOWNS n.val) = satNat 65535 (s.get (R.SW_CNT_SHUTDOWNS n.val) + 1) ∧
        t.host.icause.getLsbD 7 = true ∧
        RegsBut s t [Blk.SW, Blk.SIO] ∧
        RegsOnly { s with sw := t.sw, sio := t.sio } t) ∧
  (∀ (s : State) (n : Fin 24) (dt tj : BitVec 16), (s.pwr.mainOn = true) →
      (dt.toInt < (10 * s.get (R.SW_CFG_DT_LIMIT n.val) : Nat)) →
      (tj.toInt < 1750) →
      Gives (exec (.thermalLatchSet n dt tj) s) fun t =>
        t = s) ∧
  (∀ (s : State) (n : Fin 24) (dt tj : BitVec 16), (s.pwr.mainOn = true) →
      (s.get (R.SW_STAT_THERM n.val) = 1) →
      (dt.toInt ≤ (10 * s.get (R.SW_CFG_DT_LIMIT n.val) : Nat) - 150) →
      (tj.toInt ≤ 1600) →
      Gives (exec (.thermalLatchClear n dt tj) s) fun t =>
        t.get (R.SW_STAT_THERM n.val) = 0 ∧
        t.get (R.SW_MEAS_DT n.val) = dt.toNat ∧
        RegsBut s t [Blk.SW, Blk.SIO]) ∧
  (∀ (s : State) (n : Fin 24) (dt tj : BitVec 16), (s.pwr.mainOn = true) →
      ((10 * s.get (R.SW_CFG_DT_LIMIT n.val) : Nat) - 150 < dt.toInt ∨ 1600 < tj.toInt) →
      Gives (exec (.thermalLatchClear n dt tj) s) fun t =>
        t = s) ∧
  (∀ (s : State) (n : Fin 24), (s.pwr.mainOn = true) →
      Gives (exec (.retryWindowExpiry n) s) fun t =>
        (t.chan n.val).retries = (s.chan n.val).retries.filter (fun e => decide (s.pwr.optime < e)) ∧
        t.get (R.SW_STAT_RETRIES_LEFT n.val) = s.get (R.SW_CFG_RETRY_MAX n.val) - (t.chan n.val).retries.length ∧
        FieldsBut s t [R.SW_STAT_RETRIES_LEFT n.val] ∧
        t = { s with regs := t.regs, sw := t.sw }) ∧
  (∀ (s : State) (l : Bool) (x : BitVec 16), (s.pwr.mainOn = true) →
      (1250 < x.toInt) →
      Gives (exec (.caseOvertemp l x) s) fun t =>
        t.get (if l then R.SW_CASE_CASE_L else R.SW_CASE_CASE_H) = x.toNat ∧
        t.host.icause.getLsbD 7 = true ∧
        FieldsBut s t [if l then R.SW_CASE_CASE_L else R.SW_CASE_CASE_H] ∧
        RegsOnly s t) ∧
  (∀ (s : State) (l : Bool) (x : BitVec 16), (s.pwr.mainOn = true) →
      (x.toInt ≤ 1250) →
      Gives (exec (.caseOvertemp l x) s) fun t =>
        t.get (if l then R.SW_CASE_CASE_L else R.SW_CASE_CASE_H) = x.toNat ∧
        FieldsBut s t [if l then R.SW_CASE_CASE_L else R.SW_CASE_CASE_H] ∧
        t = { s with regs := t.regs }) ∧
  (∀ (s : State) (n : Fin 24), (s.pwr.mainOn = true) →
      (1 ≤ s.stage) →
      (s.host.perstHigh = true) →
      ((s.chan n.val).latch ≠ 3) →
      (s.get (R.SW_STAT_FW_MISSING n.val) = 0) →
      Gives (exec (.chanClr n) s) fun t =>
        (8 ≤ n.val → n.val < 16 → t.bit R.SW_SUM_SHED (n.val - 8) = false) ∧
        t.get (R.SW_STAT_RETRIES_LEFT n.val) = s.get (R.SW_STAT_RETRIES_LEFT n.val) ∧
        t.log = s.log ∧
        RegsBut s t [Blk.SW, Blk.SIO]) ∧
  (∀ (s : State) (n : Fin 24), (s.pwr.mainOn = true) →
      (1 ≤ s.stage) →
      (s.host.perstHigh = true) →
      ((s.chan n.val).latch = 3) →
      (s.get (R.SW_STAT_THERM n.val) = 0) →
      (s.get (R.SW_STAT_FW_MISSING n.val) = 0) →
      Gives (exec (.chanClr n) s) fun t =>
        (t.chan n.val).latch = 0 ∧
        (t.chan n.val).retries = [] ∧
        t.get (R.SW_STAT_RETRIES_LEFT n.val) = s.get (R.SW_CFG_RETRY_MAX n.val)) ∧
  (∀ (s : State) (n : Fin 24), (s.pwr.mainOn = true) →
      (1 ≤ s.stage) →
      (s.host.perstHigh = true) →
      ((s.chan n.val).latch = 3) →
      (s.get (R.SW_STAT_THERM n.val) = 1) →
      (s.get (R.SW_STAT_FW_MISSING n.val) = 0) →
      Gives (exec (.chanClr n) s) fun t =>
        (t.chan n.val).latch = 3 ∧
        Logs s t [(0x0F0F, src 7 n.val, [p1 n.val, p1 1])])

/-- Serial watchdog keys and expiry, load shedding. Outside the armed state the two keys in their order, the second within WD_MS of the first, arm the watchdog. A correct key while armed, within WD_MS of the last, is taken, restarts the time and turns to the other key; a wrong key raises WRONG, and while armed it expires the watchdog with 0x0F0A. Expiry, WD_MS after the last correct key while armed, sets STATE 2 and raises EXPIRIES; a key that comes later than WD_MS finds the expiry; a disabled watchdog (3) ignores keys. The sum of the currents is shown in SW_SUM; above 18 A for 1 s the sheddable channel that is on with the highest current is shed, the lower one on a tie; at 16 A or below shedding ends. Readings that are the model's own, and no rule of the manual: log entries 78 and 79. -/
def Obligations.SwitchWatchdogAndShedding : Prop :=
  (∀ (s : State), (s.pwr.mainOn = true) →
      (1 ≤ s.stage) →
      (s.host.perstHigh = true) →
      (s.get R.SW_WDSTAT_STATE = 1) →
      (s.pwr.optime < s.sw.lastKey + s.tab.swWdMs) →
      Gives (exec (.swWd (if s.get R.SW_WDSTAT_NEXT = 0 then 0x5A5A#16 else 0xA5A5#16)) s) fun t =>
        t.get R.SW_WDSTAT_NEXT = 1 - s.get R.SW_WDSTAT_NEXT ∧
        t.sw.lastKey = s.pwr.optime ∧
        FieldsBut s t [R.SW_WDSTAT_NEXT] ∧
        t = { s with regs := t.regs, sw := t.sw }) ∧
  (∀ (s : State) (k : BitVec 16), (s.pwr.mainOn = true) →
      (1 ≤ s.stage) →
      (s.host.perstHigh = true) →
      (s.get R.SW_WDSTAT_STATE = 1) →
      (s.pwr.optime < s.sw.lastKey + s.tab.swWdMs) →
      (k ≠ (if s.get R.SW_WDSTAT_NEXT = 0 then 0x5A5A#16 else 0xA5A5#16)) →
      Gives (exec (.swWd k) s) fun t =>
        t.get R.SW_WDSTAT_STATE = 2 ∧
        t.get R.SW_WDSTAT_WRONG = satNat 255 (s.get R.SW_WDSTAT_WRONG + 1) ∧
        t.get R.SW_WDSTAT_EXPIRIES = satNat (2 ^ R.SW_WDSTAT_EXPIRIES.w - 1) (s.get R.SW_WDSTAT_EXPIRIES + 1) ∧
        t.host.icause.getLsbD 4 = true ∧
        RegsBut s t [Blk.SW, Blk.SIO]) ∧
  (∀ (s : State) (k : BitVec 16), (s.pwr.mainOn = true) →
      (s.get R.SW_WDSTAT_STATE = 3) →
      Gives (exec (.swWd k) s) fun t =>
        t = s) ∧
  (∀ (s : State), (s.pwr.mainOn = true) →
      (s.get R.SW_WDSTAT_STATE = 1) →
      (s.sw.lastKey + s.tab.swWdMs ≤ s.pwr.optime) →
      Gives (exec (.swWdExpiry) s) fun t =>
        t.get R.SW_WDSTAT_STATE = 2 ∧
        t.get R.SW_WDSTAT_NEXT = 0 ∧
        t.get R.SW_WDSTAT_EXPIRIES = satNat (2 ^ R.SW_WDSTAT_EXPIRIES.w - 1) (s.get R.SW_WDSTAT_EXPIRIES + 1) ∧
        t.sw.keys = 0 ∧
        t.host.icause.getLsbD 4 = true ∧
        RegsBut s t [Blk.SW, Blk.SIO] ∧
        RegsOnly { s with sw := t.sw, sio := t.sio } t) ∧
  (∀ (s : State) (k : BitVec 16), (s.pwr.mainOn = true) →
      (1 ≤ s.stage) →
      (s.host.perstHigh = true) →
      (s.get R.SW_WDSTAT_STATE = 1) →
      (s.sw.lastKey + s.tab.swWdMs ≤ s.pwr.optime) →
      Gives (exec (.swWd k) s) fun t =>
        t.get R.SW_WDSTAT_STATE = 2 ∧
        t.get R.SW_WDSTAT_NEXT = 0 ∧
        t.get R.SW_WDSTAT_EXPIRIES = satNat (2 ^ R.SW_WDSTAT_EXPIRIES.w - 1) (s.get R.SW_WDSTAT_EXPIRIES + 1) ∧
        t.sw.keys = 0 ∧
        t.host.icause.getLsbD 4 = true ∧
        RegsBut s t [Blk.SW, Blk.SIO] ∧
        RegsOnly { s with sw := t.sw, sio := t.sio } t) ∧
  (∀ (s : State), (s.pwr.mainOn = true) →
      (s.get R.SW_WDSTAT_STATE ≠ 1 ∨ s.pwr.optime < s.sw.lastKey + s.tab.swWdMs) →
      Gives (exec (.swWdExpiry) s) fun t =>
        t = s) ∧
  (∀ (s : State), (s.pwr.mainOn = true) →
      (1 ≤ s.stage) →
      (s.host.perstHigh = true) →
      (s.get R.SW_WDSTAT_STATE ≠ 1) →
      (s.get R.SW_WDSTAT_STATE ≠ 3) →
      (s.get R.SW_WDSTAT_NEXT = 0) →
      (s.sw.keys = 0) →
      Gives (exec (.swWd 0x5A5A#16) s) fun t =>
        t.get R.SW_WDSTAT_NEXT = 1 ∧
        t.sw = { s.sw with keys := 1, lastKey := s.pwr.optime } ∧
        FieldsBut s t [R.SW_WDSTAT_NEXT] ∧
        t = { s with regs := t.regs, sw := t.sw }) ∧
  (∀ (s : State), (s.pwr.mainOn = true) →
      (1 ≤ s.stage) →
      (s.host.perstHigh = true) →
      (s.get R.SW_WDSTAT_STATE ≠ 1) →
      (s.get R.SW_WDSTAT_STATE ≠ 3) →
      (s.get R.SW_WDSTAT_NEXT = 1) →
      (s.sw.keys ≠ 0) →
      (s.pwr.optime < s.sw.lastKey + s.tab.swWdMs) →
      Gives (exec (.swWd 0xA5A5#16) s) fun t =>
        t.get R.SW_WDSTAT_STATE = 1 ∧
        t.get R.SW_WDSTAT_NEXT = 0 ∧
        t.sw.lastKey = s.pwr.optime ∧
        RegsBut s t [Blk.SW, Blk.SIO]) ∧
  (∀ (s : State) (cur : List (BitVec 12)) (long : Bool), (s.pwr.mainOn = true) →
      (cur.length = 24) →
      ((cur.map BitVec.toNat).sum * 4 ≤ 16000) →
      Gives (exec (.shedTimer cur long) s) fun t =>
        t.get R.SW_SUM_SUM = (cur.map BitVec.toNat).sum * 4 / 10 ∧
        (∀ n < 24, t.get (R.SW_MEAS_I n) = nth 0 (cur.map BitVec.toNat) n) ∧
        t.sw.shedding = false ∧
        t.get R.SW_SUM_SHED = s.get R.SW_SUM_SHED ∧
        t.log = s.log ∧
        RegsBut s t [Blk.SW]) ∧
  (∀ (s : State) (cur : List (BitVec 12)) (n : Nat), (s.pwr.mainOn = true) →
      (cur.length = 24) →
      (18000 < (cur.map BitVec.toNat).sum * 4) →
      ((s.measureCurrents (cur.map BitVec.toNat)).shedNext = some n) →
      Gives (exec (.shedTimer cur true) s) fun t =>
        8 ≤ n ∧
        n < 16 ∧
        t.bit R.SW_SUM_SHED (n - 8) = true ∧
        t.get (R.SW_STAT_OUT_ON n) = 0 ∧
        t.sw.shedding = true ∧
        RegsBut s t [Blk.SW, Blk.SIO])

/-- Off-state check and freewheel check. OFF_STATE_CHECK has no effect on a channel without record bit 2, or on a load channel that is on; on a load channel that is off, a third check in a row that reads 6 V or more in step 1 sets SHORT_SUPPLY with 0x0F07, a third that shows less clears it, and a third that reads 4 V to below 6 V in step 2 sets OPEN_LOAD. A coil pair is checked while both its switches are off, its lands likewise: a third land short to supply raises trigger 0x16 of a pair with a role, a third step 2 with both lands at 2 V or less sets END_GND. FREEWHEEL_CHECK with record bit 3, on a high side: a reading below -3 V sets FW_MISSING, switches the channel off and logs 0x0F10; on a coil high side it raises trigger 0x16 too; at -3 V or above it does nothing. Readings that are the model's own, and no rule of the manual: log entries 78, 88 and 113. -/
def Obligations.SwitchDiagnosis : Prop :=
  (∀ (s : State) (n : Fin 24) (a b x y : BitVec 16), (s.pwr.mainOn = true) →
      (s.bit (R.SW_CFG_FLAGS n.val) 2 = false) →
      Gives (exec (.offStateCheck n a b x y) s) fun t =>
        t = s) ∧
  (∀ (s : State) (n : Fin 24) (a b x y : BitVec 16), (s.pwr.mainOn = true) →
      (8 ≤ n.val) →
      (n.val < 16) →
      (s.get (R.SW_STAT_OUT_ON n.val) = 1) →
      Gives (exec (.offStateCheck n a b x y) s) fun t =>
        t = s) ∧
  (∀ (s : State) (n : Fin 24) (a b x y : BitVec 16), (s.pwr.mainOn = true) →
      (8 ≤ n.val) →
      (n.val < 16) →
      (s.bit (R.SW_CFG_FLAGS n.val) 2 = true) →
      (s.get (R.SW_STAT_OUT_ON n.val) = 0) →
      ((s.chan n.val).seen.length = 3) →
      ((s.chan n.val).gone.length = 3) →
      (2 ≤ nth 0 (s.chan n.val).seen 1) →
      (6000 ≤ a.toNat) →
      Gives (exec (.offStateCheck n a b x y) s) fun t =>
        t.get (R.SW_STAT_SHORT_SUPPLY n.val) = 1 ∧
        FieldsBut s t [R.SW_STAT_SHORT_SUPPLY n.val, R.SW_STAT_OPEN_LOAD n.val] ∧
        RegsOnly { s with sw := t.sw } t) ∧
  (∀ (s : State) (n : Fin 24) (a b x y : BitVec 16), (s.pwr.mainOn = true) →
      (8 ≤ n.val) →
      (n.val < 16) →
      (s.bit (R.SW_CFG_FLAGS n.val) 2 = true) →
      (s.get (R.SW_STAT_OUT_ON n.val) = 0) →
      ((s.chan n.val).seen.length = 3) →
      ((s.chan n.val).gone.length = 3) →
      (2 ≤ nth 0 (s.chan n.val).gone 1) →
      (a.toNat < 6000) →
      Gives (exec (.offStateCheck n a b x y) s) fun t =>
        t.get (R.SW_STAT_SHORT_SUPPLY n.val) = 0 ∧
        FieldsBut s t [R.SW_STAT_SHORT_SUPPLY n.val, R.SW_STAT_OPEN_LOAD n.val]) ∧
  (∀ (s : State) (n : Fin 24) (a b x y : BitVec 16), (s.pwr.mainOn = true) →
      (8 ≤ n.val) →
      (n.val < 16) →
      (s.bit (R.SW_CFG_FLAGS n.val) 2 = true) →
      (s.get (R.SW_STAT_OUT_ON n.val) = 0) →
      ((s.chan n.val).seen.length = 3) →
      ((s.chan n.val).gone.length = 3) →
      (2 ≤ nth 0 (s.chan n.val).seen 0) →
      (a.toNat < 6000) →
      (4000 ≤ b.toNat) →
      (b.toNat < 6000) →
      Gives (exec (.offStateCheck n a b x y) s) fun t =>
        t.get (R.SW_STAT_OPEN_LOAD n.val) = 1 ∧
        FieldsBut s t [R.SW_STAT_SHORT_SUPPLY n.val, R.SW_STAT_OPEN_LOAD n.val]) ∧
  (∀ (s : State) (n : Fin 24) (k : Nat) (a b x y : BitVec 16), (s.pwr.mainOn = true) →
      ((n.val = k ∨ n.val = 16 + k) ∧ k < 8) →
      (s.get (R.SW_STAT_OUT_ON k) = 1 ∨ s.get (R.SW_STAT_OUT_ON (16 + k)) = 1) →
      Gives (exec (.offStateCheck n a b x y) s) fun t =>
        t = s) ∧
  (∀ (s : State) (n : Fin 24) (k : Nat) (a b x y : BitVec 16), (s.pwr.mainOn = true) →
      ((n.val = k ∨ n.val = 16 + k) ∧ k < 8) →
      (s.bit (R.SW_CFG_FLAGS n.val) 2 = true) →
      (s.get (R.SW_STAT_OUT_ON k) = 0) →
      (s.get (R.SW_STAT_OUT_ON (16 + k)) = 0) →
      ((s.chan k).seen.length = 3) →
      ((s.chan k).gone.length = 3) →
      ((s.chan (16 + k)).seen.length = 3) →
      ((s.chan (16 + k)).gone.length = 3) →
      (2 ≤ nth 0 (s.chan k).seen 1) →
      (2 ≤ nth 0 (s.chan (16 + k)).seen 2) →
      (6000 ≤ a.toNat) →
      (b.toNat ≤ 2000) →
      (y.toNat ≤ 2000) →
      Gives (exec (.offStateCheck n a b x y) s) fun t =>
        t.get (R.SW_STAT_SHORT_SUPPLY k) = 1 ∧
        t.get (R.SW_STAT_END_GND (16 + k)) = 1 ∧
        (s.get (R.SW_STAT_SHORT_SUPPLY k) = 0 → s.tab.pairRole k ≠ 0 → t.dsc.condG.getLsbD 0x16 = true) ∧
        RegsBut s t [Blk.SW, Blk.SIO]) ∧
  (∀ (s : State) (n : Fin 24) (v : BitVec 16), (s.pwr.mainOn = true) →
      (8 ≤ n.val) →
      (n.val < 16) →
      (s.bit (R.SW_CFG_FLAGS n.val) 3 = true) →
      (s.get (R.SW_STAT_FW_MISSING n.val) = 0) →
      (v.toInt < -30) →
      Gives (exec (.freewheelCheck n v) s) fun t =>
        t.get (R.SW_STAT_FW_MISSING n.val) = 1 ∧
        t.get (R.SW_STAT_OUT_ON n.val) = 0 ∧
        Logs s t [(0x0F10, src 7 n.val, [pS v.toInt])] ∧
        RegsBut s t [Blk.SW, Blk.SIO] ∧
        RegsOnly { s with sio := t.sio } t) ∧
  (∀ (s : State) (n : Fin 24) (v : BitVec 16), (s.pwr.mainOn = true) →
      (n.val < 8) →
      (s.bit (R.SW_CFG_FLAGS n.val) 3 = true) →
      (s.get (R.SW_STAT_FW_MISSING n.val) = 0) →
      (v.toInt < -30) →
      Gives (exec (.freewheelCheck n v) s) fun t =>
        t.get (R.SW_STAT_FW_MISSING n.val) = 1 ∧
        t.bit R.SIO_OUT_HS_TESTFAIL n.val = true ∧
        t.dsc.condG.getLsbD 0x16 = true ∧
        RegsBut s t [Blk.SW, Blk.SIO]) ∧
  (∀ (s : State) (n : Fin 24) (v : BitVec 16), (s.pwr.mainOn = true) →
      ((n.val < 16 ∧ -30 ≤ v.toInt) ∨ s.bit (R.SW_CFG_FLAGS n.val) 3 = false ∨ s.get (R.SW_STAT_FW_MISSING n.val) = 1) →
      Gives (exec (.freewheelCheck n v) s) fun t =>
        t = s)

/-- Filtered levels, discrepancy faults and proof tests of the safety inputs. SIN_FILTER_CHANGE puts the filtered level into SIO_IN; but a channel held by a test pulse keeps its level (R453), and a high of a channel whose supply output is off by its current limit is not taken (R69). Where a safety function opens on a channel, the core of that channel raises its condition for the next boundary: 0x03 for function 1 (SD0), 0x04 for function 2 (SD1); in Split channel B raises none (log entry 63). A discrepancy timeout of a timed input in disagreement latches the fault and counts the input as open, except in Split. PROOF_INT_H hours after the last proof the demand is overdue (state 3, 0x0D06), PROOF_GRACE_H further hours later the Lehr demand is raised (0x0D07); earlier the expiry rows do nothing. Readings that are the model's own, and no rule of the manual: log entry 73. -/
def Obligations.SafetyInputs : Prop :=
  (∀ (s : State) (n : Fin 8) (b h : Bool), (s.pwr.mainOn = true) →
      (s.heldByPulse n.val b = false) →
      (h = false ∨ s.unsupplied n.val b = false) →
      (s.tab.inFunc n.val ≠ 1) →
      (s.tab.inFunc n.val ≠ 2) →
      Gives (exec (.sinFilterChange n b h) s) fun t =>
        t.bit (if b then R.SIO_IN_B_HIGH else R.SIO_IN_A_HIGH) n.val = h ∧
        (if b then t.sio.rawB else t.sio.rawA).getLsbD n.val = h ∧
        t.log = s.log ∧
        RegsBut s t [Blk.SIO, Blk.CTR] ∧
        RegsOnly { s with sio := t.sio } t) ∧
  (∀ (s : State) (n : Fin 8) (b : Bool), (s.pwr.mainOn = true) →
      (s.heldByPulse n.val b = false) →
      (s.tab.inFunc n.val = 2) →
      (s.bit (if b then R.SIO_IN_B_HIGH else R.SIO_IN_A_HIGH) n.val = true) →
      (b = false ∨ s.get R.PAIR_STAT_MODE ≠ 2) →
      Gives (exec (.sinFilterChange n b false) s) fun t =>
        t.bit (if b then R.SIO_IN_B_HIGH else R.SIO_IN_A_HIGH) n.val = false ∧
        (if b then t.dsc.condS else t.dsc.condG).getLsbD 4 = true ∧
        (if b then t.dsc.condG else t.dsc.condS) = (if b then s.dsc.condG else s.dsc.condS) ∧
        RegsBut s t [Blk.SIO, Blk.CTR] ∧
        RegsOnly { s with sio := t.sio, dsc := t.dsc } t) ∧
  (∀ (s : State) (n : Fin 8) (b : Bool), (s.pwr.mainOn = true) →
      (s.heldByPulse n.val b = false) →
      (s.tab.inFunc n.val = 1) →
      (s.bit (if b then R.SIO_IN_B_HIGH else R.SIO_IN_A_HIGH) n.val = true) →
      (b = false ∨ s.get R.PAIR_STAT_MODE ≠ 2) →
      Gives (exec (.sinFilterChange n b false) s) fun t =>
        t.bit (if b then R.SIO_IN_B_HIGH else R.SIO_IN_A_HIGH) n.val = false ∧
        (if b then t.dsc.condS else t.dsc.condG).getLsbD 3 = true ∧
        (s.safety ≠ 6 → t.sio.sd0A = true ∧ t.sio.sd0B = true)) ∧
  (∀ (s : State) (n : Fin 8) (b h : Bool), (s.pwr.mainOn = true) →
      (s.heldByPulse n.val b = true ∨ (h = true ∧ s.unsupplied n.val b = true)) →
      Gives (exec (.sinFilterChange n b h) s) fun t =>
        t = s) ∧
  (∀ (s : State) (n : Fin 8), (s.pwr.mainOn = true) →
      (s.sio.disagree.getLsbD n.val = true) →
      (s.bit R.SIO_IN_DISC_FAULT n.val = false) →
      (s.get R.PAIR_STAT_MODE ≠ 2) →
      (s.timed n.val = true) →
      Gives (exec (.discrepancyTimeout n) s) fun t =>
        t.bit R.SIO_IN_DISC_FAULT n.val = true ∧
        t.bit R.SIO_IN_CLOSED n.val = false ∧
        RegsBut s t [Blk.SIO, Blk.CTR] ∧
        RegsOnly { s with sio := t.sio } t) ∧
  (∀ (s : State) (n : Fin 8), (s.pwr.mainOn = true) →
      (s.sio.disagree.getLsbD n.val = false ∨ s.bit R.SIO_IN_DISC_FAULT n.val = true ∨ s.get R.PAIR_STAT_MODE = 2) →
      Gives (exec (.discrepancyTimeout n) s) fun t =>
        t = s) ∧
  (∀ (s : State) (n : Fin 8), (s.pwr.mainOn = true) →
      (s.tab.inProof n.val = 2) →
      (s.get (R.SIO_PROOF_STATE n.val) = 2) →
      (nth 0 s.sio.proofTime n.val + 3600000 * s.tab.inProofH n.val ≤ s.pwr.optime) →
      Gives (exec (.proofIntervalExpired n) s) fun t =>
        t.get (R.SIO_PROOF_STATE n.val) = 3 ∧
        t.bit R.SIO_INFAULT_PROOF_OVERDUE n.val = true ∧
        Logs s t [(0x0D06, src 8 n.val, [p1 n.val])] ∧
        RegsBut s t [Blk.SIO] ∧
        RegsOnly s t) ∧
  (∀ (s : State) (n : Fin 8), (s.pwr.mainOn = true) →
      (s.tab.inProof n.val ≠ 2 ∨ s.get (R.SIO_PROOF_STATE n.val) ≠ 2 ∨ s.pwr.optime < nth 0 s.sio.proofTime n.val + 3600000 * s.tab.inProofH n.val) →
      Gives (exec (.proofIntervalExpired n) s) fun t =>
        t = s) ∧
  (∀ (s : State) (n : Fin 8), (s.pwr.mainOn = true) →
      (s.get (R.SIO_PROOF_STATE n.val) = 3) →
      (nth 0 s.sio.proofTime n.val + 3600000 * (s.tab.inProofH n.val + s.tab.inGraceH n.val) ≤ s.pwr.optime) →
      Gives (exec (.proofGraceExpired n) s) fun t =>
        t.get (R.SIO_PROOF_LEHR n.val) = 1 ∧
        Logs s t [(0x0D07, src 8 n.val, [p1 n.val])] ∧
        FieldsBut s t [R.SIO_PROOF_LEHR n.val] ∧
        RegsOnly s t) ∧
  (∀ (s : State) (n : Fin 8), (s.pwr.mainOn = true) →
      (s.get (R.SIO_PROOF_STATE n.val) ≠ 3 ∨ s.pwr.optime < nth 0 s.sio.proofTime n.val + 3600000 * (s.tab.inProofH n.val + s.tab.inGraceH n.val)) →
      Gives (exec (.proofGraceExpired n) s) fun t =>
        t = s)

/-- Test pulses of TPO_A and TPO_B, off-pulses and readback of the coil switches. From stage 1 on TPO_TEST_PULSE switches an enabled output that is on off; the end of its pulse switches it on again. A current limit of an output that is on, or in its pulse, switches it off with its flag and count, and the inputs that it supplies read low; the retry clears the flag and switches it on, but not in board-test mode. OFF_PULSE of a coil switch that is on marks its pulse, its end clears it; a land that stayed on, or a readback opposite to the command outside a pulse, sets TESTFAIL and raises trigger 0x16 for the switch's core (low sides are the Servitor's); after 1 s at its level the cause clears and TESTFAIL stays (it is kept as found, log entry 88). Readings that are the model's own, and no rule of the manual: log entries 73, 74, 88, 108 and 113. -/
def Obligations.TestPulsesAndCoils : Prop :=
  (∀ (s : State) (b : Bool), (s.pwr.mainOn = true) →
      (s.stage ≠ 0) →
      ((s.tab.sp8 0x580).testBit (b2n b) = true) →
      (s.get (if b then R.SIO_TPO_TPO_B_ON else R.SIO_TPO_TPO_A_ON) = 1) →
      Gives (exec (.tpoTestPulse b) s) fun t =>
        t.get (if b then R.SIO_TPO_TPO_B_ON else R.SIO_TPO_TPO_A_ON) = 0 ∧
        t.sio.tpoPulse.getLsbD (b2n b) = true ∧
        FieldsBut s t [if b then R.SIO_TPO_TPO_B_ON else R.SIO_TPO_TPO_A_ON] ∧
        t = { s with regs := t.regs, sio := t.sio }) ∧
  (∀ (s : State) (b : Bool), (s.pwr.mainOn = true) →
      (s.stage = 0 ∨ (s.tab.sp8 0x580).testBit (b2n b) = false ∨ s.get (if b then R.SIO_TPO_TPO_B_ON else R.SIO_TPO_TPO_A_ON) = 0) →
      Gives (exec (.tpoTestPulse b) s) fun t =>
        t = s) ∧
  (∀ (s : State) (b : Bool) (u v : BitVec 16), (s.pwr.mainOn = true) →
      (s.sio.tpoPulse.getLsbD (b2n b) = true) →
      Gives (exec (.tpoPulseCheck b u v) s) fun t =>
        t.get (if b then R.SIO_TPO_TPO_B_ON else R.SIO_TPO_TPO_A_ON) = 1 ∧
        t.sio.tpoPulse.getLsbD (b2n b) = false ∧
        RegsBut s t [Blk.SIO, Blk.CTR] ∧
        RegsOnly { s with sio := t.sio } t) ∧
  (∀ (s : State) (b : Bool) (u v : BitVec 16), (s.pwr.mainOn = true) →
      (s.sio.tpoPulse.getLsbD (b2n b) = false) →
      Gives (exec (.tpoPulseCheck b u v) s) fun t =>
        t = s) ∧
  (∀ (s : State) (b : Bool), (s.pwr.mainOn = true) →
      (s.get (if b then R.SIO_TPO_TPO_B_ON else R.SIO_TPO_TPO_A_ON) = 1 ∨ s.sio.tpoPulse.getLsbD (b2n b) = true) →
      Gives (exec (.tpoCurrentLimit b) s) fun t =>
        t.get (if b then R.SIO_TPO_B_LIMIT else R.SIO_TPO_A_LIMIT) = 1 ∧
        t.get (if b then R.SIO_TPO_TPO_B_ON else R.SIO_TPO_TPO_A_ON) = 0 ∧
        t.sio.tpoPulse.getLsbD (b2n b) = false ∧
        t.get R.SIO_TPO_LIMIT_CNT = satNat (2 ^ R.SIO_TPO_LIMIT_CNT.w - 1) (s.get R.SIO_TPO_LIMIT_CNT + 1) ∧
        (∀ n < 8, s.tab.inExt n = false → t.bit (if b then R.SIO_IN_B_HIGH else R.SIO_IN_A_HIGH) n = false)) ∧
  (∀ (s : State) (b : Bool), (s.pwr.mainOn = true) →
      (s.get (if b then R.SIO_TPO_TPO_B_ON else R.SIO_TPO_TPO_A_ON) = 1 ∨ s.sio.tpoPulse.getLsbD (b2n b) = true) →
      (∀ n < 8, s.tab.inExt n = true) →
      Gives (exec (.tpoCurrentLimit b) s) fun t =>
        t.get (if b then R.SIO_TPO_B_LIMIT else R.SIO_TPO_A_LIMIT) = 1 ∧
        t.get (if b then R.SIO_TPO_TPO_B_ON else R.SIO_TPO_TPO_A_ON) = 0 ∧
        Logs s t [(0x0D08, chip, [p1 (b2n b)])] ∧
        RegsBut s t [Blk.SIO] ∧
        RegsOnly { s with sio := t.sio } t) ∧
  (∀ (s : State) (b : Bool), (s.pwr.mainOn = true) →
      (s.get (if b then R.SIO_TPO_TPO_B_ON else R.SIO_TPO_TPO_A_ON) = 0) →
      (s.sio.tpoPulse.getLsbD (b2n b) = false) →
      Gives (exec (.tpoCurrentLimit b) s) fun t =>
        t = s) ∧
  (∀ (s : State) (b : Bool), (s.pwr.mainOn = true) →
      (s.pwr.boardTest = false) →
      (s.get (if b then R.SIO_TPO_B_LIMIT else R.SIO_TPO_A_LIMIT) = 1) →
      Gives (exec (.tpoRetry b) s) fun t =>
        t.get (if b then R.SIO_TPO_B_LIMIT else R.SIO_TPO_A_LIMIT) = 0 ∧
        t.get (if b then R.SIO_TPO_TPO_B_ON else R.SIO_TPO_TPO_A_ON) = 1 ∧
        FieldsBut s t [if b then R.SIO_TPO_B_LIMIT else R.SIO_TPO_A_LIMIT, if b then R.SIO_TPO_TPO_B_ON else R.SIO_TPO_TPO_A_ON] ∧
        t = { s with regs := t.regs }) ∧
  (∀ (s : State) (b : Bool), (s.pwr.mainOn = true) →
      (s.pwr.boardTest = true ∨ s.get (if b then R.SIO_TPO_B_LIMIT else R.SIO_TPO_A_LIMIT) = 0) →
      Gives (exec (.tpoRetry b) s) fun t =>
        t = s) ∧
  (∀ (s : State) (l : Bool) (k : Fin 8), (s.pwr.mainOn = true) →
      ((if l then s.sio.gateLs else s.sio.gateHs).getLsbD k.val = true) →
      Gives (exec (.offPulse l k) s) fun t =>
        (if l then t.sio.pulseLs else t.sio.pulseHs).getLsbD k.val = true ∧
        RegsBut s t [Blk.SW, Blk.SIO] ∧
        RegsOnly { s with sio := t.sio } t) ∧
  (∀ (s : State) (l : Bool) (k : Fin 8), (s.pwr.mainOn = true) →
      ((if l then s.sio.gateLs else s.sio.gateHs).getLsbD k.val = false) →
      Gives (exec (.offPulse l k) s) fun t =>
        t = s) ∧
  (∀ (s : State) (l : Bool) (k : Fin 8) (b : Bool), (s.pwr.mainOn = true) →
      ((if l then s.sio.pulseLs else s.sio.pulseHs).getLsbD k.val = true) →
      Gives (exec (.offPulseReadback l k b) s) fun t =>
        (if l then t.sio.pulseLs else t.sio.pulseHs).getLsbD k.val = false ∧
        (b = true → t.bit (if l then R.SIO_OUT_LS_TESTFAIL else R.SIO_OUT_HS_TESTFAIL) k.val = true ∧ (if l then t.dsc.condS else t.dsc.condG).getLsbD 0x16 = true) ∧
        (b = false → t.dsc = s.dsc ∧ t.log = s.log) ∧
        RegsBut s t [Blk.SW, Blk.SIO]) ∧
  (∀ (s : State) (l : Bool) (k : Fin 8) (b : Bool), (s.pwr.mainOn = true) →
      ((if l then s.sio.pulseLs else s.sio.pulseHs).getLsbD k.val = false) →
      Gives (exec (.offPulseReadback l k b) s) fun t =>
        t = s) ∧
  (∀ (s : State) (l : Bool) (k : Fin 8) (b : Bool), (s.pwr.mainOn = true) →
      ((if l then s.sio.pulseLs else s.sio.pulseHs).getLsbD k.val = false) →
      ((if l then s.sio.gateLs else s.sio.gateHs).getLsbD k.val ≠ b) →
      Gives (exec (.coilReadbackFault l k b) s) fun t =>
        t.bit (if l then R.SIO_OUT_LS_TESTFAIL else R.SIO_OUT_HS_TESTFAIL) k.val = true ∧
        (if l then t.dsc.condS else t.dsc.condG).getLsbD 0x16 = true ∧
        t.sio.coilBad.getLsbD (if l then 8 + k.val else k.val) = true ∧
        Logs s t [(0x0D09, src 8 ((if l then 0x200 else 0x100) + k.val), [p2 ((if l then 0x200 else 0x100) + k.val), p1 (if b then 1 else 2)])] ∧
        RegsBut s t [Blk.SW, Blk.SIO]) ∧
  (∀ (s : State) (l : Bool) (k : Fin 8), (s.pwr.mainOn = true) →
      Gives (exec (.coilTestfailClear l k) s) fun t =>
        t.sio.coilBad.getLsbD (if l then 8 + k.val else k.val) = false ∧
        t.get R.SIO_OUT_HS_TESTFAIL = s.get R.SIO_OUT_HS_TESTFAIL ∧
        t.get R.SIO_OUT_LS_TESTFAIL = s.get R.SIO_OUT_LS_TESTFAIL ∧
        t.log = s.log ∧
        RegsBut s t [Blk.SW, Blk.SIO] ∧
        RegsOnly { s with sio := t.sio } t)

/-- Password sessions: opening, comparison, end, lockout. OPEN from stage 1 on starts a comparison of the first PW_LEN bytes and clears IMG_PW; in a lockout, with a session open, or while one compares, it is ignored with 0x0210 and its cause. A matching comparison opens a session of 600 s with FAIL_COUNT 0 and 0x0204; in recovery without a shadow any password of 8 to 32 bytes opens a recovery session. A failing one counts with 0x0206, and the fifth locks out for 900 s of operating time. CLOSE and the expiry end the session with 0x0205 and cause 0 or 1 (stated for a debug port that is locked, with the Gaffer running and no breakpoint). LOCKOUT_END clears LOCKOUT and FAIL_COUNT. Readings that are the model's own, and no rule of the manual: log entries 14 and 27. -/
def Obligations.Sessions : Prop :=
  (∀ (s : State), (s.pwr.mainOn = true) →
      (1 ≤ s.stage) →
      (s.host.perstHigh = true) →
      (s.get R.IMG_STAT_LOCKOUT = 0) →
      (s.get R.IMG_STAT_SESSION = 0) →
      (s.img.comparing = none) →
      Gives (exec (.openSession) s) fun t =>
        t = { s with img := { s.img with pw := [], comparing := some (slice 0#8 s.img.pw 0 (s.get R.IMG_SESSION_PW_LEN)) } }) ∧
  (∀ (s : State), (s.pwr.mainOn = true) →
      (1 ≤ s.stage) →
      (s.host.perstHigh = true) →
      (s.get R.IMG_STAT_LOCKOUT = 1 ∨ s.get R.IMG_STAT_SESSION = 1 ∨ s.img.comparing ≠ none) →
      Gives (exec (.openSession) s) fun t =>
        t.img = { s.img with pw := [] } ∧
        Logs s t [(0x0210, chip, [p1 (if s.get R.IMG_STAT_LOCKOUT = 1 then 1 else if s.get R.IMG_STAT_SESSION = 1 then 2 else 3)])] ∧
        FieldsBut s t [] ∧
        RegsOnly { s with img := t.img } t) ∧
  (∀ (s : State) (p : List Byte), (s.pwr.mainOn = true) →
      (s.img.comparing = some p) →
      (s.img.loaded = true) →
      (sha256 (s.tab.password.take 16 ++ p) = (s.tab.password.drop 16).take 32) →
      Gives (exec (.passwordCompareDone) s) fun t =>
        t.get R.IMG_STAT_SESSION = 1 ∧
        t.get R.IMG_STAT_RECOVERY_SESSION = 0 ∧
        t.get R.IMG_STAT_FAIL_COUNT = 0 ∧
        t.img = { s.img with comparing := none, sessionEnd := s.pwr.optime + 600000 } ∧
        Logs s t [(0x0204, chip, [p1 0])] ∧
        FieldsBut s t [R.IMG_STAT_SESSION, R.IMG_STAT_RECOVERY_SESSION, R.IMG_STAT_FAIL_COUNT] ∧
        RegsOnly { s with img := t.img } t) ∧
  (∀ (s : State) (p : List Byte), (s.pwr.mainOn = true) →
      (s.img.comparing = some p) →
      (s.img.loaded = false) →
      (s.img.shadow = none) →
      (8 ≤ p.length) →
      (p.length ≤ 32) →
      Gives (exec (.passwordCompareDone) s) fun t =>
        t.get R.IMG_STAT_SESSION = 1 ∧
        t.get R.IMG_STAT_RECOVERY_SESSION = 1 ∧
        t.img.sessionEnd = s.pwr.optime + 600000 ∧
        RegsOnly { s with img := t.img } t) ∧
  (∀ (s : State) (p : List Byte), (s.pwr.mainOn = true) →
      (s.img.comparing = some p) →
      (s.img.loaded = false) →
      (s.img.shadow = none) →
      (p.length < 8 ∨ 32 < p.length) →
      Gives (exec (.passwordCompareDone) s) fun t =>
        t.get R.IMG_STAT_FAIL_COUNT = satNat 5 (s.get R.IMG_STAT_FAIL_COUNT + 1) ∧
        t.get R.IMG_STAT_SESSION = s.get R.IMG_STAT_SESSION ∧
        (4 ≤ s.get R.IMG_STAT_FAIL_COUNT → t.get R.IMG_STAT_LOCKOUT = 1 ∧ t.img.lockoutEnd = s.pwr.optime + 900000) ∧
        (s.get R.IMG_STAT_FAIL_COUNT < 4 → t.get R.IMG_STAT_LOCKOUT = s.get R.IMG_STAT_LOCKOUT)) ∧
  (∀ (s : State), (s.pwr.mainOn = true) →
      (1 ≤ s.stage) →
      (s.host.perstHigh = true) →
      (s.get R.IMG_STAT_SESSION = 1) →
      (s.get R.DIAG_DBG_STAT_HALTED = 0) →
      (s.get R.DIAG_DBG_STAT_BKPT = 0) →
      (s.get R.DIAG_DBG_STAT_UNLOCKED = 0) →
      Gives (exec (.closeSession) s) fun t =>
        t.get R.IMG_STAT_SESSION = 0 ∧
        t.get R.IMG_STAT_RECOVERY_SESSION = 0 ∧
        Logs s t [(0x0205, chip, [p1 0])] ∧
        FieldsBut s t [R.IMG_STAT_SESSION, R.IMG_STAT_RECOVERY_SESSION] ∧
        RegsOnly s t) ∧
  (∀ (s : State), (s.pwr.mainOn = true) →
      (s.get R.IMG_STAT_SESSION = 1) →
      (s.get R.DIAG_DBG_STAT_HALTED = 0) →
      (s.get R.DIAG_DBG_STAT_BKPT = 0) →
      (s.get R.DIAG_DBG_STAT_UNLOCKED = 0) →
      Gives (exec (.sessionExpiry) s) fun t =>
        t.get R.IMG_STAT_SESSION = 0 ∧
        t.get R.IMG_STAT_RECOVERY_SESSION = 0 ∧
        Logs s t [(0x0205, chip, [p1 1])] ∧
        FieldsBut s t [R.IMG_STAT_SESSION, R.IMG_STAT_RECOVERY_SESSION] ∧
        RegsOnly s t) ∧
  (∀ (s : State), (s.pwr.mainOn = true) →
      (s.get R.IMG_STAT_LOCKOUT = 1) →
      Gives (exec (.lockoutEnd) s) fun t =>
        t.get R.IMG_STAT_LOCKOUT = 0 ∧
        t.get R.IMG_STAT_FAIL_COUNT = 0 ∧
        t.img.lockoutEnd = 0 ∧
        t.log = s.log ∧
        FieldsBut s t [R.IMG_STAT_LOCKOUT, R.IMG_STAT_FAIL_COUNT])

/-- The image is read once in stage 0: the slot chosen is loaded, or image recovery is entered. IMAGE_LOAD in stage 0, not attempted yet, VOUT33 good, outside board test and RESET_N: where a slot holds an intact image the one chosen under R122 is loaded, with its slot and binding class shown, FOREIGN_IMAGE for a class other than 0; where none is, IMAGE_RECOVERY and RECOVERY are set and nothing is loaded. An erased NOR is image recovery. At any other time the command has no effect. Readings that are the model's own, and no rule of the manual: log entry 23. -/
def Obligations.ImageLoading : Prop :=
  (∀ (s : State) (d : Word), (s.pwr.mainOn = true) →
      (s.stage = 0) →
      (s.img.attempted = false) →
      (s.pwr.boardTest = false) →
      (s.pwr.held = false) →
      (s.get R.PWR_STAT_VOUT33_OK = 1) →
      Gives (exec (.imageLoad d) s) fun t =>
        t.img.attempted = true ∧
        t.img.nor = s.img.nor ∧
        t.nodes = s.nodes ∧
        t.pwr = s.pwr ∧
        (match chooseSlot (intactSlots s.img.nor d.toNat) with | none => t.get R.GLOBAL_STAGE_IMAGE_RECOVERY = 1 ∧ t.get R.IMG_STAT_RECOVERY = 1 ∧ t.img.loaded = s.img.loaded ∧ t.img.data = s.img.data | some p => t.img.loaded = true ∧ t.img.dir = p.2.dir ∧ t.get R.IMG_STAT_SLOT = p.1 % 2 ∧ t.get R.IMG_STAT_BIND = p.2.bindClass ∧ (p.2.bindClass ≠ 0 → t.get R.GLOBAL_STAGE_FOREIGN_IMAGE = 1) ∧ t.get R.IMG_REV = p.2.rev)) ∧
  (∀ (s : State) (d : Word), (s.pwr.mainOn = true) →
      (s.stage = 0) →
      (s.img.attempted = false) →
      (s.pwr.boardTest = false) →
      (s.pwr.held = false) →
      (s.get R.PWR_STAT_VOUT33_OK = 1) →
      (s.img.nor = []) →
      Gives (exec (.imageLoad d) s) fun t =>
        t.get R.GLOBAL_STAGE_IMAGE_RECOVERY = 1) ∧
  (∀ (s : State) (d : Word), (s.pwr.mainOn = true) →
      (s.stage ≠ 0 ∨ s.img.attempted = true ∨ s.pwr.boardTest = true ∨ s.pwr.held = true ∨ s.get R.PWR_STAT_VOUT33_OK = 0) →
      Gives (exec (.imageLoad d) s) fun t =>
        t = s)

/-- Recommissioning a loaded image: its conditions and what its completion leaves. RECOMMISSION in a session with none in progress: the first failing condition of R134 refuses it with 0x020F (with no image loaded no check has passed: condition 3), otherwise the acceptance check is requested; in Split it is refused, with a free value where no condition of R134 fails (log entry 63); while one is in progress it changes nothing. Its completion takes the next bind sequence (R131), writes the image to its own slot, sets the binding class 0, clears FOREIGN_IMAGE and renews the password shadow with 0x020B; where a byte fails twice it logs 0x020A with that address, and BIND and FOREIGN_IMAGE stay. Readings that are the model's own, and no rule of the manual: log entries 23, 26 and 118. -/
def Obligations.Recommissioning : Prop :=
  (∀ (s : State), (s.pwr.mainOn = true) →
      (1 ≤ s.stage) →
      (s.host.perstHigh = true) →
      (s.session = true) →
      (s.img.recomm = false) →
      (s.recommRefusal ≠ 0) →
      Gives (exec (.recommission) s) fun t =>
        Logs s t [(0x020F, chip, [p1 s.recommRefusal])] ∧
        FieldsBut s t [] ∧
        RegsOnly s.keepSession t) ∧
  (∀ (s : State), (s.pwr.mainOn = true) →
      (1 ≤ s.stage) →
      (s.host.perstHigh = true) →
      (s.session = true) →
      (s.img.loaded = true) →
      (s.img.recomm = false) →
      (s.recommRefusal = 0) →
      (s.get R.PAIR_STAT_MODE ≠ 2) →
      Gives (exec (.recommission) s) fun t =>
        t.img.recomm = true ∧
        t.img.checks = s.img.checks ++ [5] ∧
        t.get R.IMG_CHECK_BUSY = 1 ∧
        t.log = s.log ∧
        FieldsBut s t [R.IMG_CHECK_BUSY]) ∧
  (∀ (s : State), (s.pwr.mainOn = true) →
      (1 ≤ s.stage) →
      (s.host.perstHigh = true) →
      (s.session = true) →
      (s.img.loaded = false) →
      (s.img.recomm = false) →
      (s.recommRefusal = 0) →
      (s.get R.PAIR_STAT_MODE ≠ 2) →
      Gives (exec (.recommission) s) fun t =>
        Logs s t [(0x020F, chip, [p1 3])] ∧
        FieldsBut s t [] ∧
        RegsOnly s.keepSession t) ∧
  (∀ (s : State), (s.pwr.mainOn = true) →
      (1 ≤ s.stage) →
      (s.host.perstHigh = true) →
      (s.session = true) →
      (s.img.recomm = false) →
      (s.recommRefusal = 0) →
      (s.get R.PAIR_STAT_MODE = 2) →
      Gives (exec (.recommission) s) fun t =>
        t.img = s.keepSession.img ∧
        t.free = s.free + 1 ∧
        FieldsBut s t []) ∧
  (∀ (s : State), (s.pwr.mainOn = true) →
      (1 ≤ s.stage) →
      (s.host.perstHigh = true) →
      (s.session = true) →
      (s.img.recomm = true) →
      Gives (exec (.recommission) s) fun t =>
        t = s.keepSession) ∧
  (∀ (s : State), (s.pwr.mainOn = true) →
      (s.img.recomm = true) →
      (s.img.checks.contains 5 = false) →
      Gives (exec (.recommissionDone none) s) fun t =>
        t.img.recomm = false ∧
        t.img.bindCount = (s.img.bindCount + 1) % 2 ^ 32 ∧
        t.get R.IMG_STAT_BIND = 0 ∧
        t.get R.GLOBAL_STAGE_FOREIGN_IMAGE = 0 ∧
        t.get R.IMG_STAT_SHADOW = 1 ∧
        t.img.nor = (s.writeSlot s.slotBase ((s.tab.append s.pwr.optime s.pwr.cycles 3 s.tab.rev ((s.img.bindCount + 1) % 2 ^ 32)).bind ((s.img.bindCount + 1) % 2 ^ 32)) none).img.nor ∧
        t.nodes = s.nodes) ∧
  (∀ (s : State) (a : BitVec 32), (s.pwr.mainOn = true) →
      (s.img.recomm = true) →
      (s.img.checks.contains 5 = false) →
      Gives (exec (.recommissionDone (some a)) s) fun t =>
        t.img.recomm = false ∧
        t.img.bindCount = (s.img.bindCount + 1) % 2 ^ 32 ∧
        Logs s t [(0x020A, chip, [p1 (s.get R.IMG_STAT_SLOT), p2 a.toNat])] ∧
        FieldsBut s t [] ∧
        t.img.data = s.img.data) ∧
  (∀ (s : State) (f : Option (BitVec 32)), (s.pwr.mainOn = true) →
      (s.img.recomm = false ∨ s.img.checks.contains 5 = true) →
      Gives (exec (.recommissionDone f) s) fun t =>
        t = s)

/-- Update of the image: START, validation, COMMIT, its end, ABORT. In a session: START in stage 4 over an Image-transfer ring, from UPD_STATE 0 or 5 and above, erases the target slot and gives state 1 with IMG_UPD_LEN 0. The validation of state 2 gives state 3 where it finds nothing, 6 where it finds a refusal. COMMIT in state 3 gives state 4 where the repair state is the one validated; where it has changed the deadline check runs again and gives 4 or 6; in any other state it does nothing. The end of the commit takes the next bind sequence and gives state 5 with 0x0208, or 7 with 0x020A where a byte fails. ABORT gives state 0, and ends a recovery chunk or commit in progress; it has no effect in state 4. Readings that are the model's own, and no rule of the manual: log entry 24. -/
def Obligations.Updates : Prop :=
  (∀ (s : State), (s.pwr.mainOn = true) →
      (s.stage = 4) →
      (s.session = true) →
      (s.get R.IMG_STAT_UPD_STATE = 0 ∨ 5 ≤ s.get R.IMG_STAT_UPD_STATE) →
      (s.get (R.RING_STAT_TYPE (s.get R.IMG_UPD_RING)) = 5) →
      Gives (exec (.startUpdate) s) fun t =>
        t.get R.IMG_STAT_UPD_STATE = 1 ∧
        t.get R.IMG_UPD_LEN = 0 ∧
        t.img.target = s.targetSlot * s.img.slotSize ∧
        t.img.magic = [] ∧
        t.img.nor = s.img.nor.filter (fun p => decide (p.1 < s.targetSlot * s.img.slotSize) || decide (s.targetSlot * s.img.slotSize + s.img.slotSize ≤ p.1)) ∧
        FieldsBut s t [R.IMG_STAT_UPD_STATE, R.IMG_UPD_LEN] ∧
        t.log = s.log) ∧
  (∀ (s : State), (s.pwr.mainOn = true) →
      (s.get R.IMG_STAT_UPD_STATE = 2) →
      (s.img.recCommit = false) →
      Gives (exec (.validationDone) s) fun t =>
        t.get R.IMG_STAT_UPD_STATE = (if (s.validate 0).1.isEmpty then 3 else 6) ∧
        t.host.icause.getLsbD 5 = true ∧
        ((s.validate 0).1.isEmpty = true → t.img.repairSeen = t.get R.DIAG_REP_SEQ) ∧
        t.img.nor = s.img.nor ∧
        t.img.data = s.img.data ∧
        t.img.bindCount = s.img.bindCount) ∧
  (∀ (s : State), (s.pwr.mainOn = true) →
      (1 ≤ s.stage) →
      (s.host.perstHigh = true) →
      (s.session = true) →
      (s.get R.IMG_STAT_UPD_STATE = 3) →
      (s.img.repairSeen = s.get R.DIAG_REP_SEQ) →
      Gives (exec (.commitUpdate) s) fun t =>
        t.get R.IMG_STAT_UPD_STATE = 4 ∧
        FieldsBut s t [R.IMG_STAT_UPD_STATE] ∧
        t = { s.keepSession with regs := t.regs }) ∧
  (∀ (s : State), (s.pwr.mainOn = true) →
      (s.get R.IMG_STAT_UPD_STATE = 4) →
      Gives (exec (.commitDone none) s) fun t =>
        t.get R.IMG_STAT_UPD_STATE = 5 ∧
        t.img.bindCount = (s.img.bindCount + 1) % 2 ^ 32 ∧
        t.get R.IMG_STAT_SHADOW = 1 ∧
        t.img.nor = (s.writeSlot s.img.target ((s.staged.parsed.append s.pwr.optime s.pwr.cycles 2 s.tab.rev ((s.img.bindCount + 1) % 2 ^ 32)).bind ((s.img.bindCount + 1) % 2 ^ 32)) none).img.nor ∧
        t.img.data = s.img.data ∧
        t.host.icause.getLsbD 5 = true ∧
        FieldsBut s t [R.IMG_STAT_UPD_STATE, R.IMG_STAT_SHADOW]) ∧
  (∀ (s : State) (a : BitVec 32), (s.pwr.mainOn = true) →
      (s.get R.IMG_STAT_UPD_STATE = 4) →
      Gives (exec (.commitDone (some a)) s) fun t =>
        t.get R.IMG_STAT_UPD_STATE = 7 ∧
        t.img.bindCount = (s.img.bindCount + 1) % 2 ^ 32 ∧
        t.host.icause.getLsbD 5 = true ∧
        t.img.shadow = s.img.shadow ∧
        FieldsBut s t [R.IMG_STAT_UPD_STATE]) ∧
  (∀ (s : State), (s.pwr.mainOn = true) →
      (1 ≤ s.stage) →
      (s.host.perstHigh = true) →
      (s.session = true) →
      (s.get R.IMG_STAT_UPD_STATE = 3) →
      (s.img.repairSeen ≠ s.get R.DIAG_REP_SEQ) →
      Gives (exec (.commitUpdate) s) fun t =>
        t.get R.IMG_STAT_UPD_STATE = (if (s.keepSession.runCheckOn s.staged.parsed false 0).1.isEmpty then 4 else 6) ∧
        t.img.nor = s.img.nor ∧
        t.img.bindCount = s.img.bindCount) ∧
  (∀ (s : State), (s.pwr.mainOn = true) →
      (1 ≤ s.stage) →
      (s.host.perstHigh = true) →
      (s.session = true) →
      (s.get R.IMG_STAT_UPD_STATE ≠ 3) →
      Gives (exec (.commitUpdate) s) fun t =>
        t = s.keepSession) ∧
  (∀ (s : State), (s.pwr.mainOn = true) →
      (1 ≤ s.stage) →
      (s.host.perstHigh = true) →
      (s.session = true) →
      (s.get R.IMG_STAT_UPD_STATE ≠ 4) →
      (s.get R.IMG_STAT_REC_BUSY = 0) →
      Gives (exec (.updateAbort) s) fun t =>
        t.get R.IMG_STAT_UPD_STATE = 0 ∧
        t.img = { s.keepSession.img with recCommit := false } ∧
        FieldsBut s t [R.IMG_STAT_UPD_STATE] ∧
        t = { s with regs := t.regs, img := t.img }) ∧
  (∀ (s : State), (s.pwr.mainOn = true) →
      (1 ≤ s.stage) →
      (s.host.perstHigh = true) →
      (s.session = true) →
      (s.get R.IMG_STAT_UPD_STATE ≠ 4) →
      (s.get R.IMG_STAT_REC_BUSY = 1) →
      Gives (exec (.updateAbort) s) fun t =>
        t.get R.IMG_STAT_UPD_STATE = 0 ∧
        t.get R.IMG_STAT_REC_BUSY = 0 ∧
        t.img = { s.keepSession.img with recCommit := false } ∧
        t.host.icause.getLsbD 5 = true ∧
        FieldsBut s t [R.IMG_STAT_UPD_STATE, R.IMG_STAT_REC_BUSY] ∧
        t.log = s.log) ∧
  (∀ (s : State), (s.pwr.mainOn = true) →
      (1 ≤ s.stage) →
      (s.host.perstHigh = true) →
      (s.session = true) →
      (s.get R.IMG_STAT_UPD_STATE = 4) →
      Gives (exec (.updateAbort) s) fun t =>
        t = s.keepSession)

/-- Recovery through the Exchange RAM, and the deadline check. In a session in recovery: REC_WRITE sets REC_BUSY, and from any state but 1 it begins anew: slot 0 is erased, IMG_UPD_LEN is 0 and UPD_STATE 1; the end of the chunk stages the bytes of the Exchange RAM at IMG_REC_OFF, clears REC_BUSY, adds the length to IMG_UPD_LEN and sets cause 5, and where a byte fails twice it gives state 7. REC_COMMIT begins the commit of a transfer that has started (UPD_STATE not 0); its end gives state 6 for a refused image, 5 with 0x020C for a good one, 7 where a byte fails. RUN requests a check of the loaded image with trigger 3; the end of the running check shows its trigger, its refusal count and its result, and BUSY while another waits. A check of a start (trigger 1) that fails sets CHECK_FAILED. Readings that are the model's own, and no rule of the manual: log entries 24 and 26. -/
def Obligations.RecoveryAndChecks : Prop :=
  (∀ (s : State), (s.pwr.mainOn = true) →
      (1 ≤ s.stage) →
      (s.host.perstHigh = true) →
      (s.session = true) →
      (s.get R.IMG_STAT_RECOVERY = 1) →
      (s.get R.IMG_STAT_REC_BUSY = 0) →
      (s.img.recCommit = false) →
      (s.get R.IMG_STAT_UPD_STATE = 1) →
      Gives (exec (.recWrite) s) fun t =>
        t.get R.IMG_STAT_REC_BUSY = 1 ∧
        FieldsBut s t [R.IMG_STAT_REC_BUSY] ∧
        t = { s.keepSession with regs := t.regs }) ∧
  (∀ (s : State), (s.pwr.mainOn = true) →
      (1 ≤ s.stage) →
      (s.host.perstHigh = true) →
      (s.session = true) →
      (s.get R.IMG_STAT_RECOVERY = 1) →
      (s.get R.IMG_STAT_REC_BUSY = 0) →
      (s.img.recCommit = false) →
      (s.get R.IMG_STAT_UPD_STATE ≠ 1) →
      Gives (exec (.recWrite) s) fun t =>
        t.get R.IMG_STAT_REC_BUSY = 1 ∧
        t.get R.IMG_STAT_UPD_STATE = 1 ∧
        t.get R.IMG_UPD_LEN = 0 ∧
        t.img.nor = s.img.nor.filter (fun p => decide (s.img.slotSize ≤ p.1)) ∧
        t.img.target = 0 ∧
        t.img.magic = [] ∧
        FieldsBut s t [R.IMG_STAT_REC_BUSY, R.IMG_STAT_UPD_STATE, R.IMG_UPD_LEN] ∧
        t = { s with regs := t.regs, img := t.img }) ∧
  (∀ (s : State), (s.pwr.mainOn = true) →
      (1 ≤ s.stage) →
      (s.host.perstHigh = true) →
      (s.session = true) →
      (s.get R.IMG_STAT_RECOVERY = 0 ∨ s.get R.IMG_STAT_REC_BUSY = 1 ∨ s.img.recCommit = true) →
      Gives (exec (.recWrite) s) fun t =>
        t = s.keepSession) ∧
  (∀ (s : State), (s.pwr.mainOn = true) →
      (s.get R.IMG_STAT_REC_BUSY = 1) →
      Gives (exec (.recChunkDone none) s) fun t =>
        t.get R.IMG_STAT_REC_BUSY = 0 ∧
        t.get R.IMG_UPD_LEN = satNat (2 ^ 32 - 1) (s.get R.IMG_UPD_LEN + s.get R.IMG_REC_LEN_LEN) ∧
        t.img = (s.stageBytes (s.get R.IMG_REC_OFF_OFF) ((s.xramBytes (s.get R.IMG_REC_LEN_LEN)).take (s.img.slotSize - s.get R.IMG_REC_OFF_OFF))).img ∧
        t.host.icause.getLsbD 5 = true ∧
        FieldsBut s t [R.IMG_STAT_REC_BUSY, R.IMG_UPD_LEN] ∧
        t.log = s.log) ∧
  (∀ (s : State) (a : BitVec 32), (s.pwr.mainOn = true) →
      (s.get R.IMG_STAT_REC_BUSY = 1) →
      Gives (exec (.recChunkDone (some a)) s) fun t =>
        t.get R.IMG_STAT_REC_BUSY = 0 ∧
        t.get R.IMG_STAT_UPD_STATE = 7 ∧
        t.host.icause.getLsbD 5 = true ∧
        Logs s t [(0x020A, chip, [p1 0, p2 a.toNat])] ∧
        FieldsBut s t [R.IMG_STAT_REC_BUSY, R.IMG_UPD_LEN, R.IMG_STAT_UPD_STATE]) ∧
  (∀ (s : State), (s.pwr.mainOn = true) →
      (1 ≤ s.stage) →
      (s.host.perstHigh = true) →
      (s.session = true) →
      (s.get R.IMG_STAT_RECOVERY = 1) →
      (s.get R.IMG_STAT_REC_BUSY = 0) →
      (s.img.recCommit = false) →
      (s.get R.IMG_STAT_UPD_STATE ≠ 0) →
      Gives (exec (.recCommit) s) fun t =>
        t.img = { s.keepSession.img with recCommit := true } ∧
        t.get R.IMG_STAT_UPD_STATE = 2 ∧
        FieldsBut s t [R.IMG_STAT_UPD_STATE] ∧
        t = { s with regs := t.regs, img := t.img }) ∧
  (∀ (s : State) (f : Option (BitVec 32)), (s.pwr.mainOn = true) →
      (s.img.recCommit = true) →
      Gives (exec (.recCommitDone f) s) fun t =>
        t.img.recCommit = false ∧
        t.get R.IMG_STAT_UPD_STATE = (if (({ s with img := { s.img with recCommit := false } }).validate 4).1.isEmpty then (if f.isSome then 7 else 5) else 6) ∧
        t.img.bindCount = (if (({ s with img := { s.img with recCommit := false } }).validate 4).1.isEmpty then (s.img.bindCount + 1) % 2 ^ 32 else s.img.bindCount) ∧
        t.host.icause.getLsbD 5 = true) ∧
  (∀ (s : State), (s.pwr.mainOn = true) →
      (1 ≤ s.stage) →
      (s.host.perstHigh = true) →
      (s.img.loaded = true) →
      Gives (exec (.runCheck) s) fun t =>
        t.img.checks = s.img.checks ++ [3] ∧
        t.get R.IMG_CHECK_BUSY = 1 ∧
        FieldsBut s t [R.IMG_CHECK_BUSY] ∧
        t = { s with regs := t.regs, img := { s.img with checks := s.img.checks ++ [3] } }) ∧
  (∀ (s : State) (k : Nat) (more : List Nat), (s.pwr.mainOn = true) →
      (s.img.checks = k :: more) →
      (s.img.loaded = true) →
      (k < 6) →
      Gives (exec (.deadlineCheckDone) s) fun t =>
        t.img.checks = more ∧
        t.get R.IMG_CHECK_BUSY = b2n (!more.isEmpty) ∧
        t.get R.IMG_CHECK_TRIGGER = k ∧
        t.host.icause.getLsbD 5 = true ∧
        (t.get R.IMG_CHECK_RESULT = 1 ∨ t.get R.IMG_CHECK_RESULT = 2) ∧
        (k = 1 → (t.get R.IMG_CHECK_RESULT = 1 → t.img.checked = true) ∧ (t.get R.IMG_CHECK_RESULT = 2 → t.get R.GLOBAL_STAGE_CHECK_FAILED = 1)) ∧
        t.img.nor = s.img.nor ∧
        t.img.data = s.img.data)

/-- Mains-angle time base: lock, loss, clamp, slip. From stage 1 with an image loaded: eight cycles within ±256 au and a frequency of 40 to 70 Hz lock the loop on the source it tries, with the mains angle at the measured phase and the frequency in force; otherwise they only show PHERR and OUT_40_70. A loss (three phase errors beyond 2,048 au, the signal lost, or the frequency outside 40 to 70 Hz) clears LOCKED, counts and logs 0x0302; an observation without one keeps the lock. The end of a fallback returns to the wanted source with 0x0307; the clamp follows the frequency against f_min and f_max; a measured phase with the slip within ±64 au ends SLEWING with 0x0305. SCHED_LOCKED is LOCKED with a slip of at most 64 au. ACQUIRE drops the lock without counting a loss. How a measured phase enters the mains angle is the model's reading (log entry 95). Readings that are the model's own, and no rule of the manual: log entries 28, 95 and 120. -/
def Obligations.AngleLock : Prop :=
  (∀ (s : State) (f : Word) (obs : List (BitVec 16 × BitVec 16)) (mv : BitVec 16), (s.pwr.mainOn = true) →
      (1 ≤ s.stage) →
      (s.img.loaded = true) →
      (s.get R.ANG_STAT_LOCKED = 0) →
      (s.get R.ANG_STAT_SRC_ACTIVE < 2) →
      (s.ang.tryOther = false) →
      (obs.length = 8) →
      (obs.all (fun o => decide ((s.tab.phaseErr (s.get R.ANG_STAT_SRC_ACTIVE) o).natAbs ≤ 256)) = true) →
      (400000 ≤ f.toNat) →
      (f.toNat ≤ 700000) →
      Gives (exec (.lockAcquired f obs mv) s) fun t =>
        t.get R.ANG_STAT_LOCKED = 1 ∧
        t.get R.ANG_FREQ = f.toNat ∧
        t.ang.mains / 65536 = s.tab.phaseOf (s.get R.ANG_STAT_SRC_ACTIVE) ((obs.getLast?.map Prod.fst).getD 0#16).toNat ∧
        t.get R.ANG_SLIP_SLIP = t.ang.slip % 65536 ∧
        t.get R.ANG_STAT_SCHED_LOCKED = b2n (slipSmall t.ang.slip) ∧
        t.get R.ANG_STAT_SRC_ACTIVE = s.get R.ANG_STAT_SRC_ACTIVE ∧
        t.get R.ANG_STAT_CLAMPED = b2n (s.outside f.toNat) ∧
        t.ang.everLocked = true ∧
        t.ang.sched = s.ang.sched ∧
        RegsBut s t [Blk.ANG] ∧
        RegsOnly { s with ang := t.ang } t) ∧
  (∀ (s : State) (f : Word) (obs : List (BitVec 16 × BitVec 16)) (mv : BitVec 16), (s.pwr.mainOn = true) →
      (1 ≤ s.stage) →
      (s.img.loaded = true) →
      (s.get R.ANG_STAT_LOCKED = 0) →
      (s.get R.ANG_STAT_SRC_ACTIVE < 2) →
      (s.ang.tryOther = true) →
      (obs.length = 8) →
      (obs.all (fun o => decide ((s.tab.phaseErr (1 - s.get R.ANG_STAT_SRC_ACTIVE) o).natAbs ≤ 256)) = true) →
      (400000 ≤ f.toNat) →
      (f.toNat ≤ 700000) →
      Gives (exec (.lockAcquired f obs mv) s) fun t =>
        t.get R.ANG_STAT_LOCKED = 1 ∧
        t.get R.ANG_STAT_SRC_ACTIVE = 1 - s.get R.ANG_STAT_SRC_ACTIVE ∧
        t.get R.ANG_STAT_FALLBACK = b2n (decide (1 - s.get R.ANG_STAT_SRC_ACTIVE ≠ s.wantSource)) ∧
        t.ang.tryOther = false ∧
        RegsBut s t [Blk.ANG] ∧
        RegsOnly { s with ang := t.ang } t) ∧
  (∀ (s : State) (f : Word) (obs : List (BitVec 16 × BitVec 16)) (mv : BitVec 16), (s.pwr.mainOn = true) →
      (1 ≤ s.stage) →
      (s.img.loaded = true) →
      (s.get R.ANG_STAT_LOCKED = 0) →
      (s.get R.ANG_STAT_SRC_ACTIVE < 2) →
      (s.ang.tryOther = false) →
      (obs.length ≠ 8 ∨ f.toNat < 400000 ∨ 700000 < f.toNat) →
      Gives (exec (.lockAcquired f obs mv) s) fun t =>
        t.get R.ANG_STAT_LOCKED = 0 ∧
        t.get R.ANG_STAT_OUT_40_70 = b2n (decide (f.toNat < 400000) || decide (700000 < f.toNat)) ∧
        t.get R.ANG_AMPL_AMPL = mv.toNat ∧
        FieldsBut s t [R.ANG_SLIP_PHERR, R.ANG_STAT_OUT_40_70, R.ANG_AMPL_AMPL] ∧
        t = { s with regs := t.regs, ang := { s.ang with amplCyc := s.ang.mainsCyc + 1 } }) ∧
  (∀ (s : State) (o : LossObs) (k : Nat), (s.pwr.mainOn = true) →
      (s.get R.ANG_STAT_LOCKED = 1) →
      (s.tab.lossCause (s.get R.ANG_STAT_SRC_ACTIVE) o = some k) →
      Gives (exec (.lockLost o) s) fun t =>
        t.get R.ANG_STAT_LOCKED = 0 ∧
        t.get R.ANG_STAT_SCHED_LOCKED = 0 ∧
        t.get R.ANG_STAT_SLEWING = 0 ∧
        t.get R.ANG_COUNT_LOSSES = satNat (2 ^ R.ANG_COUNT_LOSSES.w - 1) (s.get R.ANG_COUNT_LOSSES + 1) ∧
        t.get R.ANG_FREQ = s.get R.ANG_FREQ ∧
        t.get R.ANG_AMPL_AMPL = o.mv.toNat ∧
        t.ang.tryOther = s.fallsBack ∧
        Logs s t [(0x0302, chip, [p1 (s.get R.ANG_STAT_SRC_ACTIVE), p1 k])] ∧
        RegsBut s t [Blk.ANG] ∧
        RegsOnly { s with ang := t.ang } t) ∧
  (∀ (s : State) (o : LossObs), (s.pwr.mainOn = true) →
      (s.get R.ANG_STAT_LOCKED = 1) →
      (s.tab.lossCause (s.get R.ANG_STAT_SRC_ACTIVE) o = none) →
      Gives (exec (.lockLost o) s) fun t =>
        t.get R.ANG_STAT_LOCKED = 1 ∧
        t.get R.ANG_COUNT_LOSSES = s.get R.ANG_COUNT_LOSSES ∧
        FieldsBut s t [R.ANG_SLIP_PHERR, R.ANG_AMPL_AMPL] ∧
        t = { s with regs := t.regs, ang := t.ang }) ∧
  (∀ (s : State) (o : LossObs), (s.pwr.mainOn = true) →
      (s.get R.ANG_STAT_LOCKED = 0) →
      Gives (exec (.lockLost o) s) fun t =>
        t = s) ∧
  (∀ (s : State) (k : Nat) (o : LossObs), (o.phases.length = 3) →
      (o.phases.all (fun x => decide (2048 < (s.tab.phaseErr k x).natAbs)) = true) →
      (s.tab.lossCause k o = some 0)) ∧
  (∀ (s : State) (k : Nat) (o : LossObs), (o.phases = []) →
      (o.crossing = true) →
      (500 ≤ o.mv.toNat) →
      (o.freq.toNat < 400000 ∨ 700000 < o.freq.toNat) →
      (s.tab.lossCause k o = some 2)) ∧
  (∀ (s : State) (k : Nat) (o : LossObs), (o.phases = []) →
      (o.crossing = false ∨ (k = 0 ∧ o.mv.toNat < 500)) →
      (100000 * s.tab.u8 7 0x18 ≤ o.ms.toNat * s.tab.fNom) →
      (s.tab.lossCause k o = some 1)) ∧
  (∀ (s : State) (ph : BitVec 16), (s.pwr.mainOn = true) →
      (s.get R.ANG_STAT_FALLBACK = 1) →
      (s.get R.ANG_STAT_SLEWING = 0) →
      Gives (exec (.imageSourceRestored ph) s) fun t =>
        t.get R.ANG_STAT_FALLBACK = 0 ∧
        t.get R.ANG_STAT_SRC_ACTIVE = s.wantSource % 4 ∧
        t.ang.mains / 65536 = s.tab.phaseOf s.wantSource ph.toNat ∧
        t.ang.tryOther = false ∧
        Logs s t [(0x0307, chip, [p1 s.wantSource])] ∧
        RegsBut s t [Blk.ANG] ∧
        RegsOnly { s with ang := t.ang } t) ∧
  (∀ (s : State) (ph : BitVec 16), (s.pwr.mainOn = true) →
      (s.get R.ANG_STAT_FALLBACK = 0) →
      (s.ang.tryOther = true) →
      Gives (exec (.imageSourceRestored ph) s) fun t =>
        t.ang = { s.ang with tryOther := false } ∧
        Logs s t [(0x0307, chip, [p1 s.wantSource])] ∧
        FieldsBut s t []) ∧
  (∀ (s : State) (ph : BitVec 16), (s.pwr.mainOn = true) →
      (s.get R.ANG_STAT_FALLBACK = 0) →
      (s.ang.tryOther = false) →
      Gives (exec (.imageSourceRestored ph) s) fun t =>
        t = s) ∧
  (∀ (s : State) (f : Word) (ph : BitVec 16), (s.pwr.mainOn = true) →
      (1 ≤ s.stage) →
      (s.img.loaded = true) →
      (400000 ≤ f.toNat) →
      (f.toNat ≤ 700000) →
      Gives (exec (.frequencyClamp f ph) s) fun t =>
        t.get R.ANG_STAT_CLAMPED = b2n (s.outside f.toNat) ∧
        t.get R.ANG_FREQ = f.toNat ∧
        t.get R.ANG_SLIP_SLIP = t.ang.slip % 65536 ∧
        t.get R.ANG_STAT_LOCKED = s.get R.ANG_STAT_LOCKED ∧
        (s.outside f.toNat = true → s.freqMin ≤ s.freqMax → s.freqMax < 2 ^ 32 → t.get R.ANG_SFREQ = s.clampFreq f.toNat) ∧
        RegsBut s t [Blk.ANG]) ∧
  (∀ (s : State) (f : Word) (ph : BitVec 16), (s.pwr.mainOn = true) →
      (1 ≤ s.stage) →
      (s.img.loaded = true) →
      (s.get R.ANG_STAT_LOCKED = 1) →
      (f.toNat < 400000 ∨ 700000 < f.toNat) →
      Gives (exec (.frequencyClamp f ph) s) fun t =>
        t.get R.ANG_STAT_LOCKED = 0 ∧
        t.get R.ANG_STAT_OUT_40_70 = 1 ∧
        t.get R.ANG_COUNT_LOSSES = satNat (2 ^ R.ANG_COUNT_LOSSES.w - 1) (s.get R.ANG_COUNT_LOSSES + 1) ∧
        RegsBut s t [Blk.ANG]) ∧
  (∀ (s : State) (f : Word) (ph : BitVec 16), (s.pwr.mainOn = true) →
      (s.stage = 0 ∨ s.img.loaded = false) →
      Gives (exec (.frequencyClamp f ph) s) fun t =>
        t = s) ∧
  (∀ (s : State) (ph mv : BitVec 16), (s.pwr.mainOn = true) →
      (s.get R.ANG_STAT_LOCKED = 1) →
      (s.get R.ANG_STAT_SLEWING = 1) →
      (slipSmall (s.setMains (s.tab.phaseOf (s.get R.ANG_STAT_SRC_ACTIVE) ph.toNat)).ang.slip = true) →
      Gives (exec (.slipResolved ph mv) s) fun t =>
        t.get R.ANG_STAT_SLEWING = 0 ∧
        t.get R.ANG_STAT_SCHED_LOCKED = 1 ∧
        t.ang.mains / 65536 = s.tab.phaseOf (s.get R.ANG_STAT_SRC_ACTIVE) ph.toNat ∧
        Logs s t [(0x0305, chip, [p2 s.ang.slipStart, pS ((s.pwr.optime - s.ang.slipAt : Nat) : Int)])] ∧
        RegsBut s t [Blk.ANG] ∧
        RegsOnly { s with ang := t.ang } t) ∧
  (∀ (s : State) (ph mv : BitVec 16), (s.pwr.mainOn = true) →
      (s.get R.ANG_STAT_SLEWING = 0 ∨ slipSmall (s.setMains (s.tab.phaseOf (s.get R.ANG_STAT_SRC_ACTIVE) ph.toNat)).ang.slip = false) →
      Gives (exec (.slipResolved ph mv) s) fun t =>
        t = s) ∧
  (∀ (s : State), (s.pwr.mainOn = true) →
      (1 ≤ s.stage) →
      (s.host.perstHigh = true) →
      (s.img.loaded = true) →
      Gives (exec (.acquireLock) s) fun t =>
        t.get R.ANG_STAT_LOCKED = 0 ∧
        t.get R.ANG_COUNT_LOSSES = s.get R.ANG_COUNT_LOSSES ∧
        t.ang.edgeSeen = false ∧
        t.ang.tryOther = false ∧
        t.log = s.log ∧
        RegsBut s t [Blk.ANG] ∧
        t = { s with regs := t.regs, ang := t.ang })

/-- SYNC_IN edges, source override, cycle count and the latched read of the schedule angle. A SYNC_IN edge from stage 1 with an image, while SYNC_IN is the active source: within its window it is accepted, outside it counts as rejected. SRC_OVR in a session with a new value holds it and logs 0x0309; a change of the active source drops the lock. A schedule cycle boundary brings the schedule angle to 0, adds 1 to the cycle count and T to the credit of test slots, to at most 2T. A read of ANG_NOW_AU latches the matching cycle count. That the first edge of an acquisition is accepted is the model's choice (log entry 28). Readings that are the model's own, and no rule of the manual: log entries 28, 29, 95 and 120. -/
def Obligations.AngleSchedule : Prop :=
  (∀ (s : State) (u : Word), (s.pwr.mainOn = true) →
      (1 ≤ s.stage) →
      (s.img.loaded = true) →
      (s.get R.ANG_STAT_SRC_ACTIVE = 1) →
      (s.edgeOk u.toNat = true) →
      Gives (exec (.syncInEdge u) s) fun t =>
        t = { s with ang := { s.ang with edgeSeen := true } }) ∧
  (∀ (s : State) (u : Word), (s.pwr.mainOn = true) →
      (1 ≤ s.stage) →
      (s.img.loaded = true) →
      (s.get R.ANG_STAT_SRC_ACTIVE = 1) →
      (s.edgeOk u.toNat = false) →
      Gives (exec (.syncInEdge u) s) fun t =>
        t.get R.ANG_COUNT_REJECTED = satNat (2 ^ R.ANG_COUNT_REJECTED.w - 1) (s.get R.ANG_COUNT_REJECTED + 1) ∧
        t.ang.edgeSeen = s.ang.edgeSeen ∧
        FieldsBut s t [R.ANG_COUNT_REJECTED] ∧
        RegsOnly { s with ang := t.ang } t) ∧
  (∀ (s : State) (u : Word), (s.pwr.mainOn = true) →
      (s.stage = 0 ∨ s.img.loaded = false) →
      Gives (exec (.syncInEdge u) s) fun t =>
        t = s) ∧
  (∀ (s : State) (u : Word), (s.get R.ANG_STAT_LOCKED = 0) →
      (s.ang.edgeSeen = true) →
      (s.edgeOk u.toNat = (decide (14200 ≤ u.toNat) && decide (u.toNat ≤ 25100)))) ∧
  (∀ (s : State) (v : BitVec 2), (s.pwr.mainOn = true) →
      (1 ≤ s.stage) →
      (s.host.perstHigh = true) →
      (s.session = true) →
      (s.img.loaded = true) →
      (v.toNat ≠ s.get R.ANG_CTRL_SRC_OVR) →
      Gives (exec (.srcOvr v) s) fun t =>
        t.get R.ANG_CTRL_SRC_OVR = v.toNat ∧
        Logs s t [(0x0309, chip, [p1 v.toNat])] ∧
        ((v.toNat ≠ 0 → t.get R.ANG_STAT_SRC_ACTIVE = v.toNat - 1)) ∧
        ((v.toNat ≠ 0 → v.toNat - 1 ≠ s.get R.ANG_STAT_SRC_ACTIVE → t.get R.ANG_STAT_LOCKED = 0)) ∧
        RegsBut s t [Blk.ANG]) ∧
  (∀ (s : State) (v : BitVec 2), (s.pwr.mainOn = true) →
      (1 ≤ s.stage) →
      (s.host.perstHigh = true) →
      (s.session = false) →
      (v.toNat ≠ s.get R.ANG_CTRL_SRC_OVR) →
      Gives (exec (.srcOvr v) s) fun t =>
        Logs s t [(0x020E, chip, [p2 4])] ∧
        FieldsBut s t [] ∧
        RegsOnly s t) ∧
  (∀ (s : State), (s.pwr.mainOn = true) →
      (s.img.loaded = true) →
      Gives (exec (.scheduleCycleBoundary) s) fun t =>
        t.ang.cycle = s.ang.cycle + 1#32 ∧
        t.ang.sched = 0 ∧
        t.ang.credit = min (2 * s.tab.schedT) (s.ang.credit + s.tab.schedT) ∧
        t.get R.ANG_STAT_LOCKED = s.get R.ANG_STAT_LOCKED ∧
        t.get R.ANG_FREQ = s.get R.ANG_FREQ ∧
        RegsBut s t [Blk.ANG] ∧
        RegsOnly { s with ang := t.ang } t) ∧
  (∀ (s : State), (s.pwr.mainOn = true) →
      (s.img.loaded = false) →
      Gives (exec (.scheduleCycleBoundary) s) fun t =>
        t = s) ∧
  (∀ (s : State) (au : BitVec 16), (s.pwr.mainOn = true) →
      (1 ≤ s.stage) →
      (s.host.perstHigh = true) →
      (s.img.loaded = true) →
      Gives (exec (.angNowAu au) s) fun t =>
        t.ang.au = au.toNat ∧
        t.ang.cycLatch = s.ang.cycle ∧
        t.ang.cycle = s.ang.cycle ∧
        RegsBut s t [Blk.ANG] ∧
        RegsOnly { s with ang := t.ang } t) ∧
  (∀ (s : State) (au : BitVec 16), (s.pwr.mainOn = true) →
      (1 ≤ s.stage) →
      (s.host.perstHigh = true) →
      (s.img.loaded = false) →
      Gives (exec (.angNowAu au) s) fun t =>
        t = { s with ang := { s.ang with cycLatch := s.ang.cycle } })

/-- A frame to a node that cannot take it: no node, a failed check, a response, a reserved opcode. For each of the 13 commands that bring a frame to a node, with the opcode of its row: where no node is known there, it has no supply or it sleeps, nothing changes. Where the frame fails R182 the node raises ERR_RX, saturating, switches its DN driver on again, answers nothing and repeats the frame. A response is repeated and has no other effect than every valid frame. A command with a reserved opcode is repeated without effect, but one of 0x47 or above addressed to the node is answered with status 1 and not repeated (R209). In each case every other node and every other part of the state stays. Readings that are the model's own, and no rule of the manual: log entries 36, 92, 96 and 97. -/
def Obligations.NodesThatDoNotTakeAFrame : Prop :=
  (∀ (s : State) (c : Fin 64) (p : Fin 128) (f : NodeRx) (pl : List Byte) (z : BitVec 24) (sn : BitVec 8) (q : BitVec 16) (aux : BitVec 3) (r : Nat × List Byte × Instr),
    r ∈ [(1, pl, Instr.sweepFrame c p f { payload := pl, closed := z }), (2, [], Instr.collectFrame c p f), (3, pl, Instr.collectSeg c p f { payload := pl, seen := sn, quiet := q }), (4, pl, Instr.enumFrame c p f pl), (5, pl, Instr.assignNode c p f pl), (6, [], Instr.echoFrame c p f), (0x40, pl, Instr.readReg c p f pl), (0x41, pl, Instr.writeReg c p f pl), (0x42, pl, Instr.balSet c p f pl), (0x43, pl, Instr.ctrSet c p f pl aux), (0x44, pl, Instr.selftest c p f pl), (0x45, pl, Instr.sleepFrame c p f pl), (0x46, pl, Instr.clearNode c p { rx := f, payload := pl })] →
    s.nodeUp c.val p.val = false → exec r.2.2 s = .next s) ∧
  (∀ (s : State) (c : Fin 64) (p : Fin 128) (f : NodeRx) (pl : List Byte) (z : BitVec 24) (sn : BitVec 8) (q : BitVec 16) (aux : BitVec 3) (r : Nat × List Byte × Instr),
    r ∈ [(1, pl, Instr.sweepFrame c p f { payload := pl, closed := z }), (2, [], Instr.collectFrame c p f), (3, pl, Instr.collectSeg c p f { payload := pl, seen := sn, quiet := q }), (4, pl, Instr.enumFrame c p f pl), (5, pl, Instr.assignNode c p f pl), (6, [], Instr.echoFrame c p f), (0x40, pl, Instr.readReg c p f pl), (0x41, pl, Instr.writeReg c p f pl), (0x42, pl, Instr.balSet c p f pl), (0x43, pl, Instr.ctrSet c p f pl aux), (0x44, pl, Instr.selftest c p f pl), (0x45, pl, Instr.sleepFrame c p f pl), (0x46, pl, Instr.clearNode c p { rx := f, payload := pl })] →
    s.nodeUp c.val p.val = true → rxOk f r.1 r.2.1 = false →
      Gives (exec r.2.2 s) fun t => (t.node c.val p.val) = { (s.node c.val p.val) with errRx := satNat 0xFFFF ((s.node c.val p.val).errRx + 1), dnOff := false } ∧ t.out = .nodeRepeat c.val p.val f (rxOpcode f r.1) r.2.1 :: s.out ∧ NodeOnly s t (c.val * 128 + p.val)) ∧
  (∀ (s : State) (c : Fin 64) (p : Fin 128) (f : NodeRx) (pl : List Byte) (z : BitVec 24) (sn : BitVec 8) (q : BitVec 16) (aux : BitVec 3) (r : Nat × List Byte × Instr),
    r ∈ [(1, pl, Instr.sweepFrame c p f { payload := pl, closed := z }), (2, [], Instr.collectFrame c p f), (3, pl, Instr.collectSeg c p f { payload := pl, seen := sn, quiet := q }), (4, pl, Instr.enumFrame c p f pl), (5, pl, Instr.assignNode c p f pl), (6, [], Instr.echoFrame c p f), (0x40, pl, Instr.readReg c p f pl), (0x41, pl, Instr.writeReg c p f pl), (0x42, pl, Instr.balSet c p f pl), (0x43, pl, Instr.ctrSet c p f pl aux), (0x44, pl, Instr.selftest c p f pl), (0x45, pl, Instr.sleepFrame c p f pl), (0x46, pl, Instr.clearNode c p { rx := f, payload := pl })] →
    s.nodeUp c.val p.val = true → rxOk f r.1 r.2.1 = true → f.rsp = true →
      Gives (exec r.2.2 s) fun t => (t.node c.val p.val) = ((s.node c.val p.val).rx f true) ∧ t.out = .nodeRepeat c.val p.val f (rxOpcode f r.1) r.2.1 :: s.out ∧ NodeOnly s t (c.val * 128 + p.val)) ∧
  (∀ (s : State) (c : Fin 64) (p : Fin 128) (f : NodeRx) (pl : List Byte) (z : BitVec 24) (sn : BitVec 8) (q : BitVec 16) (aux : BitVec 3) (r : Nat × List Byte × Instr),
    r ∈ [(1, pl, Instr.sweepFrame c p f { payload := pl, closed := z }), (2, [], Instr.collectFrame c p f), (3, pl, Instr.collectSeg c p f { payload := pl, seen := sn, quiet := q }), (4, pl, Instr.enumFrame c p f pl), (5, pl, Instr.assignNode c p f pl), (6, [], Instr.echoFrame c p f), (0x40, pl, Instr.readReg c p f pl), (0x41, pl, Instr.writeReg c p f pl), (0x42, pl, Instr.balSet c p f pl), (0x43, pl, Instr.ctrSet c p f pl aux), (0x44, pl, Instr.selftest c p f pl), (0x45, pl, Instr.sleepFrame c p f pl), (0x46, pl, Instr.clearNode c p { rx := f, payload := pl })] →
    s.nodeUp c.val p.val = true → rxOk f r.1 r.2.1 = true → f.rsp = false → reservedOpc f.opc.toNat = true → ((s.node c.val p.val).mine f = false ∨ f.opc.toNat < 0x47) → ((s.node c.val p.val).mine f = true ∨ f.hop ≠ 0xFE#8) →
      Gives (exec r.2.2 s) fun t => (t.node c.val p.val) = ((s.node c.val p.val).rx f true) ∧ ((s.node c.val p.val).mine f = false → t.out = .nodeRepeat c.val p.val f (rxOpcode f r.1) r.2.1 :: s.out) ∧ NodeOnly s t (c.val * 128 + p.val)) ∧
  (∀ (s : State) (c : Fin 64) (p : Fin 128) (f : NodeRx) (pl : List Byte) (z : BitVec 24) (sn : BitVec 8) (q : BitVec 16) (aux : BitVec 3) (r : Nat × List Byte × Instr),
    r ∈ [(1, pl, Instr.sweepFrame c p f { payload := pl, closed := z }), (2, [], Instr.collectFrame c p f), (3, pl, Instr.collectSeg c p f { payload := pl, seen := sn, quiet := q }), (4, pl, Instr.enumFrame c p f pl), (5, pl, Instr.assignNode c p f pl), (6, [], Instr.echoFrame c p f), (0x40, pl, Instr.readReg c p f pl), (0x41, pl, Instr.writeReg c p f pl), (0x42, pl, Instr.balSet c p f pl), (0x43, pl, Instr.ctrSet c p f pl aux), (0x44, pl, Instr.selftest c p f pl), (0x45, pl, Instr.sleepFrame c p f pl), (0x46, pl, Instr.clearNode c p { rx := f, payload := pl })] →
    s.nodeUp c.val p.val = true → rxOk f r.1 r.2.1 = true → f.rsp = false → 0x47 ≤ f.opc.toNat → (s.node c.val p.val).mine f = true →
      Gives (exec r.2.2 s) fun t => (t.node c.val p.val) = ((s.node c.val p.val).rx f true) ∧ t.out = .node c.val p.val (f.dn == f.lin) (lineFrame false (frame f.opc.toNat f.hop.toNat f.tag.toNat true false false [1#8])) :: s.out ∧ NodeOnly s t (c.val * 128 + p.val))

/-- SWEEP and its tokens, the gate, the conversion, the data build and the collection at a node. The first valid copy of SWEEP(N) with 76 bytes is taken: epoch, LATE, gate flag, ring flag, and the compensation of the port it came by; another copy of that epoch has no effect. A copy not addressed to the node goes on out of the other port. The gate of an NH0824 freezes its balancing, open where the SWEEP enabled the gate. A conversion after a SWEEP samples the inputs and ends the freeze; the shunt inputs of an NH0403 become currents. The build gives 72 bytes; without a SWEEP there is neither. COLLECT to the node, and COLLECT_SEG whose range holds its number, answer with the data of the latest build; of COLLECT_SEG a node with k nodes beyond it comes to its turn by R203. A string node that takes a SWEEP evaluates its two tokens: HOLD is set exactly when both results are 0; where either is 1, the authentic open command, all coil drivers go off and LATCHED_OPEN is set; otherwise the drivers stay until the token timeout. Readings that are the model's own, and no rule of the manual: log entries 37, 38, 97, 98, 99 and 123. -/
def Obligations.NodeSweepAndData : Prop :=
  (∀ (s : State) (c : Fin 64) (p : Fin 128) (f : NodeRx) (pl : List Byte) (z : BitVec 24), (s.nodeUp c.val p.val = true) →
      (rxOk f 1 pl = true) →
      (f.rsp = false) →
      (reservedOpc f.opc.toNat = false) →
      (pl.length = 76) →
      ((s.node c.val p.val).typ = 2) →
      ((s.node c.val p.val).heard = false ∨ (s.node c.val p.val).epoch ≠ BitVec.ofNat 32 (ofLe (pl.take 4))) →
      Gives (exec (.sweepFrame c p f { payload := pl, closed := z }) s) fun t =>
        (t.node c.val p.val).hold = ((t.node c.val p.val).tokResA == 0 && (t.node c.val p.val).tokResB == 0) ∧
        ((t.node c.val p.val).tokResA = 1 ∨ (t.node c.val p.val).tokResB = 1 → (t.node c.val p.val).drive = 0#3 ∧ (t.node c.val p.val).latched = true) ∧
        ((t.node c.val p.val).tokResA ≠ 1 → (t.node c.val p.val).tokResB ≠ 1 → (t.node c.val p.val).drive = (s.node c.val p.val).drive ∧ (t.node c.val p.val).latched = (s.node c.val p.val).latched)) ∧
  (∀ (s : State) (c : Fin 64) (p : Fin 128) (f : NodeRx) (pl : List Byte) (z : BitVec 24), (s.nodeUp c.val p.val = true) →
      (rxOk f 1 pl = true) →
      (f.rsp = false) →
      (reservedOpc f.opc.toNat = false) →
      (pl.length = 76) →
      ((s.node c.val p.val).heard = false ∨ (s.node c.val p.val).epoch ≠ BitVec.ofNat 32 (ofLe (pl.take 4))) →
      Gives (exec (.sweepFrame c p f { payload := pl, closed := z }) s) fun t =>
        (t.node c.val p.val).swept = true ∧
        (t.node c.val p.val).epoch = BitVec.ofNat 32 (ofLe (pl.take 4)) ∧
        (t.node c.val p.val).late = f.late ∧
        (t.node c.val p.val).gateEn = (ofLe ((pl.drop 6).take 2)).testBit 0 ∧
        (t.node c.val p.val).ring = (ofLe ((pl.drop 6).take 2)).testBit 2 ∧
        (t.node c.val p.val).comp = (if f.late then 0 else if f.dn then (s.node c.val p.val).compRet else (s.node c.val p.val).compOut) ∧
        NodeOnly s t (c.val * 128 + p.val) ∧
        t.out = (if (s.node c.val p.val).mine f = true then s.out else .nodeRepeat c.val p.val f 1 pl :: s.out)) ∧
  (∀ (s : State) (c : Fin 64) (p : Fin 128) (f : NodeRx) (pl : List Byte) (z : BitVec 24), (s.nodeUp c.val p.val = true) →
      (rxOk f 1 pl = true) →
      (f.rsp = false) →
      (reservedOpc f.opc.toNat = false) →
      ((s.node c.val p.val).heard = true) →
      ((s.node c.val p.val).epoch = BitVec.ofNat 32 (ofLe (pl.take 4))) →
      Gives (exec (.sweepFrame c p f { payload := pl, closed := z }) s) fun t =>
        (t.node c.val p.val) = ((s.node c.val p.val).rx f true) ∧
        NodeOnly s t (c.val * 128 + p.val) ∧
        t.out = (if (s.node c.val p.val).mine f = true then s.out else .nodeRepeat c.val p.val f 1 pl :: s.out)) ∧
  (∀ (s : State) (c : Fin 64) (p : Fin 128) , (s.nodeUp c.val p.val = true) →
      ((s.node c.val p.val).typ = 1) →
      ((s.node c.val p.val).late = false) →
      Gives (exec (.balanceGate c p) s) fun t =>
        (t.node c.val p.val) = { (s.node c.val p.val) with frozen := true, gated := (s.node c.val p.val).gateEn, closed := if (s.node c.val p.val).gateEn then 0#24 else (s.node c.val p.val).dutied } ∧
        NodeOnly s t (c.val * 128 + p.val) ∧
        t.out = s.out) ∧
  (∀ (s : State) (c : Fin 64) (p : Fin 128) , (s.nodeUp c.val p.val = true) →
      ((s.node c.val p.val).typ ≠ 1 ∨ (s.node c.val p.val).late = true) →
      Gives (exec (.balanceGate c p) s) fun t =>
        (t.node c.val p.val) = (s.node c.val p.val) ∧
        NodeOnly s t (c.val * 128 + p.val) ∧
        t.out = s.out) ∧
  (∀ (s : State) (c : Fin 64) (p : Fin 128) (v : List (BitVec 16)) (w : List Word) (e : Bool), (s.nodeUp c.val p.val = true) →
      ((s.node c.val p.val).swept = true) →
      ((s.node c.val p.val).typ = 1) →
      Gives (exec (.conversion c p { inputs := v, shunt := w } e) s) fun t =>
        (t.node c.val p.val).conv = slice 0#16 v 0 32 ∧
        (t.node c.val p.val).convErr = e ∧
        (t.node c.val p.val).convGate = (s.node c.val p.val).gated ∧
        (t.node c.val p.val).frozen = false ∧
        (t.node c.val p.val).gated = false ∧
        NodeOnly s t (c.val * 128 + p.val) ∧
        t.out = s.out) ∧
  (∀ (s : State) (c : Fin 64) (p : Fin 128) (v : List (BitVec 16)) (w : List Word) (e : Bool), (s.nodeUp c.val p.val = true) →
      ((s.node c.val p.val).swept = true) →
      ((s.node c.val p.val).typ = 2) →
      Gives (exec (.conversion c p { inputs := v, shunt := w } e) s) fun t =>
        (t.node c.val p.val).conv = encAmps ((s.node c.val p.val).amps20 ((s.node c.val p.val).orient (nth 0#32 w 0).toInt) 1) :: encAmps ((s.node c.val p.val).amps20 ((s.node c.val p.val).orient (nth 0#32 w 1).toInt) 1) :: (slice 0#16 v 0 32).drop 2 ∧
        (t.node c.val p.val).convErr = e ∧
        (t.node c.val p.val).frozen = false ∧
        NodeOnly s t (c.val * 128 + p.val) ∧
        t.out = s.out) ∧
  (∀ (s : State) (c : Fin 64) (p : Fin 128) (v : List (BitVec 16)) (w : List Word) (e : Bool), (s.nodeUp c.val p.val = true) →
      ((s.node c.val p.val).swept = false) →
      Gives (exec (.conversion c p { inputs := v, shunt := w } e) s) fun t =>
        (t.node c.val p.val) = (s.node c.val p.val) ∧
        NodeOnly s t (c.val * 128 + p.val) ∧
        t.out = s.out) ∧
  (∀ (s : State) (c : Fin 64) (p : Fin 128) (d : StringData), (s.nodeUp c.val p.val = true) →
      ((s.node c.val p.val).swept = true) →
      Gives (exec (.dataBuild c p d) s) fun t =>
        (t.node c.val p.val).data.length = 72 ∧
        (t.node c.val p.val).swept = false ∧
        (t.node c.val p.val).answered = false ∧
        (t.node c.val p.val).late = false ∧
        (t.node c.val p.val).epoch = (s.node c.val p.val).epoch ∧
        nth 0#8 (t.node c.val p.val).data 71 = (s.node c.val p.val).epoch.setWidth 8 ∧
        NodeOnly s t (c.val * 128 + p.val) ∧
        t.out = s.out) ∧
  (∀ (s : State) (c : Fin 64) (p : Fin 128) (d : StringData), (s.nodeUp c.val p.val = true) →
      ((s.node c.val p.val).swept = false) →
      Gives (exec (.dataBuild c p d) s) fun t =>
        (t.node c.val p.val) = (s.node c.val p.val) ∧
        NodeOnly s t (c.val * 128 + p.val) ∧
        t.out = s.out) ∧
  (∀ (s : State) (c : Fin 64) (p : Fin 128) (f : NodeRx), (s.nodeUp c.val p.val = true) →
      (rxOk f 2 [] = true) →
      (f.rsp = false) →
      (reservedOpc f.opc.toNat = false) →
      ((s.node c.val p.val).mine f = true) →
      Gives (exec (.collectFrame c p f) s) fun t =>
        (t.node c.val p.val) = { ((s.node c.val p.val).rx f true) with answered := true } ∧
        t.out = .node c.val p.val (f.dn == f.lin) (lineFrame false (frame 0x02 f.hop.toNat f.tag.toNat true false false (slice 0#8 (s.node c.val p.val).data 0 72))) :: s.out ∧
        NodeOnly s t (c.val * 128 + p.val)) ∧
  (∀ (s : State) (c : Fin 64) (p : Fin 128) (f : NodeRx) (m sn : Byte) (q : BitVec 16), (s.nodeUp c.val p.val = true) →
      (rxOk f 3 [m] = true) →
      (f.rsp = false) →
      (reservedOpc f.opc.toNat = false) →
      ((s.node c.val p.val).num f.dn ≠ 0) →
      ((s.node c.val p.val).num f.dn ≤ f.hop.toNat) →
      (f.hop.toNat < (s.node c.val p.val).num f.dn + m.toNat) →
      ((f.hop.toNat - (s.node c.val p.val).num f.dn ≤ sn.toNat) ∨ (sn.toNat = 0 ∧ 138 * (f.hop.toNat - (s.node c.val p.val).num f.dn) + 400 ≤ q.toNat) ∨ (sn.toNat ≠ 0 ∧ 200 ≤ q.toNat)) →
      Gives (exec (.collectSeg c p f { payload := [m], seen := sn, quiet := q }) s) fun t =>
        (t.node c.val p.val) = { ((s.node c.val p.val).rx f true) with answered := true } ∧
        t.out = .node c.val p.val (f.dn == f.lin) (lineFrame false (frame 0x03 f.hop.toNat f.tag.toNat true false false (slice 0#8 (s.node c.val p.val).data 0 72))) :: (if (s.node c.val p.val).mine f = true then s.out else .nodeRepeat c.val p.val f 3 [m] :: s.out) ∧
        NodeOnly s t (c.val * 128 + p.val)) ∧
  (∀ (s : State) (c : Fin 64) (p : Fin 128) (f : NodeRx) (m sn : Byte) (q : BitVec 16), (s.nodeUp c.val p.val = true) →
      (rxOk f 3 [m] = true) →
      (f.rsp = false) →
      (reservedOpc f.opc.toNat = false) →
      ((s.node c.val p.val).num f.dn ≠ 0) →
      ((s.node c.val p.val).num f.dn ≤ f.hop.toNat) →
      (f.hop.toNat < (s.node c.val p.val).num f.dn + m.toNat) →
      (sn.toNat < f.hop.toNat - (s.node c.val p.val).num f.dn) →
      (sn.toNat = 0 → q.toNat < 138 * (f.hop.toNat - (s.node c.val p.val).num f.dn) + 400) →
      (sn.toNat ≠ 0 → q.toNat < 200) →
      Gives (exec (.collectSeg c p f { payload := [m], seen := sn, quiet := q }) s) fun t =>
        (t.node c.val p.val) = ((s.node c.val p.val).rx f true) ∧
        t.out = (if (s.node c.val p.val).mine f = true then s.out else .nodeRepeat c.val p.val f 3 [m] :: s.out) ∧
        NodeOnly s t (c.val * 128 + p.val)) ∧
  (∀ (s : State) (c : Fin 64) (p : Fin 128) (f : NodeRx), (s.nodeUp c.val p.val = true) →
      (rxOk f 2 [] = true) →
      (f.rsp = false) →
      (reservedOpc f.opc.toNat = false) →
      ((s.node c.val p.val).mine f = false) →
      Gives (exec (.collectFrame c p f) s) fun t =>
        (t.node c.val p.val) = ((s.node c.val p.val).rx f true) ∧
        NodeOnly s t (c.val * 128 + p.val) ∧
        t.out = .nodeRepeat c.val p.val f 2 [] :: s.out)

/-- ENUM, ASSIGN and ECHO at a node. ENUM with HOP 0x00 clears the number of the receiving side and goes on; with HOP 0xFE and one byte a node without a number there takes it, answers with its identity and does not pass it on, and a node with a number passes it on. ASSIGN with 16 bytes takes both compensations, the token slot and the master ID, forgets the accepted epoch and the string number, clears HOLD and answers. ECHO addressed to the node is answered with the identity. Readings that are the model's own, and no rule of the manual: log entries 92 and 97. -/
def Obligations.NodeNumbersAndIdentity : Prop :=
  (∀ (s : State) (c : Fin 64) (p : Fin 128) (f : NodeRx) (pl : List Byte), (s.nodeUp c.val p.val = true) →
      (rxOk f 4 pl = true) →
      (f.rsp = false) →
      (reservedOpc f.opc.toNat = false) →
      (f.hop = 0#8) →
      Gives (exec (.enumFrame c p f pl) s) fun t =>
        (t.node c.val p.val) = ({ ((s.node c.val p.val).rx f true) with ring := false }).setNum f.dn 0 ∧
        NodeOnly s t (c.val * 128 + p.val) ∧
        t.out = .nodeRepeat c.val p.val f 4 pl :: s.out) ∧
  (∀ (s : State) (c : Fin 64) (p : Fin 128) (f : NodeRx) (k : Byte), (s.nodeUp c.val p.val = true) →
      (rxOk f 4 [k] = true) →
      (f.rsp = false) →
      (reservedOpc f.opc.toNat = false) →
      (f.hop = 0xFE#8) →
      ((s.node c.val p.val).num f.dn = 0) →
      Gives (exec (.enumFrame c p f [k]) s) fun t =>
        (t.node c.val p.val).num f.dn = k.toNat ∧
        (t.node c.val p.val) = ({ ((s.node c.val p.val).rx f true) with ring := false }).setNum f.dn k.toNat ∧
        t.out = .node c.val p.val (f.dn == f.lin) (lineFrame false (frame 0x04 f.hop.toNat f.tag.toNat true false false ((t.node c.val p.val).identity))) :: s.out ∧
        NodeOnly s t (c.val * 128 + p.val)) ∧
  (∀ (s : State) (c : Fin 64) (p : Fin 128) (f : NodeRx) (k : Byte), (s.nodeUp c.val p.val = true) →
      (rxOk f 4 [k] = true) →
      (f.rsp = false) →
      (reservedOpc f.opc.toNat = false) →
      (f.hop = 0xFE#8) →
      ((s.node c.val p.val).num f.dn ≠ 0) →
      ((s.node c.val p.val).num f.dn ≠ 0xFE) →
      Gives (exec (.enumFrame c p f [k]) s) fun t =>
        (t.node c.val p.val) = { ((s.node c.val p.val).rx f true) with ring := false } ∧
        t.out = .nodeRepeat c.val p.val f 4 [k] :: s.out ∧
        NodeOnly s t (c.val * 128 + p.val)) ∧
  (∀ (s : State) (c : Fin 64) (p : Fin 128) (f : NodeRx) (pl : List Byte), (s.nodeUp c.val p.val = true) →
      (rxOk f 5 pl = true) →
      (f.rsp = false) →
      (reservedOpc f.opc.toNat = false) →
      ((s.node c.val p.val).mine f = true) →
      (pl.length = 16) →
      Gives (exec (.assignNode c p f pl) s) fun t =>
        (t.node c.val p.val).compOut = ofLe (pl.take 2) ∧
        (t.node c.val p.val).compRet = ofLe ((pl.drop 2).take 2) ∧
        (t.node c.val p.val).tokenSlot = ofLe ((pl.drop 4).take 1) ∧
        (t.node c.val p.val).lastMaster = BitVec.ofNat 64 (ofLe ((pl.drop 8).take 8)) ∧
        (t.node c.val p.val).lastEpoch = none ∧
        (t.node c.val p.val).hold = false ∧
        (t.node c.val p.val).written.contains 0x8A = false ∧
        t.out = .node c.val p.val (f.dn == f.lin) (lineFrame false (frame 0x05 f.hop.toNat f.tag.toNat true false false ([]))) :: s.out ∧
        NodeOnly s t (c.val * 128 + p.val)) ∧
  (∀ (s : State) (c : Fin 64) (p : Fin 128) (f : NodeRx) (pl : List Byte), (s.nodeUp c.val p.val = true) →
      (rxOk f 5 pl = true) →
      (f.rsp = false) →
      (reservedOpc f.opc.toNat = false) →
      ((s.node c.val p.val).mine f = false) →
      Gives (exec (.assignNode c p f pl) s) fun t =>
        (t.node c.val p.val) = ((s.node c.val p.val).rx f true) ∧
        t.out = .nodeRepeat c.val p.val f 5 pl :: s.out ∧
        NodeOnly s t (c.val * 128 + p.val)) ∧
  (∀ (s : State) (c : Fin 64) (p : Fin 128) (f : NodeRx), (s.nodeUp c.val p.val = true) →
      (rxOk f 6 [] = true) →
      (f.rsp = false) →
      (reservedOpc f.opc.toNat = false) →
      ((s.node c.val p.val).mine f = true) →
      Gives (exec (.echoFrame c p f) s) fun t =>
        (t.node c.val p.val) = ((s.node c.val p.val).rx f true) ∧
        t.out = .node c.val p.val (f.dn == f.lin) (lineFrame false (frame 0x06 f.hop.toNat f.tag.toNat true false false (((s.node c.val p.val).rx f true).identity))) :: s.out ∧
        NodeOnly s t (c.val * 128 + p.val))

/-- READ_REG, WRITE_REG, BAL_SET and CTR_SET at a node, with their status bytes. READ_REG of 1 to 46 words within 0x100 answers status 0, the address and the words; 0 or more than 46 answers 3, beyond 0x100 answers 4. WRITE_REG of one word that may hold the value writes it and answers 0 with 0xFFFF, or writes none and answers the status and address of the word refused. BAL_SET with 24 codes up to 200 answers 0 and takes them, after the freeze where one runs; a greater code answers 3. CTR_SET with a request and its complement sets the drivers and clears LATCHED_OPEN, but a driver newly on without HOLD, or while NO_CONFIG stands, answers 5 and changes nothing, and a bad complement answers 3. A command for the other node type answers 1, one with a wrong length 2. Readings that are the model's own, and no rule of the manual: log entries 36 and 97. -/
def Obligations.NodeRegisters : Prop :=
  (∀ (s : State) (c : Fin 64) (p : Fin 128) (f : NodeRx) (a n : Nat), (s.nodeUp c.val p.val = true) →
      (rxOk f 0x40 (leBytes 2 a ++ leBytes 1 n) = true) →
      (f.rsp = false) →
      (reservedOpc f.opc.toNat = false) →
      ((s.node c.val p.val).mine f = true) →
      (1 ≤ n) →
      (n ≤ 46) →
      (a + n ≤ 256) →
      Gives (exec (.readReg c p f (leBytes 2 a ++ leBytes 1 n)) s) fun t =>
        (t.node c.val p.val) = ((s.node c.val p.val).rx f true) ∧
        t.out = .node c.val p.val (f.dn == f.lin) (lineFrame false (frame 0x40 f.hop.toNat f.tag.toNat true false false (0#8 :: leBytes 2 a ++ (List.range n).flatMap (fun k => leBytes 2 (((s.node c.val p.val).rx f true).readWord (a + k)))))) :: s.out ∧
        NodeOnly s t (c.val * 128 + p.val)) ∧
  (∀ (s : State) (c : Fin 64) (p : Fin 128) (f : NodeRx) (a n : Nat), (s.nodeUp c.val p.val = true) →
      (rxOk f 0x40 (leBytes 2 a ++ leBytes 1 n) = true) →
      (f.rsp = false) →
      (reservedOpc f.opc.toNat = false) →
      ((s.node c.val p.val).mine f = true) →
      (n < 256) →
      (a < 65536) →
      (n = 0 ∨ 46 < n) →
      Gives (exec (.readReg c p f (leBytes 2 a ++ leBytes 1 n)) s) fun t =>
        (t.node c.val p.val) = ((s.node c.val p.val).rx f true) ∧
        t.out = .node c.val p.val (f.dn == f.lin) (lineFrame false (frame 0x40 f.hop.toNat f.tag.toNat true false false (3#8 :: leBytes 2 a))) :: s.out ∧
        NodeOnly s t (c.val * 128 + p.val)) ∧
  (∀ (s : State) (c : Fin 64) (p : Fin 128) (f : NodeRx) (a n : Nat), (s.nodeUp c.val p.val = true) →
      (rxOk f 0x40 (leBytes 2 a ++ leBytes 1 n) = true) →
      (f.rsp = false) →
      (reservedOpc f.opc.toNat = false) →
      ((s.node c.val p.val).mine f = true) →
      (1 ≤ n) →
      (n ≤ 46) →
      (a < 65536) →
      (256 < a + n) →
      Gives (exec (.readReg c p f (leBytes 2 a ++ leBytes 1 n)) s) fun t =>
        (t.node c.val p.val) = ((s.node c.val p.val).rx f true) ∧
        t.out = .node c.val p.val (f.dn == f.lin) (lineFrame false (frame 0x40 f.hop.toNat f.tag.toNat true false false (4#8 :: leBytes 2 a))) :: s.out ∧
        NodeOnly s t (c.val * 128 + p.val)) ∧
  (∀ (s : State) (c : Fin 64) (p : Fin 128) (f : NodeRx) (a v : Nat), (s.nodeUp c.val p.val = true) →
      (rxOk f 0x41 (leBytes 2 a ++ leBytes 2 v) = true) →
      (f.rsp = false) →
      (reservedOpc f.opc.toNat = false) →
      ((s.node c.val p.val).mine f = true) →
      (a < 65536) →
      (v < 65536) →
      ((s.node c.val p.val).writeStatus a v = 0) →
      Gives (exec (.writeReg c p f (leBytes 2 a ++ leBytes 2 v)) s) fun t =>
        (t.node c.val p.val) = ((s.node c.val p.val).rx f true).writeWord a v ∧
        t.out = .node c.val p.val (f.dn == f.lin) (lineFrame false (frame 0x41 f.hop.toNat f.tag.toNat true false false (0#8 :: leBytes 2 0xFFFF))) :: s.out ∧
        NodeOnly s t (c.val * 128 + p.val)) ∧
  (∀ (s : State) (c : Fin 64) (p : Fin 128) (f : NodeRx) (a v : Nat), (s.nodeUp c.val p.val = true) →
      (rxOk f 0x41 (leBytes 2 a ++ leBytes 2 v) = true) →
      (f.rsp = false) →
      (reservedOpc f.opc.toNat = false) →
      ((s.node c.val p.val).mine f = true) →
      (a < 65536) →
      (v < 65536) →
      ((s.node c.val p.val).writeStatus a v ≠ 0) →
      Gives (exec (.writeReg c p f (leBytes 2 a ++ leBytes 2 v)) s) fun t =>
        (t.node c.val p.val) = ((s.node c.val p.val).rx f true) ∧
        t.out = .node c.val p.val (f.dn == f.lin) (lineFrame false (frame 0x41 f.hop.toNat f.tag.toNat true false false (BitVec.ofNat 8 ((s.node c.val p.val).writeStatus a v) :: leBytes 2 a))) :: s.out ∧
        NodeOnly s t (c.val * 128 + p.val)) ∧
  (∀ (s : State) (c : Fin 64) (p : Fin 128) (f : NodeRx) (pl : List Byte), (s.nodeUp c.val p.val = true) →
      (rxOk f 0x41 pl = true) →
      (f.rsp = false) →
      (reservedOpc f.opc.toNat = false) →
      ((s.node c.val p.val).mine f = true) →
      (pl.length < 4 ∨ pl.length % 2 = 1 ∨ 94 < pl.length) →
      Gives (exec (.writeReg c p f pl) s) fun t =>
        (t.node c.val p.val) = ((s.node c.val p.val).rx f true) ∧
        t.out = .node c.val p.val (f.dn == f.lin) (lineFrame false (frame 0x41 f.hop.toNat f.tag.toNat true false false ([2#8]))) :: s.out ∧
        NodeOnly s t (c.val * 128 + p.val)) ∧
  (∀ (s : State) (c : Fin 64) (p : Fin 128) (f : NodeRx) (pl : List Byte), (s.nodeUp c.val p.val = true) →
      (rxOk f 0x42 pl = true) →
      (f.rsp = false) →
      (reservedOpc f.opc.toNat = false) →
      ((s.node c.val p.val).mine f = true) →
      ((s.node c.val p.val).typ = 1) →
      (pl.length = 24) →
      (∀ d ∈ pl, d.toNat ≤ 200) →
      ((s.node c.val p.val).frozen = false) →
      Gives (exec (.balSet c p f pl) s) fun t =>
        (t.node c.val p.val).balCmd = pl.map BitVec.toNat ∧
        (t.node c.val p.val).balApplied = pl.map (fun d => min d.toNat ((s.node c.val p.val).rx f true).cap) ∧
        (t.node c.val p.val).stopped = false ∧
        t.out = .node c.val p.val (f.dn == f.lin) (lineFrame false (frame 0x42 f.hop.toNat f.tag.toNat true false false ([0#8]))) :: s.out ∧
        NodeOnly s t (c.val * 128 + p.val)) ∧
  (∀ (s : State) (c : Fin 64) (p : Fin 128) (f : NodeRx) (pl : List Byte), (s.nodeUp c.val p.val = true) →
      (rxOk f 0x42 pl = true) →
      (f.rsp = false) →
      (reservedOpc f.opc.toNat = false) →
      ((s.node c.val p.val).mine f = true) →
      ((s.node c.val p.val).typ = 1) →
      (pl.length = 24) →
      (∀ d ∈ pl, d.toNat ≤ 200) →
      ((s.node c.val p.val).frozen = true) →
      Gives (exec (.balSet c p f pl) s) fun t =>
        (t.node c.val p.val) = { ((s.node c.val p.val).rx f true) with balWait := some (pl.map BitVec.toNat) } ∧
        t.out = .node c.val p.val (f.dn == f.lin) (lineFrame false (frame 0x42 f.hop.toNat f.tag.toNat true false false ([0#8]))) :: s.out ∧
        NodeOnly s t (c.val * 128 + p.val)) ∧
  (∀ (s : State) (c : Fin 64) (p : Fin 128) (f : NodeRx) (pl : List Byte), (s.nodeUp c.val p.val = true) →
      (rxOk f 0x42 pl = true) →
      (f.rsp = false) →
      (reservedOpc f.opc.toNat = false) →
      ((s.node c.val p.val).mine f = true) →
      ((s.node c.val p.val).typ = 1) →
      (pl.length = 24) →
      (∃ d ∈ pl, 200 < d.toNat) →
      Gives (exec (.balSet c p f pl) s) fun t =>
        (t.node c.val p.val) = ((s.node c.val p.val).rx f true) ∧
        t.out = .node c.val p.val (f.dn == f.lin) (lineFrame false (frame 0x42 f.hop.toNat f.tag.toNat true false false ([3#8]))) :: s.out ∧
        NodeOnly s t (c.val * 128 + p.val)) ∧
  (∀ (s : State) (c : Fin 64) (p : Fin 128) (f : NodeRx) (pl : List Byte), (s.nodeUp c.val p.val = true) →
      (rxOk f 0x42 pl = true) →
      (f.rsp = false) →
      (reservedOpc f.opc.toNat = false) →
      ((s.node c.val p.val).mine f = true) →
      ((s.node c.val p.val).typ = 2) →
      Gives (exec (.balSet c p f pl) s) fun t =>
        (t.node c.val p.val) = ((s.node c.val p.val).rx f true) ∧
        t.out = .node c.val p.val (f.dn == f.lin) (lineFrame false (frame 0x42 f.hop.toNat f.tag.toNat true false false ([1#8]))) :: s.out ∧
        NodeOnly s t (c.val * 128 + p.val)) ∧
  (∀ (s : State) (c : Fin 64) (p : Fin 128) (f : NodeRx) (r : Byte) (aux : BitVec 3), (s.nodeUp c.val p.val = true) →
      (rxOk f 0x43 [r, ~~~r] = true) →
      (f.rsp = false) →
      (reservedOpc f.opc.toNat = false) →
      ((s.node c.val p.val).mine f = true) →
      ((s.node c.val p.val).typ = 2) →
      (r.toNat ≤ 7) →
      (r.setWidth 3 &&& ~~~(s.node c.val p.val).drive = 0#3 ∨ ((s.node c.val p.val).hold = true ∧ (s.node c.val p.val).noConfig = false)) →
      Gives (exec (.ctrSet c p f [r, ~~~r] aux) s) fun t =>
        (t.node c.val p.val) = { ((s.node c.val p.val).rx f true) with drive := r.setWidth 3, latched := false, stopped := false } ∧
        t.out = .node c.val p.val (f.dn == f.lin) (lineFrame false (frame 0x43 f.hop.toNat f.tag.toNat true false false ([0#8, BitVec.ofNat 8 ((t.node c.val p.val).contactor aux)]))) :: s.out ∧
        NodeOnly s t (c.val * 128 + p.val)) ∧
  (∀ (s : State) (c : Fin 64) (p : Fin 128) (f : NodeRx) (r : Byte) (aux : BitVec 3), (s.nodeUp c.val p.val = true) →
      (rxOk f 0x43 [r, ~~~r] = true) →
      (f.rsp = false) →
      (reservedOpc f.opc.toNat = false) →
      ((s.node c.val p.val).mine f = true) →
      ((s.node c.val p.val).typ = 2) →
      (r.toNat ≤ 7) →
      (r.setWidth 3 &&& ~~~(s.node c.val p.val).drive ≠ 0#3) →
      ((s.node c.val p.val).hold = false ∨ (s.node c.val p.val).noConfig = true) →
      Gives (exec (.ctrSet c p f [r, ~~~r] aux) s) fun t =>
        (t.node c.val p.val) = ((s.node c.val p.val).rx f true) ∧
        t.out = .node c.val p.val (f.dn == f.lin) (lineFrame false (frame 0x43 f.hop.toNat f.tag.toNat true false false ([5#8, BitVec.ofNat 8 (((s.node c.val p.val).rx f true).contactor aux)]))) :: s.out ∧
        NodeOnly s t (c.val * 128 + p.val)) ∧
  (∀ (s : State) (c : Fin 64) (p : Fin 128) (f : NodeRx) (r q : Byte) (aux : BitVec 3), (s.nodeUp c.val p.val = true) →
      (rxOk f 0x43 [r, q] = true) →
      (f.rsp = false) →
      (reservedOpc f.opc.toNat = false) →
      ((s.node c.val p.val).mine f = true) →
      ((s.node c.val p.val).typ = 2) →
      (7 < r.toNat ∨ q ≠ ~~~r) →
      Gives (exec (.ctrSet c p f [r, q] aux) s) fun t =>
        (t.node c.val p.val) = ((s.node c.val p.val).rx f true) ∧
        t.out = .node c.val p.val (f.dn == f.lin) (lineFrame false (frame 0x43 f.hop.toNat f.tag.toNat true false false ([3#8, BitVec.ofNat 8 (((s.node c.val p.val).rx f true).contactor aux)]))) :: s.out ∧
        NodeOnly s t (c.val * 128 + p.val))

/-- SELFTEST and its end, SLEEP, CLEAR, loss and return of supply, wake tone. SELFTEST with a code of the node's type, none running and no driver on for code 6, starts and answers 0; 6 answers while one runs, 3 for a code of the other type. Its end shows DONE, the words of Table NODE-14 and pass or fail by its criterion: 0.1 °C for code 3, 5 µV for code 6, whose offset is the new zero, both results for code 7. The broadcast SLEEP with 0xA5 switches balancing and drivers off, forgets the numbers and sleeps; an addressed one is answered, with 2 for a wrong length, and has no effect. CLEAR clears the error counters and the test and comparator faults; with a payload it answers 2. A wake tone of 0.5 ms or more ends sleep and is repeated out of the other port; 30 s without a valid frame return to sleep. Loss of supply keeps what is fixed and the last master ID only. Readings that are the model's own, and no rule of the manual: log entries 37, 100 and 101. -/
def Obligations.NodeTestsAndSleep : Prop :=
  (∀ (s : State) (c : Fin 64) (p : Fin 128) (f : NodeRx) (k : Byte), (s.nodeUp c.val p.val = true) →
      (rxOk f 0x44 [k] = true) →
      (f.rsp = false) →
      (reservedOpc f.opc.toNat = false) →
      ((s.node c.val p.val).mine f = true) →
      ((s.node c.val p.val).testing = none) →
      (nodeTest (s.node c.val p.val).typ k.toNat = true) →
      (k ≠ 6#8 ∨ (s.node c.val p.val).drive = 0#3) →
      Gives (exec (.selftest c p f [k]) s) fun t =>
        (t.node c.val p.val) = { ((s.node c.val p.val).rx f true) with testing := some k.toNat, testResult := k.toNat } ∧
        t.out = .node c.val p.val (f.dn == f.lin) (lineFrame false (frame 0x44 f.hop.toNat f.tag.toNat true false false ([0#8]))) :: s.out ∧
        NodeOnly s t (c.val * 128 + p.val)) ∧
  (∀ (s : State) (c : Fin 64) (p : Fin 128) (f : NodeRx) (k : Byte), (s.nodeUp c.val p.val = true) →
      (rxOk f 0x44 [k] = true) →
      (f.rsp = false) →
      (reservedOpc f.opc.toNat = false) →
      ((s.node c.val p.val).mine f = true) →
      ((s.node c.val p.val).testing ≠ none) →
      Gives (exec (.selftest c p f [k]) s) fun t =>
        (t.node c.val p.val) = ((s.node c.val p.val).rx f true) ∧
        t.out = .node c.val p.val (f.dn == f.lin) (lineFrame false (frame 0x44 f.hop.toNat f.tag.toNat true false false ([6#8]))) :: s.out ∧
        NodeOnly s t (c.val * 128 + p.val)) ∧
  (∀ (s : State) (c : Fin 64) (p : Fin 128) (f : NodeRx) (k : Byte), (s.nodeUp c.val p.val = true) →
      (rxOk f 0x44 [k] = true) →
      (f.rsp = false) →
      (reservedOpc f.opc.toNat = false) →
      ((s.node c.val p.val).mine f = true) →
      ((s.node c.val p.val).testing = none) →
      (nodeTest (s.node c.val p.val).typ k.toNat = false) →
      Gives (exec (.selftest c p f [k]) s) fun t =>
        (t.node c.val p.val) = ((s.node c.val p.val).rx f true) ∧
        t.out = .node c.val p.val (f.dn == f.lin) (lineFrame false (frame 0x44 f.hop.toNat f.tag.toNat true false false ([3#8]))) :: s.out ∧
        NodeOnly s t (c.val * 128 + p.val)) ∧
  (∀ (s : State) (c : Fin 64) (p : Fin 128) (b : Bool) (v : List (BitVec 16)) (k : Nat), (s.nodeUp c.val p.val = true) →
      ((s.node c.val p.val).testing = some k) →
      Gives (exec (.selftestDone c p b v) s) fun t =>
        (t.node c.val p.val).testing = none ∧
        (t.node c.val p.val).testResult = k + 256 + 512 * b2n (testPass k (slice 0#16 v 0 (testWords k)) b) ∧
        (t.node c.val p.val).testData = (slice 0#16 v 0 (testWords k)).map BitVec.toNat ∧
        (t.node c.val p.val).testFail = ((s.node c.val p.val).testFail || !(testPass k (slice 0#16 v 0 (testWords k)) b)) ∧
        ((t.node c.val p.val).zero = (if k = 6 ∧ testPass k (slice 0#16 v 0 (testWords k)) b = true then (nth 0#16 v 0).toInt else (s.node c.val p.val).zero)) ∧
        NodeOnly s t (c.val * 128 + p.val) ∧
        t.out = s.out) ∧
  (∀ (s : State) (v : List (BitVec 16)) (b : Bool), (v ≠ []) →
      (testPass 3 (slice 0#16 v 0 (testWords 3)) b = decide ((nth 0#16 v 0).toInt.natAbs ≤ 100)) ∧ (testPass 6 (slice 0#16 v 0 (testWords 6)) b = decide ((nth 0#16 v 0).toInt.natAbs ≤ 500)) ∧ (testPass 7 (slice 0#16 v 0 (testWords 7)) b = b)) ∧
  (∀ (s : State) (c : Fin 64) (p : Fin 128) (b : Bool) (v : List (BitVec 16)), (s.nodeUp c.val p.val = true) →
      ((s.node c.val p.val).testing = none) →
      Gives (exec (.selftestDone c p b v) s) fun t =>
        (t.node c.val p.val) = (s.node c.val p.val) ∧
        NodeOnly s t (c.val * 128 + p.val) ∧
        t.out = s.out) ∧
  (∀ (s : State) (c : Fin 64) (p : Fin 128) (f : NodeRx), (s.nodeUp c.val p.val = true) →
      (rxOk f 0x45 [0xA5#8] = true) →
      (f.rsp = false) →
      (reservedOpc f.opc.toNat = false) →
      (f.hop = 0#8) →
      Gives (exec (.sleepFrame c p f [0xA5#8]) s) fun t =>
        (t.node c.val p.val) = ((s.node c.val p.val).rx f true).toSleep ∧
        (t.node c.val p.val).asleep = true ∧
        (t.node c.val p.val).drive = 0#3 ∧
        (t.node c.val p.val).balApplied = [] ∧
        (t.node c.val p.val).outNum = 0 ∧
        t.out = .nodeRepeat c.val p.val f 0x45 [0xA5#8] :: s.out ∧
        NodeOnly s t (c.val * 128 + p.val)) ∧
  (∀ (s : State) (c : Fin 64) (p : Fin 128) (f : NodeRx) (pl : List Byte), (s.nodeUp c.val p.val = true) →
      (rxOk f 0x45 pl = true) →
      (f.rsp = false) →
      (reservedOpc f.opc.toNat = false) →
      ((s.node c.val p.val).mine f = true) →
      (pl.length ≠ 1) →
      Gives (exec (.sleepFrame c p f pl) s) fun t =>
        (t.node c.val p.val) = ((s.node c.val p.val).rx f true) ∧
        t.out = .node c.val p.val (f.dn == f.lin) (lineFrame false (frame 0x45 f.hop.toNat f.tag.toNat true false false ([2#8]))) :: s.out ∧
        NodeOnly s t (c.val * 128 + p.val)) ∧
  (∀ (s : State) (c : Fin 64) (p : Fin 128) (f : NodeRx) (k : Byte), (s.nodeUp c.val p.val = true) →
      (rxOk f 0x45 [k] = true) →
      (f.rsp = false) →
      (reservedOpc f.opc.toNat = false) →
      ((s.node c.val p.val).mine f = true) →
      Gives (exec (.sleepFrame c p f [k]) s) fun t =>
        (t.node c.val p.val) = ((s.node c.val p.val).rx f true) ∧
        t.free = s.free + 1) ∧
  (∀ (s : State) (c : Fin 64) (p : Fin 128) (f : NodeRx), (s.nodeUp c.val p.val = true) →
      (rxOk f 0x46 [] = true) →
      (f.rsp = false) →
      (reservedOpc f.opc.toNat = false) →
      (f.hop = 0#8) →
      Gives (exec (.clearNode c p { rx := f }) s) fun t =>
        (t.node c.val p.val) = { ((s.node c.val p.val).rx f true) with errRx := 0, errToken := 0, testFail := false, scFault := false } ∧
        t.out = .nodeRepeat c.val p.val f 0x46 [] :: s.out ∧
        NodeOnly s t (c.val * 128 + p.val)) ∧
  (∀ (s : State) (c : Fin 64) (p : Fin 128) (f : NodeRx), (s.nodeUp c.val p.val = true) →
      (rxOk f 0x46 [] = true) →
      (f.rsp = false) →
      (reservedOpc f.opc.toNat = false) →
      ((s.node c.val p.val).mine f = true) →
      Gives (exec (.clearNode c p { rx := f }) s) fun t =>
        (t.node c.val p.val) = { ((s.node c.val p.val).rx f true) with errRx := 0, errToken := 0, testFail := false, scFault := false } ∧
        t.out = .node c.val p.val (f.dn == f.lin) (lineFrame false (frame 0x46 f.hop.toNat f.tag.toNat true false false ([0#8]))) :: s.out ∧
        NodeOnly s t (c.val * 128 + p.val)) ∧
  (∀ (s : State) (c : Fin 64) (p : Fin 128) (f : NodeRx) (pl : List Byte), (s.nodeUp c.val p.val = true) →
      (rxOk f 0x46 pl = true) →
      (f.rsp = false) →
      (reservedOpc f.opc.toNat = false) →
      ((s.node c.val p.val).mine f = true) →
      (pl ≠ []) →
      Gives (exec (.clearNode c p { rx := f, payload := pl }) s) fun t =>
        (t.node c.val p.val) = ((s.node c.val p.val).rx f true) ∧
        t.out = .node c.val p.val (f.dn == f.lin) (lineFrame false (frame 0x46 f.hop.toNat f.tag.toNat true false false ([2#8]))) :: s.out ∧
        NodeOnly s t (c.val * 128 + p.val)) ∧
  (∀ (s : State) (c : Fin 64) (p : Fin 128) (dn long : Bool) (i : NodeIdent), ((s.node c.val p.val).typ ≠ 0) →
      Gives (exec (.nodeWakeTone c p dn long i) s) fun t =>
        (t.node c.val p.val) = { (s.node c.val p.val) with powered := true, asleep := (s.node c.val p.val).asleep && !long, wakeSelf := (s.node c.val p.val).wakeSelf && !((s.node c.val p.val).asleep && long) } ∧
        t.out = .nodeTone c.val p.val (!dn) :: s.out ∧
        NodeOnly s t (c.val * 128 + p.val)) ∧
  (∀ (s : State) (c : Fin 64) (p : Fin 128) , (s.nodeUp c.val p.val = true) →
      Gives (exec (.nodeSleepReturn c p) s) fun t =>
        (t.node c.val p.val).asleep = true ∧
        (t.node c.val p.val).wakeSelf = (s.node c.val p.val).wakeSelf ∧
        (t.node c.val p.val).drive = 0#3 ∧
        (t.node c.val p.val).outNum = 0 ∧
        NodeOnly s t (c.val * 128 + p.val) ∧
        t.out = s.out) ∧
  (∀ (s : State) (c : Fin 64) (p : Fin 128) , ((s.node c.val p.val).typ ≠ 0) →
      Gives (exec (.nodePowerLoss c p) s) fun t =>
        (t.node c.val p.val) = { typ := (s.node c.val p.val).typ, rev := (s.node c.val p.val).rev, uid := (s.node c.val p.val).uid, lastMaster := (s.node c.val p.val).lastMaster, corners := (s.node c.val p.val).corners } ∧
        NodeOnly s t (c.val * 128 + p.val) ∧
        t.out = s.out)

/-- What a node does by itself: timeouts, break marks, comparators, sleep check, die temperature. COMM_TIMEOUT stops balancing of an NH0824; TOKEN_TIMEOUT switches all drivers of an NH0403 off and latches it open; a break mark leaves in ring operation while the DN driver is on, and switches it off, and of the nodes beyond only the DN driver may go off with it; a secondary comparator of an NH0824 with supply sets its flag, awake or asleep; a sleeping NH0824 with an input outside its thresholds wakes with its cause and a tone out of both ports, and sleeps on otherwise; a die temperature is held with its cap, which is 0 at 120 °C. Readings that are the model's own, and no rule of the manual: log entries 37, 38, 39 and 97. -/
def Obligations.NodesByThemselves : Prop :=
  (∀ (s : State) (c : Fin 64) (p : Fin 128) , (s.nodeUp c.val p.val = true) →
      ((s.node c.val p.val).typ = 1) →
      Gives (exec (.commTimeout c p) s) fun t =>
        (t.node c.val p.val) = { (s.node c.val p.val) with balCmd := [], balApplied := [], balWait := none, stopped := true } ∧
        NodeOnly s t (c.val * 128 + p.val) ∧
        t.out = s.out) ∧
  (∀ (s : State) (c : Fin 64) (p : Fin 128) , (s.nodeUp c.val p.val = true) →
      ((s.node c.val p.val).typ = 2) →
      Gives (exec (.tokenTimeout c p) s) fun t =>
        (t.node c.val p.val) = { (s.node c.val p.val) with drive := 0#3, latched := true, stopped := true, hold := false } ∧
        NodeOnly s t (c.val * 128 + p.val) ∧
        t.out = s.out) ∧
  (∀ (s : State) (c : Fin 64) (p : Fin 128) , (s.nodeUp c.val p.val = true) →
      ((s.node c.val p.val).typ = 2) →
      Gives (exec (.commTimeout c p) s) fun t =>
        (t.node c.val p.val) = (s.node c.val p.val) ∧
        NodeOnly s t (c.val * 128 + p.val) ∧
        t.out = s.out) ∧
  (∀ (s : State) (c : Fin 64) (p : Fin 128) , (s.nodeUp c.val p.val = true) →
      ((s.node c.val p.val).ring = true) →
      ((s.node c.val p.val).dnOff = false) →
      Gives (exec (.breakMark c p) s) fun t =>
        (t.node c.val p.val) = { (s.node c.val p.val) with dnOff := true } ∧
        t.out.contains (.breakMark c.val p.val) = true ∧
        (∀ q < 128, (q < p.val → t.node c.val q = s.node c.val q) ∧ (p.val < q → t.node c.val q = s.node c.val q ∨ t.node c.val q = { s.node c.val q with dnOff := true })) ∧
        t = { s with nodes := t.nodes, out := t.out }) ∧
  (∀ (s : State) (c : Fin 64) (p : Fin 128) , ((s.node c.val p.val).ring = false ∨ (s.node c.val p.val).dnOff = true) →
      Gives (exec (.breakMark c p) s) fun t =>
        t = s) ∧
  (∀ (s : State) (c : Fin 64) (p : Fin 128) (k : Fin 24) (u : Bool), ((s.node c.val p.val).typ = 1) →
      ((s.node c.val p.val).powered = true) →
      Gives (exec (.secondaryFlag c p k u) s) fun t =>
        (if u then (t.node c.val p.val).scUv else (t.node c.val p.val).scOv).getLsbD k.val = true ∧
        (if u then (t.node c.val p.val).scOv else (t.node c.val p.val).scUv) = (if u then (s.node c.val p.val).scOv else (s.node c.val p.val).scUv) ∧
        NodeOnly s t (c.val * 128 + p.val) ∧
        t.out = s.out) ∧
  (∀ (s : State) (c : Fin 64) (p : Fin 128) (v : List (BitVec 16)) (k : Nat), ((s.node c.val p.val).typ = 1) →
      ((s.node c.val p.val).powered = true) →
      ((s.node c.val p.val).asleep = true) →
      ((s.node c.val p.val).sleepViolation v = some k) →
      Gives (exec (.sleepCheck c p v) s) fun t =>
        (t.node c.val p.val) = { (s.node c.val p.val) with slpCause := k, wakeSelf := true, asleep := false } ∧
        t.out = .nodeTone c.val p.val true :: .nodeTone c.val p.val false :: s.out ∧
        NodeOnly s t (c.val * 128 + p.val)) ∧
  (∀ (s : State) (c : Fin 64) (p : Fin 128) (v : List (BitVec 16)), ((s.node c.val p.val).sleepViolation v = none) →
      Gives (exec (.sleepCheck c p v) s) fun t =>
        t = s) ∧
  (∀ (s : State) (c : Fin 64) (p : Fin 128) (v : BitVec 16), (s.nodeUp c.val p.val = true) →
      ((s.node c.val p.val).typ = 1) →
      ((s.node c.val p.val).stopped = false) →
      Gives (exec (.dieTemperatureMeasurement c p v) s) fun t =>
        (t.node c.val p.val).dieT = v ∧
        (t.node c.val p.val).balApplied = (s.node c.val p.val).balCmd.map (fun d => min d (t.node c.val p.val).cap) ∧
        (12000 ≤ v.toInt → (t.node c.val p.val).cap = 0) ∧
        NodeOnly s t (c.val * 128 + p.val) ∧
        t.out = s.out)

/-- A timed-out transaction is counted and its tag goes into quarantine; the end of the quarantine frees it. Every timeout of a busy tag raises TMO of the chain. Of a maintenance command that is no CTR_SET and no sleep threshold, nothing else of the chain changes but its tag, in quarantine with the command, and the hop of its last timeout. Of a single COLLECT without room for a retry, its hop is lost for the sweep. In RING a timeout of a second hop in succession breaks the ring: RECOVERING, K_OUT, K_RET and BREAK. A timeout of a tag that is not busy has no effect. The end of a quarantine leaves no quarantine; with nothing waiting the tag is free. On another tag it has no effect. Readings that are the model's own, and no rule of the manual: log entry 30. -/
def Obligations.LinkTags : Prop :=
  (∀ (s : State) (c : Fin 64) (k : Fin 8) (h : Fin 128) (n : TmoFinding) (w : WaitCmd), (s.pwr.mainOn = true) →
      (nth .free (s.chain c.val).tags k.val = .busy w) →
      (w.kind ≠ 0) →
      (w.kind ≠ 2) →
      (w.kind ≠ 6) →
      (s.linkState c.val ≠ 2 ∨ (s.chain c.val).tmoHop = none ∨ (s.chain c.val).tmoHop = some w.hop) →
      Gives (exec (.transactionTimeout c k h n) s) fun t =>
        t.chain c.val = { (s.chain c.val).setTag k.val (.quarantine w) with tmoHop := some w.hop } ∧
        t.get (R.LNK_CNT_TMO c.val) = satNat (2 ^ (R.LNK_CNT_TMO c.val).w - 1) (s.get (R.LNK_CNT_TMO c.val) + 1) ∧
        FieldsBut s t [R.LNK_CNT_TMO c.val] ∧
        ChainOnly s t c.val ∧
        t = { s with regs := t.regs, chains := t.chains }) ∧
  (∀ (s : State) (c : Fin 64) (k : Fin 8) (h : Fin 128) (n : TmoFinding) (w : WaitCmd), (s.pwr.mainOn = true) →
      ((s.chain c.val).tags.length = 8) →
      (nth .free (s.chain c.val).tags k.val = .busy w) →
      (w.kind = 0) →
      (w.opcode = 2) →
      ((s.chain c.val).due.contains w.hop = true) →
      (n.room = false) →
      (s.linkState c.val ≠ 2 ∨ (s.chain c.val).tmoHop = none ∨ (s.chain c.val).tmoHop = some w.hop) →
      Gives (exec (.transactionTimeout c k h n) s) fun t =>
        (t.chain c.val).tmoHop = some w.hop ∧
        (t.chain c.val).failed = (s.chain c.val).failed ++ [w.hop] ∧
        t.get (R.LNK_CNT_TMO c.val) = satNat (2 ^ (R.LNK_CNT_TMO c.val).w - 1) (s.get (R.LNK_CNT_TMO c.val) + 1) ∧
        RegsBut s t [Blk.LNK c.val] ∧
        ChainOnly s t c.val) ∧
  (∀ (s : State) (c : Fin 64) (k : Fin 8) (h : Fin 128) (n : TmoFinding) (w : WaitCmd) (j : Nat), (s.pwr.mainOn = true) →
      (nth .free (s.chain c.val).tags k.val = .busy w) →
      (w.kind ≠ 0) →
      (s.linkState c.val = 2) →
      ((s.chain c.val).tmoHop = some j) →
      (j ≠ w.hop) →
      Gives (exec (.transactionTimeout c k h n) s) fun t =>
        t.linkState c.val = 7 ∧
        t.get (R.LNK_STAT_K_OUT c.val) = min n.kOut.val (s.tab.nodes c.val) ∧
        t.get (R.LNK_STAT_K_RET c.val) = s.tab.nodes c.val - min n.kOut.val (s.tab.nodes c.val) ∧
        t.get (R.LNK_CNT_TMO c.val) = satNat (2 ^ (R.LNK_CNT_TMO c.val).w - 1) (s.get (R.LNK_CNT_TMO c.val) + 1) ∧
        t.get (R.LNK_CNT_BREAK c.val) = satNat (2 ^ (R.LNK_CNT_BREAK c.val).w - 1) (s.get (R.LNK_CNT_BREAK c.val) + 1) ∧
        RegsBut s t [Blk.LNK c.val] ∧
        ChainOnly s t c.val) ∧
  (∀ (s : State) (c : Fin 64) (k : Fin 8) (h : Fin 128) (n : TmoFinding), (s.pwr.mainOn = true) →
      ((nth .free (s.chain c.val).tags k.val).isBusy = false) →
      Gives (exec (.transactionTimeout c k h n) s) fun t =>
        t = s) ∧
  (∀ (s : State) (c : Fin 64) (k : Fin 8) (w : WaitCmd), (s.pwr.mainOn = true) →
      ((s.chain c.val).tags.length = 8) →
      (nth .free (s.chain c.val).tags k.val = .quarantine w) →
      Gives (exec (.tagQuarantineEnd c k) s) fun t =>
        nth .free (t.chain c.val).tags k.val ≠ .quarantine w ∧
        ((s.chain c.val).wait = [] → nth .free (t.chain c.val).tags k.val = .free) ∧
        RegsBut s t [Blk.LNK c.val] ∧
        t.log = s.log ∧
        ChainOnly s t c.val) ∧
  (∀ (s : State) (c : Fin 64) (k : Fin 8), (s.pwr.mainOn = true) →
      ((nth .free (s.chain c.val).tags k.val).isQuarantine = false) →
      Gives (exec (.tagQuarantineEnd c k) s) fun t =>
        t = s)

/-- Muting of silent nodes, and unmuting. A node silent in 8 consecutive sweeps while a farther one answered is muted with 0x0408, its counts at 0; a node muted already or silent less often is not. Within a sweep, after the chain's collection and with a free tag, a probe of a muted node sends one COLLECT; the fourth valid answer in a row unmutes it with 0x0409, a silent probe raises TMO, puts its tag into quarantine and starts the count again. Otherwise a probe has no effect. UNMUTE_ALL from stage 1 on takes effect at the next sweep. Readings that are the model's own, and no rule of the manual: log entries 32 and 121. -/
def Obligations.LinkMuting : Prop :=
  (∀ (s : State) (c : Fin 64) (h : Fin 128), (s.pwr.mainOn = true) →
      (8 ≤ Sparse.get zeroNat (s.chain c.val).silent h.val) →
      (s.hopBit R.LNK_MUTE c.val h.val = false) →
      Gives (exec (.nodeMute c h) s) fun t =>
        t.hopBit R.LNK_MUTE c.val h.val = true ∧
        Sparse.get zeroNat (t.chain c.val).silent h.val = 0 ∧
        Logs s t [(0x0408, src 3 c.val, [p1 (h.val + 1)])] ∧
        FieldsBut s t [R.LNK_MUTE c.val (h.val / 32)] ∧
        ChainOnly s t c.val) ∧
  (∀ (s : State) (c : Fin 64) (h : Fin 128), (s.pwr.mainOn = true) →
      (Sparse.get zeroNat (s.chain c.val).silent h.val < 8 ∨ s.hopBit R.LNK_MUTE c.val h.val = true) →
      Gives (exec (.nodeMute c h) s) fun t =>
        t = s) ∧
  (∀ (s : State) (c : Fin 64) (h : Fin 128) (k : Nat), (s.pwr.mainOn = true) →
      (s.active c.val = true) →
      (s.hopBit R.LNK_MUTE c.val h.val = true) →
      (s.swp.open_ = true) →
      (s.chainDone c.val = true) →
      ((s.chain c.val).freeTag = some k) →
      Gives (exec (.muteProbe c h none) s) fun t =>
        t.hopBit R.LNK_MUTE c.val h.val = decide (Sparse.get zeroNat (s.chain c.val).probeOk h.val < 3) ∧
        t.out.length = s.out.length + 1 ∧
        t.linkOut c.val (b2n (s.fromRet c.val h.val)) = true ∧
        (t.chain c.val).tags = (s.chain c.val).tags ∧
        FieldsBut s t [R.LNK_MUTE c.val (h.val / 32)] ∧
        ChainOnly s t c.val) ∧
  (∀ (s : State) (c : Fin 64) (h : Fin 128) (n : Fin 129) (k : Nat), (s.pwr.mainOn = true) →
      (s.active c.val = true) →
      (s.hopBit R.LNK_MUTE c.val h.val = true) →
      (s.swp.open_ = true) →
      (s.chainDone c.val = true) →
      ((s.chain c.val).freeTag = some k) →
      (s.linkState c.val ≠ 2 ∨ (s.chain c.val).tmoHop = none ∨ (s.chain c.val).tmoHop = some h.val) →
      Gives (exec (.muteProbe c h (some n)) s) fun t =>
        t.hopBit R.LNK_MUTE c.val h.val = true ∧
        Sparse.get zeroNat (t.chain c.val).probeOk h.val = 0 ∧
        t.get (R.LNK_CNT_TMO c.val) = satNat (2 ^ (R.LNK_CNT_TMO c.val).w - 1) (s.get (R.LNK_CNT_TMO c.val) + 1) ∧
        (nth .free (t.chain c.val).tags k).isQuarantine = decide (k < (s.chain c.val).tags.length) ∧
        (t.chain c.val).tmoHop = some h.val ∧
        t.linkOut c.val (b2n (s.fromRet c.val h.val)) = true ∧
        FieldsBut s t [R.LNK_CNT_TMO c.val] ∧
        ChainOnly s t c.val) ∧
  (∀ (s : State) (c : Fin 64) (h : Fin 128) (n : Option (Fin 129)), (s.pwr.mainOn = true) →
      (s.hopBit R.LNK_MUTE c.val h.val = false ∨ s.active c.val = false ∨ s.swp.open_ = false ∨ s.chainDone c.val = false ∨ (s.chain c.val).freeTag = none) →
      Gives (exec (.muteProbe c h n) s) fun t =>
        t = s) ∧
  (∀ (s : State) (c : Fin 64), (s.pwr.mainOn = true) →
      (1 ≤ s.stage) →
      (s.host.perstHigh = true) →
      Gives (exec (.unmuteAll c) s) fun t =>
        t.chain c.val = { s.chain c.val with unmute := true } ∧
        ChainOnly s t c.val ∧
        t = { s with chains := t.chains })

/-- Enumeration of a chain: ENUM, and the state its probes lead to. ENUMERATION of a mapped chain that is off or in ENUM, from stage 1 on in a start that is not held: the chain is in ENUM, its maps are clear, a wake tone and the first frames leave. The end of the probes gives the state, cause and hop of Table LNK-8, from what the replies of their steps show; RING_T is the measured one with a closed ring and 0 without. ENUM_FAULT raises cause 6 and marks the start as one with a failed enumeration. REENUM while the chain's strings are proven open waits for the next close, otherwise it is refused with 0x040A; a chain that is off ignores it. Readings that are the model's own, and no rule of the manual: log entry 34. -/
def Obligations.Enumeration : Prop :=
  (∀ (s : State) (c : Fin 64), (s.pwr.mainOn = true) →
      (s.img.loaded = true) →
      (s.tab.chainOn c.val = true) →
      (s.held1 = false) →
      (1 ≤ s.stage) →
      (s.linkState c.val ≤ 1) →
      Gives (exec (.enumeration c) s) fun t =>
        t.linkState c.val = 1 ∧
        t.chain c.val = { enumFailed := (s.chain c.val).enumFailed } ∧
        (∀ h < 128, t.hopBit R.LNK_MUTE c.val h = false ∧ t.hopBit R.LNK_UNRCH c.val h = false) ∧
        .tone c.val 0 ∈ t.out ∧
        t.linkOut c.val 0 = true ∧
        t.log = s.log ∧
        RegsBut s t [Blk.LNK c.val] ∧
        ChainOnly s t c.val) ∧
  (∀ (s : State) (c : Fin 64), (s.pwr.mainOn = true) →
      (s.tab.chainOn c.val = false ∨ 2 ≤ s.linkState c.val ∨ s.held1 = true ∨ s.stage = 0 ∨ s.img.loaded = false) →
      Gives (exec (.enumeration c) s) fun t =>
        t = s) ∧
  (∀ (s : State) (c : Fin 64) (r : EnumResult), (s.pwr.mainOn = true) →
      (s.linkState c.val = 1) →
      Gives (exec (.enumerationDone c r) s) fun t =>
        t.linkState c.val = (s.tab.enumOutcome c.val (s.tab.probed c.val r)).1 ∧
        t.get (R.LNK_STAT_ENUM_CAUSE c.val) = (s.tab.enumOutcome c.val (s.tab.probed c.val r)).2.1 ∧
        t.get (R.LNK_STAT_FAULT_HOP c.val) = (s.tab.enumOutcome c.val (s.tab.probed c.val r)).2.2 % 256 ∧
        t.get (R.LNK_TRANSIT_RING_T c.val) = (if (s.tab.probed c.val r).closed then r.tRing.toNat else 0) ∧
        ((s.tab.enumOutcome c.val (s.tab.probed c.val r)).1 = 6 → t.host.icause.getLsbD 6 = true ∧ (t.chain c.val).enumFailed = true) ∧
        t.nodes = s.nodes ∧
        RegsBut s t [Blk.LNK c.val] ∧
        ChainOnly s t c.val) ∧
  (∀ (s : State) (c : Fin 64) (r : EnumResult), (s.pwr.mainOn = true) →
      (s.linkState c.val ≠ 1) →
      Gives (exec (.enumerationDone c r) s) fun t =>
        t = s) ∧
  (∀ (s : State) (c : Fin 64), (s.pwr.mainOn = true) →
      (1 ≤ s.stage) →
      (s.host.perstHigh = true) →
      (s.linkState c.val ≠ 0) →
      (s.chainProven c.val = true) →
      Gives (exec (.reenum c) s) fun t =>
        t.chain c.val = { s.chain c.val with reenum := true } ∧
        ChainOnly s t c.val ∧
        t = { s with chains := t.chains }) ∧
  (∀ (s : State) (c : Fin 64), (s.pwr.mainOn = true) →
      (1 ≤ s.stage) →
      (s.host.perstHigh = true) →
      (s.linkState c.val ≠ 0) →
      (s.chainProven c.val = false) →
      Gives (exec (.reenum c) s) fun t =>
        t.chains = s.chains ∧
        FieldsBut s t [] ∧
        RegsOnly s t) ∧
  (∀ (s : State) (c : Fin 64), (s.pwr.mainOn = true) →
      (1 ≤ s.stage) →
      (s.host.perstHigh = true) →
      (s.linkState c.val = 0) →
      Gives (exec (.reenum c) s) fun t =>
        t = s)

/-- A ring that breaks, gap probes and ring probes. A break of a chain in RING gives RECOVERING with K_OUT and K_RET and raises BREAK. The end of the segment collection, where hops were to be collected, leads out of RECOVERING to SEGMENTED or PARTIAL. A gap probe of a PARTIAL chain, from RET of a ring only, sends one ENUM: without a node's reply nothing else changes; a node that matches its entry extends the end by one, its UNRCH bit clears, and PARTIAL ends when the gap is closed; one of another type leaves the chain as it is. The sixteenth good ring probe in a row returns the chain to RING from the next sweep unless HOLD_SEG stands. Probes go outside a sweep or after the chain's collection, and have no effect otherwise. Readings that are the model's own, and no rule of the manual: log entry 33. -/
def Obligations.BreaksAndRings : Prop :=
  (∀ (s : State) (c : Fin 64) (k : Fin 129) (m : Bool), (s.pwr.mainOn = true) →
      (s.linkState c.val = 2) →
      Gives (exec (.breakDetected c k m) s) fun t =>
        t.linkState c.val = 7 ∧
        t.get (R.LNK_STAT_K_OUT c.val) = min k.val (s.tab.nodes c.val) ∧
        t.get (R.LNK_STAT_K_RET c.val) = s.tab.nodes c.val - min k.val (s.tab.nodes c.val) ∧
        t.get (R.LNK_CNT_BREAK c.val) = satNat (2 ^ (R.LNK_CNT_BREAK c.val).w - 1) (s.get (R.LNK_CNT_BREAK c.val) + 1) ∧
        (t.chain c.val).ringOk = 0 ∧
        RegsBut s t [Blk.LNK c.val] ∧
        ChainOnly s t c.val) ∧
  (∀ (s : State) (c : Fin 64) (k : Fin 129) (m : Bool), (s.pwr.mainOn = true) →
      (s.linkState c.val ≠ 2) →
      Gives (exec (.breakDetected c k m) s) fun t =>
        t = s) ∧
  (∀ (s : State) (c : Fin 64), (s.pwr.mainOn = true) →
      (s.linkState c.val = 7) →
      ((s.chain c.val).due ≠ []) →
      Gives (exec (.segmentCollectionDone c) s) fun t =>
        (t.linkState c.val = 4 ∨ t.linkState c.val = 5) ∧
        t.get (R.LNK_STAT_K_OUT c.val) = (s.reach c.val).1 % 256 ∧
        t.get (R.LNK_STAT_K_RET c.val) = (s.reach c.val).2 % 256 ∧
        t.host.icause.getLsbD 6 = true ∧
        t.chains = s.chains ∧
        RegsBut s t [Blk.LNK c.val]) ∧
  (∀ (s : State) (c : Fin 64), (s.pwr.mainOn = true) →
      (s.linkState c.val ≠ 7 ∨ (s.chain c.val).due = []) →
      Gives (exec (.segmentCollectionDone c) s) fun t =>
        t = s) ∧
  (∀ (s : State) (c : Fin 64) (r : Bool) (l : Option (List (BitVec 10))) (x : Word) (k : Nat), (s.pwr.mainOn = true) →
      (s.linkState c.val = 5) →
      (s.get (R.LNK_STAT_K_OUT c.val) + s.get (R.LNK_STAT_K_RET c.val) < s.tab.nodes c.val) →
      (r = true → s.tab.chainRing c.val = true) →
      (s.swp.open_ = false ∨ s.chainDone c.val = true) →
      ((s.chain c.val).freeTag = some k) →
      (identOf k l x.toNat = none) →
      Gives (exec (.gapProbe c r l x) s) fun t =>
        t.out.length = s.out.length + 1 ∧
        t.linkOut c.val (b2n r) = true ∧
        t = { s with out := t.out }) ∧
  (∀ (s : State) (c : Fin 64) (l : Option (List (BitVec 10))) (x : Word) (k : Nat) (i : Ident), (s.pwr.mainOn = true) →
      (s.linkState c.val = 5) →
      (s.get (R.LNK_STAT_K_OUT c.val) + s.get (R.LNK_STAT_K_RET c.val) < s.tab.nodes c.val) →
      (s.tab.nodes c.val ≤ 128) →
      (s.swp.open_ = false ∨ s.chainDone c.val = true) →
      ((s.chain c.val).freeTag = some k) →
      (identOf k l x.toNat = some i) →
      (i.typ = s.tab.nodeType c.val (s.get (R.LNK_STAT_K_OUT c.val))) →
      (s.tab.chainIdCheck c.val = false ∨ i.uid.toNat = s.tab.nodeUid c.val (s.get (R.LNK_STAT_K_OUT c.val))) →
      Gives (exec (.gapProbe c false l x) s) fun t =>
        t.get (R.LNK_STAT_K_OUT c.val) = s.get (R.LNK_STAT_K_OUT c.val) + 1 ∧
        t.get (R.LNK_STAT_K_RET c.val) = s.get (R.LNK_STAT_K_RET c.val) ∧
        t.hopBit R.LNK_UNRCH c.val (s.get (R.LNK_STAT_K_OUT c.val)) = false ∧
        t.linkState c.val = (if s.get (R.LNK_STAT_K_OUT c.val) + s.get (R.LNK_STAT_K_RET c.val) + 1 = s.tab.nodes c.val then (if s.tab.chainRing c.val then 4 else 3) else 5) ∧
        RegsBut s t [Blk.LNK c.val] ∧
        ChainOnly s t c.val) ∧
  (∀ (s : State) (c : Fin 64) (r : Bool) (l : Option (List (BitVec 10))) (x : Word) (k : Nat) (i : Ident), (s.pwr.mainOn = true) →
      (s.linkState c.val = 5) →
      (s.get (R.LNK_STAT_K_OUT c.val) + s.get (R.LNK_STAT_K_RET c.val) < s.tab.nodes c.val) →
      (r = true → s.tab.chainRing c.val = true) →
      (s.swp.open_ = false ∨ s.chainDone c.val = true) →
      ((s.chain c.val).freeTag = some k) →
      (identOf k l x.toNat = some i) →
      (i.typ ≠ s.tab.nodeType c.val (if r then s.tab.nodes c.val - 1 - s.get (R.LNK_STAT_K_RET c.val) else s.get (R.LNK_STAT_K_OUT c.val))) →
      Gives (exec (.gapProbe c r l x) s) fun t =>
        t.chains = s.chains ∧
        t.nodes = s.nodes ∧
        FieldsBut s t [] ∧
        t.host.icause.getLsbD 6 = true) ∧
  (∀ (s : State) (c : Fin 64) (r : Bool) (l : Option (List (BitVec 10))) (x : Word), (s.pwr.mainOn = true) →
      (s.linkState c.val ≠ 5 ∨ s.tab.nodes c.val ≤ s.get (R.LNK_STAT_K_OUT c.val) + s.get (R.LNK_STAT_K_RET c.val) ∨ (r = true ∧ s.tab.chainRing c.val = false) ∨ s.maintOk c.val = false) →
      Gives (exec (.gapProbe c r l x) s) fun t =>
        t = s) ∧
  (∀ (s : State) (c : Fin 64) (b : Bool), (s.pwr.mainOn = true) →
      (s.linkState c.val = 4 ∨ s.linkState c.val = 5) →
      (s.tab.chainRing c.val = true) →
      (s.swp.open_ = false ∨ s.chainDone c.val = true) →
      Gives (exec (.ringProbe c b) s) fun t =>
        t.chain c.val = { s.chain c.val with ringOk := (if b then (s.chain c.val).ringOk + 1 else 0), toRing := b && decide (15 ≤ (s.chain c.val).ringOk) && !s.getB (R.LNK_CTRL_HOLD_SEG c.val) } ∧
        t.linkOut c.val 0 = true ∧
        ChainOnly s t c.val ∧
        t = { s with chains := t.chains, out := t.out }) ∧
  (∀ (s : State) (c : Fin 64) (b : Bool), (s.pwr.mainOn = true) →
      (s.tab.chainRing c.val = false ∨ (s.linkState c.val ≠ 4 ∧ s.linkState c.val ≠ 5) ∨ s.maintOk c.val = false) →
      Gives (exec (.ringProbe c b) s) fun t =>
        t = s)

/-- The sweep angle opens a sweep with the next epoch; an epoch closes once, by its last chain or by its angle. SWEEP_ANGLE with an image, out of stage 0 and of a held start, and no sweep open: the epoch is the next one, the one after it is next, the sweep is open, RUNNING is set, and SWEEP leaves every active chain from OUT; otherwise it has no effect. TOKEN_DEADLINE of a late core raises TOKLATE and TOKEN_LATE, and its tokens of the coming sweep are zeros. EPOCH_CLOSE closes an open sweep whose chains have all finished; CLOSE_ANGLE closes a sweep that is still open and counts it as by angle; SWP_EPOCH is then the epoch. A close without an open sweep closes nothing. Readings that are the model's own, and no rule of the manual: log entries 33, 44 and 45. -/
def Obligations.SweepsAndCloses : Prop :=
  (∀ (s : State), (s.pwr.mainOn = true) →
      (s.img.loaded = true) →
      (s.stage ≠ 0) →
      (s.held1 = false) →
      (s.swp.open_ = false) →
      Gives (exec (.sweepAngle) s) fun t =>
        t.swp.epoch = s.swp.nextEpoch ∧
        t.swp.nextEpoch = s.swp.nextEpoch + 1#32 ∧
        t.swp.open_ = true ∧
        t.swp.any = true ∧
        t.swp.lateTok = 0#2 ∧
        t.swp.angle = s.swp.nextEpoch.toNat * s.tab.intervalAu % 65536 ∧
        t.ang.au = s.swp.nextEpoch.toNat * s.tab.intervalAu % 65536 ∧
        t.get R.SWP_STAT_RUNNING = 1 ∧
        (∀ c < 64, s.active c = true → t.linkOut c 0 = true) ∧
        t.nodes = s.nodes ∧
        t.img = s.img ∧
        t.est = s.est ∧
        t.dsc = s.dsc ∧
        RegsBut s t [Blk.ANG, Blk.SWP, Blk.LNKALL]) ∧
  (∀ (s : State), (s.pwr.mainOn = true) →
      (s.img.loaded = false ∨ s.stage = 0 ∨ s.held1 = true ∨ s.swp.open_ = true) →
      Gives (exec (.sweepAngle) s) fun t =>
        t = s) ∧
  (∀ (s : State) (a b : Bool), (s.pwr.mainOn = true) →
      (s.img.loaded = true) →
      (a = true ∨ b = true) →
      Gives (exec (.tokenDeadline a b) s) fun t =>
        t.swp = { s.swp with lateTok := BitVec.ofNat 2 (b2n a + 2 * b2n b) } ∧
        t.get R.SWP_CNT_TOKLATE = satNat (2 ^ R.SWP_CNT_TOKLATE.w - 1) (s.get R.SWP_CNT_TOKLATE + 1) ∧
        t.get R.SWP_STAT_TOKEN_LATE = 1 ∧
        Logs s t ((if a then [(0x0607, chip, [p1 0, p2 s.swp.nextEpoch.toNat])] else []) ++ (if b then [(0x0607, chip, [p1 1, p2 s.swp.nextEpoch.toNat])] else [])) ∧
        FieldsBut s t [R.SWP_CNT_TOKLATE, R.SWP_STAT_TOKEN_LATE] ∧
        RegsOnly { s with swp := t.swp } t) ∧
  (∀ (s : State) (a b : Bool), (s.pwr.mainOn = true) →
      (s.img.loaded = false ∨ (a = false ∧ b = false)) →
      Gives (exec (.tokenDeadline a b) s) fun t =>
        t = s) ∧
  (∀ (s : State) (e : CloseInfo), (s.pwr.mainOn = true) →
      (s.swp.open_ = true) →
      (s.unfinished = []) →
      Gives (exec (.epochClose e) s) fun t =>
        t.swp.open_ = false ∧
        t.swp.first = true ∧
        t.swp.epoch = s.swp.epoch ∧
        t.get R.SWP_EPOCH = s.swp.epoch.toNat ∧
        t.get R.SWP_STAT_LAST_BY_ANGLE = 0 ∧
        t.sop.closes = s.sop.closes + 1 ∧
        t.nodes = s.nodes ∧
        t.img.nor = s.img.nor) ∧
  (∀ (s : State) (e : CloseInfo), (s.pwr.mainOn = true) →
      (s.swp.open_ = false ∨ s.unfinished ≠ []) →
      Gives (exec (.epochClose e) s) fun t =>
        t = s) ∧
  (∀ (s : State) (e : CloseInfo), (s.pwr.mainOn = true) →
      (s.swp.any = true) →
      (s.swp.open_ = true) →
      Gives (exec (.closeAngle e) s) fun t =>
        t.swp.open_ = false ∧
        t.swp.first = true ∧
        t.swp.epoch = s.swp.epoch ∧
        t.get R.SWP_EPOCH = s.swp.epoch.toNat ∧
        t.get R.SWP_STAT_LAST_BY_ANGLE = 1 ∧
        t.get R.SWP_CNT_BYANGLE = satNat (2 ^ R.SWP_CNT_BYANGLE.w - 1) (s.get R.SWP_CNT_BYANGLE + 1) ∧
        t.nodes = s.nodes) ∧
  (∀ (s : State) (e : CloseInfo), (s.pwr.mainOn = true) →
      (s.swp.any = true) →
      (s.swp.open_ = false) →
      Gives (exec (.closeAngle e) s) fun t =>
        t.ang.au = (s.swp.angle + s.tab.schedC) % 65536 ∧
        t.ang.credit + min s.ang.credit (s.moveTo (s.swp.angle + s.tab.schedC)).nFitNow = s.ang.credit ∧
        t.swp.open_ = false ∧
        t.swp.epoch = s.swp.epoch ∧
        t.sop = s.sop ∧
        t.est = s.est ∧
        t.nodes = s.nodes) ∧
  (∀ (s : State) (e : CloseInfo), (s.pwr.mainOn = true) →
      (s.swp.any = false) →
      Gives (exec (.closeAngle e) s) fun t =>
        t = s)

/-- Responses of a sweep and of maintenance: taken once, counted otherwise. On an active chain: a frame after the close is counted in LATE; one that fails its checks, or that no tag in flight or in quarantine matches, in CRC; a second answer of a hop in DUP. A single COLLECT answered for the first time by a hop that the sweep collects enters the answered hops, with its arrival time; the answer of a hop that it does not collect has no such effect. A chain that is off takes none. Errors that the intake meets in the store have their own effect after it. A maintenance response fails likewise; the answer 0 to a register read of a node puts its words into the block record, a refusal is logged with 0x0507, its status and its word address. Readings that are the model's own, and no rule of the manual: log entries 30, 35, 40, 41 and 96. -/
def Obligations.NodeResponses : Prop :=
  (∀ (s : State) (c : Fin 64) (ret : Bool) (num : BitVec 8) (i l : List (BitVec 10)) (us : BitVec 16) (room : Bool) (e : List (BitVec 26 × Bool)), (s.pwr.mainOn = true) →
      Gives (exec (.responseFrame c ret num i l us room e) s) fun t =>
        (∃ u, exec (.responseFrame c ret num i l us room []) s = .next u ∧ t.chains = u.chains ∧ t.swp = u.swp ∧ t.nodes = u.nodes ∧ RegsBut u t [Blk.STO, Blk.EST, Blk.DIAG])) ∧
  (∀ (s : State) (c : Fin 64) (ret : Bool) (num : BitVec 8) (i l : List (BitVec 10)) (us : BitVec 16) (room : Bool), (s.pwr.mainOn = true) →
      (s.active c.val = false) →
      Gives (exec (.responseFrame c ret num i l us room []) s) fun t =>
        t = s) ∧
  (∀ (s : State) (c : Fin 64) (ret : Bool) (num : BitVec 8) (i l : List (BitVec 10)) (us : BitVec 16) (room : Bool), (s.pwr.mainOn = true) →
      (s.active c.val = true) →
      (s.swp.open_ = false) →
      Gives (exec (.responseFrame c ret num i l us room []) s) fun t =>
        t.get (R.LNK_CNT_LATE c.val) = satNat (2 ^ (R.LNK_CNT_LATE c.val).w - 1) (s.get (R.LNK_CNT_LATE c.val) + 1) ∧
        FieldsBut s t [R.LNK_CNT_LATE c.val] ∧
        t = { s with regs := t.regs }) ∧
  (∀ (s : State) (c : Fin 64) (ret : Bool) (num : BitVec 8) (i l : List (BitVec 10)) (us : BitVec 16) (room : Bool), (s.pwr.mainOn = true) →
      (s.active c.val = true) →
      (s.swp.open_ = true) →
      (rxFrame (i ++ l) = none) →
      Gives (exec (.responseFrame c ret num i l us room []) s) fun t =>
        t.get (R.LNK_CNT_CRC c.val) = satNat (2 ^ (R.LNK_CNT_CRC c.val).w - 1) (s.get (R.LNK_CNT_CRC c.val) + 1) ∧
        t.get (R.LNK_CNT_LATE c.val) = s.get (R.LNK_CNT_LATE c.val) ∧
        (t.chain c.val).answered = (s.chain c.val).answered ∧
        t.sto.smp = s.sto.smp ∧
        t.swp = s.swp ∧
        RegsBut s t [Blk.LNK c.val] ∧
        ChainOnly s t c.val) ∧
  (∀ (s : State) (c : Fin 64) (ret : Bool) (num : BitVec 8) (i l : List (BitVec 10)) (us : BitVec 16) (room : Bool) (f : RxFrame), (s.pwr.mainOn = true) →
      (s.active c.val = true) →
      (s.swp.open_ = true) →
      (rxFrame (i ++ l) = some f) →
      ((s.chain c.val).matching (s.tab.nodes c.val) f = none) →
      Gives (exec (.responseFrame c ret num i l us room []) s) fun t =>
        t.get (R.LNK_CNT_CRC c.val) = satNat (2 ^ (R.LNK_CNT_CRC c.val).w - 1) (s.get (R.LNK_CNT_CRC c.val) + 1) ∧
        t.chain c.val = { s.chain c.val with tmoHop := none } ∧
        FieldsBut s t [R.LNK_CNT_CRC c.val] ∧
        ChainOnly s t c.val ∧
        t = { s with regs := t.regs, chains := t.chains }) ∧
  (∀ (s : State) (c : Fin 64) (ret : Bool) (num : BitVec 8) (i l : List (BitVec 10)) (us : BitVec 16) (room : Bool) (f : RxFrame) (w : WaitCmd), (s.pwr.mainOn = true) →
      (s.active c.val = true) →
      (s.swp.open_ = true) →
      (rxFrame (i ++ l) = some f) →
      ((s.chain c.val).matching (s.tab.nodes c.val) f = some (w, false)) →
      (w.kind = 0) →
      (w.opcode = 2) →
      (w.hop < s.tab.nodes c.val) →
      ((s.chain c.val).due.contains w.hop = true) →
      ((s.chain c.val).answered.contains w.hop = false) →
      Gives (exec (.responseFrame c ret num i l us room []) s) fun t =>
        (t.chain c.val).answered = (s.chain c.val).answered ++ [w.hop] ∧
        (t.chain c.val).lastUs = us.toNat ∧
        (t.chain c.val).tmoHop = none ∧
        t.get (R.LNK_CNT_CRC c.val) = s.get (R.LNK_CNT_CRC c.val) ∧
        ChainOnly s t c.val) ∧
  (∀ (s : State) (c : Fin 64) (ret : Bool) (num : BitVec 8) (i l : List (BitVec 10)) (us : BitVec 16) (room : Bool) (f : RxFrame) (w : WaitCmd), (s.pwr.mainOn = true) →
      (s.active c.val = true) →
      (s.swp.open_ = true) →
      (rxFrame (i ++ l) = some f) →
      ((s.chain c.val).matching (s.tab.nodes c.val) f = some (w, false)) →
      (w.kind = 0) →
      (w.opcode = 2) →
      (w.hop < s.tab.nodes c.val) →
      ((s.chain c.val).due.contains w.hop = true) →
      ((s.chain c.val).answered.contains w.hop = true) →
      Gives (exec (.responseFrame c ret num i l us room []) s) fun t =>
        t.get R.SWP_CNT_DUP = satNat (2 ^ R.SWP_CNT_DUP.w - 1) (s.get R.SWP_CNT_DUP + 1) ∧
        (t.chain c.val).answered = (s.chain c.val).answered ∧
        t.sto = s.sto ∧
        RegsBut s t [Blk.SWP, Blk.LNK c.val] ∧
        ChainOnly s t c.val) ∧
  (∀ (s : State) (c : Fin 64) (ret : Bool) (num : BitVec 8) (i l : List (BitVec 10)) (us : BitVec 16) (room : Bool) (f : RxFrame) (w : WaitCmd), (s.pwr.mainOn = true) →
      (s.active c.val = true) →
      (s.swp.open_ = true) →
      (rxFrame (i ++ l) = some f) →
      ((s.chain c.val).matching (s.tab.nodes c.val) f = some (w, false)) →
      (w.kind = 0) →
      (w.opcode = 2) →
      (w.hop < s.tab.nodes c.val) →
      ((s.chain c.val).due.contains w.hop = false) →
      Gives (exec (.responseFrame c ret num i l us room []) s) fun t =>
        t.chain c.val = { s.chain c.val with tmoHop := none } ∧
        ChainOnly s t c.val ∧
        t = { s with chains := t.chains }) ∧
  (∀ (s : State) (c : Fin 64) (i l : List (BitVec 10)), (s.pwr.mainOn = true) →
      (s.active c.val = false) →
      Gives (exec (.maintResponse c i l) s) fun t =>
        t = s) ∧
  (∀ (s : State) (c : Fin 64) (i l : List (BitVec 10)), (s.pwr.mainOn = true) →
      (s.active c.val = true) →
      (rxFrame (i ++ l) = none) →
      Gives (exec (.maintResponse c i l) s) fun t =>
        t.get (R.LNK_CNT_CRC c.val) = satNat (2 ^ (R.LNK_CNT_CRC c.val).w - 1) (s.get (R.LNK_CNT_CRC c.val) + 1) ∧
        FieldsBut s t [R.LNK_CNT_CRC c.val] ∧
        t = { s with regs := t.regs }) ∧
  (∀ (s : State) (c : Fin 64) (i l : List (BitVec 10)) (f : RxFrame), (s.pwr.mainOn = true) →
      (s.active c.val = true) →
      (rxFrame (i ++ l) = some f) →
      (((s.chain c.val).matching (s.tab.nodes c.val) f).map (fun p => p.1.kind) = none ∨ ((s.chain c.val).matching (s.tab.nodes c.val) f).map (fun p => p.1.kind) = some 0) →
      Gives (exec (.maintResponse c i l) s) fun t =>
        t.get (R.LNK_CNT_CRC c.val) = satNat (2 ^ (R.LNK_CNT_CRC c.val).w - 1) (s.get (R.LNK_CNT_CRC c.val) + 1) ∧
        t.chain c.val = { s.chain c.val with tmoHop := none } ∧
        FieldsBut s t [R.LNK_CNT_CRC c.val] ∧
        t = { s with regs := t.regs, chains := t.chains }) ∧
  (∀ (s : State) (c : Fin 64) (i l : List (BitVec 10)) (f : RxFrame) (w : WaitCmd), (s.pwr.mainOn = true) →
      (s.active c.val = true) →
      (rxFrame (i ++ l) = some f) →
      ((s.chain c.val).matching (s.tab.nodes c.val) f = some (w, false)) →
      (w.kind = 1) →
      (nth 0#8 f.payload 0 = 0#8) →
      Gives (exec (.maintResponse c i l) s) fun t =>
        t.sto = (s.regRead c.val w.hop (f.payload.drop 3)).sto ∧
        t.log = (s.regRead c.val w.hop (f.payload.drop 3)).log ∧
        RegsBut s t [Blk.LNK c.val] ∧
        ChainOnly s t c.val) ∧
  (∀ (s : State) (c : Fin 64) (i l : List (BitVec 10)) (f : RxFrame) (w : WaitCmd), (s.pwr.mainOn = true) →
      (s.active c.val = true) →
      (rxFrame (i ++ l) = some f) →
      ((s.chain c.val).matching (s.tab.nodes c.val) f = some (w, false)) →
      (w.kind = 1) →
      (nth 0#8 f.payload 0 ≠ 0#8) →
      Gives (exec (.maintResponse c i l) s) fun t =>
        t.sto = s.sto ∧
        Logs s t [(0x0507, srcHop c.val w.hop, [p1 w.opcode, p1 (nth 0#8 f.payload 0).toNat, p2 (refusedWord w.opcode f.payload)])] ∧
        RegsBut s t [Blk.LNK c.val] ∧
        ChainOnly s t c.val)

/-- Host self-test requests and campaigns, and the end of a derating. GO takes code and chain; the first failing condition of Table SWP-6 gives STATE 3 with its code and 0x0609, none gives STATE 1 with the counts at 0 and the request in place. ABORT of a request with no test under way gives STATE 4. The result of a test under way of the host, with no slot open, read under a free tag, counts in DONE, and in FAILED with 0x0505 when the node reports a failure; without an answer the test is taken up again. The end of a campaign period starts the next one when the entry has finished, and marks it late once with 0x060A when not. DERATE_HOLD_END ends a derating with 0x0903. Readings that are the model's own, and no rule of the manual: log entry 43. -/
def Obligations.SelfTestRequests : Prop :=
  (∀ (s : State) (k : BitVec 3) (c : Fin 64), (s.pwr.mainOn = true) →
      (1 ≤ s.stage) →
      (s.host.perstHigh = true) →
      (((s.putAll [(R.SWP_TREQ_CODE, k.toNat), (R.SWP_TREQ_CHAIN, c.val)]).testRefusal k.toNat c.val (s.get R.SWP_TREQ_RANGE_FIRST_HOP) (s.get R.SWP_TREQ_RANGE_LAST_HOP) (s.get R.SWP_TREQ_RANGE_DEADLINE_S)) ≠ 0) →
      Gives (exec (.testGo k c) s) fun t =>
        t.get R.SWP_TREQ_STAT_STATE = 3 ∧
        t.get R.SWP_TREQ_STAT_REFUSE = ((s.putAll [(R.SWP_TREQ_CODE, k.toNat), (R.SWP_TREQ_CHAIN, c.val)]).testRefusal k.toNat c.val (s.get R.SWP_TREQ_RANGE_FIRST_HOP) (s.get R.SWP_TREQ_RANGE_LAST_HOP) (s.get R.SWP_TREQ_RANGE_DEADLINE_S)) ∧
        t.get R.SWP_TREQ_CODE = k.toNat ∧
        t.get R.SWP_TREQ_CHAIN = c.val ∧
        Logs s t [(0x0609, src 3 c.val, [p1 k.toNat, p1 ((s.putAll [(R.SWP_TREQ_CODE, k.toNat), (R.SWP_TREQ_CHAIN, c.val)]).testRefusal k.toNat c.val (s.get R.SWP_TREQ_RANGE_FIRST_HOP) (s.get R.SWP_TREQ_RANGE_LAST_HOP) (s.get R.SWP_TREQ_RANGE_DEADLINE_S))])] ∧
        FieldsBut s t [R.SWP_TREQ_CODE, R.SWP_TREQ_CHAIN, R.SWP_TREQ_STAT_STATE, R.SWP_TREQ_STAT_REFUSE] ∧
        RegsOnly s t) ∧
  (∀ (s : State) (k : BitVec 3) (c : Fin 64), (s.pwr.mainOn = true) →
      (1 ≤ s.stage) →
      (s.host.perstHigh = true) →
      (((s.putAll [(R.SWP_TREQ_CODE, k.toNat), (R.SWP_TREQ_CHAIN, c.val)]).testRefusal k.toNat c.val (s.get R.SWP_TREQ_RANGE_FIRST_HOP) (s.get R.SWP_TREQ_RANGE_LAST_HOP) (s.get R.SWP_TREQ_RANGE_DEADLINE_S)) = 0) →
      Gives (exec (.testGo k c) s) fun t =>
        t.get R.SWP_TREQ_STAT_STATE = 1 ∧
        t.get R.SWP_TREQ_STAT_REFUSE = 0 ∧
        t.get R.SWP_TREQ_STAT_DONE = 0 ∧
        t.get R.SWP_TREQ_STAT_FAILED = 0 ∧
        t.get R.SWP_TREQ_STAT_NOT_RUN = 0 ∧
        t.swp.hostReq = some (k.toNat, c.val) ∧
        t.swp.abort = false ∧
        t.log = s.log ∧
        FieldsBut s t [R.SWP_TREQ_CODE, R.SWP_TREQ_CHAIN, R.SWP_TREQ_STAT_STATE, R.SWP_TREQ_STAT_REFUSE, R.SWP_TREQ_STAT_DONE, R.SWP_TREQ_STAT_FAILED, R.SWP_TREQ_STAT_NOT_RUN] ∧
        t = { s with regs := t.regs, swp := t.swp }) ∧
  (∀ (s : State), (s.pwr.mainOn = true) →
      (1 ≤ s.stage) →
      (s.host.perstHigh = true) →
      (s.swp.hostReq ≠ none) →
      (s.swp.running.any (fun r => r.2.2 == 0) = false) →
      Gives (exec (.testRequestAbort) s) fun t =>
        t.get R.SWP_TREQ_STAT_STATE = 4 ∧
        t.swp = { s.swp with hostReq := none, hostTodo := [], abort := false } ∧
        FieldsBut s t [R.SWP_TREQ_STAT_STATE] ∧
        t = { s with regs := t.regs, swp := t.swp }) ∧
  (∀ (s : State), (s.pwr.mainOn = true) →
      (1 ≤ s.stage) →
      (s.host.perstHigh = true) →
      (s.swp.hostReq ≠ none) →
      (s.swp.running.any (fun r => r.2.2 == 0) = true) →
      Gives (exec (.testRequestAbort) s) fun t =>
        t = { s with swp := { s.swp with abort := true } }) ∧
  (∀ (s : State), (s.pwr.mainOn = true) →
      (s.swp.hostReq = none) →
      Gives (exec (.testRequestAbort) s) fun t =>
        t = s) ∧
  (∀ (s : State) (c : Fin 64) (n k j : Nat) (w d : BitVec 16) (q : Fin 129), (s.pwr.mainOn = true) →
      (s.swp.slots = 0) →
      (s.swp.running.find? (fun r => r.1 / 128 == c.val) = some (n, k, 0)) →
      ((s.chain c.val).freeTag = some j) →
      (w.getLsbD 8 = true) →
      (w.toNat % 256 = k) →
      Gives (exec (.testResultRead c (some (w, d)) q) s) fun t =>
        t.get R.SWP_TREQ_STAT_DONE = satNat 255 (s.get R.SWP_TREQ_STAT_DONE + 1) ∧
        t.get R.SWP_TREQ_STAT_FAILED = (if w.getLsbD 9 then s.get R.SWP_TREQ_STAT_FAILED else satNat 255 (s.get R.SWP_TREQ_STAT_FAILED + 1)) ∧
        t.swp.running = s.swp.running.filter (fun r => r.1 != n) ∧
        t.linkOut c.val (b2n (s.fromRet c.val (n % 128))) = true ∧
        FieldsBut s t [R.SWP_TREQ_STAT_DONE, R.SWP_TREQ_STAT_FAILED, R.SWP_TREQ_STAT_STATE] ∧
        t.nodes = s.nodes) ∧
  (∀ (s : State) (c : Fin 64) (n k j : Nat) (q : Fin 129), (s.pwr.mainOn = true) →
      (s.swp.slots = 0) →
      (s.swp.abort = false) →
      (s.linkState c.val ≠ 2) →
      (s.swp.running.find? (fun r => r.1 / 128 == c.val) = some (n, k, 0)) →
      ((s.chain c.val).freeTag = some j) →
      Gives (exec (.testResultRead c none q) s) fun t =>
        t.swp = { s.swp with running := s.swp.running.filter (fun r => r.1 != n), hostTodo := n :: s.swp.hostTodo } ∧
        t.get (R.LNK_CNT_TMO c.val) = satNat (2 ^ (R.LNK_CNT_TMO c.val).w - 1) (s.get (R.LNK_CNT_TMO c.val) + 1) ∧
        FieldsBut s t [R.LNK_CNT_TMO c.val] ∧
        ChainOnly s t c.val) ∧
  (∀ (s : State) (c : Fin 64) (r : Option (BitVec 16 × BitVec 16)) (q : Fin 129), (s.pwr.mainOn = true) →
      (s.swp.running.find? (fun r => r.1 / 128 == c.val) = none ∨ (s.chain c.val).freeTag = none) →
      Gives (exec (.testResultRead c r q) s) fun t =>
        t = s) ∧
  (∀ (s : State) (e : Fin 32), (s.pwr.mainOn = true) →
      (e.val < s.swp.camps.length) →
      ((s.camp e.val).finished = true ∨ s.campDone e.val = true) →
      Gives (exec (.campaignPeriodEnd e) s) fun t =>
        t.camp e.val = { s.camp e.val with done := [], retries := [], finished := false, periodEnd := (s.camp e.val).periodEnd + 60000 * s.tab.campMin e.val } ∧
        t = { s with swp := { s.swp with camps := t.swp.camps } }) ∧
  (∀ (s : State) (e : Fin 32), (s.pwr.mainOn = true) →
      (e.val < s.swp.camps.length) →
      ((s.camp e.val).finished = false) →
      (s.campDone e.val = false) →
      ((s.camp e.val).late = false) →
      Gives (exec (.campaignPeriodEnd e) s) fun t =>
        t.camp e.val = { s.camp e.val with late := true } ∧
        t.bit R.SWP_TCAMP e.val = true ∧
        Logs s t [(0x060A, chip, [p1 e.val, p1 (((List.range 64).find? (fun c => !(s.campTodo e.val c).isEmpty)).getD 0)])] ∧
        FieldsBut s t [R.SWP_TCAMP] ∧
        RegsOnly { s with swp := { s.swp with camps := t.swp.camps } } t) ∧
  (∀ (s : State) (e : Fin 32), (s.pwr.mainOn = true) →
      (s.swp.camps.length ≤ e.val ∨ ((s.camp e.val).finished = false ∧ s.campDone e.val = false ∧ (s.camp e.val).late = true)) →
      Gives (exec (.campaignPeriodEnd e) s) fun t =>
        t = s) ∧
  (∀ (s : State) (n : Fin 512) (d : Bool), (s.pwr.mainOn = true) →
      (s.sop.derate.any (fun p => p.1 == 2 * n.val + b2n d) = true) →
      Gives (exec (.derateHoldEnd n d) s) fun t =>
        t.sop = { s.sop with derate := s.sop.derate.filter (fun p => p.1 != 2 * n.val + b2n d) } ∧
        t.bit (R.SOP_DERATE (n.val / 32)) (n.val % 32) = t.sop.derate.any (fun p => p.1 / 2 == n.val) ∧
        Logs s t [(0x0903, src 6 n.val, [p1 (b2n d)])] ∧
        FieldsBut s t [R.SOP_DERATE (n.val / 32), R.SOP_STAT_DERATE] ∧
        RegsOnly { s with sop := t.sop } t) ∧
  (∀ (s : State) (n : Fin 512) (d : Bool), (s.pwr.mainOn = true) →
      (s.sop.derate.any (fun p => p.1 == 2 * n.val + b2n d) = false) →
      Gives (exec (.derateHoldEnd n d) s) fun t =>
        t = s)

/-- Ownership of sets, host writes of the stores, the Exchange RAM. A write of an owner field from stage 1 on: code 3 is discarded with 0x1001; in a session a claim for the host outside SAFE and MAINT is refused with CLAIM_REFUSE and 0x0704, any other request waits with its owner; outside a session one that differs is 0x020E. A BAR2 write from stage 2 on replaces the enabled bytes of its word in a set that the host owns, and no other word; in any other set it is rejected with its writer, set and offset and 0x0701. An Exchange RAM write replaces the enabled bytes of its word and no other word; with a device write in the same cycle the host's bytes are last, XCOLL names the word and 0x0702 is logged. Readings that are the model's own, and no rule of the manual: log entries 41, 47, 110 and 124. -/
def Obligations.StoreOwnershipAndWrites : Prop :=
  (∀ (s : State) (u : Fin 24), (s.pwr.mainOn = true) →
      (1 ≤ s.stage) →
      (s.host.perstHigh = true) →
      Gives (exec (.owner u 3#2) s) fun t =>
        Logs s t [(0x1001, chip, [p2 (blockOff (ownerAddr u.val))])] ∧
        FieldsBut s t [] ∧
        RegsOnly s t) ∧
  (∀ (s : State) (u : Fin 24), (s.pwr.mainOn = true) →
      (1 ≤ s.stage) →
      (s.host.perstHigh = true) →
      (s.session = true) →
      (s.safety ≠ 0) →
      (s.safety ≠ 6) →
      Gives (exec (.owner u 2#2) s) fun t =>
        t.get R.STO_STAT_CLAIM_REFUSE = 1 ∧
        Logs s t [(0x0704, chip, [p1 u.val, p1 s.safety])] ∧
        FieldsBut s t [R.STO_STAT_CLAIM_REFUSE] ∧
        RegsOnly s.keepSession t) ∧
  (∀ (s : State) (u : Fin 24) (v : BitVec 2), (s.pwr.mainOn = true) →
      (1 ≤ s.stage) →
      (s.host.perstHigh = true) →
      (s.session = true) →
      (v ≠ 3#2) →
      (v = 2#2 → s.safety = 0 ∨ s.safety = 6) →
      Gives (exec (.owner u v) s) fun t =>
        (if u.val < 16 then t.get (R.STO_OWN_S_PEND u.val) else t.get (R.STO_OWN_R_PEND (u.val - 16))) = 1 ∧
        (if u.val < 16 then t.get (R.STO_OWN_S_PEND_OWNER u.val) else t.get (R.STO_OWN_R_PEND_OWNER (u.val - 16))) = v.toNat ∧
        t.owner u.val = s.owner u.val ∧
        t.log = s.log ∧
        t = { s.keepSession with regs := t.regs }) ∧
  (∀ (s : State) (u : Fin 24) (v : BitVec 2), (s.pwr.mainOn = true) →
      (1 ≤ s.stage) →
      (s.host.perstHigh = true) →
      (s.session = false) →
      (v ≠ 3#2) →
      (v.toNat ≠ s.owner u.val) →
      Gives (exec (.owner u v) s) fun t =>
        Logs s t [(0x020E, chip, [p2 (blockOff (ownerAddr u.val))])] ∧
        FieldsBut s t [] ∧
        RegsOnly s t) ∧
  (∀ (s : State) (off : BitVec 26) (be : BitVec 8) (d : BitVec 64) (u x : Nat), (s.pwr.mainOn = true) →
      (2 ≤ s.stage) →
      (s.host.perstHigh = true) →
      (unitOf off.toNat = some (u, x)) →
      (u < 24) →
      (s.hostHolds u = true) →
      Gives (exec (.bar2Write off be d) s) fun t =>
        t.bar2Word off.toNat = BitVec.ofNat 64 (mergeBytes 8 (s.bar2Word off.toNat).toNat d.toNat be.toNat) ∧
        (∀ o, o / 8 ≠ off.toNat / 8 → t.bar2Word o = s.bar2Word o) ∧
        t.log = s.log ∧
        t = { s with sto := t.sto }) ∧
  (∀ (s : State) (off : BitVec 26) (be : BitVec 8) (d : BitVec 64) (u x : Nat), (s.pwr.mainOn = true) →
      (2 ≤ s.stage) →
      (s.host.perstHigh = true) →
      (unitOf off.toNat = some (u, x)) →
      (24 ≤ u ∨ s.hostHolds u = false) →
      Gives (exec (.bar2Write off be d) s) fun t =>
        t.get R.STO_REJ_WRITER = 2 ∧
        t.get R.STO_REJ_SET = u ∧
        t.get R.STO_REJ_OFF_OFFSET = x ∧
        t.get R.STO_STAT_REJ = 1 ∧
        t.get R.STO_REJ_COUNT = satNat (2 ^ R.STO_REJ_COUNT.w - 1) (s.get R.STO_REJ_COUNT + 1) ∧
        t.sto = s.sto ∧
        Logs s t [(0x0701, chip, [p1 2, p1 u, p2 x])] ∧
        FieldsBut s t [R.STO_REJ_WRITER, R.STO_REJ_SET, R.STO_REJ_OFF_OFFSET, R.STO_STAT_REJ, R.STO_REJ_COUNT] ∧
        RegsOnly s t) ∧
  (∀ (s : State) (off : BitVec 26) (be : BitVec 8) (d : BitVec 64), (s.pwr.mainOn = true) →
      (s.stage < 2 ∨ unitOf off.toNat = none ∨ s.host.perstHigh = false) →
      Gives (exec (.bar2Write off be d) s) fun t =>
        t = s) ∧
  (∀ (s : State) (off : BitVec 16) (be : BitVec 4) (d : Word), (s.pwr.mainOn = true) →
      (1 ≤ s.stage) →
      (s.host.perstHigh = true) →
      Gives (exec (.exchangeRamWrite off be d none) s) fun t =>
        t.xword (off.toNat / 4) = BitVec.ofNat 32 (mergeBytes 4 (s.xword (off.toNat / 4)).toNat d.toNat be.toNat) ∧
        (∀ k, k ≠ off.toNat / 4 → t.xword k = s.xword k) ∧
        t = { s with host := { s.host with xram := t.host.xram } }) ∧
  (∀ (s : State) (off : BitVec 16) (be db : BitVec 4) (d e : Word), (s.pwr.mainOn = true) →
      (1 ≤ s.stage) →
      (s.host.perstHigh = true) →
      Gives (exec (.exchangeRamWrite off be d (some (db, e))) s) fun t =>
        t.xword (off.toNat / 4) = BitVec.ofNat 32 (mergeBytes 4 (mergeBytes 4 (s.xword (off.toNat / 4)).toNat e.toNat db.toNat) d.toNat be.toNat) ∧
        (∀ k, k ≠ off.toNat / 4 → t.xword k = s.xword k) ∧
        t.get R.STO_XCOLL_ADDR = off.toNat / 4 * 4 ∧
        t.get R.STO_STAT_XCOLL = 1 ∧
        Logs s t [(0x0702, chip, [p2 (off.toNat / 4 * 4)])] ∧
        FieldsBut s t [R.STO_XCOLL_ADDR, R.STO_XCOLL_COUNT, R.STO_STAT_XCOLL]) ∧
  (∀ (s : State) (off : BitVec 16) (be : BitVec 4) (d : Word) (v : Option (BitVec 4 × Word)), (s.pwr.mainOn = true) →
      (s.stage = 0 ∨ s.host.perstHigh = false) →
      Gives (exec (.exchangeRamWrite off be d v) s) fun t =>
        t = s)

/-- Snapshot triggers, SNAP_OUT, the first-capture record and pinned slots. A trigger at SNAP_IN at least 1 ms after the last one, or by TRIG, from stage 1 on is accepted: the capture set takes the state of its instant, LAST_SRC the source, COUNT rises, the first-capture record is taken where none stands and kept where one does, SNAP_OUT rises and cause 3 is set. Within 1 ms, or before stage 1, nothing happens. SNAP_OUT falls with its end. ACK_FIRST clears the first-capture record; REL unpins the slots of its mask. A capture changes only the DIAG and STO registers and the recorder. Readings that are the model's own, and no rule of the manual: log entry 86. -/
def Obligations.Snapshots : Prop :=
  (∀ (s : State) (u : BitVec 16), (s.pwr.mainOn = true) →
      (1 ≤ s.stage) →
      (s.diag.lastTrig = none ∨ 1000 ≤ u.toNat) →
      Gives (exec (.snapIn u) s) fun t =>
        t.get R.DIAG_SNAP_STAT_LAST_SRC = 1 ∧
        t.get R.DIAG_SNAP_STAT_COUNT = satNat (2 ^ R.DIAG_SNAP_STAT_COUNT.w - 1) (s.get R.DIAG_SNAP_STAT_COUNT + 1) ∧
        t.get R.DIAG_SNAP_STAT_FIRST_VALID = 1 ∧
        (s.get R.DIAG_SNAP_STAT_FIRST_VALID = 0 → t.get R.DIAG_SNAP_FIRST_SRC = 1) ∧
        (s.get R.DIAG_SNAP_STAT_FIRST_VALID = 1 → t.get R.DIAG_SNAP_FIRST_SRC = s.get R.DIAG_SNAP_FIRST_SRC) ∧
        t.get R.DIAG_SN_DSC = s.get R.DSC_STATE ∧
        t.get R.DIAG_SN_CYC = s.ang.cycle.toNat ∧
        t.diag.lastTrig = some s.now ∧
        t.diag.snapOut = true ∧
        t.host.icause.getLsbD 3 = true ∧
        RegsBut s t [Blk.DIAG, Blk.STO] ∧
        RegsOnly { s with diag := t.diag } t) ∧
  (∀ (s : State) (u : BitVec 16), (s.pwr.mainOn = true) →
      (s.stage = 0 ∨ (s.diag.lastTrig ≠ none ∧ u.toNat < 1000)) →
      Gives (exec (.snapIn u) s) fun t =>
        t = s) ∧
  (∀ (s : State), (s.pwr.mainOn = true) →
      (1 ≤ s.stage) →
      (s.host.perstHigh = true) →
      Gives (exec (.trigSnap) s) fun t =>
        t.get R.DIAG_SNAP_STAT_LAST_SRC = 2 ∧
        t.get R.DIAG_SNAP_STAT_COUNT = satNat (2 ^ R.DIAG_SNAP_STAT_COUNT.w - 1) (s.get R.DIAG_SNAP_STAT_COUNT + 1) ∧
        t.get R.DIAG_SNAP_STAT_FIRST_VALID = 1 ∧
        (s.get R.DIAG_SNAP_STAT_FIRST_VALID = 0 → t.get R.DIAG_SNAP_FIRST_SRC = 2) ∧
        (s.get R.DIAG_SNAP_STAT_FIRST_VALID = 1 → t.get R.DIAG_SNAP_FIRST_SRC = s.get R.DIAG_SNAP_FIRST_SRC) ∧
        t.get R.DIAG_SN_DSC = s.get R.DSC_STATE ∧
        t.get R.DIAG_SN_CYC = s.ang.cycle.toNat ∧
        t.diag.lastTrig = some s.now ∧
        t.diag.snapOut = true ∧
        t.host.icause.getLsbD 3 = true ∧
        RegsBut s t [Blk.DIAG, Blk.STO] ∧
        RegsOnly { s with diag := t.diag } t) ∧
  (∀ (s : State), (s.pwr.mainOn = true) →
      Gives (exec (.snapOutEnd) s) fun t =>
        t = { s with diag := { s.diag with snapOut := false } }) ∧
  (∀ (s : State), (s.pwr.mainOn = true) →
      (1 ≤ s.stage) →
      (s.host.perstHigh = true) →
      Gives (exec (.ackFirst) s) fun t =>
        t.get R.DIAG_SNAP_STAT_FIRST_VALID = 0 ∧
        t.get R.DIAG_SNAP_FIRST_SRC = 0 ∧
        t.get R.DIAG_SNAP_FIRST_EP = 0 ∧
        t.get R.DIAG_SNAP_FIRST_T = 0 ∧
        t.get R.DIAG_SNAP_STAT_COUNT = s.get R.DIAG_SNAP_STAT_COUNT ∧
        FieldsBut s t [R.DIAG_SNAP_STAT_FIRST_VALID, R.DIAG_SNAP_FIRST_SRC, R.DIAG_SNAP_FIRST_EP, R.DIAG_SNAP_FIRST_T] ∧
        t = { s with regs := t.regs }) ∧
  (∀ (s : State) (m : BitVec 4) (k : Fin 4), (s.pwr.mainOn = true) →
      (1 ≤ s.stage) →
      (s.host.perstHigh = true) →
      Gives (exec (.relSlot m) s) fun t =>
        t.bit R.STO_SLOTSTAT_PINNED k.val = (s.bit R.STO_SLOTSTAT_PINNED k.val && !m.getLsbD k.val) ∧
        t.diag.pins = s.diag.pins.filter (fun p => !m.toNat.testBit p.2) ∧
        FieldsBut s t [R.STO_SLOTSTAT_PINNED] ∧
        t = { s with regs := t.regs, diag := { s.diag with pins := t.diag.pins } })

/-- Start-up tests and the steps of the background rotation. The start-up tests run once in stage 0; where nothing fails every region has 8 lanes and nothing is logged. From stage 2 on a step of the rotation starts once the previous one has ended: a bank is mirrored from phase 1, a scratchpad window is lent, 256 slots of the log are read and the step ends. The phases of a bank test follow each other; the end of the last clears the mirror with 0x0707; a failing bank takes its spare for good with 0x0708. An access to the lent window abandons its step; a step that ends without failure frees the window; one that fails takes the spare window, and lending ends. Readings that are the model's own, and no rule of the manual: log entries 21, 48 and 87. -/
def Obligations.StartupAndBackgroundTests : Prop :=
  (∀ (s : State), (s.pwr.mainOn = true) →
      (s.stage = 0) →
      (s.diag.testsDone = false) →
      Gives (exec (.startupTests {}) s) fun t =>
        t.diag = { s.diag with testsDone := true } ∧
        (∀ r < 8, t.get (R.IMG_REGION_LANES r) = 8) ∧
        t.get R.EST_STAT_SPARES_FREE = s.sparesFree ∧
        t.log = s.log ∧
        t = { s with regs := t.regs, diag := t.diag, host := t.host, out := t.out }) ∧
  (∀ (s : State) (x : StartTests), (s.pwr.mainOn = true) →
      (s.stage = 0) →
      (s.diag.testsDone = false) →
      Gives (exec (.startupTests x) s) fun t =>
        t.diag.testsDone = true ∧
        t.nodes = s.nodes ∧
        t.img.nor = s.img.nor ∧
        (∀ r < 8, x.spareL.getLsbD r = true → t.bit R.STO_STAT_SPARE_L_USED r = true)) ∧
  (∀ (s : State) (x : StartTests), (s.pwr.mainOn = true) →
      (s.stage ≠ 0 ∨ s.diag.testsDone = true) →
      Gives (exec (.startupTests x) s) fun t =>
        t = s) ∧
  (∀ (s : State) (b : Option (Fin 256)) , (s.pwr.mainOn = true) →
      (s.stage < 2 ∨ s.get R.DIAG_BG_STAT_ACTIVE = 1) →
      Gives (exec (.backgroundTestStep b []) s) fun t =>
        t = s) ∧
  (∀ (s : State) (b : Option (Fin 256)) (u k : Nat), (s.pwr.mainOn = true) →
      (2 ≤ s.stage) →
      (s.get R.DIAG_BG_STAT_ACTIVE = 0) →
      (s.diag.bgNext < 422) →
      (bgStep (s.bgFind 422 s.diag.bgNext 0).1 = .bank u k) →
      Gives (exec (.backgroundTestStep b []) s) fun t =>
        t.get R.DIAG_BG_STAT_STEP = (s.bgFind 422 s.diag.bgNext 0).1 ∧
        t.get R.DIAG_BG_STAT_ACTIVE = 1 ∧
        t.sto = { s.sto with bank := some (u, k) } ∧
        t.get R.STO_MIRROR_SET = u ∧
        t.get R.STO_MIRROR_BANK = k ∧
        t.get R.STO_MIRROR_MIRROR_PHASE = 1 ∧
        t.get R.STO_STAT_MIRROR = 1 ∧
        t.log = s.log) ∧
  (∀ (s : State) (b : Option (Fin 256)) (w : Nat), (s.pwr.mainOn = true) →
      (2 ≤ s.stage) →
      (s.get R.DIAG_BG_STAT_ACTIVE = 0) →
      (s.diag.bgNext < 422) →
      (bgStep (s.bgFind 422 s.diag.bgNext 0).1 = .window w) →
      Gives (exec (.backgroundTestStep b []) s) fun t =>
        t.get R.DIAG_BG_STAT_STEP = (s.bgFind 422 s.diag.bgNext 0).1 ∧
        t.get R.DIAG_BG_STAT_ACTIVE = 1 ∧
        t.get R.DIAG_BG_STAT_WINDOW = w ∧
        t.diag = { s.diag with abandoned := false } ∧
        t.sto = s.sto) ∧
  (∀ (s : State) (k : Nat), (s.pwr.mainOn = true) →
      (2 ≤ s.stage) →
      (s.get R.DIAG_BG_STAT_ACTIVE = 0) →
      (s.diag.bgNext < 422) →
      (bgStep (s.bgFind 422 s.diag.bgNext 0).1 = .log k) →
      Gives (exec (.backgroundTestStep none []) s) fun t =>
        t.get R.DIAG_BG_STAT_STEP = (s.bgFind 422 s.diag.bgNext 0).1 ∧
        t.get R.DIAG_BG_STAT_ACTIVE = 0 ∧
        t.diag.bgNext = ((s.bgFind 422 s.diag.bgNext 0).1 + 1) % 422 ∧
        t.log = s.log ∧
        RegsBut s t [Blk.DIAG]) ∧
  (∀ (s : State) (f : Bool), (s.pwr.mainOn = true) →
      (s.sto.bank = none) →
      Gives (exec (.bankTestPhaseEnd f) s) fun t =>
        t = s) ∧
  (∀ (s : State) (u b : Nat), (s.pwr.mainOn = true) →
      (s.sto.bank = some (u, b)) →
      (s.get R.STO_MIRROR_MIRROR_PHASE < 3) →
      Gives (exec (.bankTestPhaseEnd false) s) fun t =>
        t.get R.STO_MIRROR_MIRROR_PHASE = s.get R.STO_MIRROR_MIRROR_PHASE + 1 ∧
        FieldsBut s t [R.STO_MIRROR_MIRROR_PHASE] ∧
        t = { s with regs := t.regs }) ∧
  (∀ (s : State) (u b : Nat), (s.pwr.mainOn = true) →
      (s.sto.bank = some (u, b)) →
      (s.get R.STO_MIRROR_MIRROR_PHASE = 3) →
      Gives (exec (.bankTestPhaseEnd false) s) fun t =>
        t.sto = { s.sto with bank := none } ∧
        t.get R.STO_MIRROR_MIRROR_PHASE = 0 ∧
        t.get R.STO_STAT_MIRROR = 0 ∧
        t.get R.DIAG_BG_STAT_ACTIVE = 0 ∧
        Logs s t [(0x0707, chip, [p1 u, p1 b])] ∧
        RegsBut s t [Blk.DIAG, Blk.STO]) ∧
  (∀ (s : State) (u b : Nat), (s.pwr.mainOn = true) →
      (s.sto.bank = some (u, b)) →
      (s.get R.STO_MIRROR_MIRROR_PHASE ≤ 2) →
      (s.spareUsed (largeUnit u) (bankRegion u b) = false) →
      (bankRegion u b < 8) →
      Gives (exec (.bankTestPhaseEnd true) s) fun t =>
        t.sto.bank = none ∧
        t.spareUsed (largeUnit u) (bankRegion u b) = true ∧
        t.get R.STO_MIRROR_MIRROR_PHASE = 0 ∧
        t.get R.DIAG_BG_STAT_ACTIVE = 0 ∧
        t.diag.repA = t.diag.repB ∧
        t.diag.repA.valid = true ∧
        t.diag.repA.seq = s.getW R.DIAG_REP_SEQ + 1#32 ∧
        Logs s t [(0x0708, chip, [p1 u, p1 b])]) ∧
  (∀ (s : State), (s.pwr.mainOn = true) →
      (s.get R.DIAG_BG_STAT_WINDOW = 31 ∨ s.diag.abandoned = true) →
      Gives (exec (.lentWindowAccess) s) fun t =>
        t = s) ∧
  (∀ (s : State), (s.pwr.mainOn = true) →
      (s.get R.DIAG_BG_STAT_WINDOW ≠ 31) →
      (s.diag.abandoned = false) →
      Gives (exec (.lentWindowAccess) s) fun t =>
        t.diag.abandoned = true ∧
        t.abandons (s.get R.DIAG_BG_STAT_WINDOW) = s.abandons (s.get R.DIAG_BG_STAT_WINDOW) + 1 ∧
        t.get R.DIAG_BG_ABANDON = satNat (2 ^ R.DIAG_BG_ABANDON.w - 1) (s.get R.DIAG_BG_ABANDON + 1) ∧
        FieldsBut s t [R.DIAG_BG_ABANDON] ∧
        RegsOnly { s with diag := t.diag } t) ∧
  (∀ (s : State) (f : Bool), (s.pwr.mainOn = true) →
      (s.get R.DIAG_BG_STAT_WINDOW = 31) →
      Gives (exec (.windowStepDone f) s) fun t =>
        t = s) ∧
  (∀ (s : State), (s.pwr.mainOn = true) →
      (s.get R.DIAG_BG_STAT_WINDOW ≠ 31) →
      (s.diag.abandoned = false) →
      Gives (exec (.windowStepDone false) s) fun t =>
        t.get R.DIAG_BG_STAT_WINDOW = 31 ∧
        t.get R.DIAG_BG_STAT_ACTIVE = 0 ∧
        t.abandons (s.get R.DIAG_BG_STAT_WINDOW) = 0 ∧
        t.log = s.log ∧
        RegsBut s t [Blk.DIAG]) ∧
  (∀ (s : State), (s.pwr.mainOn = true) →
      (s.get R.DIAG_BG_STAT_WINDOW ≠ 31) →
      (s.diag.abandoned = false) →
      (s.get R.DIAG_REP_STAT_WIN_G = 0) →
      Gives (exec (.windowStepDone true) s) fun t =>
        t.get R.DIAG_BG_STAT_WINDOW = 31 ∧
        t.get R.DIAG_REP_STAT_WIN_G = 1 ∧
        t.get R.DIAG_BG_STAT_LENDING_OFF = 1 ∧
        t.diag.repA.seq = s.getW R.DIAG_REP_SEQ + 1#32 ∧
        Logs s t [(0x1203, chip, [p1 0, p1 (s.get R.DIAG_BG_STAT_WINDOW)])])

/-- The debug port: masters, UNLOCK, accesses, refusal and busy. CLAIM takes a free port for the host; held by the TAP it answers busy. RELEASE and a TAP reset give it back; a TAP held in reset, or in board-test mode, reaches no debug port. UNLOCK in a session sets UNLOCKED with 0x1208 and throttles the Servitor in Paired; LOCK clears it. An operation by a master that does not hold the port answers busy (RESP 1); one before stage 1, of a TAP that does not offer the port, or of a host with PERST_N low has no effect. A read needs UNLOCKED, a register also HALTED, and gives the value last written there or a free one, or an access fault. An intrusive operation outside R439 is refused with RESP 2 and 0x0C0E and no effect. In Split, allowed: HALT halts the Gaffer, RESUME lets it run, STEP retires one instruction, writes put their word, breakpoints enter and leave the list; each answers 0. Readings that are the model's own, and no rule of the manual: log entries 63, 71, 72, 109 and 131. -/
def Obligations.DebugPort : Prop :=
  (∀ (s : State), (s.pwr.mainOn = true) →
      (1 ≤ s.stage) →
      (s.host.perstHigh = true) →
      (s.get R.DIAG_DBG_STAT_MASTER = 0) →
      Gives (exec (.claimPort) s) fun t =>
        t.get R.DIAG_DBG_STAT_MASTER = 2 ∧
        FieldsBut s t [R.DIAG_DBG_STAT_MASTER] ∧
        t = { s with regs := t.regs }) ∧
  (∀ (s : State), (s.pwr.mainOn = true) →
      (1 ≤ s.stage) →
      (s.host.perstHigh = true) →
      (s.get R.DIAG_DBG_STAT_MASTER = 1) →
      Gives (exec (.claimPort) s) fun t =>
        t.get R.DIAG_DBG_RESP_RESP = 1 ∧
        FieldsBut s t [R.DIAG_DBG_RESP_RESP] ∧
        t = { s with regs := t.regs }) ∧
  (∀ (s : State), (s.pwr.mainOn = true) →
      (1 ≤ s.stage) →
      (s.host.perstHigh = true) →
      (s.get R.DIAG_DBG_STAT_MASTER = 2) →
      Gives (exec (.releasePort) s) fun t =>
        t.get R.DIAG_DBG_STAT_MASTER = 0 ∧
        FieldsBut s t [R.DIAG_DBG_STAT_MASTER] ∧
        t = { s with regs := t.regs }) ∧
  (∀ (s : State), (s.pwr.mainOn = true) →
      (s.get R.DIAG_DBG_STAT_MASTER = 1) →
      Gives (exec (.tapReset) s) fun t =>
        t.get R.DIAG_DBG_STAT_MASTER = 0 ∧
        FieldsBut s t [R.DIAG_DBG_STAT_MASTER] ∧
        t = { s with regs := t.regs, diag := { s.diag with trstHigh := !s.diag.trstHigh } }) ∧
  (∀ (s : State), (s.pwr.mainOn = true) →
      (s.get R.DIAG_DBG_STAT_MASTER ≠ 1) →
      Gives (exec (.tapReset) s) fun t =>
        t = { s with diag := { s.diag with trstHigh := !s.diag.trstHigh } }) ∧
  (∀ (s : State), (s.pwr.mainOn = true) →
      (1 ≤ s.stage) →
      (s.host.perstHigh = true) →
      (s.session = true) →
      (s.get R.DIAG_DBG_STAT_UNLOCKED = 0) →
      Gives (exec (.unlockPort) s) fun t =>
        t.get R.DIAG_DBG_STAT_UNLOCKED = 1 ∧
        t.get R.PAIR_STAT_LAG_MODE = b2n (s.get R.PAIR_STAT_MODE == 1) ∧
        Logs s t [(0x1208, chip, [p1 (s.get R.DIAG_DBG_STAT_MASTER)])] ∧
        FieldsBut s t [R.DIAG_DBG_STAT_UNLOCKED, R.PAIR_STAT_LAG_MODE] ∧
        RegsOnly s.keepSession t) ∧
  (∀ (s : State), (s.pwr.mainOn = true) →
      (1 ≤ s.stage) →
      (s.host.perstHigh = true) →
      (s.get R.DIAG_DBG_STAT_UNLOCKED = 1) →
      Gives (exec (.lockPort) s) fun t =>
        t.get R.DIAG_DBG_STAT_UNLOCKED = 0 ∧
        t.get R.PAIR_STAT_LAG_MODE = 0 ∧
        Logs s t [(0x1208, chip, [p1 (s.get R.DIAG_DBG_STAT_MASTER)])] ∧
        FieldsBut s t [R.DIAG_DBG_STAT_UNLOCKED, R.PAIR_STAT_LAG_MODE] ∧
        RegsOnly s t) ∧
  (∀ (s : State) (h : Bool) (a d : Word) (i : Instr), s.pwr.mainOn = true → s.stage ≠ 0 → h = true ∨ s.host.perstHigh = true → s.claimed h = none → (h = true → s.tapOffers.contains .debug = true) →
      i ∈ [Instr.haltGaffer h, Instr.resumeGaffer h, Instr.stepGaffer h, Instr.readMemory h a, Instr.writeMemory h a d, Instr.readRegister h a, Instr.writeRegister h a d, Instr.setBreakpoint h a, Instr.clearBreakpoint h a] →
      Gives (exec i s) fun t => t.get R.DIAG_DBG_RESP_RESP = 1 ∧ FieldsBut s t [R.DIAG_DBG_RESP_RESP] ∧ t = { s with regs := t.regs }) ∧
  (∀ (s : State) (h : Bool) (a d : Word) (i : Instr), s.pwr.mainOn = true → s.stage ≠ 0 → h = true ∨ s.host.perstHigh = true → s.claimed h = some s → s.get R.DIAG_DBG_STAT_UNLOCKED = 0 ∨ s.intrusiveOk = false →
      i ∈ [Instr.haltGaffer h, Instr.stepGaffer h, Instr.writeMemory h a d, Instr.writeRegister h a d, Instr.setBreakpoint h a, Instr.clearBreakpoint h a] →
      Gives (exec i s) fun t => t.get R.DIAG_DBG_RESP_RESP = 2 ∧ Logs s t [(0x0C0E, chip, [p1 s.safety, p1 (s.get R.PAIR_STAT_MODE)])] ∧ FieldsBut s t [R.DIAG_DBG_RESP_RESP] ∧ RegsOnly s t) ∧
  (∀ (s : State) (h : Bool) (a d : Word) (i : Instr), s.pwr.mainOn = true → s.stage = 0 ∨ (h = true ∧ s.tapOffers.contains .debug = false) ∨ (h = false ∧ s.host.perstHigh = false) →
      i ∈ [Instr.haltGaffer h, Instr.resumeGaffer h, Instr.stepGaffer h, Instr.readMemory h a, Instr.writeMemory h a d, Instr.readRegister h a, Instr.writeRegister h a d, Instr.setBreakpoint h a, Instr.clearBreakpoint h a] →
      Gives (exec i s) fun t => t = s) ∧
  (∀ (s : State) (h : Bool), (s.pwr.mainOn = true) →
      (s.stage ≠ 0) →
      (h = true ∨ s.host.perstHigh = true) →
      (s.get R.DIAG_DBG_STAT_HALTED = 0) →
      (s.claimed h = some s) →
      (s.get R.DIAG_DBG_STAT_UNLOCKED = 1) →
      (s.intrusiveOk = true) →
      (s.get R.PAIR_STAT_MODE = 2) →
      Gives (exec (.haltGaffer h) s) fun t =>
        t.get R.DIAG_DBG_STAT_HALTED = 1 ∧
        t.pair = { s.pair with haltG := true } ∧
        t.get R.DIAG_DBG_RESP_RESP = 0 ∧
        Logs s t [(0x0C0C, chip, [pn 6 s.pair.retire])] ∧
        FieldsBut s t [R.DIAG_DBG_STAT_HALTED, R.DIAG_DBG_RESP_RESP] ∧
        RegsOnly { s with pair := t.pair } t) ∧
  (∀ (s : State) (h : Bool), (s.pwr.mainOn = true) →
      (s.stage ≠ 0) →
      (h = true ∨ s.host.perstHigh = true) →
      (s.claimed h = some s) →
      (s.get R.DIAG_DBG_STAT_HALTED = 1) →
      (s.get R.PAIR_STAT_MODE = 2) →
      Gives (exec (.resumeGaffer h) s) fun t =>
        t.get R.DIAG_DBG_STAT_HALTED = 0 ∧
        t.pair = { s.pair with haltG := false, haltS := false } ∧
        t.get R.DIAG_DBG_RESP_RESP = 0 ∧
        Logs s t [(0x0C0C, chip, [pn 6 s.pair.retire])] ∧
        FieldsBut s t [R.DIAG_DBG_STAT_HALTED, R.DIAG_DBG_RESP_RESP]) ∧
  (∀ (s : State) (h : Bool), (s.pwr.mainOn = true) →
      (s.stage ≠ 0) →
      (h = true ∨ s.host.perstHigh = true) →
      (s.claimed h = some s) →
      (s.get R.DIAG_DBG_STAT_UNLOCKED = 1) →
      (s.intrusiveOk = true) →
      (s.get R.PAIR_STAT_MODE = 2) →
      Gives (exec (.stepGaffer h) s) fun t =>
        t.pair = { s.pair with retire := (s.pair.retire + 1) % 2 ^ 48 } ∧
        t.get R.DIAG_DBG_RESP_RESP = 0 ∧
        FieldsBut s t [R.DIAG_DBG_RESP_RESP] ∧
        t = { s with regs := t.regs, pair := t.pair }) ∧
  (∀ (s : State) (h : Bool) (a : Word), (s.pwr.mainOn = true) →
      (s.stage ≠ 0) →
      (h = true ∨ s.host.perstHigh = true) →
      (s.claimed h = some s) →
      (s.get R.DIAG_DBG_STAT_UNLOCKED = 1) →
      Gives (exec (.readMemory h a) s) fun t =>
        t.get R.DIAG_DBG_ADDR = a.toNat ∧
        t.get R.DIAG_DBG_RESP_RESP = (if Config.gafferFault a then 3 else 0) ∧
        (Config.gafferFault a = false → t.getW R.DIAG_DBG_DATA = (Sparse.get (fun _ => none) s.diag.gmem a.toNat).getD ((Config.freeValue s.free).setWidth 32)) ∧
        FieldsBut s t [R.DIAG_DBG_ADDR, R.DIAG_DBG_DATA, R.DIAG_DBG_RESP_RESP] ∧
        t = { s with regs := t.regs, free := t.free }) ∧
  (∀ (s : State) (h : Bool) (a : Word), (s.pwr.mainOn = true) →
      (s.stage ≠ 0) →
      (h = true ∨ s.host.perstHigh = true) →
      (s.claimed h = some s) →
      (s.get R.DIAG_DBG_STAT_UNLOCKED = 1) →
      (s.get R.DIAG_DBG_STAT_HALTED = 1) →
      Gives (exec (.readRegister h a) s) fun t =>
        t.get R.DIAG_DBG_ADDR = a.toNat ∧
        t.get R.DIAG_DBG_RESP_RESP = (if Config.gafferFault a then 3 else 0) ∧
        (Config.gafferFault a = false → t.getW R.DIAG_DBG_DATA = (Sparse.get (fun _ => none) s.diag.gregs a.toNat).getD ((Config.freeValue s.free).setWidth 32)) ∧
        FieldsBut s t [R.DIAG_DBG_ADDR, R.DIAG_DBG_DATA, R.DIAG_DBG_RESP_RESP]) ∧
  (∀ (s : State) (h : Bool) (a : Word), (s.pwr.mainOn = true) →
      (s.stage ≠ 0) →
      (h = true ∨ s.host.perstHigh = true) →
      (s.claimed h = some s) →
      (s.get R.DIAG_DBG_STAT_UNLOCKED = 0 ∨ s.get R.DIAG_DBG_STAT_HALTED = 0) →
      Gives (exec (.readRegister h a) s) fun t =>
        t.get R.DIAG_DBG_RESP_RESP = 2 ∧
        FieldsBut s t [R.DIAG_DBG_RESP_RESP] ∧
        t = { s with regs := t.regs }) ∧
  (∀ (s : State) (h : Bool) (a d : Word), (s.pwr.mainOn = true) →
      (s.stage ≠ 0) →
      (h = true ∨ s.host.perstHigh = true) →
      (s.claimed h = some s) →
      (s.get R.DIAG_DBG_STAT_UNLOCKED = 1) →
      (s.intrusiveOk = true) →
      (s.get R.PAIR_STAT_MODE = 2) →
      Gives (exec (.writeMemory h a d) s) fun t =>
        t.get R.DIAG_DBG_ADDR = a.toNat ∧
        t.getW R.DIAG_DBG_DATA = d ∧
        t.get R.DIAG_DBG_RESP_RESP = (if Config.gafferFault a then 3 else 0) ∧
        t.diag.gmem = (if Config.gafferFault a then s.diag.gmem else Sparse.set (fun _ => none) s.diag.gmem a.toNat (some d)) ∧
        FieldsBut s t [R.DIAG_DBG_ADDR, R.DIAG_DBG_DATA, R.DIAG_DBG_RESP_RESP]) ∧
  (∀ (s : State) (h : Bool) (a d : Word), (s.pwr.mainOn = true) →
      (s.stage ≠ 0) →
      (h = true ∨ s.host.perstHigh = true) →
      (s.claimed h = some s) →
      (s.get R.DIAG_DBG_STAT_UNLOCKED = 1) →
      (s.intrusiveOk = true) →
      (s.get R.PAIR_STAT_MODE = 2) →
      Gives (exec (.writeRegister h a d) s) fun t =>
        t.getW R.DIAG_DBG_DATA = d ∧
        t.get R.DIAG_DBG_RESP_RESP = (if Config.gafferFault a then 3 else 0) ∧
        t.diag.gregs = (if Config.gafferFault a then s.diag.gregs else Sparse.set (fun _ => none) s.diag.gregs a.toNat (some d)) ∧
        t.diag.gmem = s.diag.gmem) ∧
  (∀ (s : State) (h : Bool) (a : Word), (s.pwr.mainOn = true) →
      (s.stage ≠ 0) →
      (h = true ∨ s.host.perstHigh = true) →
      (s.claimed h = some s) →
      (s.get R.DIAG_DBG_STAT_UNLOCKED = 1) →
      (s.intrusiveOk = true) →
      (s.get R.PAIR_STAT_MODE = 2) →
      Gives (exec (.setBreakpoint h a) s) fun t =>
        t.diag = { s.diag with bkpts := (if s.diag.bkpts.contains a then s.diag.bkpts else s.diag.bkpts ++ [a]) } ∧
        t.get R.DIAG_DBG_STAT_BKPT = 1 ∧
        t.get R.DIAG_DBG_RESP_RESP = 0 ∧
        FieldsBut s t [R.DIAG_DBG_STAT_BKPT, R.DIAG_DBG_RESP_RESP]) ∧
  (∀ (s : State) (h : Bool) (a : Word), (s.pwr.mainOn = true) →
      (s.stage ≠ 0) →
      (h = true ∨ s.host.perstHigh = true) →
      (s.claimed h = some s) →
      (s.get R.DIAG_DBG_STAT_UNLOCKED = 1) →
      (s.intrusiveOk = true) →
      (s.get R.PAIR_STAT_MODE = 2) →
      Gives (exec (.clearBreakpoint h a) s) fun t =>
        t.diag = { s.diag with bkpts := s.diag.bkpts.filter (fun x => x != a) } ∧
        t.get R.DIAG_DBG_STAT_BKPT = b2n (!t.diag.bkpts.isEmpty) ∧
        t.get R.DIAG_DBG_RESP_RESP = 0 ∧
        FieldsBut s t [R.DIAG_DBG_STAT_BKPT, R.DIAG_DBG_RESP_RESP])

/-- The event recorder: records, repeats, the staging queue, the scan, the clear, the register window. An event with a class that meets an idle recorder, repeats neither the last record nor a live window and finds a slot becomes a valid record there with the next sequence number, its code, source, parameters and the times of the event; the same as the last record it raises that record's repeat count only. Met busy, it waits in the queue while that has room. A reserved code has no effect. The end of a write takes the head of the queue. The scan runs once; it makes the next sequence number one above the highest valid record, 0 where none is. CLEAR in a session in SAFE or MAINT leaves no old record valid. LOG_RD_IDX shows the bytes of the slot named; one that does not exist is discarded with 0x1001. LOG_HEAD_SEQ latches tail and count. PWR_OPTIME_LO and PAIR_RETIRE_LO latch the high parts; a read that is not served latches nothing. Readings that are the model's own, and no rule of the manual: log entries 85 and 119. -/
def Obligations.EventRecorder : Prop :=
  (∀ (s : State) (c : BitVec 16) (x : BitVec 24) (p : BitVec 64) (ok : Bool), (s.pwr.mainOn = true) →
      (classOf? c.toNat = none) →
      Gives (exec (.eventRecord c x p ok) s) fun t =>
        t = s) ∧
  (∀ (s : State) (c : BitVec 16) (x : BitVec 24) (p : BitVec 64) (k i : Nat), (s.pwr.mainOn = true) →
      (classOf? c.toNat = some k) →
      (s.log.idle = true) →
      (windowed c.toNat = false ∨ s.log.window (s.event k c.toNat x.toNat p.toNat) (windowKey (s.event k c.toNat x.toNat p.toNat)) = none) →
      (s.log.lastEquals (s.event k c.toNat x.toNat p.toNat) = none) →
      (s.log.place k = some i) →
      Gives (exec (.eventRecord c x p true) s) fun t =>
        (t.log.slot i).valid = true ∧
        (t.log.slot i).seq = s.log.nextSeq ∧
        (t.log.slot i).code = c ∧
        (t.log.slot i).source = x ∧
        (t.log.slot i).params = p ∧
        (t.log.slot i).cls = k ∧
        (t.log.slot i).optime = s.pwr.optime ∧
        (t.log.slot i).rep = 0 ∧
        t.log.nextSeq = s.log.nextSeq + 1#32 ∧
        t.log.busy = true ∧
        (∀ j, j ≠ i → t.log.slot j = s.log.slot j) ∧
        FieldsBut s t [] ∧
        RegsOnly s t) ∧
  (∀ (s : State) (c : BitVec 16) (x : BitVec 24) (p : BitVec 64) (k i : Nat), (s.pwr.mainOn = true) →
      (classOf? c.toNat = some k) →
      (s.log.idle = true) →
      (windowed c.toNat = false) →
      (s.log.lastEquals (s.event k c.toNat x.toNat p.toNat) = some i) →
      Gives (exec (.eventRecord c x p true) s) fun t =>
        t.log = s.log.repeatIn i ∧
        ((s.log.slot i).rep < 0xFFFF → (t.log.slot i).rep = (s.log.slot i).rep + 1) ∧
        t.log.nextSeq = s.log.nextSeq ∧
        FieldsBut s t [] ∧
        t = { s with log := t.log }) ∧
  (∀ (s : State) (c : BitVec 16) (x : BitVec 24) (p : BitVec 64) (k : Nat), (s.pwr.mainOn = true) →
      (classOf? c.toNat = some k) →
      (s.log.idle = false) →
      (s.log.queue.length < 16) →
      Gives (exec (.eventRecord c x p true) s) fun t =>
        t.log = { s.log with queue := s.log.queue ++ [(s.event k c.toNat x.toNat p.toNat)] } ∧
        FieldsBut s t [] ∧
        t = { s with log := t.log }) ∧
  (∀ (s : State), (s.pwr.mainOn = true) →
      (s.log.queue = []) →
      Gives (exec (.queuedEventWrite true) s) fun t =>
        t.log = { s.log with busy := false } ∧
        t = { s with log := t.log }) ∧
  (∀ (s : State) (e : Event) (q : List Event), (s.pwr.mainOn = true) →
      (s.log.scanDone = true) →
      (s.log.queue = e :: q) →
      (q ≠ [] ∨ s.log.lostRun = 0) →
      Gives (exec (.queuedEventWrite true) s) fun t =>
        t.log.queue = q ∧
        t.log = (({ s with log := { s.log with busy := false, queue := q } }).record e (windowKey e)).log ∧
        FieldsBut s t [] ∧
        RegsOnly s t) ∧
  (∀ (s : State) (b : Option (Fin 65792)), (s.pwr.mainOn = true) →
      (s.log.scanDone = true) →
      Gives (exec (.logScan b) s) fun t =>
        t = s) ∧
  (∀ (s : State), (s.pwr.mainOn = true) →
      (s.log.scanDone = false) →
      Gives (exec (.logScan none) s) fun t =>
        t.log.scanDone = true ∧
        t.log.nextSeq = (match newest s.log.held with | none => 0#32 | some p => p.2.seq + 1#32) ∧
        t.log.slots = s.log.slots ∧
        t.log.queue = s.log.queue ∧
        t = { s with log := t.log }) ∧
  (∀ (s : State), (s.pwr.mainOn = true) →
      (1 ≤ s.stage) →
      (s.host.perstHigh = true) →
      (s.session = true) →
      (s.safety = 0 ∨ s.safety = 6) →
      Gives (exec (.logClear) s) fun t =>
        (∀ j, (s.log.slot j).valid = true → (t.log.slot j).seq = (s.log.slot j).seq → (t.log.slot j).valid = true → (s.log.slot j).seq = s.log.nextSeq) ∧
        t.log.clearSeq = s.log.nextSeq ∧
        t.log.lost = 0#32 ∧
        t.log.queue = s.log.queue ∧
        FieldsBut s t [] ∧
        RegsOnly s.keepSession t) ∧
  (∀ (s : State), (s.pwr.mainOn = true) →
      (1 ≤ s.stage) →
      (s.host.perstHigh = true) →
      (s.session = true) →
      (s.safety ≠ 0) →
      (s.safety ≠ 6) →
      Gives (exec (.logClear) s) fun t =>
        Logs s t [(0x1106, chip, [p1 s.safety])] ∧
        FieldsBut s t [] ∧
        RegsOnly s.keepSession t) ∧
  (∀ (s : State) (n : BitVec 17), (s.pwr.mainOn = true) →
      (1 ≤ s.stage) →
      (s.host.perstHigh = true) →
      (n.toNat < 65792) →
      Gives (exec (.logRdIdx n) s) fun t =>
        t.get R.LOG_RD_IDX_SLOT = n.toNat ∧
        (∀ k < 8, t.get (R.LOG_RD_DATA k) = ofLe (slice 0#8 (s.log.slot n.toNat).bytes (4 * k) 4)) ∧
        t.log.slots = s.log.slots ∧
        RegsBut s t [Blk.LOG] ∧
        t = { s with regs := t.regs, log := t.log }) ∧
  (∀ (s : State) (n : BitVec 17), (s.pwr.mainOn = true) →
      (1 ≤ s.stage) →
      (s.host.perstHigh = true) →
      (65792 ≤ n.toNat) →
      Gives (exec (.logRdIdx n) s) fun t =>
        Logs s t [(0x1001, chip, [p2 0x80])] ∧
        FieldsBut s t [] ∧
        RegsOnly s t) ∧
  (∀ (s : State), (s.pwr.mainOn = true) →
      (1 ≤ s.stage) →
      (s.host.perstHigh = true) →
      Gives (exec (.logHeadSeq) s) fun t =>
        t = { s with log := { s.log with tailLatch := s.log.tail, ovwLatch := s.log.ovw } }) ∧
  (∀ (s : State), (s.pwr.mainOn = true) →
      (1 ≤ s.stage) →
      (s.host.perstHigh = true) →
      Gives (exec (.pwrOptimeLo) s) fun t =>
        t = { s with pwr := { s.pwr with hiLatch := s.pwr.optime / 2 ^ 32 % 65536 } }) ∧
  (∀ (s : State), (s.pwr.mainOn = true) →
      (1 ≤ s.stage) →
      (s.host.perstHigh = true) →
      Gives (exec (.pairRetireLo) s) fun t =>
        t = { s with pair := { s.pair with hiLatch := s.pair.retire / 2 ^ 32 } }) ∧
  (∀ (s : State) (i : Instr), s.stage = 0 ∨ s.host.perstHigh = false → i ∈ [Instr.logHeadSeq, Instr.pwrOptimeLo, Instr.pairRetireLo] →
      Gives (exec i s) fun t => t = s)

/-- The end of a lane group's update, a cell reset, saves and the restore of estimator state. A lane group that runs ends with its time shown, its overrun run at 0 and its busy bit clear; one that does not run is left alone. A cell reset in a session marks an assigned cell with 0x080A, is 0x020E outside one, and of an unassigned cell is discarded with 0x1001. A save starts with BUSY and the next sequence number where a memory is usable and none runs, else ends at once with result 3; SAVE_STATE during a save is held. The end of a save with no error shows kind, result 1, sequence and the time; an error in a region shows result 2 with 0x0806, sets SAVE_FAIL and leaves that block without its magic; a held request follows. A save that the sleep save cuts off ends with result 4, and the sleep save begins. The restore runs once in stage 2 and leaves the state memory as it was; without a usable memory every region fails. Readings that are the model's own, and no rule of the manual: log entries 46, 48, 52, 53 and 117. -/
def Obligations.EstimatorUpdatesAndSaves : Prop :=
  (∀ (s : State) (r : Fin 8) (us st : BitVec 16) (x : BitVec 18), (s.pwr.mainOn = true) →
      (s.est.busy.getLsbD r.val = true) →
      (s.est.finished.length = 8) →
      Gives (exec (.laneGroupUpdateDone r us st x {}) s) fun t =>
        t.est.busy = s.est.busy &&& ~~~(1#8 <<< r.val) ∧
        t.get (R.EST_REGT_LAST_US r.val) = us.toNat ∧
        t.get (R.EST_REG_OVERRUN_RUN r.val) = 0 ∧
        nth 0 t.est.finished r.val = (s.toUpdate r.val).length ∧
        t.est.owed = s.est.owed.filter (fun c => decide (c / 24576 ≠ r.val)) ∧
        t.est.updEpoch = s.est.updEpoch ∧
        t.nodes = s.nodes ∧
        t.img = s.img ∧
        t.est.cs1 = s.est.cs1) ∧
  (∀ (s : State) (r : Fin 8) (us st : BitVec 16) (x : BitVec 18), (s.pwr.mainOn = true) →
      (s.est.busy.getLsbD r.val = false) →
      Gives (exec (.laneGroupUpdateDone r us st x {}) s) fun t =>
        t = s) ∧
  (∀ (s : State) (r : Fin 8) (us st : BitVec 16) (x : BitVec 18) (e : UpdErrs), (s.pwr.mainOn = true) →
      Gives (exec (.laneGroupUpdateDone r us st x e) s) fun t =>
        t.est.busy.getLsbD r.val = false ∧
        t.nodes = s.nodes ∧
        t.chains = s.chains ∧
        t.img.nor = s.img.nor) ∧
  (∀ (s : State) (k : BitVec 18), (s.pwr.mainOn = true) →
      (1 ≤ s.stage) →
      (s.host.perstHigh = true) →
      (s.session = true) →
      (s.tab.assigned k.toNat = true) →
      Gives (exec (.cellReset k) s) fun t =>
        t.cell k.toNat = { s.cell k.toNat with reset := true } ∧
        t.get R.EST_CELLRST_CELL = k.toNat ∧
        Logs s t [(0x080A, src 2 k.toNat, [])] ∧
        FieldsBut s t [R.EST_CELLRST_CELL] ∧
        RegsOnly { s.keepSession with est := t.est } t ∧
        (∀ j, j ≠ k.toNat → t.cell j = s.cell j)) ∧
  (∀ (s : State) (k : BitVec 18), (s.pwr.mainOn = true) →
      (1 ≤ s.stage) →
      (s.host.perstHigh = true) →
      (s.tab.assigned k.toNat = false) →
      Gives (exec (.cellReset k) s) fun t =>
        Logs s t [(0x1001, chip, [p2 8])] ∧
        FieldsBut s t [] ∧
        RegsOnly s t) ∧
  (∀ (s : State) (k : BitVec 18), (s.pwr.mainOn = true) →
      (1 ≤ s.stage) →
      (s.host.perstHigh = true) →
      (s.session = false) →
      (s.tab.assigned k.toNat = true) →
      Gives (exec (.cellReset k) s) fun t =>
        Logs s t [(0x020E, chip, [p2 8])] ∧
        FieldsBut s t [] ∧
        RegsOnly s t) ∧
  (∀ (s : State), (s.pwr.mainOn = true) →
      (1 ≤ s.stage) →
      (s.host.perstHigh = true) →
      (s.est.saving = none) →
      (s.get R.EST_STAT_NO_MEMORY = 0) →
      Gives (exec (.saveState) s) fun t =>
        t.est = { s.est with saving := some 3, saveSeq := (s.est.saveSeq + 1) % 2 ^ 32, saveAt := 0, cs1 := t.est.cs1 } ∧
        (∀ j < 4, t.cs1Byte (blockAt 0 (s.est.twoBanks && s.est.bank.getLsbD 0) + j) = 0#8) ∧
        t.get R.EST_STAT_SAVE_BUSY = 1 ∧
        t.get R.EST_SAVE_REGION = 0 ∧
        FieldsBut s t [R.EST_STAT_SAVE_BUSY, R.EST_SAVE_REGION] ∧
        t = { s with regs := t.regs, est := t.est }) ∧
  (∀ (s : State), (s.pwr.mainOn = true) →
      (1 ≤ s.stage) →
      (s.host.perstHigh = true) →
      (s.est.saving = none) →
      (s.get R.EST_STAT_NO_MEMORY = 1) →
      Gives (exec (.saveState) s) fun t =>
        t.get R.EST_SAVE_LAST_KIND = 3 ∧
        t.get R.EST_SAVE_LAST_RESULT = 3 ∧
        FieldsBut s t [R.EST_SAVE_LAST_KIND, R.EST_SAVE_LAST_RESULT] ∧
        t = { s with regs := t.regs }) ∧
  (∀ (s : State) (k : Nat), (s.pwr.mainOn = true) →
      (1 ≤ s.stage) →
      (s.host.perstHigh = true) →
      (s.est.saving = some k) →
      Gives (exec (.saveState) s) fun t =>
        t = { s with est := { s.est with held := true } }) ∧
  (∀ (s : State), (s.pwr.mainOn = true) →
      (3 ≤ s.stage) →
      (s.est.saving = none) →
      (s.get R.EST_STAT_NO_MEMORY = 0) →
      Gives (exec (.periodicSave) s) fun t =>
        t.est = { s.est with saving := some 1, saveSeq := (s.est.saveSeq + 1) % 2 ^ 32, saveAt := 0, cs1 := t.est.cs1 } ∧
        (∀ j < 4, t.cs1Byte (blockAt 0 (s.est.twoBanks && s.est.bank.getLsbD 0) + j) = 0#8) ∧
        t.get R.EST_STAT_SAVE_BUSY = 1 ∧
        FieldsBut s t [R.EST_STAT_SAVE_BUSY, R.EST_SAVE_REGION]) ∧
  (∀ (s : State), (s.pwr.mainOn = true) →
      (3 ≤ s.stage) →
      (s.est.saving = none) →
      (s.get R.EST_STAT_NO_MEMORY = 1) →
      Gives (exec (.periodicSave) s) fun t =>
        t.get R.EST_SAVE_LAST_KIND = 1 ∧
        t.get R.EST_SAVE_LAST_RESULT = 3 ∧
        FieldsBut s t [R.EST_SAVE_LAST_KIND, R.EST_SAVE_LAST_RESULT] ∧
        t = { s with regs := t.regs }) ∧
  (∀ (s : State), (s.pwr.mainOn = true) →
      (s.stage < 3 ∨ s.est.saving ≠ none) →
      Gives (exec (.periodicSave) s) fun t =>
        t = s) ∧
  (∀ (s : State) (k : Nat), (s.pwr.mainOn = true) →
      (s.est.saving = some k) →
      (1 ≤ k) →
      (k ≤ 3) →
      (s.est.held = false) →
      (s.est.sleepNext = false) →
      (s.est.saveSeq < 2 ^ 32) →
      Gives (exec (.saveDone none) s) fun t =>
        t.get R.EST_SAVE_LAST_KIND = k ∧
        t.get R.EST_SAVE_LAST_RESULT = 1 ∧
        t.get R.EST_SAVE_SEQ = s.est.saveSeq ∧
        t.get R.EST_STAT_SAVE_BUSY = 0 ∧
        t.est.saving = none ∧
        t.est.lastSave = some s.now ∧
        t.est.nextSave = s.now + 60000 ∧
        t.nodes = s.nodes ∧
        t.img = s.img) ∧
  (∀ (s : State) (k : Nat) (r : Fin 8), (s.pwr.mainOn = true) →
      (s.est.saving = some k) →
      (1 ≤ k) →
      (k ≤ 3) →
      (s.est.held = true) →
      (s.est.sleepNext = false) →
      (s.get R.EST_STAT_NO_MEMORY = 0) →
      Gives (exec (.saveDone (some r)) s) fun t =>
        t.get R.EST_SAVE_LAST_RESULT = 2 ∧
        t.get R.EST_SAVE_LAST_KIND = k ∧
        t.get R.EST_STAT_SAVE_FAIL = 1 ∧
        t.est.saving = some 3 ∧
        t.est.held = false ∧
        t.est.saveSeq = (s.est.saveSeq + 1) % 2 ^ 32 ∧
        t.est.lastSave = s.est.lastSave ∧
        Logs s t [(0x0806, chip, [p1 (max r.val s.est.saveAt), p1 0])] ∧
        (∀ j < 4, t.cs1Byte (blockAt (max r.val s.est.saveAt) (s.est.twoBanks && s.est.bank.getLsbD (max r.val s.est.saveAt)) + j) = 0#8)) ∧
  (∀ (s : State) (k : Nat), (s.pwr.mainOn = true) →
      (s.est.saving = some k) →
      (1 ≤ k) →
      (k ≤ 3) →
      (s.est.sleepNext = true) →
      (s.est.saveAt < 7) →
      (s.get R.EST_STAT_NO_MEMORY = 0) →
      Gives (exec (.saveDone none) s) fun t =>
        t.get R.EST_SAVE_LAST_KIND = k ∧
        t.get R.EST_SAVE_LAST_RESULT = 4 ∧
        t.get R.EST_STAT_SAVE_BUSY = 1 ∧
        t.est.saving = some 2 ∧
        t.est.sleepNext = false ∧
        t.est.saveSeq = (s.est.saveSeq + 1) % 2 ^ 32 ∧
        t.est.lastSave = s.est.lastSave ∧
        t.nodes = s.nodes ∧
        t.img = s.img) ∧
  (∀ (s : State) (f : Option (Fin 8)), (s.pwr.mainOn = true) →
      (s.est.saving = none) →
      Gives (exec (.saveDone f) s) fun t =>
        t = s) ∧
  (∀ (s : State) (m : BitVec 16), (s.pwr.mainOn = true) →
      (s.stage = 2) →
      (s.est.restored = false) →
      Gives (exec (.stateRestoreDone m) s) fun t =>
        t.est.restored = true ∧
        t.get R.EST_STAT_RESTORED = 1 ∧
        (m.toNat < 16 → t.get R.EST_STAT_NO_MEMORY = 1 ∧ t.get R.EST_RESTORE_REGION_FAIL = 255) ∧
        t.est.cs1 = s.est.cs1 ∧
        t.nodes = s.nodes ∧
        t.img = s.img) ∧
  (∀ (s : State) (m : BitVec 16), (s.pwr.mainOn = true) →
      (s.stage ≠ 2 ∨ s.est.restored = true) →
      Gives (exec (.stateRestoreDone m) s) fun t =>
        t = s)

/-- Limit scans and the excitation request. A scan that ends, from stage 2 on with an image, counts in SCANS and shows its time. EXC_EN written 1 in a session with a change holds it and ends a suspension; the written state follows while no request is active; outside a session a change is 0x020E. STOP ends an active request with code 2, EXCITATION_END ends one; with no request active they change no state but the mark of STOP. Readings that are the model's own, and no rule of the manual: log entries 51 and 55. -/
def Obligations.LimitScanAndExcitation : Prop :=
  (∀ (s : State) (us : BitVec 16), (s.pwr.mainOn = true) →
      (2 ≤ s.stage) →
      (s.img.loaded = true) →
      Gives (exec (.sopScanDone us) s) fun t =>
        t.get R.SOP_SCAN_SCAN_US = us.toNat ∧
        t.get R.SOP_SCAN_SCANS = satNat (2 ^ R.SOP_SCAN_SCANS.w - 1) (s.get R.SOP_SCAN_SCANS + 1) ∧
        FieldsBut s t [R.SOP_SCAN_SCAN_US, R.SOP_SCAN_SCANS] ∧
        t = { s with regs := t.regs, sop := { s.sop with last := t.sop.last } }) ∧
  (∀ (s : State) (us : BitVec 16), (s.pwr.mainOn = true) →
      (s.stage < 2 ∨ s.img.loaded = false) →
      Gives (exec (.sopScanDone us) s) fun t =>
        t = s) ∧
  (∀ (s : State) (b : Bool), (s.pwr.mainOn = true) →
      (1 ≤ s.stage) →
      (s.host.perstHigh = true) →
      (s.session = true) →
      (s.getB R.EST_EXC_CTRL_EXC_EN ≠ b) →
      (s.excActive = false) →
      Gives (exec (.excEn b) s) fun t =>
        t.get R.EST_EXC_CTRL_EXC_EN = b2n b ∧
        (b = true → t.get R.EST_EXC_STAT_UNANSWERED = 0) ∧
        FieldsBut s t [R.EST_EXC_CTRL_EXC_EN, R.EST_EXC_STAT_UNANSWERED, R.EST_EXC_STAT_STATE] ∧
        t = { s.keepSession with regs := t.regs }) ∧
  (∀ (s : State) (b : Bool), (s.pwr.mainOn = true) →
      (1 ≤ s.stage) →
      (s.host.perstHigh = true) →
      (s.session = true) →
      (s.getB R.EST_EXC_CTRL_EXC_EN ≠ b) →
      (s.excActive = true) →
      Gives (exec (.excEn b) s) fun t =>
        t.get R.EST_EXC_CTRL_EXC_EN = b2n b ∧
        t.get R.EST_EXC_STAT_STATE = s.get R.EST_EXC_STAT_STATE ∧
        t.est = s.est) ∧
  (∀ (s : State) (b : Bool), (s.pwr.mainOn = true) →
      (1 ≤ s.stage) →
      (s.host.perstHigh = true) →
      (s.session = false) →
      (s.getB R.EST_EXC_CTRL_EXC_EN ≠ b) →
      Gives (exec (.excEn b) s) fun t =>
        Logs s t [(0x020E, chip, [p2 0xB0])] ∧
        FieldsBut s t [] ∧
        RegsOnly s t) ∧
  (∀ (s : State), (s.pwr.mainOn = true) →
      (1 ≤ s.stage) →
      (s.host.perstHigh = true) →
      (s.excActive = false) →
      Gives (exec (.excitationStop) s) fun t =>
        t = { s with est := { s.est with excStop := true } }) ∧
  (∀ (s : State), (s.pwr.mainOn = true) →
      (1 ≤ s.stage) →
      (s.host.perstHigh = true) →
      (s.excActive = true) →
      Gives (exec (.excitationStop) s) fun t =>
        t.excActive = false ∧
        t.est.excStop = true ∧
        RegsBut s t [Blk.EST] ∧
        t.nodes = s.nodes) ∧
  (∀ (s : State), (s.pwr.mainOn = true) →
      (s.excActive = true) →
      Gives (exec (.excitationEnd) s) fun t =>
        t.excActive = false ∧
        RegsBut s t [Blk.EST] ∧
        t.nodes = s.nodes) ∧
  (∀ (s : State), (s.pwr.mainOn = true) →
      (s.excActive = false) →
      Gives (exec (.excitationEnd) s) fun t =>
        t = s)

/-- The cross-comparison, late digests and exchanges, the backstop and the start-up injection. A comparison of a held cycle shows cycle, digests, skew and ECC counts in every mode that compares. Outside Rejoining and Faulted: unequal digests in time are a pair fault with cause 1 unless an SD0 decision stands beside them, a missed injection is one with cause 3, an uncorrectable error with cause 4, a digest or exchange later than 100 us or missing with cause 2: FAULT with cause and cycle, condition 0x09 in both cores, Faulted from the next boundary, the backstop armed; without a cause nothing else changes, and in Starting an equal pair leads to Paired. In Rejoining a late digest fails the attempt, and the second match in a row leads to Paired. With nothing held, or in a mode that does not compare, nothing happens. The backstop that expires with a coil gate on switches every coil gate off, blocks the tokens and logs 0x0C10; with no gate on it only disarms. A start-up injection whose patterns pass sets INJ_START_OK and runs the trip test; a missed pattern or an uncorrectable error gives Faulted with 0x0C03. Readings that are the model's own, and no rule of the manual: log entries 69 and 70. -/
def Obligations.PairComparison : Prop :=
  (∀ (s : State) (e f : Word) (k : Nat) (d : Word) (u : BitVec 8) (fl sd : Bool) (x : Fin 3), (s.pwr.mainOn = true) →
      (s.pair.held = some (k, d)) →
      (s.compares = true) →
      (u.toNat ≤ 100) →
      (k < 2 ^ 32) →
      Gives (exec (.digestCompare e f u fl x sd) s) fun t =>
        t.get R.PAIR_CYCLE = k ∧
        t.getW R.PAIR_DIG_G = d ^^^ e ∧
        t.getW R.PAIR_DIG_S = d ^^^ f ∧
        t.get R.PAIR_SKEW_LAST_US = u.toNat ∧
        t.get R.PAIR_SKEW_MAX_US = max u.toNat (s.get R.PAIR_SKEW_MAX_US) ∧
        t.get R.PAIR_ECC_CE = satNat (2 ^ R.PAIR_ECC_CE.w - 1) (s.get R.PAIR_ECC_CE + b2n (x == 1)) ∧
        t.get R.PAIR_ECC_UE = satNat (2 ^ R.PAIR_ECC_UE.w - 1) (s.get R.PAIR_ECC_UE + b2n (x == 2)) ∧
        t.pair.held = none ∧
        t.nodes = s.nodes) ∧
  (∀ (s : State) (e f : Word) (k : Nat) (d : Word) (u : BitVec 8) (fl sd : Bool) (x : Fin 3), (s.pwr.mainOn = true) →
      (s.pair.held = some (k, d)) →
      (s.compares = true) →
      (s.get R.PAIR_STAT_MODE ≠ 3) →
      (s.get R.PAIR_STAT_MODE ≠ 5) →
      (u.toNat ≤ 100) →
      (e = f) →
      (x ≠ 2) →
      (k < 1024 ∨ k % 1024 ≠ 0 ∨ fl = true) →
      Gives (exec (.digestCompare e f u fl x sd) s) fun t =>
        t.pair = { s.pair with held := none, nextMode := t.pair.nextMode } ∧
        (t.pair.nextMode = (if s.get R.PAIR_STAT_MODE = 0 ∧ s.get R.PAIR_STAT_FAULT = 0 then some 1 else s.pair.nextMode)) ∧
        ((x = 0 → t.log = s.log)) ∧
        FieldsBut s t [R.PAIR_CYCLE, R.PAIR_DIG_G, R.PAIR_DIG_S, R.PAIR_SKEW_LAST_US, R.PAIR_SKEW_MAX_US, R.PAIR_INJ_NEXT_BIT, R.PAIR_INJ_NEXT_SIDE, R.PAIR_INJ_DONE, R.PAIR_ECC_CE] ∧
        RegsOnly { s with pair := t.pair } t) ∧
  (∀ (s : State) (e f : Word) (k : Nat) (d : Word) (u : BitVec 8) (fl sd : Bool) (x : Fin 3), (s.pwr.mainOn = true) →
      (s.pair.held = some (k, d)) →
      (s.compares = true) →
      (s.get R.PAIR_STAT_MODE ≠ 3) →
      (s.get R.PAIR_STAT_MODE ≠ 5) →
      (s.get R.PAIR_STAT_FAULT = 0) →
      (u.toNat ≤ 100) →
      (e ≠ f) →
      (s.besideSd0 = false) →
      (k < 2 ^ 32) →
      Gives (exec (.digestCompare e f u fl x sd) s) fun t =>
        t.get R.PAIR_STAT_FAULT = 1 ∧
        t.get R.PAIR_STAT_FAULT_CAUSE = 1 ∧
        t.get R.PAIR_FAULT_CYC = k ∧
        t.dsc.condG.getLsbD 9 = true ∧
        t.dsc.condS.getLsbD 9 = true ∧
        t.pair.nextMode = some 5 ∧
        t.pair.armed = true ∧
        t.host.icause.getLsbD 0 = true ∧
        t.get R.PAIR_STAT_MODE = s.get R.PAIR_STAT_MODE ∧
        t.nodes = s.nodes) ∧
  (∀ (s : State) (e f : Word) (k : Nat) (d : Word) (u : BitVec 8) (fl sd : Bool) (x : Fin 3), (s.pwr.mainOn = true) →
      (s.pair.held = some (k, d)) →
      (s.compares = true) →
      (s.get R.PAIR_STAT_MODE ≠ 3) →
      (s.get R.PAIR_STAT_MODE ≠ 5) →
      (u.toNat ≤ 100) →
      (e ≠ f) →
      (s.besideSd0 = true) →
      (x ≠ 2) →
      (k < 1024 ∨ k % 1024 ≠ 0 ∨ fl = true) →
      Gives (exec (.digestCompare e f u fl x sd) s) fun t =>
        t.pair = { s.pair with held := none } ∧
        t.get R.PAIR_STAT_FAULT = s.get R.PAIR_STAT_FAULT ∧
        t.dsc = s.dsc ∧
        FieldsBut s t [R.PAIR_CYCLE, R.PAIR_DIG_G, R.PAIR_DIG_S, R.PAIR_SKEW_LAST_US, R.PAIR_SKEW_MAX_US, R.PAIR_INJ_NEXT_BIT, R.PAIR_INJ_NEXT_SIDE, R.PAIR_INJ_DONE, R.PAIR_ECC_CE]) ∧
  (∀ (s : State) (e f : Word) (k : Nat) (d : Word) (u : BitVec 8) (fl sd : Bool) (x : Fin 3), (s.pwr.mainOn = true) →
      (s.pair.held = some (k, d)) →
      (s.compares = true) →
      (s.get R.PAIR_STAT_MODE ≠ 3) →
      (s.get R.PAIR_STAT_MODE ≠ 5) →
      (s.get R.PAIR_STAT_FAULT = 0) →
      (u.toNat ≤ 100) →
      (e = f) →
      (1024 ≤ k) →
      (k % 1024 = 0) →
      (fl = false) →
      (k < 2 ^ 32) →
      Gives (exec (.digestCompare e f u fl x sd) s) fun t =>
        t.get R.PAIR_STAT_FAULT = 1 ∧
        t.get R.PAIR_STAT_FAULT_CAUSE = 3 ∧
        t.get R.PAIR_FAULT_CYC = k ∧
        t.dsc.condG.getLsbD 9 = true ∧
        t.dsc.condS.getLsbD 9 = true ∧
        t.pair.nextMode = some 5 ∧
        t.pair.armed = true ∧
        t.host.icause.getLsbD 0 = true ∧
        t.get R.PAIR_STAT_MODE = s.get R.PAIR_STAT_MODE ∧
        t.nodes = s.nodes) ∧
  (∀ (s : State) (e f : Word) (k : Nat) (d : Word) (u : BitVec 8) (fl sd : Bool) (x : Fin 3), (s.pwr.mainOn = true) →
      (s.pair.held = some (k, d)) →
      (s.compares = true) →
      (s.get R.PAIR_STAT_MODE ≠ 3) →
      (s.get R.PAIR_STAT_MODE ≠ 5) →
      (s.get R.PAIR_STAT_FAULT = 0) →
      (u.toNat ≤ 100) →
      (e = f) →
      (x = 2) →
      (k < 1024 ∨ k % 1024 ≠ 0 ∨ fl = true) →
      (k < 2 ^ 32) →
      Gives (exec (.digestCompare e f u fl x sd) s) fun t =>
        t.get R.PAIR_STAT_FAULT = 1 ∧
        t.get R.PAIR_STAT_FAULT_CAUSE = 4 ∧
        t.get R.PAIR_FAULT_CYC = k ∧
        t.dsc.condG.getLsbD 9 = true ∧
        t.dsc.condS.getLsbD 9 = true ∧
        t.pair.nextMode = some 5 ∧
        t.pair.armed = true ∧
        t.host.icause.getLsbD 0 = true ∧
        t.get R.PAIR_STAT_MODE = s.get R.PAIR_STAT_MODE ∧
        t.nodes = s.nodes) ∧
  (∀ (s : State) (e f : Word) (k : Nat) (d : Word) (u : BitVec 8) (fl sd : Bool) (x : Fin 3), (s.pwr.mainOn = true) →
      (s.pair.held = some (k, d)) →
      (s.compares = true) →
      (s.get R.PAIR_STAT_MODE ≠ 3) →
      (s.get R.PAIR_STAT_MODE ≠ 5) →
      (s.get R.PAIR_STAT_FAULT = 0) →
      (100 < u.toNat) →
      (k < 2 ^ 32) →
      Gives (exec (.digestCompare e f u fl x sd) s) fun t =>
        t.get R.PAIR_SKEW_LAST_US = 255 ∧
        t.pair.held = none ∧
        t.get R.PAIR_STAT_FAULT = 1 ∧
        t.get R.PAIR_STAT_FAULT_CAUSE = 2 ∧
        t.get R.PAIR_FAULT_CYC = k ∧
        t.dsc.condG.getLsbD 9 = true ∧
        t.dsc.condS.getLsbD 9 = true ∧
        t.pair.nextMode = some 5 ∧
        t.pair.armed = true ∧
        t.host.icause.getLsbD 0 = true ∧
        t.get R.PAIR_STAT_MODE = s.get R.PAIR_STAT_MODE ∧
        t.nodes = s.nodes) ∧
  (∀ (s : State) (e f : Word) (k : Nat) (d : Word) (u : BitVec 8) (fl sd : Bool) (x : Fin 3), (s.pwr.mainOn = true) →
      (s.pair.held = some (k, d)) →
      (s.compares = true) →
      (s.get R.PAIR_STAT_MODE = 3) →
      (s.get R.PAIR_STAT_FAULT = 0) →
      (u.toNat ≤ 100) →
      (e = f) →
      (x = 0) →
      (k < 1024 ∨ k % 1024 ≠ 0 ∨ fl = true) →
      (1 ≤ s.pair.matched) →
      Gives (exec (.digestCompare e f u fl x sd) s) fun t =>
        t.pair = { s.pair with held := none, matched := s.pair.matched + 1, nextMode := some 1 } ∧
        Logs s t [(0x0C07, chip, [p1 (s.get R.PAIR_MODESTAT_ATTEMPTS)])] ∧
        FieldsBut s t [R.PAIR_CYCLE, R.PAIR_DIG_G, R.PAIR_DIG_S, R.PAIR_SKEW_LAST_US, R.PAIR_SKEW_MAX_US, R.PAIR_INJ_NEXT_BIT, R.PAIR_INJ_NEXT_SIDE, R.PAIR_INJ_DONE, R.PAIR_ECC_CE]) ∧
  (∀ (s : State) (e f : Word) (k : Nat) (d : Word) (u : BitVec 8) (fl sd : Bool) (x : Fin 3), (s.pwr.mainOn = true) →
      (s.pair.held = none ∨ s.compares = false) →
      Gives (exec (.digestCompare e f u fl x sd) s) fun t =>
        t = s) ∧
  (∀ (s : State) (b : Bool) (k : Nat) (d : Word), (s.pwr.mainOn = true) →
      (s.pair.held = some (k, d)) →
      (s.compares = true) →
      (s.get R.PAIR_STAT_MODE ≠ 3) →
      (s.get R.PAIR_STAT_MODE ≠ 5) →
      (s.get R.PAIR_STAT_FAULT = 0) →
      (k < 2 ^ 32) →
      Gives (exec (.digestTimeout b) s) fun t =>
        t.get R.PAIR_SKEW_LAST_US = 255 ∧
        t.pair.held = none ∧
        t.get R.PAIR_STAT_FAULT = 1 ∧
        t.get R.PAIR_STAT_FAULT_CAUSE = 2 ∧
        t.get R.PAIR_FAULT_CYC = k ∧
        t.dsc.condG.getLsbD 9 = true ∧
        t.dsc.condS.getLsbD 9 = true ∧
        t.pair.nextMode = some 5 ∧
        t.pair.armed = true ∧
        t.host.icause.getLsbD 0 = true ∧
        t.get R.PAIR_STAT_MODE = s.get R.PAIR_STAT_MODE ∧
        t.nodes = s.nodes) ∧
  (∀ (s : State) (b : Bool) (k : Nat) (d : Word), (s.pwr.mainOn = true) →
      (s.pair.held = some (k, d)) →
      (s.compares = true) →
      (s.get R.PAIR_STAT_MODE = 3) →
      (s.get R.PAIR_MODESTAT_ATTEMPTS < 2) →
      Gives (exec (.digestTimeout b) s) fun t =>
        t.get R.PAIR_SKEW_LAST_US = 255 ∧
        t.get R.PAIR_MODESTAT_ATTEMPTS = s.get R.PAIR_MODESTAT_ATTEMPTS + 1 ∧
        t.pair = { s.pair with held := none, matched := 0, reloaded := false } ∧
        FieldsBut s t [R.PAIR_SKEW_LAST_US, R.PAIR_MODESTAT_ATTEMPTS] ∧
        t = { s with regs := t.regs, pair := t.pair }) ∧
  (∀ (s : State) (b : Bool), (s.pwr.mainOn = true) →
      (s.pair.held = none ∨ s.compares = false ∨ s.get R.PAIR_STAT_MODE = 5) →
      Gives (exec (.digestTimeout b) s) fun t =>
        t = s) ∧
  (∀ (s : State) (b : Bool), (s.pwr.mainOn = true) →
      (s.compares = true) →
      (s.get R.PAIR_STAT_MODE ≠ 3) →
      (s.get R.PAIR_STAT_MODE ≠ 5) →
      (s.get R.PAIR_STAT_FAULT = 0) →
      Gives (exec (.exchangeLate b) s) fun t =>
        t.get R.PAIR_SKEW_LAST_US = 255 ∧
        t.get R.PAIR_STAT_FAULT = 1 ∧
        t.get R.PAIR_STAT_FAULT_CAUSE = 2 ∧
        t.get R.PAIR_FAULT_CYC = s.pair.cycle.toNat ∧
        t.dsc.condG.getLsbD 9 = true ∧
        t.dsc.condS.getLsbD 9 = true ∧
        t.pair.nextMode = some 5 ∧
        t.pair.armed = true ∧
        t.host.icause.getLsbD 0 = true ∧
        t.get R.PAIR_STAT_MODE = s.get R.PAIR_STAT_MODE ∧
        t.nodes = s.nodes) ∧
  (∀ (s : State) (b : Bool), (s.pwr.mainOn = true) →
      (s.compares = true) →
      (s.get R.PAIR_STAT_MODE = 3) →
      (s.get R.PAIR_MODESTAT_ATTEMPTS < 2) →
      Gives (exec (.exchangeLate b) s) fun t =>
        t.get R.PAIR_SKEW_LAST_US = 255 ∧
        t.get R.PAIR_MODESTAT_ATTEMPTS = s.get R.PAIR_MODESTAT_ATTEMPTS + 1 ∧
        t.pair = { s.pair with matched := 0, reloaded := false } ∧
        t = { s with regs := t.regs, pair := t.pair }) ∧
  (∀ (s : State) (b : Bool), (s.pwr.mainOn = true) →
      (s.compares = false ∨ s.get R.PAIR_STAT_MODE = 5) →
      Gives (exec (.exchangeLate b) s) fun t =>
        t = s) ∧
  (∀ (s : State), (s.pwr.mainOn = true) →
      (s.get R.PAIR_STAT_BACKSTOP = 1) →
      (s.sio.gateHs ≠ 0#8 ∨ s.sio.gateLs ≠ 0#8) →
      Gives (exec (.backstopExpiry) s) fun t =>
        t.get R.PAIR_STAT_BACKSTOP = 0 ∧
        t.get R.PAIR_STAT_BACKSTOP_FIRED = 1 ∧
        t.pair.blocked = true ∧
        t.sio.gateHs = 0#8 ∧
        t.sio.gateLs = 0#8 ∧
        Logs s t [(0x0C10, chip, [p2 (s.sio.gateHs.toNat + 256 * s.sio.gateLs.toNat)])] ∧
        t.host.icause.getLsbD 0 = true ∧
        RegsBut s t [Blk.PAIR, Blk.SW, Blk.SIO] ∧
        t.nodes = s.nodes) ∧
  (∀ (s : State), (s.pwr.mainOn = true) →
      (s.get R.PAIR_STAT_BACKSTOP = 1) →
      (s.sio.gateHs = 0#8) →
      (s.sio.gateLs = 0#8) →
      Gives (exec (.backstopExpiry) s) fun t =>
        t.get R.PAIR_STAT_BACKSTOP = 0 ∧
        FieldsBut s t [R.PAIR_STAT_BACKSTOP] ∧
        t = { s with regs := t.regs }) ∧
  (∀ (s : State), (s.pwr.mainOn = true) →
      (s.get R.PAIR_STAT_BACKSTOP = 0) →
      Gives (exec (.backstopExpiry) s) fun t =>
        t = s) ∧
  (∀ (s : State), (s.pwr.mainOn = true) →
      (s.sio.gateHs = 0#8) →
      (s.sio.gateLs = 0#8) →
      Gives (exec (.backstopDisarm) s) fun t =>
        t.get R.PAIR_STAT_BACKSTOP = 0 ∧
        FieldsBut s t [R.PAIR_STAT_BACKSTOP] ∧
        t = { s with regs := t.regs }) ∧
  (∀ (s : State), (s.pwr.mainOn = true) →
      (s.sio.gateHs ≠ 0#8 ∨ s.sio.gateLs ≠ 0#8) →
      Gives (exec (.backstopDisarm) s) fun t =>
        t = s) ∧
  (∀ (s : State) (g h : Fin 3) (a b : Bool), (s.pwr.mainOn = true) →
      (s.stage = 0) →
      (s.pwr.boardTest = false) →
      (s.get R.PAIR_STAT_MODE = 0) →
      (s.get R.PAIR_STAT_INJ_START_OK = 0) →
      (g ≠ 2) →
      (h ≠ 2) →
      Gives (exec (.startupInjection none g h a b) s) fun t =>
        t.get R.PAIR_STAT_INJ_START_OK = 1 ∧
        t.get R.PAIR_STAT_MODE = 0 ∧
        t.get R.PAIR_ECC_CE = satNat (2 ^ R.PAIR_ECC_CE.w - 1) (s.get R.PAIR_ECC_CE + b2n (g == 1) + b2n (h == 1)) ∧
        t.get R.SIO_TRIP_TEST_OK_A = b2n a ∧
        t.get R.SIO_TRIP_TEST_OK_B = b2n b ∧
        t.pair = { s.pair with tripHeld := !(a && b) } ∧
        t.nodes = s.nodes) ∧
  (∀ (s : State) (p : Option (Fin 64)) (g h : Fin 3) (a b : Bool), (s.pwr.mainOn = true) →
      (s.stage = 0) →
      (s.pwr.boardTest = false) →
      (s.get R.PAIR_STAT_MODE = 0) →
      (s.get R.PAIR_STAT_INJ_START_OK = 0) →
      (p ≠ none ∨ g = 2 ∨ h = 2) →
      Gives (exec (.startupInjection p g h a b) s) fun t =>
        t.get R.PAIR_STAT_INJ_START_OK = 0 ∧
        t.get R.PAIR_STAT_MODE = 5 ∧
        t.get R.PAIR_ECC_CE = satNat (2 ^ R.PAIR_ECC_CE.w - 1) (s.get R.PAIR_ECC_CE + b2n (g == 1) + b2n (h == 1)) ∧
        t.get R.PAIR_ECC_UE = satNat (2 ^ R.PAIR_ECC_UE.w - 1) (s.get R.PAIR_ECC_UE + b2n (g == 2) + b2n (h == 2)) ∧
        Logs s t ((if g = 1 then [(0x0C04, chip, [p1 0])] else []) ++ (if h = 1 then [(0x0C04, chip, [p1 1])] else []) ++ [(0x0C03, chip, [p1 ((p.map Fin.val).getD (if g = 2 then 0 else 1)), p1 ((p.map Fin.val).getD (if g = 2 then 0 else 1) % 2)])]) ∧
        t.host.icause.getLsbD 0 = true ∧
        FieldsBut s t [R.PAIR_STAT_MODE, R.PAIR_ECC_CE, R.PAIR_ECC_UE] ∧
        RegsOnly s t) ∧
  (∀ (s : State) (p : Option (Fin 64)) (g h : Fin 3) (a b : Bool), (s.pwr.mainOn = true) →
      (s.stage ≠ 0 ∨ s.pwr.boardTest = true ∨ s.get R.PAIR_STAT_MODE ≠ 0 ∨ s.get R.PAIR_STAT_INJ_START_OK = 1) →
      Gives (exec (.startupInjection p g h a b) s) fun t =>
        t = s)

/-- Split, rejoin, campaigns, replay and the sense channels. SPLIT in a session is held for the boundary. REJOIN in Split requests Rejoining with 0x0C06 and its attempts at 0, and aborts a campaign with result 3; out of Split it has no effect. The end of the reload marks the Servitor reloaded. CAMP_GO in a session with a defined code starts a campaign in Split; its end gives the result, by the criterion of Table PAIR-6, and a passed calibration of code 2 or 3 stores its value; an undefined code is 0x1001. The Servitor takes the oldest entry of the replay unit. A channel in use is declared lost once with 0x0C09 and valid again with 0x0C0A; the Hall open test declares it lost after three moves in a row of one land. Readings that are the model's own, and no rule of the manual: log entries 63, 70, 114 and 125. -/
def Obligations.PairModesAndChannels : Prop :=
  (∀ (s : State), (s.pwr.mainOn = true) →
      (1 ≤ s.stage) →
      (s.host.perstHigh = true) →
      (s.session = true) →
      Gives (exec (.splitPair) s) fun t =>
        t = { s.keepSession with pair := { s.pair with splitReq := true } }) ∧
  (∀ (s : State), (s.pwr.mainOn = true) →
      (1 ≤ s.stage) →
      (s.host.perstHigh = true) →
      (s.session = true) →
      (s.get R.PAIR_STAT_MODE = 2) →
      (s.get R.PAIR_STAT_CAMPAIGN = 0) →
      Gives (exec (.rejoin) s) fun t =>
        t.pair = { s.pair with matched := 0, reloaded := false, hallUse := s.pair.hallZero, dsmUse := s.pair.dsmRatio, nextMode := (if s.get R.PAIR_STAT_FAULT = 1 then s.pair.nextMode else some 3) } ∧
        t.get R.PAIR_MODESTAT_ATTEMPTS = 0 ∧
        t.get R.PAIR_STAT_MODE = 2 ∧
        Logs s t [(0x0C06, chip, [p1 1])] ∧
        FieldsBut s t [R.PAIR_MODESTAT_ATTEMPTS] ∧
        RegsOnly { s.keepSession with pair := t.pair } t) ∧
  (∀ (s : State), (s.pwr.mainOn = true) →
      (1 ≤ s.stage) →
      (s.host.perstHigh = true) →
      (s.session = true) →
      (s.get R.PAIR_STAT_MODE = 2) →
      (s.get R.PAIR_STAT_CAMPAIGN ≠ 0) →
      Gives (exec (.rejoin) s) fun t =>
        t.get R.PAIR_STAT_CAMPAIGN = 0 ∧
        t.get R.PAIR_CAMP_RESULT = 3 ∧
        t.get R.PAIR_CAMP_LAST_CODE = s.get R.PAIR_STAT_CAMPAIGN ∧
        t.get R.PAIR_CAMP_DETAIL = (Config.freeValue s.free).toNat % 2 ^ 16 ∧
        t.get R.PAIR_MODESTAT_ATTEMPTS = 0 ∧
        t.pair.reloaded = false ∧
        t.pair.nextMode = (if s.get R.PAIR_STAT_FAULT = 1 then s.pair.nextMode else some 3) ∧
        t.nodes = s.nodes) ∧
  (∀ (s : State), (s.pwr.mainOn = true) →
      (1 ≤ s.stage) →
      (s.host.perstHigh = true) →
      (s.session = true) →
      (s.get R.PAIR_STAT_MODE ≠ 2) →
      Gives (exec (.rejoin) s) fun t =>
        t = s.keepSession) ∧
  (∀ (s : State), (s.pwr.mainOn = true) →
      (s.get R.PAIR_STAT_MODE = 3) →
      Gives (exec (.rejoinReloadDone) s) fun t =>
        t = { s with pair := { s.pair with reloaded := true, matched := 0 } }) ∧
  (∀ (s : State), (s.pwr.mainOn = true) →
      (s.get R.PAIR_STAT_MODE ≠ 3) →
      Gives (exec (.rejoinReloadDone) s) fun t =>
        t = s) ∧
  (∀ (s : State) (k : BitVec 3), (s.pwr.mainOn = true) →
      (1 ≤ s.stage) →
      (s.host.perstHigh = true) →
      (s.session = true) →
      (1 ≤ k.toNat) →
      (k.toNat ≤ 4) →
      (s.get R.PAIR_STAT_MODE = 2) →
      (s.get R.PAIR_STAT_CAMPAIGN = 0) →
      Gives (exec (.campGo k) s) fun t =>
        t.get R.PAIR_STAT_CAMPAIGN = k.toNat ∧
        t.get R.PAIR_CAMP_LAST_CODE = k.toNat ∧
        t.get R.PAIR_CAMP_RESULT = 0 ∧
        t.get R.PAIR_CAMP_DETAIL = 0 ∧
        t.get R.PAIR_CTRL_CAMP_CODE = k.toNat ∧
        FieldsBut s t [R.PAIR_STAT_CAMPAIGN, R.PAIR_CAMP_LAST_CODE, R.PAIR_CAMP_RESULT, R.PAIR_CAMP_DETAIL, R.PAIR_CTRL_CAMP_CODE] ∧
        t = { s.keepSession with regs := t.regs }) ∧
  (∀ (s : State) (k : BitVec 3), (s.pwr.mainOn = true) →
      (1 ≤ s.stage) →
      (s.host.perstHigh = true) →
      (s.session = true) →
      (1 ≤ k.toNat) →
      (k.toNat ≤ 4) →
      (s.get R.PAIR_STAT_MODE ≠ 2 ∨ s.get R.PAIR_STAT_CAMPAIGN ≠ 0) →
      Gives (exec (.campGo k) s) fun t =>
        t.get R.PAIR_CTRL_CAMP_CODE = k.toNat ∧
        FieldsBut s t [R.PAIR_CTRL_CAMP_CODE] ∧
        t = { s.keepSession with regs := t.regs }) ∧
  (∀ (s : State) (k : BitVec 3), (s.pwr.mainOn = true) →
      (1 ≤ s.stage) →
      (s.host.perstHigh = true) →
      (k = 0#3 ∨ 4 < k.toNat) →
      Gives (exec (.campGo k) s) fun t =>
        Logs s t [(0x1001, chip, [p2 4])] ∧
        FieldsBut s t [] ∧
        RegsOnly s t) ∧
  (∀ (s : State) (p : Bool) (x : BitVec 16), (s.pwr.mainOn = true) →
      (s.get R.PAIR_STAT_CAMPAIGN ≠ 0) →
      Gives (exec (.campaignDone p x) s) fun t =>
        t.get R.PAIR_STAT_CAMPAIGN = 0 ∧
        t.get R.PAIR_CAMP_LAST_CODE = s.get R.PAIR_STAT_CAMPAIGN ∧
        t.get R.PAIR_CAMP_RESULT = (if campPass (s.get R.PAIR_STAT_CAMPAIGN) p x.toNat then 1 else 2) ∧
        t.get R.PAIR_CAMP_DETAIL = x.toNat ∧
        t.pair = { s.pair with hallZero := (if campPass (s.get R.PAIR_STAT_CAMPAIGN) p x.toNat && s.get R.PAIR_STAT_CAMPAIGN == 2 then signedOf 16 x.toNat else s.pair.hallZero), dsmRatio := (if campPass (s.get R.PAIR_STAT_CAMPAIGN) p x.toNat && s.get R.PAIR_STAT_CAMPAIGN == 3 then signedOf 16 x.toNat else s.pair.dsmRatio) } ∧
        Logs s t [(0x0C0B, chip, [p1 (s.get R.PAIR_STAT_CAMPAIGN), p1 (if campPass (s.get R.PAIR_STAT_CAMPAIGN) p x.toNat then 1 else 2), p2 x.toNat])] ∧
        FieldsBut s t [R.PAIR_STAT_CAMPAIGN, R.PAIR_CAMP_LAST_CODE, R.PAIR_CAMP_RESULT, R.PAIR_CAMP_DETAIL] ∧
        RegsOnly { s with pair := t.pair } t) ∧
  (∀ (s : State) (p : Bool) (x : BitVec 16), (s.pwr.mainOn = true) →
      (s.get R.PAIR_STAT_CAMPAIGN = 0) →
      Gives (exec (.campaignDone p x) s) fun t =>
        t = s) ∧
  (∀ (s : State) (e : ReplayEntry) (l : List ReplayEntry), (s.pwr.mainOn = true) →
      (s.pair.replay = e :: l) →
      (l.length < 512) →
      Gives (exec (.replayApply) s) fun t =>
        t.pair = { s.pair with replay := l, haltS := (if e.op = 1 then true else if e.op = 2 then false else s.pair.haltS) } ∧
        t.get R.PAIR_REPLAY_USED = l.length ∧
        FieldsBut s t [R.PAIR_REPLAY_USED] ∧
        t = { s with regs := t.regs, pair := t.pair }) ∧
  (∀ (s : State), (s.pwr.mainOn = true) →
      (s.pair.replay = []) →
      Gives (exec (.replayApply) s) fun t =>
        t = s) ∧
  (∀ (s : State) (b : Fin 6), (s.pwr.mainOn = true) →
      (b.val < 5) →
      (s.tab.senseOn b.val = true) →
      (s.lost b.val = false) →
      Gives (exec (.dsmLost b) s) fun t =>
        t.bit R.PAIR_CHAN_LOST b.val = true ∧
        Logs s t [(0x0C09, chip, [p1 b.val, p1 (chanCore b.val)])] ∧
        FieldsBut s t [R.PAIR_CHAN_LOST] ∧
        RegsOnly s t) ∧
  (∀ (s : State) (b : Fin 6), (s.pwr.mainOn = true) →
      (b.val = 5 ∨ s.tab.senseOn b.val = false ∨ s.lost b.val = true) →
      Gives (exec (.dsmLost b) s) fun t =>
        t = s) ∧
  (∀ (s : State), (s.pwr.mainOn = true) →
      (s.tab.senseOn 5 = true) →
      (s.lost 5 = false) →
      Gives (exec (.hallRangeLost) s) fun t =>
        t.bit R.PAIR_CHAN_LOST 5 = true ∧
        Logs s t [(0x0C09, chip, [p1 5, p1 (chanCore 5)])] ∧
        FieldsBut s t [R.PAIR_CHAN_LOST] ∧
        RegsOnly s t) ∧
  (∀ (s : State), (s.pwr.mainOn = true) →
      (s.tab.senseOn 5 = false ∨ s.lost 5 = true) →
      Gives (exec (.hallRangeLost) s) fun t =>
        t = s) ∧
  (∀ (s : State) (m : Bool), (s.pwr.mainOn = true) →
      (s.pair.hallMoves.length = 2) →
      (m = false ∨ nth 0 s.pair.hallMoves (b2n s.pair.hallNext) < 2) →
      Gives (exec (.hallOpenTest m) s) fun t =>
        t.pair = { s.pair with hallNext := !s.pair.hallNext, hallMoves := t.pair.hallMoves } ∧
        nth 0 t.pair.hallMoves (b2n s.pair.hallNext) = (if m then nth 0 s.pair.hallMoves (b2n s.pair.hallNext) + 1 else 0) ∧
        t = { s with pair := t.pair }) ∧
  (∀ (s : State), (s.pwr.mainOn = true) →
      (2 ≤ nth 0 s.pair.hallMoves (b2n s.pair.hallNext)) →
      (s.tab.senseOn 5 = false ∨ s.lost 5 = true) →
      Gives (exec (.hallOpenTest true) s) fun t =>
        t.pair = { s.pair with hallNext := !s.pair.hallNext, hallMoves := t.pair.hallMoves } ∧
        t = { s with pair := t.pair }) ∧
  (∀ (s : State), (s.pwr.mainOn = true) →
      (s.pair.hallMoves.length = 2) →
      (2 ≤ nth 0 s.pair.hallMoves (b2n s.pair.hallNext)) →
      (s.tab.senseOn 5 = true) →
      (s.lost 5 = false) →
      Gives (exec (.hallOpenTest true) s) fun t =>
        t.bit R.PAIR_CHAN_LOST 5 = true ∧
        Logs s t [(0x0C09, chip, [p1 5, p1 1])] ∧
        FieldsBut s t [R.PAIR_CHAN_LOST]) ∧
  (∀ (s : State) (b : Fin 6), (s.pwr.mainOn = true) →
      (s.lost b.val = true) →
      Gives (exec (.channelValidAgain b) s) fun t =>
        t.bit R.PAIR_CHAN_LOST b.val = false ∧
        Logs s t [(0x0C0A, chip, [p1 b.val, p1 (chanCore b.val)])] ∧
        FieldsBut s t [R.PAIR_CHAN_LOST] ∧
        RegsOnly s t) ∧
  (∀ (s : State) (b : Fin 6), (s.pwr.mainOn = true) →
      (s.lost b.val = false) →
      Gives (exec (.channelValidAgain b) s) fun t =>
        t = s)

/-- Close request, abort and the timeouts of the array phase. CLOSE_REQ and ABORT from stage 1 on are held for the boundary. In A1, A2, A3 and A4 the named timeout or check fails the pre-charge where its condition holds: RESULT 2 with the code of Table CTR-6, every coil pair off, the phase 0 and the cool-down running; otherwise it changes nothing. PRE_EARLY_CHECK of A2 fails with 4, PRE_MAX_TIMEOUT of A2 with 6 and of A3 waiting for the PCS with 12; the weld check of A1 lets the step pass or fails with 3; OVERLAP_END of A4 switches the role-3 pair off. PRE_COOL_END ends the cool-down. Readings that are the model's own, and no rule of the manual: log entries 65, 66, 67 and 103. -/
def Obligations.PrechargeSequence : Prop :=
  (∀ (s : State), (s.pwr.mainOn = true) →
      (1 ≤ s.stage) →
      (s.host.perstHigh = true) →
      Gives (exec (.closeReq) s) fun t =>
        t = { s with ctr := { s.ctr with closeReq := true } }) ∧
  (∀ (s : State), (s.pwr.mainOn = true) →
      (1 ≤ s.stage) →
      (s.host.perstHigh = true) →
      Gives (exec (.abortPrecharge) s) fun t =>
        t = { s with ctr := { s.ctr with abort := true } }) ∧
  (∀ (s : State), (s.pwr.mainOn = true) →
      (s.get R.CTR_STAT_PHASE = 3) →
      (s.allClosed (s.tab.roleMask 2) = false) →
      Gives (exec (.auxTimeout) s) fun t =>
        t.get R.CTR_STAT_RESULT = 2 ∧
        t.get R.CTR_STAT_FAIL_CODE = 2 ∧
        t.get R.CTR_STAT_PAIRS_ON = 0 ∧
        t.get R.CTR_STAT_PHASE = 0 ∧
        t.sio.gateHs = 0#8 ∧
        t.sio.gateLs = 0#8 ∧
        t.ctr.coolEnd = s.now + 1000 * s.tab.sp16 0x61C ∧
        t.ctr.result = some (false, 2) ∧
        t.nodes = s.nodes) ∧
  (∀ (s : State), (s.pwr.mainOn = true) →
      (s.get R.CTR_STAT_PHASE = 4) →
      (s.allClosed (s.tab.roleMask 3) = false) →
      Gives (exec (.auxTimeout) s) fun t =>
        t.get R.CTR_STAT_RESULT = 2 ∧
        t.get R.CTR_STAT_FAIL_CODE = 13 ∧
        t.get R.CTR_STAT_PAIRS_ON = 0 ∧
        t.get R.CTR_STAT_PHASE = 0 ∧
        t.sio.gateHs = 0#8 ∧
        t.sio.gateLs = 0#8 ∧
        t.ctr.coolEnd = s.now + 1000 * s.tab.sp16 0x61C ∧
        t.ctr.result = some (false, 13) ∧
        t.nodes = s.nodes) ∧
  (∀ (s : State), (s.pwr.mainOn = true) →
      (s.get R.CTR_STAT_PHASE = 5) →
      (s.get R.CTR_STAT_PAIRS_ON &&& s.tab.roleMask 1 ≠ 0) →
      (s.allClosed (s.tab.roleMask 1) = false) →
      Gives (exec (.auxTimeout) s) fun t =>
        t.get R.CTR_STAT_RESULT = 2 ∧
        t.get R.CTR_STAT_FAIL_CODE = 8 ∧
        t.get R.CTR_STAT_PAIRS_ON = 0 ∧
        t.get R.CTR_STAT_PHASE = 0 ∧
        t.sio.gateHs = 0#8 ∧
        t.sio.gateLs = 0#8 ∧
        t.ctr.coolEnd = s.now + 1000 * s.tab.sp16 0x61C ∧
        t.ctr.result = some (false, 8) ∧
        t.nodes = s.nodes) ∧
  (∀ (s : State), (s.pwr.mainOn = true) →
      (s.get R.CTR_STAT_PHASE = 6) →
      (s.ctr.waitOk = true) →
      (s.allOpen (s.tab.roleMask 3) = false) →
      Gives (exec (.auxTimeout) s) fun t =>
        t.get R.CTR_STAT_RESULT = 2 ∧
        t.get R.CTR_STAT_FAIL_CODE = 9 ∧
        t.get R.CTR_STAT_PAIRS_ON = 0 ∧
        t.get R.CTR_STAT_PHASE = 0 ∧
        t.sio.gateHs = 0#8 ∧
        t.sio.gateLs = 0#8 ∧
        t.ctr.coolEnd = s.now + 1000 * s.tab.sp16 0x61C ∧
        t.ctr.result = some (false, 9) ∧
        t.nodes = s.nodes ∧
        t.get R.CTR_STAT_PAIR_WELD = (s.get R.CTR_STAT_PAIR_WELD ||| s.tab.roleMask 3) ∧
        t.dsc.condG.getLsbD 0x15 = true ∧
        t.dsc.condS.getLsbD 0x15 = true) ∧
  (∀ (s : State), (s.pwr.mainOn = true) →
      (s.get R.CTR_STAT_PHASE = 3 → s.allClosed (s.tab.roleMask 2) = true) →
      (s.get R.CTR_STAT_PHASE = 4 → s.allClosed (s.tab.roleMask 3) = true) →
      (s.get R.CTR_STAT_PHASE = 5 → s.get R.CTR_STAT_PAIRS_ON &&& s.tab.roleMask 1 = 0 ∨ s.allClosed (s.tab.roleMask 1) = true) →
      (s.get R.CTR_STAT_PHASE = 6 → s.ctr.waitOk = false ∨ s.allOpen (s.tab.roleMask 3) = true) →
      Gives (exec (.auxTimeout) s) fun t =>
        t = s) ∧
  (∀ (s : State), (s.pwr.mainOn = true) →
      (s.get R.CTR_STAT_PHASE = 4) →
      (s.ratioLt false (s.tab.sp8 0x61E) = true ∨ s.ratioLt true (s.tab.sp8 0x61E) = true) →
      Gives (exec (.preEarlyCheck) s) fun t =>
        t.get R.CTR_STAT_RESULT = 2 ∧
        t.get R.CTR_STAT_FAIL_CODE = 4 ∧
        t.get R.CTR_STAT_PAIRS_ON = 0 ∧
        t.get R.CTR_STAT_PHASE = 0 ∧
        t.sio.gateHs = 0#8 ∧
        t.sio.gateLs = 0#8 ∧
        t.ctr.coolEnd = s.now + 1000 * s.tab.sp16 0x61C ∧
        t.ctr.result = some (false, 4) ∧
        t.nodes = s.nodes) ∧
  (∀ (s : State), (s.pwr.mainOn = true) →
      (s.get R.CTR_STAT_PHASE ≠ 4 ∨ (s.ratioLt false (s.tab.sp8 0x61E) = false ∧ s.ratioLt true (s.tab.sp8 0x61E) = false)) →
      Gives (exec (.preEarlyCheck) s) fun t =>
        t = s) ∧
  (∀ (s : State), (s.pwr.mainOn = true) →
      (s.get R.CTR_STAT_PHASE = 4) →
      Gives (exec (.preMaxTimeout) s) fun t =>
        t.get R.CTR_STAT_RESULT = 2 ∧
        t.get R.CTR_STAT_FAIL_CODE = 6 ∧
        t.get R.CTR_STAT_PAIRS_ON = 0 ∧
        t.get R.CTR_STAT_PHASE = 0 ∧
        t.sio.gateHs = 0#8 ∧
        t.sio.gateLs = 0#8 ∧
        t.ctr.coolEnd = s.now + 1000 * s.tab.sp16 0x61C ∧
        t.ctr.result = some (false, 6) ∧
        t.nodes = s.nodes ∧
        t.get R.CTR_PRE_PRE_MS = satNat 0xFFFF (s.ctr.stepT / 2)) ∧
  (∀ (s : State), (s.pwr.mainOn = true) →
      (s.get R.CTR_STAT_PHASE = 5) →
      (s.tab.pcsPrecharge = true) →
      (s.get R.CTR_STAT_PAIRS_ON &&& s.tab.roleMask 1 = 0) →
      Gives (exec (.preMaxTimeout) s) fun t =>
        t.get R.CTR_STAT_RESULT = 2 ∧
        t.get R.CTR_STAT_FAIL_CODE = 12 ∧
        t.get R.CTR_STAT_PAIRS_ON = 0 ∧
        t.get R.CTR_STAT_PHASE = 0 ∧
        t.sio.gateHs = 0#8 ∧
        t.sio.gateLs = 0#8 ∧
        t.ctr.coolEnd = s.now + 1000 * s.tab.sp16 0x61C ∧
        t.ctr.result = some (false, 12) ∧
        t.nodes = s.nodes) ∧
  (∀ (s : State), (s.pwr.mainOn = true) →
      (s.get R.CTR_STAT_PHASE ≠ 4) →
      (s.get R.CTR_STAT_PHASE ≠ 5 ∨ s.tab.pcsPrecharge = false ∨ s.get R.CTR_STAT_PAIRS_ON &&& s.tab.roleMask 1 ≠ 0) →
      Gives (exec (.preMaxTimeout) s) fun t =>
        t = s) ∧
  (∀ (s : State), (s.pwr.mainOn = true) →
      (s.get R.CTR_STAT_PHASE = 3) →
      (s.tab.pcsPrecharge = true ∨ (s.linkHigh false = false ∧ s.linkHigh true = false)) →
      Gives (exec (.weldCheckEnd) s) fun t =>
        t = { s with ctr := { s.ctr with waitOk := true } }) ∧
  (∀ (s : State), (s.pwr.mainOn = true) →
      (s.get R.CTR_STAT_PHASE = 3) →
      (s.tab.pcsPrecharge = false) →
      (s.linkHigh false = true ∨ s.linkHigh true = true) →
      Gives (exec (.weldCheckEnd) s) fun t =>
        t.get R.CTR_STAT_RESULT = 2 ∧
        t.get R.CTR_STAT_FAIL_CODE = 3 ∧
        t.get R.CTR_STAT_PAIRS_ON = 0 ∧
        t.get R.CTR_STAT_PHASE = 0 ∧
        t.sio.gateHs = 0#8 ∧
        t.sio.gateLs = 0#8 ∧
        t.ctr.coolEnd = s.now + 1000 * s.tab.sp16 0x61C ∧
        t.ctr.result = some (false, 3) ∧
        t.nodes = s.nodes ∧
        t.dsc.condG.getLsbD 0x15 = true ∧
        t.dsc.condS.getLsbD 0x15 = true) ∧
  (∀ (s : State), (s.pwr.mainOn = true) →
      (s.get R.CTR_STAT_PHASE ≠ 3) →
      Gives (exec (.weldCheckEnd) s) fun t =>
        t = s) ∧
  (∀ (s : State), (s.pwr.mainOn = true) →
      (s.get R.CTR_STAT_PHASE = 6) →
      (s.ctr.waitOk = false) →
      Gives (exec (.overlapEnd) s) fun t =>
        t.ctr = { s.ctr with waitOk := true, stepT := 0 } ∧
        t.get R.CTR_STAT_PAIRS_ON = s.get R.CTR_STAT_PAIRS_ON - (s.get R.CTR_STAT_PAIRS_ON &&& s.tab.roleMask 3) ∧
        t.get R.CTR_STAT_PHASE = 6 ∧
        t.log = s.log ∧
        RegsBut s t [Blk.CTR, Blk.SW, Blk.SIO] ∧
        RegsOnly { s with ctr := t.ctr, sio := t.sio } t) ∧
  (∀ (s : State), (s.pwr.mainOn = true) →
      (s.get R.CTR_STAT_PHASE ≠ 6 ∨ s.ctr.waitOk = true) →
      Gives (exec (.overlapEnd) s) fun t =>
        t = s) ∧
  (∀ (s : State), (s.pwr.mainOn = true) →
      Gives (exec (.preCoolEnd) s) fun t =>
        t = { s with ctr := { s.ctr with coolEnd := s.now } })

/-- String timeouts, JOIN, and the clearing of weld flags. STR_CLOSE_TIMEOUT of a string in state 5 whose PRE contact still reads closed reports a weld (state 9, 0x0B06); in 2 to 4 with the request acknowledged and a contact not following it is not joined (8) with cause 2. STR_PRE_TIMEOUT in state 3 without the join condition: not joined with cause 3. STR_VERIFY_TIMEOUT in state 7: open contacts give 0, or 10 for an excluded string, others a weld. JOIN outside CLOSED and LEHR, of a string that is not closable at rest, with a join running or out of Paired is refused with 0x0B01 and 11; else the string enters state 1, or is a weld where a contact reads closed. WELD_CLR and WELD_STR_CLR act in a session in TRIPPED or MAINT, else 0x0B08 with 1; a finding of the same cycle keeps the flag with 3, a contact or a link voltage with 2, auxiliary bits with 4. Other strings stay. Readings that are the model's own, and no rule of the manual: log entries 64, 66, 103 and 113. -/
def Obligations.StringsAndWelds : Prop :=
  (∀ (s : State) (n : Fin 512), (s.pwr.mainOn = true) →
      ((s.str n.val).state = 5) →
      ((s.str n.val).aux.testBit 2 = true) →
      Gives (exec (.strCloseTimeout n) s) fun t =>
        (t.str n.val).state = 9 ∧
        t.bit (R.CTR_STRWELD (n.val / 32)) (n.val % 32) = true ∧
        (∀ m, m ≠ n.val → t.str m = s.str m) ∧
        Logs s t [(0x0B06, src 6 n.val, [p1 (s.str n.val).aux])]) ∧
  (∀ (s : State) (n : Fin 512), (s.pwr.mainOn = true) →
      (2 ≤ (s.str n.val).state) →
      ((s.str n.val).state ≤ 4) →
      ((s.str n.val).ackHere = true) →
      ((s.str n.val).acked = s.want n.val) →
      ((s.str n.val).aux &&& s.want n.val ≠ s.want n.val) →
      Gives (exec (.strCloseTimeout n) s) fun t =>
        (t.str n.val).state = 8 ∧
        t.bit (R.CTR_NOTJOIN (n.val / 32)) (n.val % 32) = true ∧
        Logs s t [(0x0B05, src 6 n.val, [p1 2, pS ((s.str n.val).diff : Nat)])] ∧
        (∀ m, m ≠ n.val → t.str m = s.str m)) ∧
  (∀ (s : State) (n : Fin 512), (s.pwr.mainOn = true) →
      ((s.str n.val).state = 5 → (s.str n.val).aux.testBit 2 = false) →
      (2 ≤ (s.str n.val).state → (s.str n.val).state ≤ 4 → (s.str n.val).ackHere = false ∨ (s.str n.val).acked ≠ s.want n.val ∨ (s.str n.val).aux &&& s.want n.val = s.want n.val) →
      Gives (exec (.strCloseTimeout n) s) fun t =>
        t = s) ∧
  (∀ (s : State) (n : Fin 512), (s.pwr.mainOn = true) →
      ((s.str n.val).state = 3 ∨ ((s.str n.val).state = 2 ∧ s.tab.strPre n.val = false)) →
      (s.joinOk n.val = false) →
      Gives (exec (.strPreTimeout n) s) fun t =>
        (t.str n.val).state = 8 ∧
        t.bit (R.CTR_NOTJOIN (n.val / 32)) (n.val % 32) = true ∧
        Logs s t [(0x0B05, src 6 n.val, [p1 3, pS ((s.str n.val).diff : Nat)])] ∧
        (∀ m, m ≠ n.val → t.str m = s.str m)) ∧
  (∀ (s : State) (n : Fin 512), (s.pwr.mainOn = true) →
      (((s.str n.val).state ≠ 3 ∧ ((s.str n.val).state ≠ 2 ∨ s.tab.strPre n.val = true)) ∨ s.joinOk n.val = true) →
      Gives (exec (.strPreTimeout n) s) fun t =>
        t = s) ∧
  (∀ (s : State) (n : Fin 512), (s.pwr.mainOn = true) →
      ((s.str n.val).state = 7) →
      ((s.str n.val).aux = 0) →
      Gives (exec (.strVerifyTimeout n) s) fun t =>
        (t.str n.val).state = (if s.excluded n.val then 10 else 0) ∧
        t.log = s.log ∧
        (∀ m, m ≠ n.val → t.str m = s.str m)) ∧
  (∀ (s : State) (n : Fin 512), (s.pwr.mainOn = true) →
      ((s.str n.val).state = 7) →
      ((s.str n.val).aux ≠ 0) →
      Gives (exec (.strVerifyTimeout n) s) fun t =>
        (t.str n.val).state = 9 ∧
        t.bit (R.CTR_STRWELD (n.val / 32)) (n.val % 32) = true ∧
        (∀ m, m ≠ n.val → t.str m = s.str m)) ∧
  (∀ (s : State) (n : Fin 512), (s.pwr.mainOn = true) →
      ((s.str n.val).state ≠ 7) →
      Gives (exec (.strVerifyTimeout n) s) fun t =>
        t = s) ∧
  (∀ (s : State) (n : Fin 512), (s.pwr.mainOn = true) →
      (1 ≤ s.stage) →
      (s.host.perstHigh = true) →
      ((s.safety ≠ 2 ∧ s.safety ≠ 4) ∨ ((s.str n.val).state ≠ 0 ∧ (s.str n.val).state ≠ 8) ∨ s.closable n.val = false ∨ s.ctr.joining ≠ none ∨ s.get R.PAIR_STAT_MODE ≠ 1) →
      Gives (exec (.joinString n) s) fun t =>
        t.get R.CTR_CTRL_JOIN_STRING = n.val ∧
        Logs s t [(0x0B01, chip, [p1 11])] ∧
        FieldsBut s t [R.CTR_CTRL_JOIN_STRING] ∧
        RegsOnly s t) ∧
  (∀ (s : State) (n : Fin 512), (s.pwr.mainOn = true) →
      (1 ≤ s.stage) →
      (s.host.perstHigh = true) →
      (s.safety = 2 ∨ s.safety = 4) →
      ((s.str n.val).state = 0 ∨ (s.str n.val).state = 8) →
      (s.closable n.val = true) →
      ((s.str n.val).aux = 0) →
      (s.ctr.joining = none) →
      (s.get R.PAIR_STAT_MODE = 1) →
      Gives (exec (.joinString n) s) fun t =>
        (t.str n.val).state = 1 ∧
        t.ctr.joining = some n.val ∧
        t.get R.CTR_STAT_PHASE = 7 ∧
        t.get R.CTR_CTRL_JOIN_STRING = n.val ∧
        (∀ m, m ≠ n.val → t.str m = s.str m) ∧
        t.log = s.log) ∧
  (∀ (s : State) (n : Fin 512), (s.pwr.mainOn = true) →
      (1 ≤ s.stage) →
      (s.host.perstHigh = true) →
      (s.safety = 2 ∨ s.safety = 4) →
      ((s.str n.val).state = 0 ∨ (s.str n.val).state = 8) →
      (s.closable n.val = true) →
      ((s.str n.val).aux ≠ 0) →
      (s.ctr.joining = none) →
      (s.get R.PAIR_STAT_MODE = 1) →
      Gives (exec (.joinString n) s) fun t =>
        (t.str n.val).state = 9 ∧
        t.bit (R.CTR_STRWELD (n.val / 32)) (n.val % 32) = true ∧
        t.ctr.joining = none ∧
        t.get R.CTR_STAT_PHASE = 0 ∧
        t.get R.CTR_CTRL_JOIN_STRING = n.val ∧
        (∀ m, m ≠ n.val → t.str m = s.str m) ∧
        Logs s t [(0x0B06, src 6 n.val, [p1 (s.str n.val).aux])]) ∧
  (∀ (s : State) (m : BitVec 8), (s.pwr.mainOn = true) →
      (1 ≤ s.stage) →
      (s.host.perstHigh = true) →
      (s.session = false) →
      Gives (exec (.weldClr m) s) fun t =>
        Logs s t [(0x020E, chip, [p2 (blockOff 0x23104)])] ∧
        FieldsBut s t [] ∧
        RegsOnly s t) ∧
  (∀ (s : State) (m : BitVec 8), (s.pwr.mainOn = true) →
      (1 ≤ s.stage) →
      (s.host.perstHigh = true) →
      (s.session = true) →
      (s.safety = 5 ∨ s.safety = 6) →
      (m.toNat &&& s.get R.CTR_STAT_PAIR_WELD = 0) →
      Gives (exec (.weldClr m) s) fun t =>
        t.get R.CTR_CTRL_PAIR_MASK = m.toNat ∧
        FieldsBut s t [R.CTR_CTRL_PAIR_MASK] ∧
        t = { s.keepSession with regs := t.regs }) ∧
  (∀ (s : State) (k : Fin 8), (s.pwr.mainOn = true) →
      (1 ≤ s.stage) →
      (s.host.perstHigh = true) →
      (s.session = true) →
      (s.safety = 5 ∨ s.safety = 6) →
      (s.bit R.CTR_STAT_PAIR_WELD k.val = true) →
      (s.ctr.freshP.getLsbD k.val = true ∨ s.allOpen (2 ^ k.val) = false ∨ s.linkLow false = false ∨ s.linkLow true = false) →
      Gives (exec (.weldClr (1#8 <<< k.val)) s) fun t =>
        t.get R.CTR_STAT_PAIR_WELD = s.get R.CTR_STAT_PAIR_WELD ∧
        Logs s t [(0x0B08, chip, [p1 (if s.ctr.freshP.getLsbD k.val then 3 else 2)])] ∧
        FieldsBut s t [R.CTR_CTRL_PAIR_MASK] ∧
        RegsOnly s.keepSession t) ∧
  (∀ (s : State) (m : BitVec 8), (s.pwr.mainOn = true) →
      (1 ≤ s.stage) →
      (s.host.perstHigh = true) →
      (s.session = true) →
      (s.safety ≠ 5) →
      (s.safety ≠ 6) →
      Gives (exec (.weldClr m) s) fun t =>
        t.get R.CTR_CTRL_PAIR_MASK = m.toNat ∧
        t.get R.CTR_STAT_PAIR_WELD = s.get R.CTR_STAT_PAIR_WELD ∧
        Logs s t [(0x0B08, chip, [p1 1])] ∧
        FieldsBut s t [R.CTR_CTRL_PAIR_MASK] ∧
        RegsOnly s.keepSession t) ∧
  (∀ (s : State) (k : Fin 8), (s.pwr.mainOn = true) →
      (1 ≤ s.stage) →
      (s.host.perstHigh = true) →
      (s.session = true) →
      (s.safety = 5 ∨ s.safety = 6) →
      (s.bit R.CTR_STAT_PAIR_WELD k.val = true) →
      (s.ctr.freshP.getLsbD k.val = false) →
      (s.allOpen (2 ^ k.val) = true) →
      (s.linkLow false = true) →
      (s.linkLow true = true) →
      Gives (exec (.weldClr (1#8 <<< k.val)) s) fun t =>
        t.bit R.CTR_STAT_PAIR_WELD k.val = false ∧
        Logs s t [(0x0B07, chip, [p2 (2 ^ k.val)])] ∧
        FieldsBut s t [R.CTR_CTRL_PAIR_MASK, R.CTR_STAT_PAIR_WELD]) ∧
  (∀ (s : State) (n : Fin 512), (s.pwr.mainOn = true) →
      (1 ≤ s.stage) →
      (s.host.perstHigh = true) →
      (s.session = true) →
      (s.safety ≠ 5) →
      (s.safety ≠ 6) →
      Gives (exec (.weldStrClr n) s) fun t =>
        t.get R.CTR_CTRL_JOIN_STRING = n.val ∧
        t.ctr = s.ctr ∧
        Logs s t [(0x0B08, chip, [p1 1])] ∧
        FieldsBut s t [R.CTR_CTRL_JOIN_STRING] ∧
        RegsOnly s.keepSession t) ∧
  (∀ (s : State) (n : Fin 512), (s.pwr.mainOn = true) →
      (1 ≤ s.stage) →
      (s.host.perstHigh = true) →
      (s.session = true) →
      (s.safety = 5 ∨ s.safety = 6) →
      ((s.str n.val).state = 9) →
      (s.ctr.freshS.contains n.val = false) →
      ((s.str n.val).valid = true) →
      ((s.str n.val).aux = 0) →
      Gives (exec (.weldStrClr n) s) fun t =>
        (t.str n.val).state = (if s.excluded n.val then 10 else 0) ∧
        t.bit (R.CTR_STRWELD (n.val / 32)) (n.val % 32) = false ∧
        Logs s t [(0x0B07, chip, [p2 n.val])] ∧
        (∀ m, m ≠ n.val → t.str m = s.str m)) ∧
  (∀ (s : State) (n : Fin 512), (s.pwr.mainOn = true) →
      (1 ≤ s.stage) →
      (s.host.perstHigh = true) →
      (s.session = true) →
      (s.safety = 5 ∨ s.safety = 6) →
      ((s.str n.val).state ≠ 9) →
      Gives (exec (.weldStrClr n) s) fun t =>
        t.get R.CTR_CTRL_JOIN_STRING = n.val ∧
        FieldsBut s t [R.CTR_CTRL_JOIN_STRING] ∧
        t = { s.keepSession with regs := t.regs }) ∧
  (∀ (s : State) (n : Fin 512), (s.pwr.mainOn = true) →
      (1 ≤ s.stage) →
      (s.host.perstHigh = true) →
      (s.session = true) →
      (s.safety = 5 ∨ s.safety = 6) →
      ((s.str n.val).state = 9) →
      (s.ctr.freshS.contains n.val = true ∨ (s.str n.val).valid = false ∨ (s.str n.val).aux ≠ 0) →
      Gives (exec (.weldStrClr n) s) fun t =>
        t.get R.CTR_CTRL_JOIN_STRING = n.val ∧
        t.ctr = s.ctr ∧
        Logs s t [(0x0B08, chip, [p1 (if s.ctr.freshS.contains n.val then 3 else 4)])] ∧
        FieldsBut s t [R.CTR_CTRL_JOIN_STRING] ∧
        RegsOnly s.keepSession t) ∧
  (∀ (s : State) (n : Fin 512), (s.pwr.mainOn = true) →
      (1 ≤ s.stage) →
      (s.host.perstHigh = true) →
      (s.session = false) →
      Gives (exec (.weldStrClr n) s) fun t =>
        t.get R.CTR_CTRL_JOIN_STRING = n.val ∧
        Logs s t [(0x020E, chip, [p2 (blockOff 0x23104)])] ∧
        FieldsBut s t [R.CTR_CTRL_JOIN_STRING] ∧
        RegsOnly s t)

/-- SD0 decisions and the conditions the cores raise between boundaries. An SD0 decision of a core on a trigger of that reaction, an overcurrent on its own valid channel, raises the condition in that core's word; outside MAINT both cores latch SD0 and every coil gate goes off at once; the state follows at the boundary. A code of another reaction, and a decision of the Servitor in Split, do nothing. Disagreeing channels, a follow timeout and the end of the allowed Lehr duration raise their condition in both cores or in one. An envelope compare counts in an SD1 only, and the last one of a run above the envelope is an SD0 decision with 0x10; the break condition is noted; the end of the grace phase switches the coils off with 0x0A05. Readings that are the model's own, and no rule of the manual: log entries 58 and 60. -/
def Obligations.DisconnectDecisions : Prop :=
  (∀ (s : State) (b : Bool) (k : Fin 32), (s.pwr.mainOn = true) →
      (sd0Codes.getLsbD k.val = true) →
      (b = false ∨ s.alone = false) →
      Gives (exec (.sd0Decision b k) s) fun t =>
        (if b then t.dsc.condS else t.dsc.condG).getLsbD k.val = true ∧
        (s.safety ≠ 6 → t.sio.sd0A = true ∧ t.sio.sd0B = true ∧ t.sio.gateHs = 0#8 ∧ t.sio.gateLs = 0#8) ∧
        t.safety = s.safety ∧
        t.nodes = s.nodes) ∧
  (∀ (s : State) (b : Bool) (k : Fin 32), (s.pwr.mainOn = true) →
      (sd0Codes.getLsbD k.val = false ∨ (b = true ∧ s.alone = true)) →
      Gives (exec (.sd0Decision b k) s) fun t =>
        t = s) ∧
  (∀ (s : State) (b : Bool), (s.pwr.mainOn = true) →
      (s.chanOk (if b then 5 else 0) = true) →
      (b = false ∨ s.alone = false) →
      Gives (exec (.overcurrent b) s) fun t =>
        (if b then t.dsc.condS else t.dsc.condG).getLsbD 5 = true ∧
        (s.safety ≠ 6 → t.sio.sd0A = true ∧ t.sio.sd0B = true ∧ t.sio.gateHs = 0#8 ∧ t.sio.gateLs = 0#8) ∧
        t.safety = s.safety ∧
        t.nodes = s.nodes) ∧
  (∀ (s : State) (b : Bool), (s.pwr.mainOn = true) →
      (s.chanOk (if b then 5 else 0) = false ∨ (b = true ∧ s.alone = true)) →
      Gives (exec (.overcurrent b) s) fun t =>
        t = s) ∧
  (∀ (s : State) (v : Bool), (s.pwr.mainOn = true) →
      (s.alone = false) →
      ((if v then s.voltagesApart else s.currentsApart) = true) →
      Gives (exec (.channelDisagreement v) s) fun t =>
        t.dsc.condG.getLsbD (if v then 8 else 7) = true ∧
        t.dsc.condS.getLsbD (if v then 8 else 7) = true ∧
        t = { s with dsc := { s.dsc with condG := t.dsc.condG, condS := t.dsc.condS } }) ∧
  (∀ (s : State) (v : Bool), (s.pwr.mainOn = true) →
      (s.alone = true ∨ (if v then s.voltagesApart else s.currentsApart) = false) →
      Gives (exec (.channelDisagreement v) s) fun t =>
        t = s) ∧
  (∀ (s : State) (b : Bool) (a : Word), (s.pwr.mainOn = true) →
      (s.safety ≠ 3 ∨ s.get R.DSC_STATE_SD_KIND ≠ 1 ∨ s.dsc.coilsOff = true) →
      Gives (exec (.envelopeCompare b a) s) fun t =>
        t = s) ∧
  (∀ (s : State) (b : Bool) (a : Word), (s.pwr.mainOn = true) →
      (s.safety = 3) →
      (s.get R.DSC_STATE_SD_KIND = 1) →
      (s.dsc.coilsOff = false) →
      (s.dsc.envN.length = 2) →
      (s.dsc.envAbove.length = 2) →
      ((s.envelope (if b then s.dsc.i0B else s.dsc.i0A) (nth 0 s.dsc.envN (b2n b) + 1)).lt (Q.ofFp a).abs = false) →
      (s.tab.sp8 0x435 ≠ 0) →
      Gives (exec (.envelopeCompare b a) s) fun t =>
        nth 0 t.dsc.envN (b2n b) = nth 0 s.dsc.envN (b2n b) + 1 ∧
        nth 0 t.dsc.envAbove (b2n b) = 0 ∧
        t = { s with dsc := { s.dsc with envN := t.dsc.envN, envAbove := t.dsc.envAbove } }) ∧
  (∀ (s : State) (b : Bool) (a : Word), (s.pwr.mainOn = true) →
      (s.safety = 3) →
      (s.get R.DSC_STATE_SD_KIND = 1) →
      (s.dsc.coilsOff = false) →
      (s.dsc.envN.length = 2) →
      (s.dsc.envAbove.length = 2) →
      ((s.envelope (if b then s.dsc.i0B else s.dsc.i0A) (nth 0 s.dsc.envN (b2n b) + 1)).lt (Q.ofFp a).abs = true) →
      (nth 0 s.dsc.envAbove (b2n b) + 1 ≠ 10 * s.tab.sp8 0x435) →
      Gives (exec (.envelopeCompare b a) s) fun t =>
        nth 0 t.dsc.envN (b2n b) = nth 0 s.dsc.envN (b2n b) + 1 ∧
        nth 0 t.dsc.envAbove (b2n b) = nth 0 s.dsc.envAbove (b2n b) + 1 ∧
        t = { s with dsc := { s.dsc with envN := t.dsc.envN, envAbove := t.dsc.envAbove } }) ∧
  (∀ (s : State) (b : Bool) (a : Word), (s.pwr.mainOn = true) →
      (s.safety = 3) →
      (s.get R.DSC_STATE_SD_KIND = 1) →
      (s.dsc.coilsOff = false) →
      (s.dsc.envAbove.length = 2) →
      ((s.envelope (if b then s.dsc.i0B else s.dsc.i0A) (nth 0 s.dsc.envN (b2n b) + 1)).lt (Q.ofFp a).abs = true) →
      (nth 0 s.dsc.envAbove (b2n b) + 1 = 10 * s.tab.sp8 0x435) →
      Gives (exec (.envelopeCompare b a) s) fun t =>
        (if b then t.dsc.condS else t.dsc.condG).getLsbD 0x10 = true ∧
        (s.safety ≠ 6 → t.sio.sd0A = true ∧ t.sio.sd0B = true ∧ t.sio.gateHs = 0#8 ∧ t.sio.gateLs = 0#8) ∧
        t.safety = s.safety ∧
        t.nodes = s.nodes) ∧
  (∀ (s : State), (s.pwr.mainOn = true) →
      (s.safety = 3) →
      (s.dsc.coilsOff = false) →
      (s.curOf false = none ∨ s.curOf true = none) →
      Gives (exec (.breakCondition) s) fun t =>
        t = s) ∧
  (∀ (s : State) (x y : Q), (s.pwr.mainOn = true) →
      (s.curOf false = some x) →
      (s.curOf true = some y) →
      (x.abs.le (s.tab.spQ 0x400) = false ∨ y.abs.le (s.tab.spQ 0x400) = false) →
      Gives (exec (.breakCondition) s) fun t =>
        t = s) ∧
  (∀ (s : State), (s.pwr.mainOn = true) →
      (s.safety ≠ 3 ∨ s.dsc.coilsOff = true) →
      Gives (exec (.breakCondition) s) fun t =>
        t = s) ∧
  (∀ (s : State) (x y : Q), (s.pwr.mainOn = true) →
      (s.safety = 3) →
      (s.dsc.coilsOff = false) →
      (s.curOf false = some x) →
      (s.curOf true = some y) →
      (x.abs.le (s.tab.spQ 0x400) = true) →
      (y.abs.le (s.tab.spQ 0x400) = true) →
      Gives (exec (.breakCondition) s) fun t =>
        t = { s with dsc := { s.dsc with breakDue := true } }) ∧
  (∀ (s : State), (s.pwr.mainOn = true) →
      (s.safety = 3) →
      (s.dsc.coilsOff = false) →
      Gives (exec (.graceEnd) s) fun t =>
        t.get R.CTR_STAT_PAIRS_ON = 0 ∧
        t.sio.gateHs = 0#8 ∧
        t.sio.gateLs = 0#8 ∧
        t.dsc.coilsOff = true ∧
        t.dsc.demand = 1 ∧
        t.dsc.wasOn = s.dsc.wasOn ||| BitVec.ofNat 8 (s.get R.CTR_STAT_PAIRS_ON) ∧
        t.get R.DSC_STATE_PHASE = 4 ∧
        t.get R.DSC_STATE_VERIFY = 1 ∧
        Logs s t [(0x0A05, chip, [s.curPar false, s.curPar true])] ∧
        t.safety = 3 ∧
        t.nodes = s.nodes) ∧
  (∀ (s : State), (s.pwr.mainOn = true) →
      (s.safety ≠ 3 ∨ s.dsc.coilsOff = true) →
      Gives (exec (.graceEnd) s) fun t =>
        t = s) ∧
  (∀ (s : State), (s.pwr.mainOn = true) →
      (s.get R.DSC_STATE_VERIFY = 1) →
      (s.openingOk = true) →
      Gives (exec (.verifyTimeout) s) fun t =>
        t.get R.DSC_STATE_VERIFY = 2 ∧
        t.get R.DSC_STATE_PHASE = 0 ∧
        Logs s t [(0x0A06, chip, [pS (s.dsc.offT / 2 : Nat)])] ∧
        FieldsBut s t [R.DSC_STATE_VERIFY, R.DSC_STATE_PHASE] ∧
        RegsOnly s t) ∧
  (∀ (s : State), (s.pwr.mainOn = true) →
      (s.get R.DSC_STATE_VERIFY = 1) →
      (s.openingOk = false) →
      Gives (exec (.verifyTimeout) s) fun t =>
        t.get R.DSC_STATE_VERIFY = 3 ∧
        t.get R.DSC_STATE_PHASE = 0 ∧
        t.dsc.condG.getLsbD 0x15 = true ∧
        t.dsc.condS.getLsbD 0x15 = true ∧
        t.get R.CTR_STAT_PAIR_WELD = (s.get R.CTR_STAT_PAIR_WELD ||| s.notOpened) ∧
        Logs s t [(0x0A07, chip, [p2 s.notOpened])] ∧
        FieldsBut s t [R.DSC_STATE_VERIFY, R.DSC_STATE_PHASE, R.CTR_STAT_PAIR_WELD]) ∧
  (∀ (s : State), (s.pwr.mainOn = true) →
      (s.get R.DSC_STATE_VERIFY ≠ 1) →
      Gives (exec (.verifyTimeout) s) fun t =>
        t = s) ∧
  (∀ (s : State) (b : Bool) (h : Fin 3) (a : Word), (s.pwr.mainOn = true) →
      (s.safety = 2 ∨ s.safety = 4) →
      ((s.allowedCurrent (2 * h.val + (if (Q.ofFp a).num < 0 then 0 else 1))).lt (Q.ofFp a).abs = true) →
      Gives (exec (.followTimeout b h a) s) fun t =>
        (if b then t.dsc.condS else t.dsc.condG).getLsbD 6 = true ∧
        (if b then t.dsc.condG else t.dsc.condS) = (if b then s.dsc.condG else s.dsc.condS) ∧
        t = { s with dsc := { s.dsc with condG := t.dsc.condG, condS := t.dsc.condS } }) ∧
  (∀ (s : State) (b : Bool) (h : Fin 3) (a : Word), (s.pwr.mainOn = true) →
      ((s.safety ≠ 2 ∧ s.safety ≠ 4) ∨ (s.allowedCurrent (2 * h.val + (if (Q.ofFp a).num < 0 then 0 else 1))).lt (Q.ofFp a).abs = false) →
      Gives (exec (.followTimeout b h a) s) fun t =>
        t = s)

/-- Requests to the pair, exclusion of strings, the timers of Lehr mode. OPEN_REQ in PRECHARGE, CLOSED or LEHR raises 0x14 in both cores and has no effect elsewhere. ACK, and in a session ACK_SD0 and MAINT_REQ, and MAINT_EXIT wait for the boundary; outside a session ACK_SD0 and MAINT_REQ are 0x020E. EXCLUDE in a session excludes the string named, INCLUDE takes one back whose causes have cleared, with 0x0A0B; outside a session both are 0x020E. The end of the duration of LEHR raises 0x0D or 0x0E in both cores; a minute counts in LEHR_T and in the budget; all causes clear for 60 s end LEHR at the boundary. Readings that are the model's own, and no rule of the manual: log entries 61, 62 and 64. -/
def Obligations.DisconnectRequestsAndLehr : Prop :=
  (∀ (s : State), (s.pwr.mainOn = true) →
      (1 ≤ s.stage) →
      (s.host.perstHigh = true) →
      (s.safety = 1 ∨ s.safety = 2 ∨ s.safety = 4) →
      Gives (exec (.openReq) s) fun t =>
        t.dsc.condG.getLsbD 0x14 = true ∧
        t.dsc.condS.getLsbD 0x14 = true ∧
        t = { s with dsc := { s.dsc with condG := t.dsc.condG, condS := t.dsc.condS } }) ∧
  (∀ (s : State), (s.pwr.mainOn = true) →
      (s.safety ≠ 1) →
      (s.safety ≠ 2) →
      (s.safety ≠ 4) →
      Gives (exec (.openReq) s) fun t =>
        t = s) ∧
  (∀ (s : State) (a b : Bool), (s.pwr.mainOn = true) →
      (1 ≤ s.stage) →
      (s.host.perstHigh = true) →
      Gives (exec (.ackTrip a b) s) fun t =>
        t = { s with dsc := { s.dsc with ackReq := some (a, b) } }) ∧
  (∀ (s : State) (a b : Bool), (s.pwr.mainOn = true) →
      (1 ≤ s.stage) →
      (s.host.perstHigh = true) →
      Gives (exec (.maintExit a b) s) fun t =>
        t = { s with dsc := { s.dsc with exitReq := some (a, b) } }) ∧
  (∀ (s : State) (a b : Bool), (s.pwr.mainOn = true) →
      (1 ≤ s.stage) →
      (s.host.perstHigh = true) →
      (s.session = true) →
      Gives (exec (.ackSd0 a b) s) fun t =>
        t = { s.keepSession with dsc := { s.dsc with ack0Req := some (a, b) } }) ∧
  (∀ (s : State) (a b : Bool), (s.pwr.mainOn = true) →
      (1 ≤ s.stage) →
      (s.host.perstHigh = true) →
      (s.session = false) →
      Gives (exec (.ackSd0 a b) s) fun t =>
        Logs s t [(0x020E, chip, [p2 0x10])] ∧
        FieldsBut s t [] ∧
        RegsOnly s t) ∧
  (∀ (s : State), (s.pwr.mainOn = true) →
      (1 ≤ s.stage) →
      (s.host.perstHigh = true) →
      (s.session = true) →
      Gives (exec (.maintReq) s) fun t =>
        t = { s.keepSession with dsc := { s.dsc with maintReq := true } }) ∧
  (∀ (s : State), (s.pwr.mainOn = true) →
      (1 ≤ s.stage) →
      (s.host.perstHigh = true) →
      (s.session = false) →
      Gives (exec (.maintReq) s) fun t =>
        Logs s t [(0x020E, chip, [p2 0x10])] ∧
        FieldsBut s t [] ∧
        RegsOnly s t) ∧
  (∀ (s : State) (n : Fin 512), (s.pwr.mainOn = true) →
      (1 ≤ s.stage) →
      (s.host.perstHigh = true) →
      (s.session = true) →
      Gives (exec (.excludeString n) s) fun t =>
        t.excluded n.val = true ∧
        t.get R.DSC_EXCL_CTRL_STRING = n.val ∧
        (∀ m < 512, m ≠ n.val → t.excluded m = s.excluded m)) ∧
  (∀ (s : State) (n : Fin 512), (s.pwr.mainOn = true) →
      (1 ≤ s.stage) →
      (s.host.perstHigh = true) →
      (s.session = true) →
      (s.excluded n.val = true) →
      (s.strCut n.val = false) →
      (s.strRegionOut n.val = false) →
      Gives (exec (.includeString n) s) fun t =>
        t.excluded n.val = false ∧
        t.get R.DSC_EXCL_CTRL_STRING = n.val ∧
        Logs s t [(0x0A0B, src 6 n.val, [p2 n.val])] ∧
        FieldsBut s t [R.DSC_EXCL_CTRL_STRING, R.DSC_EXCL (n.val / 32)]) ∧
  (∀ (s : State) (n : Fin 512), (s.pwr.mainOn = true) →
      (1 ≤ s.stage) →
      (s.host.perstHigh = true) →
      (s.session = true) →
      (s.excluded n.val = true) →
      (s.strCut n.val = true ∨ s.strRegionOut n.val = true) →
      Gives (exec (.includeString n) s) fun t =>
        t.excluded n.val = true ∧
        t.get R.DSC_EXCL_CTRL_STRING = n.val ∧
        FieldsBut s t [R.DSC_EXCL_CTRL_STRING] ∧
        t = { s.keepSession with regs := t.regs }) ∧
  (∀ (s : State) (n : Fin 512), (s.pwr.mainOn = true) →
      (1 ≤ s.stage) →
      (s.host.perstHigh = true) →
      (s.session = false) →
      Gives (exec (.includeString n) s) fun t =>
        Logs s t [(0x020E, chip, [p2 (blockOff 0x230A0)])] ∧
        FieldsBut s t [] ∧
        RegsOnly s t) ∧
  (∀ (s : State) (n : Fin 512), (s.pwr.mainOn = true) →
      (1 ≤ s.stage) →
      (s.host.perstHigh = true) →
      (s.session = false) →
      Gives (exec (.excludeString n) s) fun t =>
        Logs s t [(0x020E, chip, [p2 (blockOff 0x230A0)])] ∧
        FieldsBut s t [] ∧
        RegsOnly s t) ∧
  (∀ (s : State) (n : Fin 512), (s.pwr.mainOn = true) →
      (1 ≤ s.stage) →
      (s.host.perstHigh = true) →
      (s.session = true) →
      (s.excluded n.val = false) →
      Gives (exec (.includeString n) s) fun t =>
        t.get R.DSC_EXCL_CTRL_STRING = n.val ∧
        FieldsBut s t [R.DSC_EXCL_CTRL_STRING] ∧
        t = { s.keepSession with regs := t.regs }) ∧
  (∀ (s : State), (s.pwr.mainOn = true) →
      (s.safety = 4) →
      (s.onlyProof = false) →
      Gives (exec (.lehrDurationEnd) s) fun t =>
        t.dsc.condG.getLsbD (if s.dsc.byBudget then 14 else 13) = true ∧
        t.dsc.condS.getLsbD (if s.dsc.byBudget then 14 else 13) = true ∧
        t = { s with dsc := { s.dsc with condG := t.dsc.condG, condS := t.dsc.condS } }) ∧
  (∀ (s : State), (s.pwr.mainOn = true) →
      (s.safety ≠ 4 ∨ s.onlyProof = true) →
      Gives (exec (.lehrDurationEnd) s) fun t =>
        t = s) ∧
  (∀ (s : State), (s.pwr.mainOn = true) →
      (s.safety = 4) →
      (s.onlyProof = false) →
      (s.dsc.allowed < 2048) →
      Gives (exec (.lehrBudgetMinute) s) fun t =>
        t.dsc.minutes = s.dsc.minutes + 1 ∧
        t.get R.DSC_LEHR_T_LEFT_MIN = s.dsc.allowed - (s.dsc.minutes + 1) ∧
        (s.dsc.minutes + 1 < s.dsc.allowed → t.dsc.used = s.minute :: s.usedMinutes) ∧
        FieldsBut s t [R.DSC_LEHR_T_LEFT_MIN, R.DSC_LEHR_USED_MIN] ∧
        t = { s with regs := t.regs, dsc := { s.dsc with minutes := t.dsc.minutes, used := t.dsc.used } }) ∧
  (∀ (s : State), (s.pwr.mainOn = true) →
      (s.safety ≠ 4 ∨ s.onlyProof = true) →
      Gives (exec (.lehrBudgetMinute) s) fun t =>
        t.get R.DSC_LEHR_USED_MIN = satNat 2047 s.usedMinutes.length ∧
        FieldsBut s t [R.DSC_LEHR_USED_MIN] ∧
        t = { s with regs := t.regs }) ∧
  (∀ (s : State), (s.pwr.mainOn = true) →
      (s.safety = 4) →
      (s.dsc.lehr = []) →
      Gives (exec (.lehrClearTimeout) s) fun t =>
        t = { s with dsc := { s.dsc with clearDue := true } }) ∧
  (∀ (s : State), (s.pwr.mainOn = true) →
      (s.safety ≠ 4 ∨ s.dsc.lehr ≠ []) →
      Gives (exec (.lehrClearTimeout) s) fun t =>
        t = s)

/-- Arrival of a safe frame, the connect frame and the watchdog of a connection. A frame whose medium, identifier or address and port belong to no enabled connection counts in FOREIGN and is logged as 0x0E03, unless it is a CAN frame that a host filter accepts. One of a connection waits for the next boundary if it is a whole frame with a good transport check, else it counts in TRANSPORT. In stage 0 nothing is taken. A connecting connection's frame falls due at its timer, in no other state. A watchdog that expires, 2 T_E cycles after its restart, takes an established connection to connecting, counts in EXPIRED and logs 0x0E02; of a critical connection in PRECHARGE, CLOSED, RAMPDOWN and LEHR it raises condition 0x0A in both cores. In any other state of the connection nothing happens. Readings that are the model's own, and no rule of the manual: log entries 75, 76 and 115. -/
def Obligations.SafeFrameConnections : Prop :=
  (∀ (s : State) (m : Fin 4) (i : Word) (p : BitVec 16) (d sm : Bool) (b : List Byte), (s.pwr.mainOn = true) →
      (s.stage = 0) →
      Gives (exec (.safeFrameArrival m i p d sm b) s) fun t =>
        t = s) ∧
  (∀ (s : State) (m : Fin 4) (i : Word) (p : BitVec 16) (d sm : Bool) (b : List Byte), (s.pwr.mainOn = true) →
      (1 ≤ s.stage) →
      (s.matchConn m.val i.toNat p.toNat = none) →
      (2 ≤ m.val ∨ s.tab.hostOn m.val = false ∨ s.tab.canFilter m.val i.toNat = false) →
      Gives (exec (.safeFrameArrival m i p d sm b) s) fun t =>
        t.get R.SFL_CNT_FOREIGN = satNat (2 ^ R.SFL_CNT_FOREIGN.w - 1) (s.get R.SFL_CNT_FOREIGN + 1) ∧
        Logs s t [(0x0E03, src 10 0, [p1 m.val, pn 4 i.toNat, p2 (t.get R.SFL_CNT_FOREIGN)])] ∧
        FieldsBut s t [R.SFL_CNT_FOREIGN] ∧
        RegsOnly s t) ∧
  (∀ (s : State) (m : Fin 4) (i : Word) (p : BitVec 16) (d sm : Bool) (b : List Byte), (s.pwr.mainOn = true) →
      (1 ≤ s.stage) →
      (s.matchConn m.val i.toNat p.toNat = none) →
      (m.val < 2) →
      (s.tab.hostOn m.val = true) →
      (s.tab.canFilter m.val i.toNat = true) →
      Gives (exec (.safeFrameArrival m i p d sm b) s) fun t =>
        t = s) ∧
  (∀ (s : State) (m : Fin 4) (i : Word) (p : BitVec 16) (d sm : Bool) (b : List Byte) (n : Nat), (s.pwr.mainOn = true) →
      (1 ≤ s.stage) →
      (s.matchConn m.val i.toNat p.toNat = some n) →
      (d = true) →
      (sm = true) →
      (b.length = 48) →
      Gives (exec (.safeFrameArrival m i p d sm b) s) fun t =>
        t = { s with sfl := { s.sfl with rx := s.sfl.rx ++ [(n, b)] } }) ∧
  (∀ (s : State) (m : Fin 4) (i : Word) (p : BitVec 16) (d sm : Bool) (b : List Byte) (n : Nat), (s.pwr.mainOn = true) →
      (1 ≤ s.stage) →
      (s.matchConn m.val i.toNat p.toNat = some n) →
      (d = false ∨ sm = false ∨ b.length ≠ 48) →
      Gives (exec (.safeFrameArrival m i p d sm b) s) fun t =>
        t.get (R.SFL_C_XPORT_TRANSPORT n) = satNat (2 ^ (R.SFL_C_XPORT_TRANSPORT n).w - 1) (s.get (R.SFL_C_XPORT_TRANSPORT n) + 1) ∧
        FieldsBut s t [R.SFL_C_XPORT_TRANSPORT n] ∧
        t = { s with regs := t.regs }) ∧
  (∀ (s : State) (n : Fin 16), (s.pwr.mainOn = true) →
      (s.get (R.SFL_C_STAT_STATE n.val) = 1) →
      Gives (exec (.connectFrameTimer n) s) fun t =>
        t = { s with sfl := { s.sfl with due := s.sfl.due ++ [{ kind := 0, conn := n.val }] } }) ∧
  (∀ (s : State) (n : Fin 16), (s.pwr.mainOn = true) →
      (s.get (R.SFL_C_STAT_STATE n.val) ≠ 1) →
      Gives (exec (.connectFrameTimer n) s) fun t =>
        t = s) ∧
  (∀ (s : State) (n : Fin 16), (s.pwr.mainOn = true) →
      (s.get (R.SFL_C_STAT_STATE n.val) = 2) →
      (s.wdDue n.val = true) →
      Gives (exec (.sflWatchdogExpiry n) s) fun t =>
        t.get (R.SFL_C_STAT_STATE n.val) = 1 ∧
        t.bit R.SFL_STAT_ESTABLISHED n.val = false ∧
        t.get (R.SFL_C_LOSS_EXPIRED n.val) = satNat (2 ^ (R.SFL_C_LOSS_EXPIRED n.val).w - 1) (s.get (R.SFL_C_LOSS_EXPIRED n.val) + 1) ∧
        (n.val = s.tab.limitConn → t.get R.SFL_STAT_LIMIT_UP = 0) ∧
        Logs s t [(0x0E02, src 10 n.val, [p1 n.val, p1 (b2n (s.tab.cnFlag n.val 2)), p2 (s.sinceMs n.val)])] ∧
        FieldsBut s t [R.SFL_C_STAT_STATE n.val, R.SFL_STAT_ESTABLISHED, R.SFL_C_LOSS_EXPIRED n.val, R.SFL_STAT_LIMIT_UP] ∧
        t.sfl = s.sfl ∧
        (s.tab.cnFlag n.val 2 = true ∧ 1 ≤ s.safety ∧ s.safety ≤ 4 → t.dsc.condG.getLsbD 10 = true ∧ t.dsc.condS.getLsbD 10 = true) ∧
        (s.tab.cnFlag n.val 2 = false → t.dsc = s.dsc) ∧
        t.nodes = s.nodes) ∧
  (∀ (s : State) (n : Fin 16), (s.pwr.mainOn = true) →
      (s.get (R.SFL_C_STAT_STATE n.val) ≠ 2 ∨ s.wdDue n.val = false) →
      Gives (exec (.sflWatchdogExpiry n) s) fun t =>
        t = s)

/-- TAIL, ENABLE, STOP, a DMA error, NOP and the message hold-off of a ring. A TAIL that gives at most 2^LOG2 entries is taken, another is 0x1002 and not taken. ENABLE set or cleared changes the ring's state with 0x1003: running in stage 4, else waiting; cleared it is off. STOP of a running ring returns every given entry, so that HEAD ends at TAIL and the count of entries rises by their number, and clears ENABLE; of a ring off it has no effect. A DMA error of a running ring stops it with kind and address and 0x1007, and aborts an update that its ring carries. NOP returns its entry with STATUS 0, an undefined operation with 1. At the end of the hold-off the message owed goes out. Readings that are the model's own, and no rule of the manual: log entry 80. -/
def Obligations.RingControl : Prop :=
  (∀ (s : State) (n : Fin 64) (v : BitVec 16), (s.pwr.mainOn = true) →
      (1 ≤ s.stage) →
      (s.host.perstHigh = true) →
      ((v.toNat + 65536 - s.get (R.RING_HEAD_HEAD n.val)) % 65536 ≤ 2 ^ s.get (R.RING_SIZE_LOG2 n.val)) →
      Gives (exec (.ringTail n v) s) fun t =>
        t.get (R.RING_TAIL_TAIL n.val) = v.toNat ∧
        FieldsBut s t [R.RING_TAIL_TAIL n.val] ∧
        t = { s with regs := t.regs }) ∧
  (∀ (s : State) (n : Fin 64) (v : BitVec 16), (s.pwr.mainOn = true) →
      (1 ≤ s.stage) →
      (s.host.perstHigh = true) →
      (2 ^ s.get (R.RING_SIZE_LOG2 n.val) < (v.toNat + 65536 - s.get (R.RING_HEAD_HEAD n.val)) % 65536) →
      Gives (exec (.ringTail n v) s) fun t =>
        Logs s t [(0x1002, src 9 n.val, [p2 (blockOff (R.RING_TAIL n.val).addr), p2 v.toNat])] ∧
        FieldsBut s t [] ∧
        RegsOnly s t) ∧
  (∀ (s : State) (n : Fin 64) (b : Bool), (s.pwr.mainOn = true) →
      (1 ≤ s.stage) →
      (s.host.perstHigh = true) →
      (s.get (R.RING_CTRL_ENABLE n.val) = 0) →
      Gives (exec (.ringEnable n true b) s) fun t =>
        t.get (R.RING_CTRL_ENABLE n.val) = 1 ∧
        t.get (R.RING_CTRL_INT_EN n.val) = b2n b ∧
        t.get (R.RING_STAT_STATE n.val) = (if s.stage = 4 then 1 else 2) ∧
        Logs s t [(0x1003, src 9 n.val, [p1 n.val, p1 (s.ringType n.val), p1 (t.get (R.RING_STAT_STATE n.val))])] ∧
        FieldsBut s t [R.RING_CTRL_ENABLE n.val, R.RING_CTRL_INT_EN n.val, R.RING_STAT_STATE n.val] ∧
        RegsOnly s t) ∧
  (∀ (s : State) (n : Fin 64) (b : Bool), (s.pwr.mainOn = true) →
      (1 ≤ s.stage) →
      (s.host.perstHigh = true) →
      (s.get (R.RING_CTRL_ENABLE n.val) = 1) →
      Gives (exec (.ringEnable n false b) s) fun t =>
        t.get (R.RING_CTRL_ENABLE n.val) = 0 ∧
        t.get (R.RING_CTRL_INT_EN n.val) = b2n b ∧
        t.get (R.RING_STAT_STATE n.val) = 0 ∧
        t.get (R.RING_STAT_ERR_KIND n.val) = 0 ∧
        (t.ring_ n.val).node = none ∧
        Logs s t [(0x1003, src 9 n.val, [p1 n.val, p1 (s.ringType n.val), p1 0])] ∧
        FieldsBut s t [R.RING_CTRL_ENABLE n.val, R.RING_CTRL_INT_EN n.val, R.RING_STAT_STATE n.val, R.RING_STAT_ERR_KIND n.val, R.HOST_PUB_STAT_ACTIVE] ∧
        (s.ringType n.val ≠ 2 → t.get R.HOST_PUB_STAT_ACTIVE = s.get R.HOST_PUB_STAT_ACTIVE)) ∧
  (∀ (s : State) (n : Fin 64) (a b : Bool), (s.pwr.mainOn = true) →
      (1 ≤ s.stage) →
      (s.host.perstHigh = true) →
      (s.get (R.RING_CTRL_ENABLE n.val) = b2n a) →
      Gives (exec (.ringEnable n a b) s) fun t =>
        t.get (R.RING_CTRL_INT_EN n.val) = b2n b ∧
        FieldsBut s t [R.RING_CTRL_INT_EN n.val] ∧
        t = { s with regs := t.regs }) ∧
  (∀ (s : State) (n : Fin 64) (l : List (BitVec 32)), (s.pwr.mainOn = true) →
      (1 ≤ s.stage) →
      (s.host.perstHigh = true) →
      (s.ringRuns n.val = true) →
      (s.get (R.RING_CTRL_ENABLE n.val) = 0) →
      Gives (exec (.ringStop n l) s) fun t =>
        t.get (R.RING_HEAD_HEAD n.val) = s.get (R.RING_TAIL_TAIL n.val) ∧
        t.get (R.RING_CNT n.val) = satNat (2 ^ (R.RING_CNT n.val).w - 1) (s.get (R.RING_CNT n.val) + s.given n.val) ∧
        (t.ring_ n.val).node = none ∧
        t.log = s.log ∧
        FieldsBut s t [R.RING_HEAD_HEAD n.val, R.RING_CNT n.val, R.HOST_PUB_STAT_ACTIVE]) ∧
  (∀ (s : State) (n : Fin 64) (l : List (BitVec 32)), (s.pwr.mainOn = true) →
      (1 ≤ s.stage) →
      (s.host.perstHigh = true) →
      (s.ringRuns n.val = true) →
      (s.get (R.RING_CTRL_ENABLE n.val) = 1) →
      Gives (exec (.ringStop n l) s) fun t =>
        t.get (R.RING_HEAD_HEAD n.val) = s.get (R.RING_TAIL_TAIL n.val) ∧
        t.get (R.RING_CNT n.val) = satNat (2 ^ (R.RING_CNT n.val).w - 1) (s.get (R.RING_CNT n.val) + s.given n.val) ∧
        t.get (R.RING_CTRL_ENABLE n.val) = 0 ∧
        t.get (R.RING_STAT_STATE n.val) = 0 ∧
        (t.ring_ n.val).node = none ∧
        Logs s t [(0x1003, src 9 n.val, [p1 n.val, p1 (s.ringType n.val), p1 0])] ∧
        FieldsBut s t (R.RING_HEAD_HEAD n.val :: R.RING_CNT n.val :: [R.RING_CTRL_ENABLE n.val, R.RING_STAT_STATE n.val, R.RING_STAT_ERR_KIND n.val, R.HOST_PUB_STAT_ACTIVE])) ∧
  (∀ (s : State) (n : Fin 64) (l : List (BitVec 32)), (s.pwr.mainOn = true) →
      (1 ≤ s.stage) →
      (s.host.perstHigh = true) →
      (s.ringRuns n.val = false) →
      (s.get (R.RING_CTRL_ENABLE n.val) = 1) →
      Gives (exec (.ringStop n l) s) fun t =>
        t.get (R.RING_CTRL_ENABLE n.val) = 0 ∧
        t.get (R.RING_STAT_STATE n.val) = 0 ∧
        t.get (R.RING_HEAD_HEAD n.val) = s.get (R.RING_HEAD_HEAD n.val) ∧
        FieldsBut s t [R.RING_CTRL_ENABLE n.val, R.RING_STAT_STATE n.val, R.RING_STAT_ERR_KIND n.val, R.HOST_PUB_STAT_ACTIVE]) ∧
  (∀ (s : State) (n : Fin 64) (l : List (BitVec 32)), (s.pwr.mainOn = true) →
      (1 ≤ s.stage) →
      (s.host.perstHigh = true) →
      (s.ringRuns n.val = false) →
      (s.get (R.RING_CTRL_ENABLE n.val) = 0) →
      Gives (exec (.ringStop n l) s) fun t =>
        t = s) ∧
  (∀ (s : State) (n : Fin 64) (k : Fin 4) (a : BitVec 64), (s.pwr.mainOn = true) →
      (s.ringRuns n.val = true) →
      Gives (exec (.ringDmaError n k a) s) fun t =>
        t.get (R.RING_STAT_STATE n.val) = 3 ∧
        t.get (R.RING_STAT_ERR_KIND n.val) = k.val + 1 ∧
        t.get (R.RING_ERR_LO n.val) = a.toNat % 2 ^ 32 ∧
        t.get (R.RING_ERR_HI n.val) = a.toNat / 2 ^ 32 ∧
        Logs s t [(0x1007, src 9 n.val, [p1 (k.val + 1), pn 4 a.toNat])] ∧
        (t.ring_ n.val).node = none ∧
        (s.ringType n.val ≠ 2 → t.get R.HOST_PUB_STAT_ACTIVE = s.get R.HOST_PUB_STAT_ACTIVE) ∧
        (s.ringType n.val = 2 → t.get R.HOST_PUB_STAT_ACTIVE = 0)) ∧
  (∀ (s : State) (n : Fin 64) (k : Fin 4) (a : BitVec 64), (s.pwr.mainOn = true) →
      (s.ringRuns n.val = true) →
      (s.ringType n.val ≠ 5 ∨ s.get R.IMG_UPD_RING ≠ n.val ∨ s.get R.IMG_STAT_UPD_STATE < 1 ∨ 3 < s.get R.IMG_STAT_UPD_STATE) →
      Gives (exec (.ringDmaError n k a) s) fun t =>
        t.get (R.RING_STAT_STATE n.val) = 3 ∧
        t.get (R.RING_STAT_ERR_KIND n.val) = k.val + 1 ∧
        t.get (R.RING_ERR_LO n.val) = a.toNat % 2 ^ 32 ∧
        t.get (R.RING_ERR_HI n.val) = a.toNat / 2 ^ 32 ∧
        Logs s t [(0x1007, src 9 n.val, [p1 (k.val + 1), pn 4 a.toNat])] ∧
        FieldsBut s t [R.RING_STAT_STATE n.val, R.RING_STAT_ERR_KIND n.val, R.RING_ERR_LO n.val, R.RING_ERR_HI n.val, R.HOST_PUB_STAT_ACTIVE] ∧
        t.img = s.img) ∧
  (∀ (s : State) (n : Fin 64) (k : Fin 4) (a : BitVec 64), (s.pwr.mainOn = true) →
      (s.ringRuns n.val = true) →
      (s.ringType n.val = 5) →
      (s.get R.IMG_UPD_RING = n.val) →
      (1 ≤ s.get R.IMG_STAT_UPD_STATE) →
      (s.get R.IMG_STAT_UPD_STATE ≤ 3) →
      Gives (exec (.ringDmaError n k a) s) fun t =>
        t.get (R.RING_STAT_STATE n.val) = 3 ∧
        t.get (R.RING_STAT_ERR_KIND n.val) = k.val + 1 ∧
        t.get (R.RING_ERR_LO n.val) = a.toNat % 2 ^ 32 ∧
        t.get (R.RING_ERR_HI n.val) = a.toNat / 2 ^ 32 ∧
        Logs s t [(0x1007, src 9 n.val, [p1 (k.val + 1), pn 4 a.toNat])] ∧
        t.get R.IMG_STAT_UPD_STATE = 0 ∧
        t.get R.IMG_STAT_REC_BUSY = 0 ∧
        t.img = { s.img with recCommit := false } ∧
        FieldsBut s t [R.RING_STAT_STATE n.val, R.RING_STAT_ERR_KIND n.val, R.RING_ERR_LO n.val, R.RING_ERR_HI n.val, R.IMG_STAT_UPD_STATE, R.IMG_STAT_REC_BUSY]) ∧
  (∀ (s : State) (n : Fin 64) (k : Fin 4) (a : BitVec 64), (s.pwr.mainOn = true) →
      (s.ringRuns n.val = false) →
      Gives (exec (.ringDmaError n k a) s) fun t =>
        t = s) ∧
  (∀ (s : State) (n : Fin 64) (ctl : Word), (s.pwr.mainOn = true) →
      (s.cmdReady n.val = true) →
      (opOf ctl ≠ 0x10) →
      (opOf ctl ≠ 0x11) →
      (opOf ctl ≠ 0x20) →
      Gives (exec (.ringNop n ctl) s) fun t =>
        t.get (R.RING_HEAD_HEAD n.val) = (s.get (R.RING_HEAD_HEAD n.val) + 1) % 65536 ∧
        t.get (R.RING_CNT n.val) = satNat (2 ^ (R.RING_CNT n.val).w - 1) (s.get (R.RING_CNT n.val) + 1) ∧
        (∃ o ∈ t.out, o = .dma n.val (s.entryAt n.val) (leBytes 4 (setBits (setBits ctl.toNat 0 1 0) 4 4 (if opOf ctl = 0 then 0 else 1)))) ∧
        FieldsBut s t [R.RING_HEAD_HEAD n.val, R.RING_CNT n.val] ∧
        t.log = s.log) ∧
  (∀ (s : State) (n : Fin 64) (ctl : Word), (s.pwr.mainOn = true) →
      (s.cmdReady n.val = false ∨ opOf ctl = 0x10 ∨ opOf ctl = 0x11 ∨ opOf ctl = 0x20) →
      Gives (exec (.ringNop n ctl) s) fun t =>
        t = s) ∧
  (∀ (s : State) (n : Fin 64) , (s.pwr.mainOn = true) →
      ((s.ring_ n.val).holdoff = true) →
      ((s.ring_ n.val).owed = true) →
      (s.get (R.RING_CTRL_INT_EN n.val) = 1) →
      (s.get (R.MSIX_VCTRL_MASKED n.val) = 0) →
      (s.host.linkUp = true) →
      (s.host.busMaster = true) →
      Gives (exec (.msiXHoldoffEnd n) s) fun t =>
        t.out = .msix n.val :: s.out ∧
        (t.ring_ n.val).owed = false ∧
        t.regs = s.regs ∧
        t.log = s.log) ∧
  (∀ (s : State) (n : Fin 64) , (s.pwr.mainOn = true) →
      ((s.ring_ n.val).holdoff = true) →
      ((s.ring_ n.val).owed = true) →
      (s.get (R.RING_CTRL_INT_EN n.val) = 1) →
      (s.get (R.MSIX_VCTRL_MASKED n.val) = 1 ∨ s.host.linkUp = false ∨ s.host.busMaster = false) →
      Gives (exec (.msiXHoldoffEnd n) s) fun t =>
        t.host.pba.getLsbD n.val = true ∧
        t.out = s.out ∧
        (t.ring_ n.val).owed = false ∧
        t.regs = s.regs ∧
        t.log = s.log) ∧
  (∀ (s : State) (n : Fin 64) , (s.pwr.mainOn = true) →
      ((s.ring_ n.val).holdoff = true) →
      ((s.ring_ n.val).owed = true) →
      (s.get (R.RING_CTRL_INT_EN n.val) = 0) →
      Gives (exec (.msiXHoldoffEnd n) s) fun t =>
        t.host.pba = s.host.pba ∧
        t.out = s.out ∧
        (t.ring_ n.val).owed = false ∧
        t.regs = s.regs ∧
        t.log = s.log) ∧
  (∀ (s : State) (n : Fin 64) , (s.pwr.mainOn = true) →
      ((s.ring_ n.val).holdoff = false ∨ (s.ring_ n.val).owed = false) →
      Gives (exec (.msiXHoldoffEnd n) s) fun t =>
        t.out = s.out ∧
        (t.ring_ n.val).holdoff = false ∧
        (t.ring_ n.val).owed = false ∧
        t = { s with host := { s.host with rings := t.host.rings } })

/-- Node commands, time anchors, event copies, bulk reads and image chunks of the rings. NODE_READ and NODE_WRITE return at once with STATUS 2 for parameters out of range, 5 for a node that cannot be reached; NODE_WRITE with 3 outside a session and 4, with 0x0507, for a word the host may not write; else the command goes to its chain and its entry waits. Eight sweeps without a response return it with 5. TIME_ANCHOR anchors the log and returns with 0. An event copy returns the next record of its class, STATUS 1 with the count where records are gone. BULK_READ writes the bytes to the host, or returns 2. IMAGE_CHUNK stages its bytes, returns 2 where it does not fit, which ends the update, and ends in state 2 after the last. Nothing happens where the ring has no such entry. Readings that are the model's own, and no rule of the manual: log entries 80 and 82. -/
def Obligations.RingCommands : Prop :=
  (∀ (s : State) (n : Fin 64) (ctl : Word) (k h : BitVec 8) (a : BitVec 16) (m : BitVec 8), (s.pwr.mainOn = true) →
      (s.cmdReady n.val = true) →
      (opOf ctl = 0x10) →
      (s.badParam k.toNat h.toNat a.toNat m.toNat = true) →
      Gives (exec (.nodeRead n ctl k h a m) s) fun t =>
        t.get (R.RING_HEAD_HEAD n.val) = (s.get (R.RING_HEAD_HEAD n.val) + 1) % 65536 ∧
        t.get (R.RING_CNT n.val) = satNat (2 ^ (R.RING_CNT n.val).w - 1) (s.get (R.RING_CNT n.val) + 1) ∧
        (∃ o ∈ t.out, o = .dma n.val (s.entryAt n.val) (leBytes 4 (setBits (setBits ctl.toNat 0 1 0) 4 4 2))) ∧
        FieldsBut s t [R.RING_HEAD_HEAD n.val, R.RING_CNT n.val]) ∧
  (∀ (s : State) (n : Fin 64) (ctl : Word) (k h : BitVec 8) (a : BitVec 16) (m : BitVec 8), (s.pwr.mainOn = true) →
      (s.cmdReady n.val = true) →
      (opOf ctl = 0x10) →
      (s.badParam k.toNat h.toNat a.toNat m.toNat = false) →
      (s.noNode k.toNat (h.toNat - 1) = true) →
      Gives (exec (.nodeRead n ctl k h a m) s) fun t =>
        t.get (R.RING_HEAD_HEAD n.val) = (s.get (R.RING_HEAD_HEAD n.val) + 1) % 65536 ∧
        t.get (R.RING_CNT n.val) = satNat (2 ^ (R.RING_CNT n.val).w - 1) (s.get (R.RING_CNT n.val) + 1) ∧
        (∃ o ∈ t.out, o = .dma n.val (s.entryAt n.val) (leBytes 4 (setBits (setBits ctl.toNat 0 1 0) 4 4 5))) ∧
        FieldsBut s t [R.RING_HEAD_HEAD n.val, R.RING_CNT n.val]) ∧
  (∀ (s : State) (n : Fin 64) (ctl : Word) (k h : BitVec 8) (a : BitVec 16) (m : BitVec 8), (s.pwr.mainOn = true) →
      (s.cmdReady n.val = true) →
      (opOf ctl = 0x10) →
      (s.badParam k.toNat h.toNat a.toNat m.toNat = false) →
      (s.noNode k.toNat (h.toNat - 1) = false) →
      Gives (exec (.nodeRead n ctl k h a m) s) fun t =>
        (t.ring_ n.val).node = some { chain := k.toNat, hop := h.toNat - 1, opcode := 0x40, ctl := ctl, count := m.toNat } ∧
        t.get (R.RING_HEAD_HEAD n.val) = s.get (R.RING_HEAD_HEAD n.val) ∧
        ChainOnly s t k.toNat) ∧
  (∀ (s : State) (n : Fin 64) (ctl : Word) (k h : BitVec 8) (a : BitVec 16) (m : BitVec 8), (s.pwr.mainOn = true) →
      (s.cmdReady n.val = false ∨ opOf ctl ≠ 0x10) →
      Gives (exec (.nodeRead n ctl k h a m) s) fun t =>
        t = s) ∧
  (∀ (s : State) (n : Fin 64) (ctl : Word) (k h : BitVec 8) (a : BitVec 16) (m : BitVec 8) (w : List (BitVec 16)), (s.pwr.mainOn = true) →
      (s.cmdReady n.val = true) →
      (opOf ctl = 0x11) →
      (s.badParam k.toNat h.toNat a.toNat m.toNat = true) →
      Gives (exec (.nodeWrite n ctl k h a m w) s) fun t =>
        t.get (R.RING_HEAD_HEAD n.val) = (s.get (R.RING_HEAD_HEAD n.val) + 1) % 65536 ∧
        t.get (R.RING_CNT n.val) = satNat (2 ^ (R.RING_CNT n.val).w - 1) (s.get (R.RING_CNT n.val) + 1) ∧
        (∃ o ∈ t.out, o = .dma n.val (s.entryAt n.val) (leBytes 4 (setBits (setBits ctl.toNat 0 1 0) 4 4 2))) ∧
        FieldsBut s t [R.RING_HEAD_HEAD n.val, R.RING_CNT n.val]) ∧
  (∀ (s : State) (n : Fin 64) (ctl : Word) (k h : BitVec 8) (a : BitVec 16) (m : BitVec 8) (w : List (BitVec 16)), (s.pwr.mainOn = true) →
      (s.cmdReady n.val = true) →
      (opOf ctl = 0x11) →
      (s.badParam k.toNat h.toNat a.toNat m.toNat = false) →
      (s.session = false) →
      Gives (exec (.nodeWrite n ctl k h a m w) s) fun t =>
        t.get (R.RING_HEAD_HEAD n.val) = (s.get (R.RING_HEAD_HEAD n.val) + 1) % 65536 ∧
        t.get (R.RING_CNT n.val) = satNat (2 ^ (R.RING_CNT n.val).w - 1) (s.get (R.RING_CNT n.val) + 1) ∧
        (∃ o ∈ t.out, o = .dma n.val (s.entryAt n.val) (leBytes 4 (setBits (setBits ctl.toNat 0 1 0) 4 4 3))) ∧
        FieldsBut s t [R.RING_HEAD_HEAD n.val, R.RING_CNT n.val]) ∧
  (∀ (s : State) (n : Fin 64) (ctl : Word) (k h : BitVec 8) (a : BitVec 16) (m : BitVec 8) (w : List (BitVec 16)), (s.pwr.mainOn = true) →
      (s.cmdReady n.val = true) →
      (opOf ctl = 0x11) →
      (s.badParam k.toNat h.toNat a.toNat m.toNat = false) →
      (s.session = true) →
      ((List.range m.toNat).all (fun j => s.hostWord k.toNat (h.toNat - 1) (a.toNat + j)) = false) →
      Gives (exec (.nodeWrite n ctl k h a m w) s) fun t =>
        t.get (R.RING_HEAD_HEAD n.val) = (s.get (R.RING_HEAD_HEAD n.val) + 1) % 65536 ∧
        t.get (R.RING_CNT n.val) = satNat (2 ^ (R.RING_CNT n.val).w - 1) (s.get (R.RING_CNT n.val) + 1) ∧
        (∃ o ∈ t.out, o = .dma n.val (s.entryAt n.val) (leBytes 4 (setBits (setBits ctl.toNat 0 1 0) 4 4 4))) ∧
        FieldsBut s t [R.RING_HEAD_HEAD n.val, R.RING_CNT n.val] ∧
        (∃ j < m.toNat, s.hostWord k.toNat (h.toNat - 1) (a.toNat + j) = false ∧ (∀ i < j, s.hostWord k.toNat (h.toNat - 1) (a.toNat + i) = true) ∧ Logs s t [(0x0507, srcHop k.toNat (h.toNat - 1), [p1 0x41, p1 4, p2 (a.toNat + j)])])) ∧
  (∀ (s : State) (n : Fin 64) (ctl : Word) (k h : BitVec 8) (a : BitVec 16) (m : BitVec 8) (w : List (BitVec 16)), (s.pwr.mainOn = true) →
      (s.cmdReady n.val = true) →
      (opOf ctl = 0x11) →
      (s.badParam k.toNat h.toNat a.toNat m.toNat = false) →
      (s.session = true) →
      ((List.range m.toNat).all (fun j => s.hostWord k.toNat (h.toNat - 1) (a.toNat + j)) = true) →
      (s.noNode k.toNat (h.toNat - 1) = true) →
      Gives (exec (.nodeWrite n ctl k h a m w) s) fun t =>
        t.get (R.RING_HEAD_HEAD n.val) = (s.get (R.RING_HEAD_HEAD n.val) + 1) % 65536 ∧
        t.get (R.RING_CNT n.val) = satNat (2 ^ (R.RING_CNT n.val).w - 1) (s.get (R.RING_CNT n.val) + 1) ∧
        (∃ o ∈ t.out, o = .dma n.val (s.entryAt n.val) (leBytes 4 (setBits (setBits ctl.toNat 0 1 0) 4 4 5))) ∧
        FieldsBut s t [R.RING_HEAD_HEAD n.val, R.RING_CNT n.val]) ∧
  (∀ (s : State) (n : Fin 64) (ctl : Word) (k h : BitVec 8) (a : BitVec 16) (m : BitVec 8) (w : List (BitVec 16)), (s.pwr.mainOn = true) →
      (s.cmdReady n.val = true) →
      (opOf ctl = 0x11) →
      (s.badParam k.toNat h.toNat a.toNat m.toNat = false) →
      (s.session = true) →
      ((List.range m.toNat).all (fun j => s.hostWord k.toNat (h.toNat - 1) (a.toNat + j)) = true) →
      (s.noNode k.toNat (h.toNat - 1) = false) →
      Gives (exec (.nodeWrite n ctl k h a m w) s) fun t =>
        (t.ring_ n.val).node = some { chain := k.toNat, hop := h.toNat - 1, opcode := 0x41, ctl := ctl, count := m.toNat } ∧
        t.get (R.RING_HEAD_HEAD n.val) = s.get (R.RING_HEAD_HEAD n.val) ∧
        ChainOnly s t k.toNat) ∧
  (∀ (s : State) (n : Fin 64) (ctl : Word) (k h : BitVec 8) (a : BitVec 16) (m : BitVec 8) (w : List (BitVec 16)), (s.pwr.mainOn = true) →
      (s.cmdReady n.val = false ∨ opOf ctl ≠ 0x11) →
      Gives (exec (.nodeWrite n ctl k h a m w) s) fun t =>
        t = s) ∧
  (∀ (s : State) (n : Fin 64) (x : NodeCmd), (s.pwr.mainOn = true) →
      ((s.ring_ n.val).node = some x) →
      (s.ringReady n.val 1 = true) →
      Gives (exec (.nodeCommandTimeout n) s) fun t =>
        (t.ring_ n.val).node = none ∧
        t.get (R.RING_HEAD_HEAD n.val) = (s.get (R.RING_HEAD_HEAD n.val) + 1) % 65536 ∧
        t.get (R.RING_CNT n.val) = satNat (2 ^ (R.RING_CNT n.val).w - 1) (s.get (R.RING_CNT n.val) + 1) ∧
        (∃ o ∈ t.out, o = .dma n.val (s.entryAt n.val) (leBytes 4 (setBits (setBits x.ctl.toNat 0 1 0) 4 4 5))) ∧
        FieldsBut s t [R.RING_HEAD_HEAD n.val, R.RING_CNT n.val]) ∧
  (∀ (s : State) (n : Fin 64) , (s.pwr.mainOn = true) →
      ((s.ring_ n.val).node = none ∨ s.ringReady n.val 1 = false) →
      Gives (exec (.nodeCommandTimeout n) s) fun t =>
        t = s) ∧
  (∀ (s : State) (n : Fin 64) (ctl : Word) (u : BitVec 64) (v : Word) (q : BitVec 8), (s.pwr.mainOn = true) →
      (s.cmdReady n.val = true) →
      (opOf ctl = 0x20) →
      Gives (exec (.timeAnchor n ctl u v q) s) fun t =>
        t.get (R.RING_HEAD_HEAD n.val) = (s.get (R.RING_HEAD_HEAD n.val) + 1) % 65536 ∧
        t.get (R.RING_CNT n.val) = satNat (2 ^ (R.RING_CNT n.val).w - 1) (s.get (R.RING_CNT n.val) + 1) ∧
        (∃ o ∈ t.out, o = .dma n.val (s.entryAt n.val) (leBytes 4 (setBits (setBits ctl.toNat 0 1 0) 4 4 0))) ∧
        FieldsBut s t [R.RING_HEAD_HEAD n.val, R.RING_CNT n.val] ∧
        t.log = (s.anchor (u.setWidth 40) v q).log) ∧
  (∀ (s : State) (n : Fin 64) (ctl : Word) (u : BitVec 64) (v : Word) (q : BitVec 8), (s.pwr.mainOn = true) →
      (s.cmdReady n.val = false ∨ opOf ctl ≠ 0x20) →
      Gives (exec (.timeAnchor n ctl u v q) s) fun t =>
        t = s) ∧
  (∀ (s : State) (n : Fin 64) (ctl : Word), (s.pwr.mainOn = true) →
      (s.ringReady n.val 3 = true) →
      (s.nextRecord ((s.ring_ n.val).pos.getD s.log.startSeq) (s.tab.ringClass n.val) = none) →
      Gives (exec (.eventRingCopy n ctl) s) fun t =>
        t = s) ∧
  (∀ (s : State) (n : Fin 64) (ctl : Word), (s.pwr.mainOn = true) →
      (s.ringReady n.val 3 = false) →
      Gives (exec (.eventRingCopy n ctl) s) fun t =>
        t = s) ∧
  (∀ (s : State) (n : Fin 64) (ctl : Word) (r : LogRec), (s.pwr.mainOn = true) →
      (s.ringReady n.val 3 = true) →
      ((s.ring_ n.val).pos = some r.seq) →
      (s.nextRecord r.seq (s.tab.ringClass n.val) = some r) →
      Gives (exec (.eventRingCopy n ctl) s) fun t =>
        t.get (R.RING_HEAD_HEAD n.val) = (s.get (R.RING_HEAD_HEAD n.val) + 1) % 65536 ∧
        t.get (R.RING_CNT n.val) = satNat (2 ^ (R.RING_CNT n.val).w - 1) (s.get (R.RING_CNT n.val) + 1) ∧
        (∃ o ∈ t.out, o = .dma n.val (s.entryAt n.val) (leBytes 4 (setBits (setBits ctl.toNat 0 1 0) 4 4 0))) ∧
        FieldsBut s t [R.RING_HEAD_HEAD n.val, R.RING_CNT n.val] ∧
        (t.ring_ n.val).pos = some (r.seq + 1#32) ∧
        t.log = s.log ∧
        (∃ o ∈ t.out, o = .dma n.val (s.entryAt n.val + 0x20) r.bytes)) ∧
  (∀ (s : State) (n : Fin 64) (ctl : Word) (r : LogRec), (s.pwr.mainOn = true) →
      (s.ringReady n.val 3 = true) →
      (s.nextRecord ((s.ring_ n.val).pos.getD s.log.startSeq) (s.tab.ringClass n.val) = some r) →
      Gives (exec (.eventRingCopy n ctl) s) fun t =>
        t.get (R.RING_HEAD_HEAD n.val) = (s.get (R.RING_HEAD_HEAD n.val) + 1) % 65536 ∧
        t.get (R.RING_CNT n.val) = satNat (2 ^ (R.RING_CNT n.val).w - 1) (s.get (R.RING_CNT n.val) + 1) ∧
        (∃ o ∈ t.out, o = .dma n.val (s.entryAt n.val) (leBytes 4 (setBits (setBits ctl.toNat 0 1 0) 4 4 (if ((r.seq - (s.ring_ n.val).pos.getD s.log.startSeq).toNat - (s.log.held.filter (fun q => decide ((q.2.seq - (s.ring_ n.val).pos.getD s.log.startSeq).toNat < (r.seq - (s.ring_ n.val).pos.getD s.log.startSeq).toNat))).length) = 0 then 0 else 1)))) ∧
        FieldsBut s t [R.RING_HEAD_HEAD n.val, R.RING_CNT n.val, R.RING_MISSED n.val] ∧
        t.get (R.RING_MISSED n.val) = satNat (2 ^ (R.RING_MISSED n.val).w - 1) (s.get (R.RING_MISSED n.val) + ((r.seq - (s.ring_ n.val).pos.getD s.log.startSeq).toNat - (s.log.held.filter (fun q => decide ((q.2.seq - (s.ring_ n.val).pos.getD s.log.startSeq).toNat < (r.seq - (s.ring_ n.val).pos.getD s.log.startSeq).toNat))).length)) ∧
        Logs s t (if ((r.seq - (s.ring_ n.val).pos.getD s.log.startSeq).toNat - (s.log.held.filter (fun q => decide ((q.2.seq - (s.ring_ n.val).pos.getD s.log.startSeq).toNat < (r.seq - (s.ring_ n.val).pos.getD s.log.startSeq).toNat))).length) = 0 then [] else [(0x1008, src 9 n.val, [p2 ((r.seq - (s.ring_ n.val).pos.getD s.log.startSeq).toNat - (s.log.held.filter (fun q => decide ((q.2.seq - (s.ring_ n.val).pos.getD s.log.startSeq).toNat < (r.seq - (s.ring_ n.val).pos.getD s.log.startSeq).toNat))).length)])]) ∧
        (t.ring_ n.val).pos = some (r.seq + 1#32) ∧
        (∃ o ∈ t.out, o = .dma n.val (s.entryAt n.val + 4) (leBytes 4 r.seq.toNat)) ∧
        (∃ o ∈ t.out, o = .dma n.val (s.entryAt n.val + 0x20) r.bytes)) ∧
  (∀ (s : State) (n : Fin 64) (ctl : Word) (r : LogRec) (p : Word), (s.pwr.mainOn = true) →
      (s.ringReady n.val 3 = true) →
      ((s.ring_ n.val).pos = some p) →
      (s.nextRecord p (s.tab.ringClass n.val) = some r) →
      (s.log.held.length = 1) →
      (r.seq ≠ p) →
      Gives (exec (.eventRingCopy n ctl) s) fun t =>
        t.get (R.RING_HEAD_HEAD n.val) = (s.get (R.RING_HEAD_HEAD n.val) + 1) % 65536 ∧
        t.get (R.RING_CNT n.val) = satNat (2 ^ (R.RING_CNT n.val).w - 1) (s.get (R.RING_CNT n.val) + 1) ∧
        (∃ o ∈ t.out, o = .dma n.val (s.entryAt n.val) (leBytes 4 (setBits (setBits ctl.toNat 0 1 0) 4 4 1))) ∧
        FieldsBut s t [R.RING_HEAD_HEAD n.val, R.RING_CNT n.val, R.RING_MISSED n.val] ∧
        t.get (R.RING_MISSED n.val) = satNat (2 ^ (R.RING_MISSED n.val).w - 1) (s.get (R.RING_MISSED n.val) + (r.seq - p).toNat) ∧
        (t.ring_ n.val).pos = some (r.seq + 1#32) ∧
        Logs s t [(0x1008, src 9 n.val, [p2 (r.seq - p).toNat])]) ∧
  (∀ (s : State) (n : Fin 64) (ctl : Word) (d : BitVec 64) (m : Word) (p : BitVec 8) (o : BitVec 64), (s.pwr.mainOn = true) →
      (s.ringReady n.val 4 = true) →
      (d.toNat % 8 = 0) →
      (8 ≤ m.toNat) →
      (m.toNat ≤ 4194304) →
      (m.toNat % 8 = 0) →
      (p = 0#8) →
      (o.toNat % 8 = 0) →
      (o.toNat + m.toNat ≤ 0x4000000) →
      Gives (exec (.bulkRead n ctl d m p o []) s) fun t =>
        t.get (R.RING_HEAD_HEAD n.val) = (s.get (R.RING_HEAD_HEAD n.val) + 1) % 65536 ∧
        t.get (R.RING_CNT n.val) = satNat (2 ^ (R.RING_CNT n.val).w - 1) (s.get (R.RING_CNT n.val) + 1) ∧
        (∃ o ∈ t.out, o = .dma n.val (s.entryAt n.val) (leBytes 4 (setBits (setBits ctl.toNat 0 1 0) 4 4 0))) ∧
        FieldsBut s t [R.RING_HEAD_HEAD n.val, R.RING_CNT n.val] ∧
        (∃ x ∈ t.out, x = .dma n.val d.toNat (s.bulkBytes 0 o.toNat m.toNat)) ∧
        t.log = s.log) ∧
  (∀ (s : State) (n : Fin 64) (ctl : Word) (d : BitVec 64) (m : Word) (p : BitVec 8) (o : BitVec 64) (e : List (BitVec 26 × Bool)), (s.pwr.mainOn = true) →
      (s.ringReady n.val 4 = true) →
      (d.toNat % 8 ≠ 0 ∨ m.toNat < 8 ∨ 4194304 < m.toNat ∨ m.toNat % 8 ≠ 0 ∨ 1 < p.toNat ∨ o.toNat % 8 ≠ 0 ∨ (p = 0#8 ∧ 0x4000000 < o.toNat + m.toNat) ∨ (p = 1#8 ∧ 32 * allSlots < o.toNat + m.toNat)) →
      Gives (exec (.bulkRead n ctl d m p o e) s) fun t =>
        t.get (R.RING_HEAD_HEAD n.val) = (s.get (R.RING_HEAD_HEAD n.val) + 1) % 65536 ∧
        t.get (R.RING_CNT n.val) = satNat (2 ^ (R.RING_CNT n.val).w - 1) (s.get (R.RING_CNT n.val) + 1) ∧
        (∃ o ∈ t.out, o = .dma n.val (s.entryAt n.val) (leBytes 4 (setBits (setBits ctl.toNat 0 1 0) 4 4 2)))) ∧
  (∀ (s : State) (n : Fin 64) (ctl : Word) (d : BitVec 64) (m : Word) (p : BitVec 8) (o : BitVec 64) (e : List (BitVec 26 × Bool)), (s.pwr.mainOn = true) →
      (s.ringReady n.val 4 = true) →
      (d.toNat % 8 = 0) →
      (8 ≤ m.toNat) →
      (m.toNat ≤ 4194304) →
      (m.toNat % 8 = 0) →
      ((p = 0#8 ∧ o.toNat + m.toNat ≤ 0x4000000) ∨ (p = 1#8 ∧ o.toNat + m.toNat ≤ 32 * allSlots)) →
      (o.toNat % 8 = 0) →
      Gives (exec (.bulkRead n ctl d m p o e) s) fun t =>
        t.get (R.RING_HEAD_HEAD n.val) = (s.get (R.RING_HEAD_HEAD n.val) + 1) % 65536 ∧
        t.get (R.RING_CNT n.val) = satNat (2 ^ (R.RING_CNT n.val).w - 1) (s.get (R.RING_CNT n.val) + 1) ∧
        (∃ o ∈ t.out, o = .dma n.val (s.entryAt n.val) (leBytes 4 (setBits (setBits ctl.toNat 0 1 0) 4 4 0))) ∧
        (∃ x ∈ t.out, x = .dma n.val d.toNat (s.bulkBytes p.toNat o.toNat m.toNat))) ∧
  (∀ (s : State) (n : Fin 64) (ctl : Word) (d : BitVec 64) (m : Word) (p : BitVec 8) (o : BitVec 64) (e : List (BitVec 26 × Bool)), (s.pwr.mainOn = true) →
      (s.ringReady n.val 4 = false) →
      Gives (exec (.bulkRead n ctl d m p o e) s) fun t =>
        t.get (R.RING_HEAD_HEAD n.val) = s.get (R.RING_HEAD_HEAD n.val) ∧
        (s.eccWords e).regs = t.regs ∧
        (e = [] → t = s)) ∧
  (∀ (s : State) (n : Fin 64) (ctl : Word) (a : BitVec 64) (m : Word) (l : Bool) (b : List Byte) (f : Option (BitVec 32)), (s.pwr.mainOn = true) →
      (s.ringReady n.val 5 = false ∨ s.get R.IMG_STAT_UPD_STATE ≠ 1 ∨ s.get R.IMG_UPD_RING ≠ n.val) →
      Gives (exec (.imageChunk n ctl a m l b f) s) fun t =>
        t = s) ∧
  (∀ (s : State) (n : Fin 64) (ctl : Word) (a : BitVec 64) (m : Word) (l : Bool) (b : List Byte) (f : Option (BitVec 32)), (s.pwr.mainOn = true) →
      (s.ringReady n.val 5 = true) →
      (s.get R.IMG_STAT_UPD_STATE = 1) →
      (s.get R.IMG_UPD_RING = n.val) →
      (a.toNat % 4 ≠ 0 ∨ m.toNat < 4 ∨ 65536 < m.toNat ∨ m.toNat % 4 ≠ 0) →
      Gives (exec (.imageChunk n ctl a m l b f) s) fun t =>
        t.get (R.RING_HEAD_HEAD n.val) = (s.get (R.RING_HEAD_HEAD n.val) + 1) % 65536 ∧
        t.get (R.RING_CNT n.val) = satNat (2 ^ (R.RING_CNT n.val).w - 1) (s.get (R.RING_CNT n.val) + 1) ∧
        (∃ o ∈ t.out, o = .dma n.val (s.entryAt n.val) (leBytes 4 (setBits (setBits ctl.toNat 0 1 0) 4 4 2))) ∧
        FieldsBut s t [R.RING_HEAD_HEAD n.val, R.RING_CNT n.val] ∧
        t.img = s.img) ∧
  (∀ (s : State) (n : Fin 64) (ctl : Word) (a : BitVec 64) (m : Word) (l : Bool) (b : List Byte) (f : Option (BitVec 32)), (s.pwr.mainOn = true) →
      (s.ringReady n.val 5 = true) →
      (s.get R.IMG_STAT_UPD_STATE = 1) →
      (s.get R.IMG_UPD_RING = n.val) →
      (a.toNat % 4 = 0) →
      (4 ≤ m.toNat) →
      (m.toNat ≤ 65536) →
      (m.toNat % 4 = 0) →
      (min 16777216 s.img.slotSize < s.get R.IMG_UPD_LEN + m.toNat) →
      Gives (exec (.imageChunk n ctl a m l b f) s) fun t =>
        t.get (R.RING_HEAD_HEAD n.val) = (s.get (R.RING_HEAD_HEAD n.val) + 1) % 65536 ∧
        t.get (R.RING_CNT n.val) = satNat (2 ^ (R.RING_CNT n.val).w - 1) (s.get (R.RING_CNT n.val) + 1) ∧
        (∃ o ∈ t.out, o = .dma n.val (s.entryAt n.val) (leBytes 4 (setBits (setBits ctl.toNat 0 1 0) 4 4 2))) ∧
        t.get R.IMG_STAT_UPD_STATE = 6 ∧
        t.get R.IMG_UPD_LEN = s.get R.IMG_UPD_LEN ∧
        t.img = s.img ∧
        Logs s t [(0x0209, chip, [p2 0x1001, pS 0])]) ∧
  (∀ (s : State) (n : Fin 64) (ctl : Word) (a : BitVec 64) (m : Word) (l : Bool) (b : List Byte) (f : Option (BitVec 32)), (s.pwr.mainOn = true) →
      (s.ringReady n.val 5 = true) →
      (s.get R.IMG_STAT_UPD_STATE = 1) →
      (s.get R.IMG_UPD_RING = n.val) →
      (a.toNat % 4 = 0) →
      (4 ≤ m.toNat) →
      (m.toNat ≤ 65536) →
      (m.toNat % 4 = 0) →
      (s.get R.IMG_UPD_LEN + m.toNat ≤ min 16777216 s.img.slotSize) →
      (f = none) →
      Gives (exec (.imageChunk n ctl a m l b f) s) fun t =>
        t.get (R.RING_HEAD_HEAD n.val) = (s.get (R.RING_HEAD_HEAD n.val) + 1) % 65536 ∧
        t.get (R.RING_CNT n.val) = satNat (2 ^ (R.RING_CNT n.val).w - 1) (s.get (R.RING_CNT n.val) + 1) ∧
        (∃ o ∈ t.out, o = .dma n.val (s.entryAt n.val) (leBytes 4 (setBits (setBits ctl.toNat 0 1 0) 4 4 0))) ∧
        FieldsBut s t [R.RING_HEAD_HEAD n.val, R.RING_CNT n.val, R.IMG_UPD_LEN, R.IMG_STAT_UPD_STATE] ∧
        t.get R.IMG_UPD_LEN = s.get R.IMG_UPD_LEN + m.toNat ∧
        t.get R.IMG_STAT_UPD_STATE = (if l then 2 else 1) ∧
        t.img = (s.stageBytes (s.get R.IMG_UPD_LEN) (slice 0#8 b 0 m.toNat)).img ∧
        t.log = s.log) ∧
  (∀ (s : State) (n : Fin 64) (ctl : Word) (a : BitVec 64) (m : Word) (l : Bool) (b : List Byte) (f : Option (BitVec 32)), (s.pwr.mainOn = true) →
      (s.ringReady n.val 5 = true) →
      (s.get R.IMG_STAT_UPD_STATE = 1) →
      (s.get R.IMG_UPD_RING = n.val) →
      (a.toNat % 4 = 0) →
      (4 ≤ m.toNat) →
      (m.toNat ≤ 65536) →
      (m.toNat % 4 = 0) →
      (s.get R.IMG_UPD_LEN + m.toNat ≤ min 16777216 s.img.slotSize) →
      (f ≠ none) →
      Gives (exec (.imageChunk n ctl a m l b f) s) fun t =>
        t.get R.IMG_STAT_UPD_STATE = 7 ∧
        t.get (R.RING_HEAD_HEAD n.val) = s.get (R.RING_HEAD_HEAD n.val) ∧
        (∀ x, f = some x → Logs s t [(0x020A, chip, [p1 s.targetSlot, p2 x.toNat])]))

/-- The publication in progress, interrupt causes and masks, resets of the endpoint and the link state. A publication whose streams are complete is written back with STATUS 0 at once where Q is 0, else at its angle; LAST takes its epoch. An abort writes it back with STATUS 1, counts in ABORTED and logs 0x1005. HOST_ICAUSE bits clear by writing 1, and stay set where their cause sets in the same cycle. HOST_IMASK takes masks and vector, an undefined vector is 0x1001; an unmasked cause that is set sends its message. PERST_N low and a function-level reset put rings, causes and MSI-X back at reset, leave stage 4 and log 0x100A, and keep ring types and publication counters. Stage 4 holds from stage 3 while link, PERST_N and bus mastering all stand, but is not entered in a sleep sequence; each change is logged as 0x1006, and its first entry takes its time. Readings that are the model's own, and no rule of the manual: log entries 81, 83 and 106. -/
def Obligations.PublicationAndEndpoint : Prop :=
  (∀ (s : State) (u : Word), (s.pwr.mainOn = true) →
      (s.pubRuns = true) →
      (s.get R.SWP_SCHED2_Q ≠ 0) →
      (s.host.pub.angleHit = false) →
      (s.host.pub.done = true) →
      Gives (exec (.publicationAngle u) s) fun t =>
        t.get R.HOST_PUB_STAT_ACTIVE = 0 ∧
        t.get (R.RING_HEAD_HEAD (s.get R.HOST_PUB_STAT_RING)) = (s.get (R.RING_HEAD_HEAD (s.get R.HOST_PUB_STAT_RING)) + 1) % 65536 ∧
        t.get (R.RING_CNT (s.get R.HOST_PUB_STAT_RING)) = satNat (2 ^ (R.RING_CNT (s.get R.HOST_PUB_STAT_RING)).w - 1) (s.get (R.RING_CNT (s.get R.HOST_PUB_STAT_RING)) + 1) ∧
        (∃ o ∈ t.out, o = .dma (s.get R.HOST_PUB_STAT_RING) (s.entryAt (s.get R.HOST_PUB_STAT_RING)) (leBytes 4 (setBits (setBits s.host.pub.ctl.toNat 0 1 0) 4 4 0))) ∧
        t.get R.HOST_PUB_LAST = s.host.pub.epoch.toNat ∧
        t.log = (s.moveTo (s.host.pub.angle + s.get R.SWP_SCHED2_Q)).log ∧
        t.ang = (s.moveTo (s.host.pub.angle + s.get R.SWP_SCHED2_Q)).ang ∧
        RegsBut s t [Blk.ANG, Blk.RING, Blk.HOST]) ∧
  (∀ (s : State) (u : Word), (s.pwr.mainOn = true) →
      (s.pubRuns = true) →
      (s.get R.SWP_SCHED2_Q ≠ 0) →
      (s.host.pub.angleHit = false) →
      (s.host.pub.done = false) →
      Gives (exec (.publicationAngle u) s) fun t =>
        t.host = { s.host with pub := { s.host.pub with angleHit := true } } ∧
        t.log = (s.moveTo (s.host.pub.angle + s.get R.SWP_SCHED2_Q)).log ∧
        t.ang = (s.moveTo (s.host.pub.angle + s.get R.SWP_SCHED2_Q)).ang ∧
        t.ang.au = (s.host.pub.angle + s.get R.SWP_SCHED2_Q) % 65536 ∧
        RegsBut s t [Blk.ANG]) ∧
  (∀ (s : State) (u : Word), (s.pwr.mainOn = true) →
      (s.pubRuns = false ∨ s.get R.SWP_SCHED2_Q = 0 ∨ s.host.pub.angleHit = true) →
      Gives (exec (.publicationAngle u) s) fun t =>
        t = s) ∧
  (∀ (s : State) (u : Word), (s.pwr.mainOn = true) →
      (s.pubRuns = true) →
      (s.host.pub.done = false) →
      (s.est.busy = 0#8) →
      (s.sop.epoch = s.host.pub.epoch) →
      (s.get R.SWP_SCHED2_Q = 0 ∨ s.host.pub.angleHit = true) →
      Gives (exec (.publicationComplete u) s) fun t =>
        t.get R.HOST_PUB_STAT_ACTIVE = 0 ∧
        t.get (R.RING_HEAD_HEAD (s.get R.HOST_PUB_STAT_RING)) = (s.get (R.RING_HEAD_HEAD (s.get R.HOST_PUB_STAT_RING)) + 1) % 65536 ∧
        t.get (R.RING_CNT (s.get R.HOST_PUB_STAT_RING)) = satNat (2 ^ (R.RING_CNT (s.get R.HOST_PUB_STAT_RING)).w - 1) (s.get (R.RING_CNT (s.get R.HOST_PUB_STAT_RING)) + 1) ∧
        (∃ o ∈ t.out, o = .dma (s.get R.HOST_PUB_STAT_RING) (s.entryAt (s.get R.HOST_PUB_STAT_RING)) (leBytes 4 (setBits (setBits s.host.pub.ctl.toNat 0 1 0) 4 4 0))) ∧
        t.get R.HOST_PUB_LAST = s.host.pub.epoch.toNat ∧
        t.host.pub.done = true ∧
        (∃ o ∈ t.out, o = .dma (s.get R.HOST_PUB_STAT_RING) s.host.pub.addr.toNat s.pubBuffer)) ∧
  (∀ (s : State) (u : Word), (s.pwr.mainOn = true) →
      (s.pubRuns = true) →
      (s.host.pub.done = false) →
      (s.est.busy = 0#8) →
      (s.sop.epoch = s.host.pub.epoch) →
      (s.get R.SWP_SCHED2_Q ≠ 0) →
      (s.host.pub.angleHit = false) →
      Gives (exec (.publicationComplete u) s) fun t =>
        t.host.pub = { s.host.pub with done := true } ∧
        t.out = .dma (s.get R.HOST_PUB_STAT_RING) s.host.pub.addr.toNat s.pubBuffer :: s.out ∧
        t = { s with host := t.host, out := t.out }) ∧
  (∀ (s : State) (u : Word), (s.pwr.mainOn = true) →
      (s.pubRuns = false ∨ s.host.pub.done = true ∨ s.est.busy ≠ 0#8 ∨ s.sop.epoch ≠ s.host.pub.epoch) →
      Gives (exec (.publicationComplete u) s) fun t =>
        t = s) ∧
  (∀ (s : State) (b u : Word), (s.pwr.mainOn = true) →
      (s.pubRuns = true) →
      Gives (exec (.publicationAbort b u) s) fun t =>
        t.get R.HOST_PUB_STAT_ACTIVE = 0 ∧
        t.get (R.RING_HEAD_HEAD (s.get R.HOST_PUB_STAT_RING)) = (s.get (R.RING_HEAD_HEAD (s.get R.HOST_PUB_STAT_RING)) + 1) % 65536 ∧
        t.get (R.RING_CNT (s.get R.HOST_PUB_STAT_RING)) = satNat (2 ^ (R.RING_CNT (s.get R.HOST_PUB_STAT_RING)).w - 1) (s.get (R.RING_CNT (s.get R.HOST_PUB_STAT_RING)) + 1) ∧
        (∃ o ∈ t.out, o = .dma (s.get R.HOST_PUB_STAT_RING) (s.entryAt (s.get R.HOST_PUB_STAT_RING)) (leBytes 4 (setBits (setBits s.host.pub.ctl.toNat 0 1 0) 4 4 1))) ∧
        t.get R.HOST_PUB_ABORTED = satNat (2 ^ R.HOST_PUB_ABORTED.w - 1) (s.get R.HOST_PUB_ABORTED + 1) ∧
        Logs s t [(0x1005, chip, [p2 s.host.pub.epoch.toNat, pn 4 b.toNat])] ∧
        t.get R.HOST_PUB_LAST = s.get R.HOST_PUB_LAST) ∧
  (∀ (s : State) (b u : Word), (s.pwr.mainOn = true) →
      (s.pubRuns = false) →
      Gives (exec (.publicationAbort b u) s) fun t =>
        t = s) ∧
  (∀ (s : State) (x y : BitVec 9), (s.pwr.mainOn = true) →
      (1 ≤ s.stage) →
      (s.host.perstHigh = true) →
      Gives (exec (.hostIcause x y) s) fun t =>
        t.host.icause = (s.host.icause &&& ~~~x) ||| y ∧
        t.regs = s.regs ∧
        t.log = s.log) ∧
  (∀ (s : State) (v : Word), (s.pwr.mainOn = true) →
      (1 ≤ s.stage) →
      (s.host.perstHigh = true) →
      (72 ≤ bitsOf v.toNat 16 7) →
      (bitsOf v.toNat 16 7 ≠ 127) →
      Gives (exec (.hostImask v) s) fun t =>
        Logs s t [(0x1001, chip, [p2 4])] ∧
        FieldsBut s t [] ∧
        RegsOnly s t) ∧
  (∀ (s : State) (v : Word), (s.pwr.mainOn = true) →
      (1 ≤ s.stage) →
      (s.host.perstHigh = true) →
      (bitsOf v.toNat 16 7 < 72 ∨ bitsOf v.toNat 16 7 = 127) →
      Gives (exec (.hostImask v) s) fun t =>
        t.get R.HOST_IMASK_MASK = bitsOf v.toNat 0 8 ∧
        t.get R.HOST_IMASK_MBOX_MASK = bitsOf v.toNat 8 1 ∧
        t.get R.HOST_IMASK_MBOX_VEC = bitsOf v.toNat 16 7 ∧
        FieldsBut s t [R.HOST_IMASK_MASK, R.HOST_IMASK_MBOX_MASK, R.HOST_IMASK_MBOX_VEC] ∧
        t.host.icause = s.host.icause ∧
        t.log = s.log) ∧
  (∀ (s : State) (v : Word) (j : Fin 8), (s.pwr.mainOn = true) →
      (1 ≤ s.stage) →
      (s.host.perstHigh = true) →
      (bitsOf v.toNat 16 7 < 72 ∨ bitsOf v.toNat 16 7 = 127) →
      (s.bit R.HOST_IMASK_MASK j.val = true) →
      (v.getLsbD j.val = false) →
      (s.host.icause.getLsbD j.val = true) →
      (s.get (R.MSIX_VCTRL_MASKED (64 + j.val)) = 0) →
      (s.host.linkUp = true) →
      (s.host.busMaster = true) →
      Gives (exec (.hostImask v) s) fun t =>
        (∃ o ∈ t.out, o = .msix (64 + j.val))) ∧
  (∀ (s : State) (x : BitVec 24), (s.stage = 3) →
      (s.host.linkUp = true) →
      (s.host.busMaster = true) →
      (s.get R.PWR_STAT_SLEEP_PENDING = 0) →
      Gives (exec (.perstN (some x)) s) fun t =>
        t.stage = 4 ∧
        t.host.perstHigh = true ∧
        Logs s t [(0x1006, chip, [p1 1])] ∧
        t.get (R.PWR_STAGE_T_T 3) = (if s.get (R.PWR_STAGE_T_T 3) = 0xFFFFFF then x.toNat else s.get (R.PWR_STAGE_T_T 3))) ∧
  (∀ (s : State) (x : BitVec 24), (s.stage = 3) →
      (s.host.linkUp = false ∨ s.host.busMaster = false ∨ s.get R.PWR_STAT_SLEEP_PENDING = 1) →
      Gives (exec (.perstN (some x)) s) fun t =>
        t = { s with host := { s.host with perstHigh := true } }) ∧
  (∀ (s : State) (x : BitVec 24), (s.stage = 4) →
      (s.host.linkUp = true) →
      (s.host.busMaster = true) →
      Gives (exec (.perstN (some x)) s) fun t =>
        t = { s with host := { s.host with perstHigh := true } }) ∧
  (∀ (s : State) (x : BitVec 24), (s.stage ≠ 3) →
      (s.stage ≠ 4) →
      Gives (exec (.perstN (some x)) s) fun t =>
        t = { s with host := { s.host with perstHigh := true } }) ∧
  (∀ (s : State), (s.pwr.mainOn = false) →
      Gives (exec (.perstN none) s) fun t =>
        t = { s with host := { s.host with perstHigh := false } }) ∧
  (∀ (s : State), (s.pwr.mainOn = true) →
      Gives (exec (.perstN none) s) fun t =>
        t.host.linkUp = false ∧
        t.host.perstHigh = false ∧
        t.host.busMaster = false ∧
        (∀ n < 64, t.get (R.RING_STAT_STATE n) = 0 ∧ t.get (R.RING_HEAD_HEAD n) = 0 ∧ t.get (R.RING_STAT_TYPE n) = s.get (R.RING_STAT_TYPE n) ∧ (t.ring_ n).node = none ∧ (t.ring_ n).pos = (s.ring_ n).pos) ∧
        t.get R.HOST_PUB_SKIPPED = s.get R.HOST_PUB_SKIPPED ∧
        t.get R.HOST_PUB_ABORTED = s.get R.HOST_PUB_ABORTED ∧
        t.get R.HOST_PUB_STAT_FLAGS = s.get R.HOST_PUB_STAT_FLAGS ∧
        t.get R.MAC_STAT = s.get R.MAC_STAT ∧
        t.stage = (if s.stage = 4 then 3 else s.stage) ∧
        Logs s t (if s.stage = 4 then [(0x1006, chip, [p1 1]), (0x100A, chip, [])] else [(0x100A, chip, [])]) ∧
        RegsBut s t [Blk.RING, Blk.HOST, Blk.MSIX, Blk.MAC, Blk.GLOBAL] ∧
        t.nodes = s.nodes ∧
        t.img = s.img) ∧
  (∀ (s : State), (s.pwr.mainOn = true) →
      Gives (exec (.functionLevelReset) s) fun t =>
        t.host.linkUp = s.host.linkUp ∧
        t.host.perstHigh = s.host.perstHigh ∧
        t.host.busMaster = false ∧
        (∀ n < 64, t.get (R.RING_STAT_STATE n) = 0 ∧ t.get (R.RING_HEAD_HEAD n) = 0 ∧ t.get (R.RING_STAT_TYPE n) = s.get (R.RING_STAT_TYPE n) ∧ (t.ring_ n).node = none ∧ (t.ring_ n).pos = (s.ring_ n).pos) ∧
        t.get R.HOST_PUB_SKIPPED = s.get R.HOST_PUB_SKIPPED ∧
        t.get R.HOST_PUB_ABORTED = s.get R.HOST_PUB_ABORTED ∧
        t.get R.HOST_PUB_STAT_FLAGS = s.get R.HOST_PUB_STAT_FLAGS ∧
        t.get R.MAC_STAT = s.get R.MAC_STAT ∧
        t.stage = (if s.stage = 4 then 3 else s.stage) ∧
        Logs s t (if s.stage = 4 then [(0x1006, chip, [p1 1]), (0x100A, chip, [])] else [(0x100A, chip, [])]) ∧
        RegsBut s t [Blk.RING, Blk.HOST, Blk.MSIX, Blk.MAC, Blk.GLOBAL] ∧
        t.nodes = s.nodes ∧
        t.img = s.img) ∧
  (∀ (s : State) (x : BitVec 24), (s.pwr.mainOn = true) →
      (s.stage = 3) →
      (s.host.perstHigh = true) →
      (s.get R.PWR_STAT_SLEEP_PENDING = 0) →
      Gives (exec (.pcieLinkChange (some x) true) s) fun t =>
        t.host.linkUp = true ∧
        t.host.busMaster = true ∧
        t.stage = 4 ∧
        t.get (R.PWR_STAGE_T_T 3) = (if s.get (R.PWR_STAGE_T_T 3) = 0xFFFFFF then x.toNat else s.get (R.PWR_STAGE_T_T 3)) ∧
        Logs s t [(0x1006, chip, [p1 (if s.host.linkUp then 2 else 0)])]) ∧
  (∀ (s : State) (x : Option (BitVec 24)) (b : Bool), (s.pwr.mainOn = true) →
      (s.stage = 4) →
      (x = none ∨ b = false ∨ s.host.perstHigh = false) →
      Gives (exec (.pcieLinkChange x b) s) fun t =>
        t.host.linkUp = (x.isSome && s.host.perstHigh) ∧
        t.host.busMaster = (b && (x.isSome && s.host.perstHigh)) ∧
        t.stage = 3 ∧
        (∀ n < 64, s.get (R.RING_STAT_STATE n) = 1 → t.get (R.RING_STAT_STATE n) = 2) ∧
        Logs s t [(0x1006, chip, [p1 (if (x.isSome && s.host.perstHigh) = s.host.linkUp then 2 else 0)])]) ∧
  (∀ (s : State) (x : Option (BitVec 24)) (b : Bool), (s.pwr.mainOn = true) →
      (s.stage ≠ 3) →
      (s.stage ≠ 4) →
      Gives (exec (.pcieLinkChange x b) s) fun t =>
        t.host.linkUp = (x.isSome && s.host.perstHigh) ∧
        t.host.busMaster = (b && (x.isSome && s.host.perstHigh)) ∧
        t.regs = s.regs ∧
        t.log = s.log) ∧
  (∀ (s : State) (x : Option (BitVec 24)) (b : Bool), (s.pwr.mainOn = true) →
      (s.stage = 3) →
      (x = none ∨ b = false ∨ s.host.perstHigh = false ∨ s.get R.PWR_STAT_SLEEP_PENDING = 1) →
      Gives (exec (.pcieLinkChange x b) s) fun t =>
        t.host.linkUp = (x.isSome && s.host.perstHigh) ∧
        t.host.busMaster = (b && (x.isSome && s.host.perstHigh)) ∧
        t.regs = s.regs ∧
        t.log = s.log) ∧
  (∀ (s : State) (x : BitVec 24), (s.pwr.mainOn = true) →
      (s.stage = 4) →
      (s.host.perstHigh = true) →
      Gives (exec (.pcieLinkChange (some x) true) s) fun t =>
        t.host.linkUp = true ∧
        t.host.busMaster = true ∧
        t.regs = s.regs ∧
        t.log = s.log)

/-- Link state and bus-off of the MACs, and received host frames. ETH_LINK_CHANGE shows up and speed, speed 0 with the link down; CAN_BUS_OFF its bit. A received frame of a medium without host traffic, or before stage 2, has no effect. From stage 3 a CAN frame that a filter matches, and an Ethernet frame for the module that is no safe frame and not answered, wait for the host with medium, flags, identifier and time. From stage 2 an ARP request or an ICMP echo request for the module is answered, at most 10 in a second; one beyond them waits for the host. Any other frame has no effect. Readings that are the model's own, and no rule of the manual: log entries 84 and 115. -/
def Obligations.MacTraffic : Prop :=
  (∀ (s : State) (e u : Bool) (v : BitVec 2), (s.pwr.mainOn = true) →
      Gives (exec (.ethLinkChange e u v) s) fun t =>
        t.get (if e then R.MAC_STAT_ETH1_UP else R.MAC_STAT_ETH0_UP) = b2n u ∧
        t.get (if e then R.MAC_STAT_ETH1_SPEED else R.MAC_STAT_ETH0_SPEED) = (if u then v.toNat else 0) ∧
        FieldsBut s t (if e then [R.MAC_STAT_ETH1_UP, R.MAC_STAT_ETH1_SPEED] else [R.MAC_STAT_ETH0_UP, R.MAC_STAT_ETH0_SPEED]) ∧
        t = { s with regs := t.regs }) ∧
  (∀ (s : State) (e u : Bool), (s.pwr.mainOn = true) →
      Gives (exec (.canBusOff e u) s) fun t =>
        t.get (if e then R.MAC_STAT_CAN1_BUSOFF else R.MAC_STAT_CAN0_BUSOFF) = b2n u ∧
        FieldsBut s t [if e then R.MAC_STAT_CAN1_BUSOFF else R.MAC_STAT_CAN0_BUSOFF] ∧
        t = { s with regs := t.regs }) ∧
  (∀ (s : State) (m : Fin 4) (i : Word) (d r : Bool) (b : List Byte), (s.pwr.mainOn = true) →
      (s.tab.hostOn m.val = false ∨ s.stage < 2) →
      Gives (exec (.macFrameRx m i d r b) s) fun t =>
        t = s) ∧
  (∀ (s : State) (m : Fin 4) (i : Word) (d r : Bool) (b : List Byte), (s.pwr.mainOn = true) →
      (s.tab.hostOn m.val = true) →
      (m.val < 2) →
      (s.tab.canFilter m.val i.toNat = true) →
      (3 ≤ s.stage) →
      Gives (exec (.macFrameRx m i d r b) s) fun t =>
        t = { s with host := { s.host with rxWait := s.host.rxWait ++ [(m.val, leBytes 2 b.length ++ leBytes 1 m.val ++ leBytes 1 (b2n d + 2 * b2n r + 4 * bitsOf i.toNat 31 1) ++ leBytes 4 (bitsOf i.toNat 0 29) ++ leBytes 4 s.now ++ leBytes 4 0 ++ b)] } }) ∧
  (∀ (s : State) (m : Fin 4) (i : Word) (d r : Bool) (b : List Byte), (s.pwr.mainOn = true) →
      (m.val < 2) →
      (s.tab.canFilter m.val i.toNat = false ∨ s.stage < 3) →
      Gives (exec (.macFrameRx m i d r b) s) fun t =>
        t = s) ∧
  (∀ (s : State) (m : Fin 4) (i : Word) (d r : Bool) (b : List Byte), (s.pwr.mainOn = true) →
      (2 ≤ m.val) →
      (slice 0#8 b 0 6 ≠ s.tab.macAddr m.val ∧ slice 0#8 b 0 6 ≠ List.replicate 6 0xFF#8) →
      Gives (exec (.macFrameRx m i d r b) s) fun t =>
        t = s) ∧
  (∀ (s : State) (m : Fin 4) (i : Word) (d r : Bool) (b : List Byte), (s.pwr.mainOn = true) →
      (s.tab.hostOn m.val = true) →
      (2 ≤ m.val) →
      (3 ≤ s.stage) →
      (slice 0#8 b 0 6 = s.tab.macAddr m.val ∨ slice 0#8 b 0 6 = List.replicate 6 0xFF#8) →
      (s.tab.inetAnswer m.val b = none ∨ 10 ≤ ((Sparse.get (fun _ => []) s.host.answers (m.val - 2)).filter (fun x => decide (s.now < x + 1000))).length) →
      (s.tab.sflPorts m.val b = false) →
      Gives (exec (.macFrameRx m i d r b) s) fun t =>
        t = { s with host := { s.host with rxWait := s.host.rxWait ++ [(m.val, leBytes 2 b.length ++ leBytes 1 m.val ++ leBytes 1 0 ++ leBytes 4 0 ++ leBytes 4 s.now ++ leBytes 4 0 ++ b)] } }) ∧
  (∀ (s : State) (m : Fin 4) (i : Word) (d r : Bool) (b : List Byte), (s.pwr.mainOn = true) →
      (2 ≤ m.val) →
      (slice 0#8 b 0 6 = s.tab.macAddr m.val ∨ slice 0#8 b 0 6 = List.replicate 6 0xFF#8) →
      (s.tab.inetAnswer m.val b = none ∨ 10 ≤ ((Sparse.get (fun _ => []) s.host.answers (m.val - 2)).filter (fun x => decide (s.now < x + 1000))).length) →
      (s.tab.sflPorts m.val b = true ∨ s.stage < 3) →
      Gives (exec (.macFrameRx m i d r b) s) fun t =>
        t = s) ∧
  (∀ (s : State) (m : Fin 4) (i : Word) (d r : Bool) (b : List Byte) (a : List Byte), (s.pwr.mainOn = true) →
      (s.tab.hostOn m.val = true) →
      (2 ≤ s.stage) →
      (2 ≤ m.val) →
      (slice 0#8 b 0 6 = s.tab.macAddr m.val ∨ slice 0#8 b 0 6 = List.replicate 6 0xFF#8) →
      (s.tab.inetAnswer m.val b = some a) →
      (((Sparse.get (fun _ => []) s.host.answers (m.val - 2)).filter (fun x => decide (s.now < x + 1000))).length < 10) →
      Gives (exec (.macFrameRx m i d r b) s) fun t =>
        t.out = .eth (m.val - 2) a :: s.out ∧
        Sparse.get (fun _ => []) t.host.answers (m.val - 2) = s.now :: (Sparse.get (fun _ => []) s.host.answers (m.val - 2)).filter (fun x => decide (s.now < x + 1000)) ∧
        t.host.rxWait = s.host.rxWait ∧
        t.regs = s.regs ∧
        t.log = s.log)

/-- Below stage 3 every close request is refused and every token carries the open command. R107: below stage 3 a boundary refuses the close request that waits: the state of the pair stays, no string is taken into a close, and the request is dropped. No string gets the hold command, so every token carries the open command. After a start with VBUS the stage is 0, every string is in state 0, no coil pair is on and every coil gate is off, whatever the state before. -/
def Obligations.StartsOpen : Prop :=
  (∀ (s : State) (m : Meas), (s.pwr.mainOn = true) →
      (s.get R.PAIR_STAT_INJ_START_OK = 1) →
      (s.get R.PAIR_STAT_MODE ≠ 4) →
      (s.pair.nextMode = none) →
      (s.stage < 3) →
      (s.ctr.closeReq = true) →
      Gives (exec (.safetyCycle m) s) fun t =>
        t.ctr.closeReq = false ∧
        t.safety = s.safety ∧
        t.ctr.group = s.ctr.group ∧
        t.ctr.lead = s.ctr.lead ∧
        (t.get R.CTR_STAT_PAIRS_ON = s.get R.CTR_STAT_PAIRS_ON ∨ t.get R.CTR_STAT_PAIRS_ON = 0)) ∧
  (∀ (s : State) (n : Nat), (s.stage < 3) →
      (s.tokenHold n = false)) ∧
  (∀ (s : State), (s.pwr.mainOn = false) →
      Gives (exec (.vbusStart) s) fun t =>
        t.stage = 0 ∧
        (∀ n < 512, (t.str n).state = 0 ∧ t.tokenHold n = false) ∧
        t.get R.CTR_STAT_PAIRS_ON = 0 ∧
        t.sio.gateHs = 0#8 ∧
        t.sio.gateLs = 0#8)

/-- The boundary of a safety cycle: measurements, cycle number, mode, requests, and SD0 on a standing trigger. Before the start-up injection has passed, and in Halted with no mode to take, a safety cycle has no effect. Otherwise the cycle number rises by 1 once the pair runs, the cores' measurements enter DSC_I, DSC_VBAT and DSC_VLINK, received frames have been presented, the requests of the cycle have been judged and are gone, and the mode is the one that was waiting, or as it was. From stage 3 a limit-class trigger of reaction SD0 raised by a core takes SAFE, PRECHARGE, CLOSED, RAMPDOWN and LEHR to TRIPPED with SD_KIND 2: both cores latch SD0, every coil pair and every coil gate is off. Readings that are the model's own, and no rule of the manual: log entries 56 and 57. -/
def Obligations.SafetyCycleBoundary : Prop :=
  (∀ (s : State) (m : Meas), (s.pwr.mainOn = true) →
      (s.get R.PAIR_STAT_INJ_START_OK = 0) →
      Gives (exec (.safetyCycle m) s) fun t =>
        t = s) ∧
  (∀ (s : State) (m : Meas), (s.pwr.mainOn = true) →
      (s.get R.PAIR_STAT_INJ_START_OK = 1) →
      (s.get R.PAIR_STAT_MODE = 4) →
      (s.pair.nextMode = none) →
      Gives (exec (.safetyCycle m) s) fun t =>
        t = s) ∧
  (∀ (s : State) (m : Meas), (s.pwr.mainOn = true) →
      (s.get R.PAIR_STAT_INJ_START_OK = 1) →
      (s.get R.PAIR_STAT_MODE ≠ 4) →
      (s.pair.nextMode = none) →
      Gives (exec (.safetyCycle m) s) fun t =>
        t.pair.cycle = (if s.pair.running then s.pair.cycle + 1#32 else s.pair.cycle) ∧
        t.pair.running = true ∧
        t.pair.retire = (s.pair.retire + m.retired.toNat) % 2 ^ 48 ∧
        t.getW (R.DSC_I 0) = s.ampsG m ∧
        t.getW (R.DSC_I 1) = s.ampsS m ∧
        t.getW (R.DSC_VBAT 0) = s.voltsG m ∧
        t.getW (R.DSC_VBAT 1) = s.voltsS m ∧
        t.getW R.DSC_VLINK = s.linkG m ∧
        t.dsc.vlG = s.linkG m ∧
        t.dsc.vlS = s.linkS m ∧
        t.sfl.rx = [] ∧
        t.ctr.closeReq = false ∧
        t.ctr.result = none ∧
        t.ctr.abort = false ∧
        t.dsc.ackReq = none ∧
        t.dsc.ack0Req = none ∧
        t.dsc.exitReq = none ∧
        t.dsc.maintReq = false ∧
        (s.pair.splitReq = false → t.get R.PAIR_STAT_MODE = s.get R.PAIR_STAT_MODE) ∧
        t.pair.splitReq = false ∧
        t.stage = s.stage ∧
        t.nodes = s.nodes ∧
        t.img = s.img ∧
        t.est.cs1 = s.est.cs1) ∧
  (∀ (s : State) (m : Meas) (k : Fin 6), (s.pwr.mainOn = true) →
      (s.get R.PAIR_STAT_INJ_START_OK = 1) →
      (s.pair.nextMode = some k.val) →
      (s.ctr.closeReq = false) →
      Gives (exec (.safetyCycle m) s) fun t =>
        (s.pair.splitReq = false ∨ k.val ≠ 1 → t.get R.PAIR_STAT_MODE = k.val) ∧
        t.nodes = s.nodes ∧
        t.stage = s.stage ∧
        t.img = s.img) ∧
  (∀ (s : State) (m : Meas), (s.pwr.mainOn = true) →
      (s.get R.PAIR_STAT_INJ_START_OK = 1) →
      (s.get R.PAIR_STAT_MODE ≠ 4) →
      (s.pair.nextMode = none) →
      (3 ≤ s.stage) →
      (s.safety ≤ 4) →
      (s.dsc.condG.getLsbD 1 = true ∨ s.dsc.condS.getLsbD 1 = true) →
      Gives (exec (.safetyCycle m) s) fun t =>
        t.safety = 5 ∧
        t.get R.DSC_STATE_SD_KIND = 2 ∧
        t.get R.DSC_STATE_PREV = s.safety ∧
        t.sio.sd0A = true ∧
        t.sio.sd0B = true ∧
        t.sio.gateHs = 0#8 ∧
        t.sio.gateLs = 0#8 ∧
        t.get R.CTR_STAT_PAIRS_ON = 0 ∧
        t.bit (R.DSC_CAUSEMAP 0) 1 = true)

/-- Register writes of the host: what is served, byte enables, access kinds, action bits. A write to a block that the stage does not serve, with some byte enables to a register, or to an offset without a register is discarded without an event. The Exchange RAM takes the enabled bytes of one word. In a register without a rule of its own each RW field takes the value, each RWP field only in a session, each W1C bit clears where 1 is written, all others keep theirs; an attempt on an RWP field outside a session is 0x020E with the offset; an undefined code discards the write with 0x1001. A write to a register that a row of the table names, or of a single action bit, is that row: ring TAIL and CTRL, HOST_ICAUSE and HOST_IMASK, set owners, channels, watchdog, generators, LOG_RD_IDX, and the action bits of power, session, update, recovery, checks, angle, tests, links, excitation, disconnect, contactors, pair, log, snapshots and debug port. The password words, the MSI-X masks, LOG_STAT's bits and a ring's BASE and SIZE follow their own rules. Readings that are the model's own, and no rule of the manual: log entries 12, 13, 14, 15 and 16. -/
def Obligations.HostRegisterWrites : Prop :=
  (∀ (s : State) (a : Word) (b : BitVec 4) (v : Word), (s.pwr.mainOn = true) →
      (s.served a.toNat = false) →
      Gives (exec (.registerWrite a b v) s) fun t =>
        t = s) ∧
  (∀ (s : State) (a : Word) (b : BitVec 4) (v : Word), (s.pwr.mainOn = true) →
      (s.served a.toNat = true) →
      (a.toNat < 0x100000 ∨ 0x110000 ≤ a.toNat) →
      (b ≠ 15#4 ∨ lookupReg a.toNat = none) →
      Gives (exec (.registerWrite a b v) s) fun t =>
        t = s) ∧
  (∀ (s : State) (a : Word) (b : BitVec 4) (v : Word), (s.pwr.mainOn = true) →
      (1 ≤ s.stage) →
      (s.host.perstHigh = true) →
      (0x100000 ≤ a.toNat) →
      (a.toNat < 0x110000) →
      Gives (exec (.registerWrite a b v) s) fun t =>
        t.xword ((a.toNat - 0x100000) / 4) = BitVec.ofNat 32 (mergeBytes 4 (s.xword ((a.toNat - 0x100000) / 4)).toNat v.toNat b.toNat) ∧
        (∀ i, i ≠ (a.toNat - 0x100000) / 4 → t.xword i = s.xword i) ∧
        t = { s with host := { s.host with xram := t.host.xram } }) ∧
  (∀ (s : State) (a v : Word), (s.pwr.mainOn = true) →
      (1 ≤ s.stage) →
      (s.host.perstHigh = true) →
      ((lookupReg a.toNat).isSome = true) →
      (ownRule a.toNat = false) →
      ((((lookupReg a.toNat).map RegSpec.fields).getD []).any (fun f => f.undefined v.toNat) = false) →
      Gives (exec (.registerWrite a 15#4 v) s) fun t =>
        (∀ f ∈ (((lookupReg a.toNat).map RegSpec.fields).getD []), bitsOf (t.word a.toNat).toNat f.lo f.w = f.written s.session (s.word a.toNat).toNat v.toNat) ∧
        FieldsBut s t [⟨a.toNat, 0, 32⟩] ∧
        Logs s t (if !s.session && (((lookupReg a.toNat).map RegSpec.fields).getD []).any (fun f => f.attempts (s.word a.toNat).toNat v.toNat) then [(0x020E, chip, [p2 (blockOff a.toNat)])] else []) ∧
        t.img = (if s.session && (((lookupReg a.toNat).map RegSpec.fields).getD []).any (fun f => f.attempts (s.word a.toNat).toNat v.toNat) then s.keepSession.img else s.img) ∧
        t.nodes = s.nodes ∧
        t.pwr = s.pwr) ∧
  (∀ (s : State) (a v : Word), (s.pwr.mainOn = true) →
      (1 ≤ s.stage) →
      (s.host.perstHigh = true) →
      ((lookupReg a.toNat).isSome = true) →
      (ownRule a.toNat = false) →
      ((((lookupReg a.toNat).map RegSpec.fields).getD []).any (fun f => f.undefined v.toNat) = true) →
      Gives (exec (.registerWrite a 15#4 v) s) fun t =>
        Logs s t [(0x1001, chip, [p2 (blockOff a.toNat)])] ∧
        FieldsBut s t [] ∧
        RegsOnly s t) ∧
  (∀ (s : State) (v : Word), (s.pwr.mainOn = true) →
      (1 ≤ s.stage) →
      (s.host.perstHigh = true) →
      Gives (exec (.registerWrite 0x4104#32 15#4 v) s) fun t =>
        t.get R.SWP_TREQ_RANGE_FIRST_HOP = bitsOf v.toNat 0 8 ∧
        t.get R.SWP_TREQ_RANGE_LAST_HOP = bitsOf v.toNat 8 8 ∧
        t.get R.SWP_TREQ_RANGE_DEADLINE_S = bitsOf v.toNat 16 16 ∧
        FieldsBut s t [R.SWP_TREQ_RANGE_FIRST_HOP, R.SWP_TREQ_RANGE_LAST_HOP, R.SWP_TREQ_RANGE_DEADLINE_S] ∧
        t = { s with regs := t.regs }) ∧
  (∀ (s : State) (v : Word), (s.pwr.mainOn = true) →
      (1 ≤ s.stage) →
      (s.host.perstHigh = true) →
      (s.session = true) →
      (s.get R.IMG_REC_OFF_OFF ≠ bitsOf v.toNat 0 24) →
      Gives (exec (.registerWrite 0x2094#32 15#4 v) s) fun t =>
        t.get R.IMG_REC_OFF_OFF = bitsOf v.toNat 0 24 ∧
        FieldsBut s t [R.IMG_REC_OFF_OFF] ∧
        t = { s.keepSession with regs := t.regs }) ∧
  (∀ (s : State) (v : Word), (s.pwr.mainOn = true) →
      (1 ≤ s.stage) →
      (s.host.perstHigh = true) →
      (s.session = false) →
      (s.get R.IMG_REC_OFF_OFF ≠ bitsOf v.toNat 0 24) →
      Gives (exec (.registerWrite 0x2094#32 15#4 v) s) fun t =>
        Logs s t [(0x020E, chip, [p2 0x94])] ∧
        FieldsBut s t [] ∧
        RegsOnly s t) ∧
  (∀ (s : State) (v : Word), (s.pwr.mainOn = true) →
      (1 ≤ s.stage) →
      (s.host.perstHigh = true) →
      (1440 < bitsOf v.toNat 0 11) →
      Gives (exec (.registerWrite 0x1008#32 15#4 v) s) fun t =>
        Logs s t [(0x1001, chip, [p2 8])] ∧
        FieldsBut s t [] ∧
        RegsOnly s t) ∧
  (∀ (s : State) (v : Word), (s.pwr.mainOn = true) →
      (1 ≤ s.stage) →
      (s.host.perstHigh = true) →
      (bitsOf v.toNat 0 11 ≤ 1440) →
      (s.get R.GLOBAL_STAGE_FOREIGN_IMAGE = 0) →
      Gives (exec (.registerWrite 0x1008#32 15#4 v) s) fun t =>
        t.get R.PWR_WAKE_WAKE_MIN = bitsOf v.toNat 0 11 ∧
        FieldsBut s t [R.PWR_WAKE_WAKE_MIN] ∧
        t = { s with regs := t.regs }) ∧
  (∀ (s : State) (v : Word), (s.pwr.mainOn = true) →
      (1 ≤ s.stage) →
      (s.host.perstHigh = true) →
      (bitsOf v.toNat 0 11 ≤ 1440) →
      (s.get R.GLOBAL_STAGE_FOREIGN_IMAGE = 1) →
      (s.get R.PWR_WAKE_WAKE_MIN ≠ bitsOf v.toNat 0 11) →
      Gives (exec (.registerWrite 0x1008#32 15#4 v) s) fun t =>
        Logs s t [(0x020E, chip, [p2 8])] ∧
        FieldsBut s t [] ∧
        RegsOnly s t) ∧
  (∀ (s : State) (v : Word), (s.pwr.mainOn = true) →
      (1 ≤ s.stage) →
      (s.host.perstHigh = true) →
      Gives (exec (.registerWrite 0x20000#32 15#4 v) s) fun t =>
        t.get R.STO_STAT_XCOLL = (if v.getLsbD 0 then 0 else s.get R.STO_STAT_XCOLL) ∧
        t.get R.STO_STAT_REJ = (if v.getLsbD 1 then 0 else s.get R.STO_STAT_REJ) ∧
        t.get R.STO_STAT_ECC_UE = (if v.getLsbD 2 then 0 else s.get R.STO_STAT_ECC_UE) ∧
        FieldsBut s t [R.STO_STAT_XCOLL, R.STO_STAT_REJ, R.STO_STAT_ECC_UE]) ∧
  (∀ (s : State) (j : Fin 8) (v : Word), (s.pwr.mainOn = true) →
      (1 ≤ s.stage) →
      (s.host.perstHigh = true) →
      (s.img.pw.length = 32) →
      Gives (exec (.registerWrite (BitVec.ofNat 32 (0x2050 + 4 * j.val)) 15#4 v) s) fun t =>
        t.img.pw = s.img.pw.take (4 * j.val) ++ leBytes 4 v.toNat ++ s.img.pw.drop (4 * j.val + 4) ∧
        t = { s with img := { s.img with pw := t.img.pw } }) ∧
  (∀ (s : State) (v : Word), (s.pwr.mainOn = true) →
      (1 ≤ s.stage) →
      (s.host.perstHigh = true) →
      Gives (exec (.registerWrite 0x2A000#32 15#4 v) s) fun t =>
        t.log = { s.log with lostSeen := s.log.lostSeen && !v.getLsbD 4, dropSeen := s.log.dropSeen && !v.getLsbD 5 } ∧
        t = { s with log := t.log }) ∧
  (∀ (s : State) (k : Fin 72) (v : Word), (s.pwr.mainOn = true) →
      (1 ≤ s.stage) →
      (s.host.perstHigh = true) →
      Gives (exec (.registerWrite (BitVec.ofNat 32 (0x2940C + 16 * k.val)) 15#4 v) s) fun t =>
        t.get (R.MSIX_VCTRL_MASKED k.val) = b2n (v.getLsbD 0) ∧
        FieldsBut s t [R.MSIX_VCTRL_MASKED k.val] ∧
        t.log = s.log ∧
        (v.getLsbD 0 = false → s.host.pba.getLsbD k.val = true → s.host.linkUp = true → s.host.busMaster = true → .msix k.val ∈ t.out)) ∧
  (∀ (s : State) (n : Fin 64) (v : Word), (s.pwr.mainOn = true) →
      (1 ≤ s.stage) →
      (s.host.perstHigh = true) →
      (s.get (R.RING_CTRL_ENABLE n.val) = 0) →
      Gives (exec (.registerWrite (BitVec.ofNat 32 (0x28000 + 64 * n.val)) 15#4 v) s) fun t =>
        t.get (R.RING_BASE_LO_BASE_LO n.val) = v.toNat / 4096 ∧
        FieldsBut s t [R.RING_BASE_LO_BASE_LO n.val] ∧
        t = { s with regs := t.regs }) ∧
  (∀ (s : State) (n : Fin 64) (o : Fin 3) (v : Word), (s.pwr.mainOn = true) →
      (1 ≤ s.stage) →
      (s.host.perstHigh = true) →
      (s.get (R.RING_CTRL_ENABLE n.val) = 1) →
      Gives (exec (.registerWrite (BitVec.ofNat 32 (0x28000 + 64 * n.val + 4 * o.val)) 15#4 v) s) fun t =>
        Logs s t [(0x1002, src 9 n.val, [p2 (64 * n.val + 4 * o.val), p2 v.toNat])] ∧
        FieldsBut s t [] ∧
        RegsOnly s t) ∧
  (∀ (s : State) (n : Fin 64) (v : Word), Gives (exec (.registerWrite (BitVec.ofNat 32 (0x28000 + 64 * n.val + 12)) 15#4 v) s) fun t =>
        exec (.ringTail n (v.setWidth 16)) s = .next t) ∧
  (∀ (s : State) (n : Fin 64) (v : Word), (v.getLsbD 1 = false) →
      Gives (exec (.registerWrite (BitVec.ofNat 32 (0x28000 + 64 * n.val + 20)) 15#4 v) s) fun t =>
        exec (.ringEnable n (v.getLsbD 0) (v.getLsbD 2)) s = .next t) ∧
  (∀ (s : State) (v : Word), Gives (exec (.registerWrite 0x29000#32 15#4 v) s) fun t =>
        exec (.hostIcause (v.setWidth 9) 0) s = .next t) ∧
  (∀ (s : State) (v : Word), Gives (exec (.registerWrite 0x29004#32 15#4 v) s) fun t =>
        exec (.hostImask v) s = .next t) ∧
  (∀ (s : State) (u : Fin 24) (v : Word), Gives (exec (.registerWrite (BitVec.ofNat 32 (ownerAddr u.val)) 15#4 v) s) fun t =>
        exec (.owner u (v.setWidth 2)) s = .next t) ∧
  (∀ (s : State) (n : Fin 24) (v : Word), (v.getLsbD 1 = false) →
      Gives (exec (.registerWrite (BitVec.ofNat 32 (0x27004 + 128 * n.val)) 15#4 v) s) fun t =>
        exec (.chanOn n (v.getLsbD 0)) s = .next t) ∧
  (∀ (s : State) (v : Word), Gives (exec (.registerWrite 0x27C00#32 15#4 v) s) fun t =>
        exec (.swWd (v.setWidth 16)) s = .next t) ∧
  (∀ (s : State) (g : Fin 8) (p : Bool) (v : Word), Gives (exec (.registerWrite (BitVec.ofNat 32 (0x27C20 + 8 * g.val + 4 * b2n p)) 15#4 v) s) fun t =>
        exec (.swGenWrite g p v) s = .next t) ∧
  (∀ (s : State) (v : Word), Gives (exec (.registerWrite 0x2A080#32 15#4 v) s) fun t =>
        exec (.logRdIdx (v.setWidth 17)) s = .next t) ∧
  (∀ (s : State), Gives (exec (.registerWrite 0x1004#32 15#4 1#32) s) fun t =>
        exec (.sleepReq) s = .next t) ∧
  (∀ (s : State), Gives (exec (.registerWrite 0x1004#32 15#4 2#32) s) fun t =>
        exec (.wakePulse) s = .next t) ∧
  (∀ (s : State), Gives (exec (.registerWrite 0x1004#32 15#4 4#32) s) fun t =>
        exec (.saveState) s = .next t) ∧
  (∀ (s : State), Gives (exec (.registerWrite 0x1004#32 15#4 8#32) s) fun t =>
        exec (.restartModule) s = .next t) ∧
  (∀ (s : State), (s.get R.IMG_UPD_RING = 0) →
      Gives (exec (.registerWrite 0x2080#32 15#4 1#32) s) fun t =>
        exec (.startUpdate) s = .next t) ∧
  (∀ (s : State), (s.get R.IMG_UPD_RING = 0) →
      Gives (exec (.registerWrite 0x2080#32 15#4 2#32) s) fun t =>
        exec (.commitUpdate) s = .next t) ∧
  (∀ (s : State), (s.get R.IMG_UPD_RING = 0) →
      Gives (exec (.registerWrite 0x2080#32 15#4 4#32) s) fun t =>
        exec (.updateAbort) s = .next t) ∧
  (∀ (s : State), Gives (exec (.registerWrite 0x2090#32 15#4 1#32) s) fun t =>
        exec (.recWrite) s = .next t) ∧
  (∀ (s : State), Gives (exec (.registerWrite 0x2090#32 15#4 2#32) s) fun t =>
        exec (.recCommit) s = .next t) ∧
  (∀ (s : State), Gives (exec (.registerWrite 0x20c0#32 15#4 1#32) s) fun t =>
        exec (.runCheck) s = .next t) ∧
  (∀ (s : State), (s.get R.ANG_CTRL_SRC_OVR = 0) →
      Gives (exec (.registerWrite 0x3004#32 15#4 1#32) s) fun t =>
        exec (.acquireLock) s = .next t) ∧
  (∀ (s : State), (s.get R.SWP_TREQ_CODE = 0) →
      (s.get R.SWP_TREQ_CHAIN = 0) →
      Gives (exec (.registerWrite 0x4100#32 15#4 2#32) s) fun t =>
        exec (.testRequestAbort) s = .next t) ∧
  (∀ (s : State), (s.get R.EST_EXC_CTRL_EXC_EN = 0) →
      Gives (exec (.registerWrite 0x210b0#32 15#4 2#32) s) fun t =>
        exec (.excitationStop) s = .next t) ∧
  (∀ (s : State), Gives (exec (.registerWrite 0x23010#32 15#4 1#32) s) fun t =>
        exec (.openReq) s = .next t) ∧
  (∀ (s : State), Gives (exec (.registerWrite 0x23010#32 15#4 8#32) s) fun t =>
        exec (.maintReq) s = .next t) ∧
  (∀ (s : State), (s.get R.CTR_CTRL_JOIN_STRING = 0) →
      (s.get R.CTR_CTRL_PAIR_MASK = 0) →
      Gives (exec (.registerWrite 0x23104#32 15#4 1#32) s) fun t =>
        exec (.closeReq) s = .next t) ∧
  (∀ (s : State), (s.get R.CTR_CTRL_JOIN_STRING = 0) →
      (s.get R.CTR_CTRL_PAIR_MASK = 0) →
      Gives (exec (.registerWrite 0x23104#32 15#4 2#32) s) fun t =>
        exec (.abortPrecharge) s = .next t) ∧
  (∀ (s : State), Gives (exec (.registerWrite 0x2b000#32 15#4 1#32) s) fun t =>
        exec (.trigSnap) s = .next t) ∧
  (∀ (s : State), Gives (exec (.registerWrite 0x2b000#32 15#4 2#32) s) fun t =>
        exec (.ackFirst) s = .next t) ∧
  (∀ (s : State), (s.get R.DIAG_DBG_CTRL_TRACE_EN = 0) →
      Gives (exec (.registerWrite 0x2d004#32 15#4 2#32) s) fun t =>
        exec (.unlockPort) s = .next t) ∧
  (∀ (s : State), (s.get R.DIAG_DBG_CTRL_TRACE_EN = 0) →
      Gives (exec (.registerWrite 0x2d004#32 15#4 4#32) s) fun t =>
        exec (.lockPort) s = .next t) ∧
  (∀ (s : State), (s.get R.DIAG_DBG_CTRL_TRACE_EN = 0) →
      Gives (exec (.registerWrite 0x2d004#32 15#4 8#32) s) fun t =>
        exec (.claimPort) s = .next t) ∧
  (∀ (s : State), (s.get R.DIAG_DBG_CTRL_TRACE_EN = 0) →
      Gives (exec (.registerWrite 0x2d004#32 15#4 16#32) s) fun t =>
        exec (.releasePort) s = .next t) ∧
  (∀ (s : State), Gives (exec (.registerWrite 0x2d010#32 15#4 1#32) s) fun t =>
        exec (.haltGaffer false) s = .next t) ∧
  (∀ (s : State), Gives (exec (.registerWrite 0x2d010#32 15#4 2#32) s) fun t =>
        exec (.resumeGaffer false) s = .next t) ∧
  (∀ (s : State), Gives (exec (.registerWrite 0x2d010#32 15#4 3#32) s) fun t =>
        exec (.stepGaffer false) s = .next t) ∧
  (∀ (s : State), Gives (exec (.registerWrite 0x2d010#32 15#4 4#32) s) fun t =>
        exec (.readMemory false (s.getW R.DIAG_DBG_ADDR)) s = .next t) ∧
  (∀ (s : State), Gives (exec (.registerWrite 0x2d010#32 15#4 5#32) s) fun t =>
        exec (.writeMemory false (s.getW R.DIAG_DBG_ADDR) (s.getW R.DIAG_DBG_DATA)) s = .next t) ∧
  (∀ (s : State), Gives (exec (.registerWrite 0x2d010#32 15#4 6#32) s) fun t =>
        exec (.readRegister false (s.getW R.DIAG_DBG_ADDR)) s = .next t) ∧
  (∀ (s : State), Gives (exec (.registerWrite 0x2d010#32 15#4 7#32) s) fun t =>
        exec (.writeRegister false (s.getW R.DIAG_DBG_ADDR) (s.getW R.DIAG_DBG_DATA)) s = .next t) ∧
  (∀ (s : State), Gives (exec (.registerWrite 0x2d010#32 15#4 8#32) s) fun t =>
        exec (.setBreakpoint false (s.getW R.DIAG_DBG_ADDR)) s = .next t) ∧
  (∀ (s : State), Gives (exec (.registerWrite 0x2d010#32 15#4 9#32) s) fun t =>
        exec (.clearBreakpoint false (s.getW R.DIAG_DBG_ADDR)) s = .next t) ∧
  (∀ (s : State) (k : BitVec 3) (x : Fin 64), Gives (exec (.registerWrite 0x4100#32 15#4 (BitVec.ofNat 32 (1 + 256 * k.toNat + 65536 * x.val))) s) fun t =>
        exec (.testGo k x) s = .next t) ∧
  (∀ (s : State) (x : Fin 64), (s.get (R.LNK_CTRL_HOLD_SEG x.val) = 0) →
      Gives (exec (.registerWrite (BitVec.ofNat 32 (0x10004 + 0x400 * x.val)) 15#4 1#32) s) fun t =>
        exec (.reenum x) s = .next t) ∧
  (∀ (s : State) (x : Fin 64), (s.get (R.LNK_CTRL_HOLD_SEG x.val) = 0) →
      Gives (exec (.registerWrite (BitVec.ofNat 32 (0x10004 + 0x400 * x.val)) 15#4 2#32) s) fun t =>
        exec (.unmuteAll x) s = .next t) ∧
  (∀ (s : State) (k : BitVec 2), Gives (exec (.registerWrite 0x3004#32 15#4 (BitVec.ofNat 32 (2 * k.toNat))) s) fun t =>
        exec (.srcOvr k) s = .next t) ∧
  (∀ (s : State) (k : BitVec 18), Gives (exec (.registerWrite 0x21008#32 15#4 (BitVec.ofNat 32 (2 ^ 31 + k.toNat))) s) fun t =>
        exec (.cellReset k) s = .next t) ∧
  (∀ (s : State) (k : Bool), Gives (exec (.registerWrite 0x210B0#32 15#4 (BitVec.ofNat 32 (b2n k))) s) fun t =>
        exec (.excEn k) s = .next t) ∧
  (∀ (s : State) (k : Fin 512), Gives (exec (.registerWrite 0x230A0#32 15#4 (BitVec.ofNat 32 (65536 + k.val))) s) fun t =>
        exec (.excludeString k) s = .next t) ∧
  (∀ (s : State) (k : Fin 512), Gives (exec (.registerWrite 0x230A0#32 15#4 (BitVec.ofNat 32 (131072 + k.val))) s) fun t =>
        exec (.includeString k) s = .next t) ∧
  (∀ (s : State) (k : Fin 512), (s.get R.CTR_CTRL_PAIR_MASK = 0) →
      Gives (exec (.registerWrite 0x23104#32 15#4 (BitVec.ofNat 32 (4 + 65536 * k.val))) s) fun t =>
        exec (.joinString k) s = .next t) ∧
  (∀ (s : State) (k : BitVec 8), (s.get R.CTR_CTRL_JOIN_STRING = 0) →
      Gives (exec (.registerWrite 0x23104#32 15#4 (BitVec.ofNat 32 (8 + 256 * k.toNat))) s) fun t =>
        exec (.weldClr k) s = .next t) ∧
  (∀ (s : State), (1 ≤ s.get R.PAIR_CTRL_CAMP_CODE) →
      (s.get R.PAIR_CTRL_CAMP_CODE ≤ 4) →
      Gives (exec (.registerWrite 0x24004#32 15#4 (BitVec.ofNat 32 (1 + 256 * s.get R.PAIR_CTRL_CAMP_CODE))) s) fun t =>
        exec (.splitPair) s = .next t) ∧
  (∀ (s : State), (1 ≤ s.get R.PAIR_CTRL_CAMP_CODE) →
      (s.get R.PAIR_CTRL_CAMP_CODE ≤ 4) →
      Gives (exec (.registerWrite 0x24004#32 15#4 (BitVec.ofNat 32 (2 + 256 * s.get R.PAIR_CTRL_CAMP_CODE))) s) fun t =>
        exec (.rejoin) s = .next t) ∧
  (∀ (s : State) (k : BitVec 3), Gives (exec (.registerWrite 0x24004#32 15#4 (BitVec.ofNat 32 (4 + 256 * k.toNat))) s) fun t =>
        exec (.campGo k) s = .next t) ∧
  (∀ (s : State), Gives (exec (.registerWrite 0x2A004#32 15#4 (BitVec.ofNat 32 (1 + 2 * s.get R.LOG_CTRL_INT_CLASS))) s) fun t =>
        exec (.logClear) s = .next t) ∧
  (∀ (s : State) (k : BitVec 4), (k ≠ 0#4) →
      Gives (exec (.registerWrite 0x2B000#32 15#4 (BitVec.ofNat 32 (16 * k.toNat))) s) fun t =>
        exec (.relSlot k) s = .next t)

/-- A step is the command at the front of the queue, run with the rest of the queue; without one a millisecond passes. For every state and every command at the front of its queue, a step is that command's effect on the state with the queue's rest. With an empty queue a millisecond passes (the model's choice, log entry 5): the operating time rises by 1 in a powered module and nothing changes in one without supply. The command table gives no row bits, so that no word spells a command and placing one changes nothing. -/
def Obligations.StepTakesTheFrontCommand : Prop :=
  (∀ (s : State) (c : Instr) (q : List Instr), s.pending = c :: q → step s = exec c { s with pending := q }) ∧
  (∀ (s : State), s.pending = [] → s.pwr.mainOn = true → Gives (step s) fun t => t.pwr.optime = (s.pwr.optime + 1) % 2 ^ 48 ∧ t.pending = [] ∧ t.nodes = s.nodes) ∧
  (∀ (s : State), s.pending = [] → s.pwr.mainOn = false → step s = .next s) ∧
  (∀ (s : State) (n w : Nat), decodeTableWord n w = none ∧ s.withFetchWord n w = s)

/-- Every command answers a next state in every state, and leaves the queue of waiting commands as it is. For every command with any operands and every state, exec answers a next state: no command faults or is refused. The commands that wait stay waiting, in their order. -/
def Obligations.EveryCommandCompletes : Prop :=
  (∀ (s : State) (c : Instr), Gives (exec c s) fun t => t.pending = s.pending)

/-- Without the main domain no command has an effect but those of the supply, the wake inputs, PERST_N and the nodes. While the main domain is without power, every command is without effect, except the supply and wake inputs and PERST_N, which the always-on domain and the pins serve, and what happens at a companion node, which has its own supply. -/
def Obligations.CommandsNeedTheMainDomain : Prop :=
  (∀ (s : State) (c : Instr), s.pwr.mainOn = false → c.worksUnpowered = false → exec c s = .next s)

/-- The reset values that the register tables give, an empty queue, and the canonical forms at reset. After reset no command waits, the module is without supply, the stage and the safety state are 0, and the registers with a reset value other than zero hold it: GLOBAL_ID, the stage times, ring sizes, MSI-X masks, HOST_IMASK, the excitation settings, HOST_PUB_LAST, LOG_CTRL, DIAG_BG_STAT. Register file and memories are in their canonical forms. That memories hold nothing is the model's choice (log entry 3). -/
def Obligations.ResetState : Prop :=
  (∀ (s : State), (s = State.reset) →
      (s.pending = []) ∧ (s.pwr.mainOn = false) ∧ (s.pwr.alwaysOn = false) ∧ (s.stage = 0) ∧ (s.safety = 0) ∧ (s.get R.GLOBAL_ID_DEVICE = 0x6440) ∧ (∀ k < 4, s.get (R.PWR_STAGE_T_T k) = 0xFFFFFF) ∧ (∀ k < 64, s.get (R.RING_SIZE_LOG2 k) = 4) ∧ (∀ k < 72, s.get (R.MSIX_VCTRL_MASKED k) = 1) ∧ (s.get R.HOST_IMASK_MASK = 255) ∧ (s.get R.HOST_IMASK_MBOX_MASK = 1) ∧ (s.get R.HOST_IMASK_MBOX_VEC = 127) ∧ (s.get R.EST_EXC_CFG_LOW_SHARE = 50) ∧ (s.get R.EST_EXC_CFG_WINDOWS = 4) ∧ (s.get R.EST_EXC_SPACE_SPACING_S = 3600) ∧ (s.get R.HOST_PUB_LAST = 0xFFFFFFFF) ∧ (s.get R.LOG_CTRL_INT_CLASS = 2) ∧ (s.get R.DIAG_BG_STAT_WINDOW = 31) ∧ (s.regsWf = true) ∧ (s.memoriesWf = true))

/-- Every step from every state keeps the register file in its one canonical form. For every state whose register file lists addresses strictly rising and no word equal to its reset value, and whatever command stands at the front of its queue or none, the state that a step answers has a register file of that form: equal registers are equal data. -/
def Obligations.RegistersStayCanonical : Prop :=
  (∀ (s t : State), s.regsWf = true → step s = .next t → t.regsWf = true)

/-- Every step from every state keeps the NOR, the state memory, the Exchange RAM, the stores and the log in canonical form. For every state whose memories list addresses strictly rising and no entry equal to what an unlisted address reads as, and whatever command stands at the front of its queue or none, the state that a step answers has memories of that form: the NOR on CS0, the state memory on CS1, the Exchange RAM, the words of the stores, the slots of the log. -/
def Obligations.MemoriesStayCanonical : Prop :=
  (∀ (s t : State), s.memoriesWf = true → step s = .next t → t.memoriesWf = true)
end

