-- ==== Sys2Proof/Laws/Sparse.lean ====
section
/-! SUPPORT. The laws of the sparse maps: a read after a write, and the canonical form that every operation keeps. -/

namespace Sys2Proof.Machine

variable {α : Type}

theorem Sparse.get_erase (d : Nat → α) (k : Nat) : ∀ (m : List (Nat × α)) (j : Nat),
    Sparse.get d (Sparse.erase k m) j = if j = k then d k else Sparse.get d m j
  | [], j => by by_cases h : j = k <;> simp [Sparse.erase, Sparse.get, h]
  | (a, v) :: m, j => by
    have ih := Sparse.get_erase d k m j
    by_cases h : a = k
    · by_cases h2 : j = k
      · simpa [Sparse.erase, h, h2] using ih
      · have : j ≠ a := fun e => h2 (e.trans h)
        simp only [Sparse.erase, h, if_true, ih, h2, if_false, Sparse.get]
    · by_cases h2 : j = k
      · subst h2
        simp [Sparse.erase, h, Sparse.get, ih, if_neg (fun e : j = a => h e.symm)]
      · simp [Sparse.erase, h, Sparse.get, ih, h2]

theorem Sparse.get_ins (d : Nat → α) (k : Nat) (v : α) : ∀ (m : List (Nat × α)) (j : Nat), Sparse.get d m k = d k →
    (∀ p ∈ m, p.1 ≠ k) → Sparse.get d (Sparse.ins k v m) j = if j = k then v else Sparse.get d m j
  | [], j, _, _ => by by_cases h : j = k <;> simp [Sparse.ins, Sparse.get, h]
  | (a, w) :: m, j, h0, hm => by
    have ha : a ≠ k := hm (a, w) (by simp)
    have hk : Sparse.get d m k = d k := by simpa [Sparse.get, Ne.symm ha] using h0
    have ih := Sparse.get_ins d k v m j hk (fun p hp => hm p (by simp [hp]))
    by_cases h : k < a
    · simp [Sparse.ins, h, Sparse.get]
    · by_cases hj : j = a
      · subst hj; simp [Sparse.ins, h, Sparse.get, ha]
      · simp [Sparse.ins, h, Sparse.get, hj, ih]

theorem Sparse.erase_keys (k : Nat) : ∀ (m : List (Nat × α)), ∀ p ∈ Sparse.erase k m, p.1 ≠ k
  | [], p, hp => by simp [Sparse.erase] at hp
  | (a, w) :: m, p, hp => by
    by_cases h : a = k
    · exact Sparse.erase_keys k m p (by simpa [Sparse.erase, h] using hp)
    · rcases (by simpa [Sparse.erase, h] using hp : p = (a, w) ∨ p ∈ Sparse.erase k m) with rfl | h'
      · exact h
      · exact Sparse.erase_keys k m p h'

/-- A read after a write. -/
theorem Sparse.get_set [DecidableEq α] (d : Nat → α) (m : List (Nat × α)) (k : Nat) (v : α) (j : Nat) :
    Sparse.get d (Sparse.set d m k v) j = if j = k then v else Sparse.get d m j := by
  unfold Sparse.set
  by_cases h : v = d k
  · rw [if_pos h, Sparse.get_erase, h]
  · rw [if_neg h, Sparse.get_ins d k v _ j (by rw [Sparse.get_erase]; simp) (Sparse.erase_keys k m), Sparse.get_erase]
    by_cases hj : j = k <;> simp [hj]

@[simp] theorem Sparse.get_set_self [DecidableEq α] (d : Nat → α) (m : List (Nat × α)) (k : Nat) (v : α) :
    Sparse.get d (Sparse.set d m k v) k = v := by simp [Sparse.get_set]

theorem Sparse.get_set_other [DecidableEq α] (d : Nat → α) (m : List (Nat × α)) (k : Nat) (v : α) (j : Nat) (h : j ≠ k) :
    Sparse.get d (Sparse.set d m k v) j = Sparse.get d m j := by simp [Sparse.get_set, h]

/-- Where the canonical form begins above a bound. -/
def Sparse.above (lo : Option Nat) (a : Nat) : Prop := ∀ l, lo = some l → l < a

theorem Sparse.wfFrom_cons [DecidableEq α] (d : Nat → α) (lo : Option Nat) (a : Nat) (v : α) (m : List (Nat × α)) :
    Sparse.wfFrom d lo ((a, v) :: m) = true ↔ Sparse.above lo a ∧ v ≠ d a ∧ Sparse.wfFrom d (some a) m = true := by
  cases lo <;> simp [Sparse.wfFrom, Sparse.above, and_assoc]

theorem Sparse.wfFrom_mono [DecidableEq α] (d : Nat → α) (lo lo' : Option Nat) (m : List (Nat × α))
    (hl : ∀ a, Sparse.above lo a → Sparse.above lo' a) (h : Sparse.wfFrom d lo m = true) : Sparse.wfFrom d lo' m = true := by
  cases m with
  | nil => simp [Sparse.wfFrom]
  | cons p m =>
    obtain ⟨h1, h2, h3⟩ := (Sparse.wfFrom_cons d lo p.1 p.2 m).1 h
    exact (Sparse.wfFrom_cons d lo' p.1 p.2 m).2 ⟨hl _ h1, h2, h3⟩

theorem Sparse.wfFrom_none [DecidableEq α] (d : Nat → α) (lo : Option Nat) (m : List (Nat × α))
    (h : Sparse.wfFrom d lo m = true) : Sparse.wf d m = true :=
  Sparse.wfFrom_mono d lo none m (fun _ _ l h => by cases h) h

theorem Sparse.wfFrom_erase [DecidableEq α] (d : Nat → α) (k : Nat) : ∀ (m : List (Nat × α)) (lo : Option Nat),
    Sparse.wfFrom d lo m = true → Sparse.wfFrom d lo (Sparse.erase k m) = true
  | [], lo, _ => by simp [Sparse.erase, Sparse.wfFrom]
  | (a, v) :: m, lo, h => by
    obtain ⟨h1, h2, h3⟩ := (Sparse.wfFrom_cons d lo a v m).1 h
    by_cases e : a = k
    · simp only [Sparse.erase, e, if_true]
      subst e
      exact Sparse.wfFrom_mono d (some a) lo _ (fun b hb l hl => Nat.lt_trans (h1 l hl) (hb a rfl)) (Sparse.wfFrom_erase d a m _ h3)
    · simp only [Sparse.erase, e, if_false]
      exact (Sparse.wfFrom_cons d lo a v _).2 ⟨h1, h2, Sparse.wfFrom_erase d k m _ h3⟩

theorem Sparse.wfFrom_ins [DecidableEq α] (d : Nat → α) (k : Nat) (v : α) (hv : v ≠ d k) : ∀ (m : List (Nat × α)) (lo : Option Nat),
    Sparse.wfFrom d lo m = true → (∀ p ∈ m, p.1 ≠ k) → Sparse.above lo k → Sparse.wfFrom d lo (Sparse.ins k v m) = true
  | [], lo, _, _, hk => (Sparse.wfFrom_cons d lo k v []).2 ⟨hk, hv, by simp [Sparse.wfFrom]⟩
  | (a, w) :: m, lo, h, hm, hk => by
    obtain ⟨h1, h2, h3⟩ := (Sparse.wfFrom_cons d lo a w m).1 h
    have ha : a ≠ k := hm (a, w) (by simp)
    by_cases e : k < a
    · simp only [Sparse.ins, e, if_true]
      exact (Sparse.wfFrom_cons d lo k v _).2 ⟨hk, hv, (Sparse.wfFrom_cons d (some k) a w m).2 ⟨fun l hl => by cases hl; exact e, h2, h3⟩⟩
    · simp only [Sparse.ins, e, if_false]
      refine (Sparse.wfFrom_cons d lo a w _).2 ⟨h1, h2, Sparse.wfFrom_ins d k v hv m _ h3 (fun p hp => hm p (by simp [hp])) ?_⟩
      intro l hl; cases hl; omega

/-- A write keeps the canonical form. -/
theorem Sparse.wf_set [DecidableEq α] (d : Nat → α) (m : List (Nat × α)) (k : Nat) (v : α) (h : Sparse.wf d m = true) :
    Sparse.wf d (Sparse.set d m k v) = true := by
  unfold Sparse.set Sparse.wf at *
  by_cases hv : v = d k
  · rw [if_pos hv]; exact Sparse.wfFrom_erase d k m none h
  · rw [if_neg hv]
    exact Sparse.wfFrom_ins d k v hv _ none (Sparse.wfFrom_erase d k m none h) (Sparse.erase_keys k m) (fun l hl => by cases hl)

theorem Sparse.wf_setRun [DecidableEq α] (d : Nat → α) : ∀ (vs : List α) (m : List (Nat × α)) (k : Nat), Sparse.wf d m = true →
    Sparse.wf d (Sparse.setRun d m k vs) = true
  | [], _, _, h => h
  | v :: vs, m, k, h => Sparse.wf_setRun d vs _ (k + 1) (Sparse.wf_set d m k v h)

theorem Sparse.wfFrom_filter [DecidableEq α] (d : Nat → α) (p : Nat × α → Bool) : ∀ (m : List (Nat × α)) (lo : Option Nat),
    Sparse.wfFrom d lo m = true → Sparse.wfFrom d lo (m.filter p) = true
  | [], lo, _ => by simp [Sparse.wfFrom]
  | (a, v) :: m, lo, h => by
    obtain ⟨h1, h2, h3⟩ := (Sparse.wfFrom_cons d lo a v m).1 h
    have ih := Sparse.wfFrom_filter d p m (some a) h3
    by_cases e : p (a, v) = true
    · rw [List.filter_cons_of_pos e]; exact (Sparse.wfFrom_cons d lo a v _).2 ⟨h1, h2, ih⟩
    · rw [List.filter_cons_of_neg e]
      exact Sparse.wfFrom_mono d (some a) lo _ (fun b hb l hl => Nat.lt_trans (h1 l hl) (hb a rfl)) ih

/-- Dropping keys keeps the canonical form. -/
theorem Sparse.wf_filter [DecidableEq α] (d : Nat → α) (p : Nat × α → Bool) (m : List (Nat × α)) (h : Sparse.wf d m = true) :
    Sparse.wf d (m.filter p) = true := Sparse.wfFrom_filter d p m none h

end Sys2Proof.Machine
end

