-- ==== Sys2Proof/Laws/State.lean ====
section
/-! SUPPORT. What the basic updates of the state leave alone: one lemma for each field and update, all true by rfl. -/

namespace Sys2Proof.Machine

/-! State.setWord -/
@[simp] theorem State.setWord_pending : ∀ (s : State) (a : Nat) (w : Word), (s.setWord a w).pending = s.pending := by intros; rfl
@[simp] theorem State.setWord_free : ∀ (s : State) (a : Nat) (w : Word), (s.setWord a w).free = s.free := by intros; rfl
@[simp] theorem State.setWord_out : ∀ (s : State) (a : Nat) (w : Word), (s.setWord a w).out = s.out := by intros; rfl
@[simp] theorem State.setWord_pwr : ∀ (s : State) (a : Nat) (w : Word), (s.setWord a w).pwr = s.pwr := by intros; rfl
@[simp] theorem State.setWord_img : ∀ (s : State) (a : Nat) (w : Word), (s.setWord a w).img = s.img := by intros; rfl
@[simp] theorem State.setWord_ang : ∀ (s : State) (a : Nat) (w : Word), (s.setWord a w).ang = s.ang := by intros; rfl
@[simp] theorem State.setWord_chains : ∀ (s : State) (a : Nat) (w : Word), (s.setWord a w).chains = s.chains := by intros; rfl
@[simp] theorem State.setWord_nodes : ∀ (s : State) (a : Nat) (w : Word), (s.setWord a w).nodes = s.nodes := by intros; rfl
@[simp] theorem State.setWord_swp : ∀ (s : State) (a : Nat) (w : Word), (s.setWord a w).swp = s.swp := by intros; rfl
@[simp] theorem State.setWord_sto : ∀ (s : State) (a : Nat) (w : Word), (s.setWord a w).sto = s.sto := by intros; rfl
@[simp] theorem State.setWord_est : ∀ (s : State) (a : Nat) (w : Word), (s.setWord a w).est = s.est := by intros; rfl
@[simp] theorem State.setWord_sop : ∀ (s : State) (a : Nat) (w : Word), (s.setWord a w).sop = s.sop := by intros; rfl
@[simp] theorem State.setWord_dsc : ∀ (s : State) (a : Nat) (w : Word), (s.setWord a w).dsc = s.dsc := by intros; rfl
@[simp] theorem State.setWord_ctr : ∀ (s : State) (a : Nat) (w : Word), (s.setWord a w).ctr = s.ctr := by intros; rfl
@[simp] theorem State.setWord_pair : ∀ (s : State) (a : Nat) (w : Word), (s.setWord a w).pair = s.pair := by intros; rfl
@[simp] theorem State.setWord_sio : ∀ (s : State) (a : Nat) (w : Word), (s.setWord a w).sio = s.sio := by intros; rfl
@[simp] theorem State.setWord_sfl : ∀ (s : State) (a : Nat) (w : Word), (s.setWord a w).sfl = s.sfl := by intros; rfl
@[simp] theorem State.setWord_sw : ∀ (s : State) (a : Nat) (w : Word), (s.setWord a w).sw = s.sw := by intros; rfl
@[simp] theorem State.setWord_host : ∀ (s : State) (a : Nat) (w : Word), (s.setWord a w).host = s.host := by intros; rfl
@[simp] theorem State.setWord_log : ∀ (s : State) (a : Nat) (w : Word), (s.setWord a w).log = s.log := by intros; rfl
@[simp] theorem State.setWord_diag : ∀ (s : State) (a : Nat) (w : Word), (s.setWord a w).diag = s.diag := by intros; rfl

/-! State.put -/
@[simp] theorem State.put_pending : ∀ (s : State) (f : Fld) (v : Nat), (s.put f v).pending = s.pending := by intros; rfl
@[simp] theorem State.put_free : ∀ (s : State) (f : Fld) (v : Nat), (s.put f v).free = s.free := by intros; rfl
@[simp] theorem State.put_out : ∀ (s : State) (f : Fld) (v : Nat), (s.put f v).out = s.out := by intros; rfl
@[simp] theorem State.put_pwr : ∀ (s : State) (f : Fld) (v : Nat), (s.put f v).pwr = s.pwr := by intros; rfl
@[simp] theorem State.put_img : ∀ (s : State) (f : Fld) (v : Nat), (s.put f v).img = s.img := by intros; rfl
@[simp] theorem State.put_ang : ∀ (s : State) (f : Fld) (v : Nat), (s.put f v).ang = s.ang := by intros; rfl
@[simp] theorem State.put_chains : ∀ (s : State) (f : Fld) (v : Nat), (s.put f v).chains = s.chains := by intros; rfl
@[simp] theorem State.put_nodes : ∀ (s : State) (f : Fld) (v : Nat), (s.put f v).nodes = s.nodes := by intros; rfl
@[simp] theorem State.put_swp : ∀ (s : State) (f : Fld) (v : Nat), (s.put f v).swp = s.swp := by intros; rfl
@[simp] theorem State.put_sto : ∀ (s : State) (f : Fld) (v : Nat), (s.put f v).sto = s.sto := by intros; rfl
@[simp] theorem State.put_est : ∀ (s : State) (f : Fld) (v : Nat), (s.put f v).est = s.est := by intros; rfl
@[simp] theorem State.put_sop : ∀ (s : State) (f : Fld) (v : Nat), (s.put f v).sop = s.sop := by intros; rfl
@[simp] theorem State.put_dsc : ∀ (s : State) (f : Fld) (v : Nat), (s.put f v).dsc = s.dsc := by intros; rfl
@[simp] theorem State.put_ctr : ∀ (s : State) (f : Fld) (v : Nat), (s.put f v).ctr = s.ctr := by intros; rfl
@[simp] theorem State.put_pair : ∀ (s : State) (f : Fld) (v : Nat), (s.put f v).pair = s.pair := by intros; rfl
@[simp] theorem State.put_sio : ∀ (s : State) (f : Fld) (v : Nat), (s.put f v).sio = s.sio := by intros; rfl
@[simp] theorem State.put_sfl : ∀ (s : State) (f : Fld) (v : Nat), (s.put f v).sfl = s.sfl := by intros; rfl
@[simp] theorem State.put_sw : ∀ (s : State) (f : Fld) (v : Nat), (s.put f v).sw = s.sw := by intros; rfl
@[simp] theorem State.put_host : ∀ (s : State) (f : Fld) (v : Nat), (s.put f v).host = s.host := by intros; rfl
@[simp] theorem State.put_log : ∀ (s : State) (f : Fld) (v : Nat), (s.put f v).log = s.log := by intros; rfl
@[simp] theorem State.put_diag : ∀ (s : State) (f : Fld) (v : Nat), (s.put f v).diag = s.diag := by intros; rfl

/-! State.putB -/
@[simp] theorem State.putB_pending : ∀ (s : State) (f : Fld) (b : Bool), (s.putB f b).pending = s.pending := by intros; rfl
@[simp] theorem State.putB_free : ∀ (s : State) (f : Fld) (b : Bool), (s.putB f b).free = s.free := by intros; rfl
@[simp] theorem State.putB_out : ∀ (s : State) (f : Fld) (b : Bool), (s.putB f b).out = s.out := by intros; rfl
@[simp] theorem State.putB_pwr : ∀ (s : State) (f : Fld) (b : Bool), (s.putB f b).pwr = s.pwr := by intros; rfl
@[simp] theorem State.putB_img : ∀ (s : State) (f : Fld) (b : Bool), (s.putB f b).img = s.img := by intros; rfl
@[simp] theorem State.putB_ang : ∀ (s : State) (f : Fld) (b : Bool), (s.putB f b).ang = s.ang := by intros; rfl
@[simp] theorem State.putB_chains : ∀ (s : State) (f : Fld) (b : Bool), (s.putB f b).chains = s.chains := by intros; rfl
@[simp] theorem State.putB_nodes : ∀ (s : State) (f : Fld) (b : Bool), (s.putB f b).nodes = s.nodes := by intros; rfl
@[simp] theorem State.putB_swp : ∀ (s : State) (f : Fld) (b : Bool), (s.putB f b).swp = s.swp := by intros; rfl
@[simp] theorem State.putB_sto : ∀ (s : State) (f : Fld) (b : Bool), (s.putB f b).sto = s.sto := by intros; rfl
@[simp] theorem State.putB_est : ∀ (s : State) (f : Fld) (b : Bool), (s.putB f b).est = s.est := by intros; rfl
@[simp] theorem State.putB_sop : ∀ (s : State) (f : Fld) (b : Bool), (s.putB f b).sop = s.sop := by intros; rfl
@[simp] theorem State.putB_dsc : ∀ (s : State) (f : Fld) (b : Bool), (s.putB f b).dsc = s.dsc := by intros; rfl
@[simp] theorem State.putB_ctr : ∀ (s : State) (f : Fld) (b : Bool), (s.putB f b).ctr = s.ctr := by intros; rfl
@[simp] theorem State.putB_pair : ∀ (s : State) (f : Fld) (b : Bool), (s.putB f b).pair = s.pair := by intros; rfl
@[simp] theorem State.putB_sio : ∀ (s : State) (f : Fld) (b : Bool), (s.putB f b).sio = s.sio := by intros; rfl
@[simp] theorem State.putB_sfl : ∀ (s : State) (f : Fld) (b : Bool), (s.putB f b).sfl = s.sfl := by intros; rfl
@[simp] theorem State.putB_sw : ∀ (s : State) (f : Fld) (b : Bool), (s.putB f b).sw = s.sw := by intros; rfl
@[simp] theorem State.putB_host : ∀ (s : State) (f : Fld) (b : Bool), (s.putB f b).host = s.host := by intros; rfl
@[simp] theorem State.putB_log : ∀ (s : State) (f : Fld) (b : Bool), (s.putB f b).log = s.log := by intros; rfl
@[simp] theorem State.putB_diag : ∀ (s : State) (f : Fld) (b : Bool), (s.putB f b).diag = s.diag := by intros; rfl

/-! State.incBy -/
@[simp] theorem State.incBy_pending : ∀ (s : State) (f : Fld) (n : Nat), (s.incBy f n).pending = s.pending := by intros; rfl
@[simp] theorem State.incBy_free : ∀ (s : State) (f : Fld) (n : Nat), (s.incBy f n).free = s.free := by intros; rfl
@[simp] theorem State.incBy_out : ∀ (s : State) (f : Fld) (n : Nat), (s.incBy f n).out = s.out := by intros; rfl
@[simp] theorem State.incBy_pwr : ∀ (s : State) (f : Fld) (n : Nat), (s.incBy f n).pwr = s.pwr := by intros; rfl
@[simp] theorem State.incBy_img : ∀ (s : State) (f : Fld) (n : Nat), (s.incBy f n).img = s.img := by intros; rfl
@[simp] theorem State.incBy_ang : ∀ (s : State) (f : Fld) (n : Nat), (s.incBy f n).ang = s.ang := by intros; rfl
@[simp] theorem State.incBy_chains : ∀ (s : State) (f : Fld) (n : Nat), (s.incBy f n).chains = s.chains := by intros; rfl
@[simp] theorem State.incBy_nodes : ∀ (s : State) (f : Fld) (n : Nat), (s.incBy f n).nodes = s.nodes := by intros; rfl
@[simp] theorem State.incBy_swp : ∀ (s : State) (f : Fld) (n : Nat), (s.incBy f n).swp = s.swp := by intros; rfl
@[simp] theorem State.incBy_sto : ∀ (s : State) (f : Fld) (n : Nat), (s.incBy f n).sto = s.sto := by intros; rfl
@[simp] theorem State.incBy_est : ∀ (s : State) (f : Fld) (n : Nat), (s.incBy f n).est = s.est := by intros; rfl
@[simp] theorem State.incBy_sop : ∀ (s : State) (f : Fld) (n : Nat), (s.incBy f n).sop = s.sop := by intros; rfl
@[simp] theorem State.incBy_dsc : ∀ (s : State) (f : Fld) (n : Nat), (s.incBy f n).dsc = s.dsc := by intros; rfl
@[simp] theorem State.incBy_ctr : ∀ (s : State) (f : Fld) (n : Nat), (s.incBy f n).ctr = s.ctr := by intros; rfl
@[simp] theorem State.incBy_pair : ∀ (s : State) (f : Fld) (n : Nat), (s.incBy f n).pair = s.pair := by intros; rfl
@[simp] theorem State.incBy_sio : ∀ (s : State) (f : Fld) (n : Nat), (s.incBy f n).sio = s.sio := by intros; rfl
@[simp] theorem State.incBy_sfl : ∀ (s : State) (f : Fld) (n : Nat), (s.incBy f n).sfl = s.sfl := by intros; rfl
@[simp] theorem State.incBy_sw : ∀ (s : State) (f : Fld) (n : Nat), (s.incBy f n).sw = s.sw := by intros; rfl
@[simp] theorem State.incBy_host : ∀ (s : State) (f : Fld) (n : Nat), (s.incBy f n).host = s.host := by intros; rfl
@[simp] theorem State.incBy_log : ∀ (s : State) (f : Fld) (n : Nat), (s.incBy f n).log = s.log := by intros; rfl
@[simp] theorem State.incBy_diag : ∀ (s : State) (f : Fld) (n : Nat), (s.incBy f n).diag = s.diag := by intros; rfl

/-! State.inc -/
@[simp] theorem State.inc_pending : ∀ (s : State) (f : Fld), (s.inc f).pending = s.pending := by intros; rfl
@[simp] theorem State.inc_free : ∀ (s : State) (f : Fld), (s.inc f).free = s.free := by intros; rfl
@[simp] theorem State.inc_out : ∀ (s : State) (f : Fld), (s.inc f).out = s.out := by intros; rfl
@[simp] theorem State.inc_pwr : ∀ (s : State) (f : Fld), (s.inc f).pwr = s.pwr := by intros; rfl
@[simp] theorem State.inc_img : ∀ (s : State) (f : Fld), (s.inc f).img = s.img := by intros; rfl
@[simp] theorem State.inc_ang : ∀ (s : State) (f : Fld), (s.inc f).ang = s.ang := by intros; rfl
@[simp] theorem State.inc_chains : ∀ (s : State) (f : Fld), (s.inc f).chains = s.chains := by intros; rfl
@[simp] theorem State.inc_nodes : ∀ (s : State) (f : Fld), (s.inc f).nodes = s.nodes := by intros; rfl
@[simp] theorem State.inc_swp : ∀ (s : State) (f : Fld), (s.inc f).swp = s.swp := by intros; rfl
@[simp] theorem State.inc_sto : ∀ (s : State) (f : Fld), (s.inc f).sto = s.sto := by intros; rfl
@[simp] theorem State.inc_est : ∀ (s : State) (f : Fld), (s.inc f).est = s.est := by intros; rfl
@[simp] theorem State.inc_sop : ∀ (s : State) (f : Fld), (s.inc f).sop = s.sop := by intros; rfl
@[simp] theorem State.inc_dsc : ∀ (s : State) (f : Fld), (s.inc f).dsc = s.dsc := by intros; rfl
@[simp] theorem State.inc_ctr : ∀ (s : State) (f : Fld), (s.inc f).ctr = s.ctr := by intros; rfl
@[simp] theorem State.inc_pair : ∀ (s : State) (f : Fld), (s.inc f).pair = s.pair := by intros; rfl
@[simp] theorem State.inc_sio : ∀ (s : State) (f : Fld), (s.inc f).sio = s.sio := by intros; rfl
@[simp] theorem State.inc_sfl : ∀ (s : State) (f : Fld), (s.inc f).sfl = s.sfl := by intros; rfl
@[simp] theorem State.inc_sw : ∀ (s : State) (f : Fld), (s.inc f).sw = s.sw := by intros; rfl
@[simp] theorem State.inc_host : ∀ (s : State) (f : Fld), (s.inc f).host = s.host := by intros; rfl
@[simp] theorem State.inc_log : ∀ (s : State) (f : Fld), (s.inc f).log = s.log := by intros; rfl
@[simp] theorem State.inc_diag : ∀ (s : State) (f : Fld), (s.inc f).diag = s.diag := by intros; rfl

/-! State.putBit -/
@[simp] theorem State.putBit_pending : ∀ (s : State) (f : Fld) (i : Nat) (b : Bool), (s.putBit f i b).pending = s.pending := by intros; rfl
@[simp] theorem State.putBit_free : ∀ (s : State) (f : Fld) (i : Nat) (b : Bool), (s.putBit f i b).free = s.free := by intros; rfl
@[simp] theorem State.putBit_out : ∀ (s : State) (f : Fld) (i : Nat) (b : Bool), (s.putBit f i b).out = s.out := by intros; rfl
@[simp] theorem State.putBit_pwr : ∀ (s : State) (f : Fld) (i : Nat) (b : Bool), (s.putBit f i b).pwr = s.pwr := by intros; rfl
@[simp] theorem State.putBit_img : ∀ (s : State) (f : Fld) (i : Nat) (b : Bool), (s.putBit f i b).img = s.img := by intros; rfl
@[simp] theorem State.putBit_ang : ∀ (s : State) (f : Fld) (i : Nat) (b : Bool), (s.putBit f i b).ang = s.ang := by intros; rfl
@[simp] theorem State.putBit_chains : ∀ (s : State) (f : Fld) (i : Nat) (b : Bool), (s.putBit f i b).chains = s.chains := by intros; rfl
@[simp] theorem State.putBit_nodes : ∀ (s : State) (f : Fld) (i : Nat) (b : Bool), (s.putBit f i b).nodes = s.nodes := by intros; rfl
@[simp] theorem State.putBit_swp : ∀ (s : State) (f : Fld) (i : Nat) (b : Bool), (s.putBit f i b).swp = s.swp := by intros; rfl
@[simp] theorem State.putBit_sto : ∀ (s : State) (f : Fld) (i : Nat) (b : Bool), (s.putBit f i b).sto = s.sto := by intros; rfl
@[simp] theorem State.putBit_est : ∀ (s : State) (f : Fld) (i : Nat) (b : Bool), (s.putBit f i b).est = s.est := by intros; rfl
@[simp] theorem State.putBit_sop : ∀ (s : State) (f : Fld) (i : Nat) (b : Bool), (s.putBit f i b).sop = s.sop := by intros; rfl
@[simp] theorem State.putBit_dsc : ∀ (s : State) (f : Fld) (i : Nat) (b : Bool), (s.putBit f i b).dsc = s.dsc := by intros; rfl
@[simp] theorem State.putBit_ctr : ∀ (s : State) (f : Fld) (i : Nat) (b : Bool), (s.putBit f i b).ctr = s.ctr := by intros; rfl
@[simp] theorem State.putBit_pair : ∀ (s : State) (f : Fld) (i : Nat) (b : Bool), (s.putBit f i b).pair = s.pair := by intros; rfl
@[simp] theorem State.putBit_sio : ∀ (s : State) (f : Fld) (i : Nat) (b : Bool), (s.putBit f i b).sio = s.sio := by intros; rfl
@[simp] theorem State.putBit_sfl : ∀ (s : State) (f : Fld) (i : Nat) (b : Bool), (s.putBit f i b).sfl = s.sfl := by intros; rfl
@[simp] theorem State.putBit_sw : ∀ (s : State) (f : Fld) (i : Nat) (b : Bool), (s.putBit f i b).sw = s.sw := by intros; rfl
@[simp] theorem State.putBit_host : ∀ (s : State) (f : Fld) (i : Nat) (b : Bool), (s.putBit f i b).host = s.host := by intros; rfl
@[simp] theorem State.putBit_log : ∀ (s : State) (f : Fld) (i : Nat) (b : Bool), (s.putBit f i b).log = s.log := by intros; rfl
@[simp] theorem State.putBit_diag : ∀ (s : State) (f : Fld) (i : Nat) (b : Bool), (s.putBit f i b).diag = s.diag := by intros; rfl

/-! State.putW -/
@[simp] theorem State.putW_pending : ∀ (s : State) (f : Fld) (w : Word), (s.putW f w).pending = s.pending := by intros; rfl
@[simp] theorem State.putW_free : ∀ (s : State) (f : Fld) (w : Word), (s.putW f w).free = s.free := by intros; rfl
@[simp] theorem State.putW_out : ∀ (s : State) (f : Fld) (w : Word), (s.putW f w).out = s.out := by intros; rfl
@[simp] theorem State.putW_pwr : ∀ (s : State) (f : Fld) (w : Word), (s.putW f w).pwr = s.pwr := by intros; rfl
@[simp] theorem State.putW_img : ∀ (s : State) (f : Fld) (w : Word), (s.putW f w).img = s.img := by intros; rfl
@[simp] theorem State.putW_ang : ∀ (s : State) (f : Fld) (w : Word), (s.putW f w).ang = s.ang := by intros; rfl
@[simp] theorem State.putW_chains : ∀ (s : State) (f : Fld) (w : Word), (s.putW f w).chains = s.chains := by intros; rfl
@[simp] theorem State.putW_nodes : ∀ (s : State) (f : Fld) (w : Word), (s.putW f w).nodes = s.nodes := by intros; rfl
@[simp] theorem State.putW_swp : ∀ (s : State) (f : Fld) (w : Word), (s.putW f w).swp = s.swp := by intros; rfl
@[simp] theorem State.putW_sto : ∀ (s : State) (f : Fld) (w : Word), (s.putW f w).sto = s.sto := by intros; rfl
@[simp] theorem State.putW_est : ∀ (s : State) (f : Fld) (w : Word), (s.putW f w).est = s.est := by intros; rfl
@[simp] theorem State.putW_sop : ∀ (s : State) (f : Fld) (w : Word), (s.putW f w).sop = s.sop := by intros; rfl
@[simp] theorem State.putW_dsc : ∀ (s : State) (f : Fld) (w : Word), (s.putW f w).dsc = s.dsc := by intros; rfl
@[simp] theorem State.putW_ctr : ∀ (s : State) (f : Fld) (w : Word), (s.putW f w).ctr = s.ctr := by intros; rfl
@[simp] theorem State.putW_pair : ∀ (s : State) (f : Fld) (w : Word), (s.putW f w).pair = s.pair := by intros; rfl
@[simp] theorem State.putW_sio : ∀ (s : State) (f : Fld) (w : Word), (s.putW f w).sio = s.sio := by intros; rfl
@[simp] theorem State.putW_sfl : ∀ (s : State) (f : Fld) (w : Word), (s.putW f w).sfl = s.sfl := by intros; rfl
@[simp] theorem State.putW_sw : ∀ (s : State) (f : Fld) (w : Word), (s.putW f w).sw = s.sw := by intros; rfl
@[simp] theorem State.putW_host : ∀ (s : State) (f : Fld) (w : Word), (s.putW f w).host = s.host := by intros; rfl
@[simp] theorem State.putW_log : ∀ (s : State) (f : Fld) (w : Word), (s.putW f w).log = s.log := by intros; rfl
@[simp] theorem State.putW_diag : ∀ (s : State) (f : Fld) (w : Word), (s.putW f w).diag = s.diag := by intros; rfl

/-! State.setChain -/
@[simp] theorem State.setChain_regs : ∀ (s : State) (c : Nat) (x : ChainX), (s.setChain c x).regs = s.regs := by intros; rfl
@[simp] theorem State.setChain_pending : ∀ (s : State) (c : Nat) (x : ChainX), (s.setChain c x).pending = s.pending := by intros; rfl
@[simp] theorem State.setChain_free : ∀ (s : State) (c : Nat) (x : ChainX), (s.setChain c x).free = s.free := by intros; rfl
@[simp] theorem State.setChain_out : ∀ (s : State) (c : Nat) (x : ChainX), (s.setChain c x).out = s.out := by intros; rfl
@[simp] theorem State.setChain_pwr : ∀ (s : State) (c : Nat) (x : ChainX), (s.setChain c x).pwr = s.pwr := by intros; rfl
@[simp] theorem State.setChain_img : ∀ (s : State) (c : Nat) (x : ChainX), (s.setChain c x).img = s.img := by intros; rfl
@[simp] theorem State.setChain_ang : ∀ (s : State) (c : Nat) (x : ChainX), (s.setChain c x).ang = s.ang := by intros; rfl
@[simp] theorem State.setChain_nodes : ∀ (s : State) (c : Nat) (x : ChainX), (s.setChain c x).nodes = s.nodes := by intros; rfl
@[simp] theorem State.setChain_swp : ∀ (s : State) (c : Nat) (x : ChainX), (s.setChain c x).swp = s.swp := by intros; rfl
@[simp] theorem State.setChain_sto : ∀ (s : State) (c : Nat) (x : ChainX), (s.setChain c x).sto = s.sto := by intros; rfl
@[simp] theorem State.setChain_est : ∀ (s : State) (c : Nat) (x : ChainX), (s.setChain c x).est = s.est := by intros; rfl
@[simp] theorem State.setChain_sop : ∀ (s : State) (c : Nat) (x : ChainX), (s.setChain c x).sop = s.sop := by intros; rfl
@[simp] theorem State.setChain_dsc : ∀ (s : State) (c : Nat) (x : ChainX), (s.setChain c x).dsc = s.dsc := by intros; rfl
@[simp] theorem State.setChain_ctr : ∀ (s : State) (c : Nat) (x : ChainX), (s.setChain c x).ctr = s.ctr := by intros; rfl
@[simp] theorem State.setChain_pair : ∀ (s : State) (c : Nat) (x : ChainX), (s.setChain c x).pair = s.pair := by intros; rfl
@[simp] theorem State.setChain_sio : ∀ (s : State) (c : Nat) (x : ChainX), (s.setChain c x).sio = s.sio := by intros; rfl
@[simp] theorem State.setChain_sfl : ∀ (s : State) (c : Nat) (x : ChainX), (s.setChain c x).sfl = s.sfl := by intros; rfl
@[simp] theorem State.setChain_sw : ∀ (s : State) (c : Nat) (x : ChainX), (s.setChain c x).sw = s.sw := by intros; rfl
@[simp] theorem State.setChain_host : ∀ (s : State) (c : Nat) (x : ChainX), (s.setChain c x).host = s.host := by intros; rfl
@[simp] theorem State.setChain_log : ∀ (s : State) (c : Nat) (x : ChainX), (s.setChain c x).log = s.log := by intros; rfl
@[simp] theorem State.setChain_diag : ∀ (s : State) (c : Nat) (x : ChainX), (s.setChain c x).diag = s.diag := by intros; rfl

/-! State.setNode -/
@[simp] theorem State.setNode_regs : ∀ (s : State) (c p : Nat) (x : NodeX), (s.setNode c p x).regs = s.regs := by intros; rfl
@[simp] theorem State.setNode_pending : ∀ (s : State) (c p : Nat) (x : NodeX), (s.setNode c p x).pending = s.pending := by intros; rfl
@[simp] theorem State.setNode_free : ∀ (s : State) (c p : Nat) (x : NodeX), (s.setNode c p x).free = s.free := by intros; rfl
@[simp] theorem State.setNode_out : ∀ (s : State) (c p : Nat) (x : NodeX), (s.setNode c p x).out = s.out := by intros; rfl
@[simp] theorem State.setNode_pwr : ∀ (s : State) (c p : Nat) (x : NodeX), (s.setNode c p x).pwr = s.pwr := by intros; rfl
@[simp] theorem State.setNode_img : ∀ (s : State) (c p : Nat) (x : NodeX), (s.setNode c p x).img = s.img := by intros; rfl
@[simp] theorem State.setNode_ang : ∀ (s : State) (c p : Nat) (x : NodeX), (s.setNode c p x).ang = s.ang := by intros; rfl
@[simp] theorem State.setNode_chains : ∀ (s : State) (c p : Nat) (x : NodeX), (s.setNode c p x).chains = s.chains := by intros; rfl
@[simp] theorem State.setNode_swp : ∀ (s : State) (c p : Nat) (x : NodeX), (s.setNode c p x).swp = s.swp := by intros; rfl
@[simp] theorem State.setNode_sto : ∀ (s : State) (c p : Nat) (x : NodeX), (s.setNode c p x).sto = s.sto := by intros; rfl
@[simp] theorem State.setNode_est : ∀ (s : State) (c p : Nat) (x : NodeX), (s.setNode c p x).est = s.est := by intros; rfl
@[simp] theorem State.setNode_sop : ∀ (s : State) (c p : Nat) (x : NodeX), (s.setNode c p x).sop = s.sop := by intros; rfl
@[simp] theorem State.setNode_dsc : ∀ (s : State) (c p : Nat) (x : NodeX), (s.setNode c p x).dsc = s.dsc := by intros; rfl
@[simp] theorem State.setNode_ctr : ∀ (s : State) (c p : Nat) (x : NodeX), (s.setNode c p x).ctr = s.ctr := by intros; rfl
@[simp] theorem State.setNode_pair : ∀ (s : State) (c p : Nat) (x : NodeX), (s.setNode c p x).pair = s.pair := by intros; rfl
@[simp] theorem State.setNode_sio : ∀ (s : State) (c p : Nat) (x : NodeX), (s.setNode c p x).sio = s.sio := by intros; rfl
@[simp] theorem State.setNode_sfl : ∀ (s : State) (c p : Nat) (x : NodeX), (s.setNode c p x).sfl = s.sfl := by intros; rfl
@[simp] theorem State.setNode_sw : ∀ (s : State) (c p : Nat) (x : NodeX), (s.setNode c p x).sw = s.sw := by intros; rfl
@[simp] theorem State.setNode_host : ∀ (s : State) (c p : Nat) (x : NodeX), (s.setNode c p x).host = s.host := by intros; rfl
@[simp] theorem State.setNode_log : ∀ (s : State) (c p : Nat) (x : NodeX), (s.setNode c p x).log = s.log := by intros; rfl
@[simp] theorem State.setNode_diag : ∀ (s : State) (c p : Nat) (x : NodeX), (s.setNode c p x).diag = s.diag := by intros; rfl

/-! State.setStr -/
@[simp] theorem State.setStr_regs : ∀ (s : State) (n : Nat) (x : StrX), (s.setStr n x).regs = s.regs := by intros; rfl
@[simp] theorem State.setStr_pending : ∀ (s : State) (n : Nat) (x : StrX), (s.setStr n x).pending = s.pending := by intros; rfl
@[simp] theorem State.setStr_free : ∀ (s : State) (n : Nat) (x : StrX), (s.setStr n x).free = s.free := by intros; rfl
@[simp] theorem State.setStr_out : ∀ (s : State) (n : Nat) (x : StrX), (s.setStr n x).out = s.out := by intros; rfl
@[simp] theorem State.setStr_pwr : ∀ (s : State) (n : Nat) (x : StrX), (s.setStr n x).pwr = s.pwr := by intros; rfl
@[simp] theorem State.setStr_img : ∀ (s : State) (n : Nat) (x : StrX), (s.setStr n x).img = s.img := by intros; rfl
@[simp] theorem State.setStr_ang : ∀ (s : State) (n : Nat) (x : StrX), (s.setStr n x).ang = s.ang := by intros; rfl
@[simp] theorem State.setStr_chains : ∀ (s : State) (n : Nat) (x : StrX), (s.setStr n x).chains = s.chains := by intros; rfl
@[simp] theorem State.setStr_nodes : ∀ (s : State) (n : Nat) (x : StrX), (s.setStr n x).nodes = s.nodes := by intros; rfl
@[simp] theorem State.setStr_swp : ∀ (s : State) (n : Nat) (x : StrX), (s.setStr n x).swp = s.swp := by intros; rfl
@[simp] theorem State.setStr_sto : ∀ (s : State) (n : Nat) (x : StrX), (s.setStr n x).sto = s.sto := by intros; rfl
@[simp] theorem State.setStr_est : ∀ (s : State) (n : Nat) (x : StrX), (s.setStr n x).est = s.est := by intros; rfl
@[simp] theorem State.setStr_sop : ∀ (s : State) (n : Nat) (x : StrX), (s.setStr n x).sop = s.sop := by intros; rfl
@[simp] theorem State.setStr_dsc : ∀ (s : State) (n : Nat) (x : StrX), (s.setStr n x).dsc = s.dsc := by intros; rfl
@[simp] theorem State.setStr_pair : ∀ (s : State) (n : Nat) (x : StrX), (s.setStr n x).pair = s.pair := by intros; rfl
@[simp] theorem State.setStr_sio : ∀ (s : State) (n : Nat) (x : StrX), (s.setStr n x).sio = s.sio := by intros; rfl
@[simp] theorem State.setStr_sfl : ∀ (s : State) (n : Nat) (x : StrX), (s.setStr n x).sfl = s.sfl := by intros; rfl
@[simp] theorem State.setStr_sw : ∀ (s : State) (n : Nat) (x : StrX), (s.setStr n x).sw = s.sw := by intros; rfl
@[simp] theorem State.setStr_host : ∀ (s : State) (n : Nat) (x : StrX), (s.setStr n x).host = s.host := by intros; rfl
@[simp] theorem State.setStr_log : ∀ (s : State) (n : Nat) (x : StrX), (s.setStr n x).log = s.log := by intros; rfl
@[simp] theorem State.setStr_diag : ∀ (s : State) (n : Nat) (x : StrX), (s.setStr n x).diag = s.diag := by intros; rfl

/-! State.setConn -/
@[simp] theorem State.setConn_regs : ∀ (s : State) (n : Nat) (x : SflConn), (s.setConn n x).regs = s.regs := by intros; rfl
@[simp] theorem State.setConn_pending : ∀ (s : State) (n : Nat) (x : SflConn), (s.setConn n x).pending = s.pending := by intros; rfl
@[simp] theorem State.setConn_free : ∀ (s : State) (n : Nat) (x : SflConn), (s.setConn n x).free = s.free := by intros; rfl
@[simp] theorem State.setConn_out : ∀ (s : State) (n : Nat) (x : SflConn), (s.setConn n x).out = s.out := by intros; rfl
@[simp] theorem State.setConn_pwr : ∀ (s : State) (n : Nat) (x : SflConn), (s.setConn n x).pwr = s.pwr := by intros; rfl
@[simp] theorem State.setConn_img : ∀ (s : State) (n : Nat) (x : SflConn), (s.setConn n x).img = s.img := by intros; rfl
@[simp] theorem State.setConn_ang : ∀ (s : State) (n : Nat) (x : SflConn), (s.setConn n x).ang = s.ang := by intros; rfl
@[simp] theorem State.setConn_chains : ∀ (s : State) (n : Nat) (x : SflConn), (s.setConn n x).chains = s.chains := by intros; rfl
@[simp] theorem State.setConn_nodes : ∀ (s : State) (n : Nat) (x : SflConn), (s.setConn n x).nodes = s.nodes := by intros; rfl
@[simp] theorem State.setConn_swp : ∀ (s : State) (n : Nat) (x : SflConn), (s.setConn n x).swp = s.swp := by intros; rfl
@[simp] theorem State.setConn_sto : ∀ (s : State) (n : Nat) (x : SflConn), (s.setConn n x).sto = s.sto := by intros; rfl
@[simp] theorem State.setConn_est : ∀ (s : State) (n : Nat) (x : SflConn), (s.setConn n x).est = s.est := by intros; rfl
@[simp] theorem State.setConn_sop : ∀ (s : State) (n : Nat) (x : SflConn), (s.setConn n x).sop = s.sop := by intros; rfl
@[simp] theorem State.setConn_dsc : ∀ (s : State) (n : Nat) (x : SflConn), (s.setConn n x).dsc = s.dsc := by intros; rfl
@[simp] theorem State.setConn_ctr : ∀ (s : State) (n : Nat) (x : SflConn), (s.setConn n x).ctr = s.ctr := by intros; rfl
@[simp] theorem State.setConn_pair : ∀ (s : State) (n : Nat) (x : SflConn), (s.setConn n x).pair = s.pair := by intros; rfl
@[simp] theorem State.setConn_sio : ∀ (s : State) (n : Nat) (x : SflConn), (s.setConn n x).sio = s.sio := by intros; rfl
@[simp] theorem State.setConn_sw : ∀ (s : State) (n : Nat) (x : SflConn), (s.setConn n x).sw = s.sw := by intros; rfl
@[simp] theorem State.setConn_host : ∀ (s : State) (n : Nat) (x : SflConn), (s.setConn n x).host = s.host := by intros; rfl
@[simp] theorem State.setConn_log : ∀ (s : State) (n : Nat) (x : SflConn), (s.setConn n x).log = s.log := by intros; rfl
@[simp] theorem State.setConn_diag : ∀ (s : State) (n : Nat) (x : SflConn), (s.setConn n x).diag = s.diag := by intros; rfl

/-! State.setChan -/
@[simp] theorem State.setChan_regs : ∀ (s : State) (n : Nat) (x : SwChan), (s.setChan n x).regs = s.regs := by intros; rfl
@[simp] theorem State.setChan_pending : ∀ (s : State) (n : Nat) (x : SwChan), (s.setChan n x).pending = s.pending := by intros; rfl
@[simp] theorem State.setChan_free : ∀ (s : State) (n : Nat) (x : SwChan), (s.setChan n x).free = s.free := by intros; rfl
@[simp] theorem State.setChan_out : ∀ (s : State) (n : Nat) (x : SwChan), (s.setChan n x).out = s.out := by intros; rfl
@[simp] theorem State.setChan_pwr : ∀ (s : State) (n : Nat) (x : SwChan), (s.setChan n x).pwr = s.pwr := by intros; rfl
@[simp] theorem State.setChan_img : ∀ (s : State) (n : Nat) (x : SwChan), (s.setChan n x).img = s.img := by intros; rfl
@[simp] theorem State.setChan_ang : ∀ (s : State) (n : Nat) (x : SwChan), (s.setChan n x).ang = s.ang := by intros; rfl
@[simp] theorem State.setChan_chains : ∀ (s : State) (n : Nat) (x : SwChan), (s.setChan n x).chains = s.chains := by intros; rfl
@[simp] theorem State.setChan_nodes : ∀ (s : State) (n : Nat) (x : SwChan), (s.setChan n x).nodes = s.nodes := by intros; rfl
@[simp] theorem State.setChan_swp : ∀ (s : State) (n : Nat) (x : SwChan), (s.setChan n x).swp = s.swp := by intros; rfl
@[simp] theorem State.setChan_sto : ∀ (s : State) (n : Nat) (x : SwChan), (s.setChan n x).sto = s.sto := by intros; rfl
@[simp] theorem State.setChan_est : ∀ (s : State) (n : Nat) (x : SwChan), (s.setChan n x).est = s.est := by intros; rfl
@[simp] theorem State.setChan_sop : ∀ (s : State) (n : Nat) (x : SwChan), (s.setChan n x).sop = s.sop := by intros; rfl
@[simp] theorem State.setChan_dsc : ∀ (s : State) (n : Nat) (x : SwChan), (s.setChan n x).dsc = s.dsc := by intros; rfl
@[simp] theorem State.setChan_ctr : ∀ (s : State) (n : Nat) (x : SwChan), (s.setChan n x).ctr = s.ctr := by intros; rfl
@[simp] theorem State.setChan_pair : ∀ (s : State) (n : Nat) (x : SwChan), (s.setChan n x).pair = s.pair := by intros; rfl
@[simp] theorem State.setChan_sio : ∀ (s : State) (n : Nat) (x : SwChan), (s.setChan n x).sio = s.sio := by intros; rfl
@[simp] theorem State.setChan_sfl : ∀ (s : State) (n : Nat) (x : SwChan), (s.setChan n x).sfl = s.sfl := by intros; rfl
@[simp] theorem State.setChan_host : ∀ (s : State) (n : Nat) (x : SwChan), (s.setChan n x).host = s.host := by intros; rfl
@[simp] theorem State.setChan_log : ∀ (s : State) (n : Nat) (x : SwChan), (s.setChan n x).log = s.log := by intros; rfl
@[simp] theorem State.setChan_diag : ∀ (s : State) (n : Nat) (x : SwChan), (s.setChan n x).diag = s.diag := by intros; rfl

/-! State.setSto64 -/
@[simp] theorem State.setSto64_regs : ∀ (s : State) (off : Nat) (w : BitVec 64), (s.setSto64 off w).regs = s.regs := by intros; rfl
@[simp] theorem State.setSto64_pending : ∀ (s : State) (off : Nat) (w : BitVec 64), (s.setSto64 off w).pending = s.pending := by intros; rfl
@[simp] theorem State.setSto64_free : ∀ (s : State) (off : Nat) (w : BitVec 64), (s.setSto64 off w).free = s.free := by intros; rfl
@[simp] theorem State.setSto64_out : ∀ (s : State) (off : Nat) (w : BitVec 64), (s.setSto64 off w).out = s.out := by intros; rfl
@[simp] theorem State.setSto64_pwr : ∀ (s : State) (off : Nat) (w : BitVec 64), (s.setSto64 off w).pwr = s.pwr := by intros; rfl
@[simp] theorem State.setSto64_img : ∀ (s : State) (off : Nat) (w : BitVec 64), (s.setSto64 off w).img = s.img := by intros; rfl
@[simp] theorem State.setSto64_ang : ∀ (s : State) (off : Nat) (w : BitVec 64), (s.setSto64 off w).ang = s.ang := by intros; rfl
@[simp] theorem State.setSto64_chains : ∀ (s : State) (off : Nat) (w : BitVec 64), (s.setSto64 off w).chains = s.chains := by intros; rfl
@[simp] theorem State.setSto64_nodes : ∀ (s : State) (off : Nat) (w : BitVec 64), (s.setSto64 off w).nodes = s.nodes := by intros; rfl
@[simp] theorem State.setSto64_swp : ∀ (s : State) (off : Nat) (w : BitVec 64), (s.setSto64 off w).swp = s.swp := by intros; rfl
@[simp] theorem State.setSto64_est : ∀ (s : State) (off : Nat) (w : BitVec 64), (s.setSto64 off w).est = s.est := by intros; rfl
@[simp] theorem State.setSto64_sop : ∀ (s : State) (off : Nat) (w : BitVec 64), (s.setSto64 off w).sop = s.sop := by intros; rfl
@[simp] theorem State.setSto64_dsc : ∀ (s : State) (off : Nat) (w : BitVec 64), (s.setSto64 off w).dsc = s.dsc := by intros; rfl
@[simp] theorem State.setSto64_ctr : ∀ (s : State) (off : Nat) (w : BitVec 64), (s.setSto64 off w).ctr = s.ctr := by intros; rfl
@[simp] theorem State.setSto64_pair : ∀ (s : State) (off : Nat) (w : BitVec 64), (s.setSto64 off w).pair = s.pair := by intros; rfl
@[simp] theorem State.setSto64_sio : ∀ (s : State) (off : Nat) (w : BitVec 64), (s.setSto64 off w).sio = s.sio := by intros; rfl
@[simp] theorem State.setSto64_sfl : ∀ (s : State) (off : Nat) (w : BitVec 64), (s.setSto64 off w).sfl = s.sfl := by intros; rfl
@[simp] theorem State.setSto64_sw : ∀ (s : State) (off : Nat) (w : BitVec 64), (s.setSto64 off w).sw = s.sw := by intros; rfl
@[simp] theorem State.setSto64_host : ∀ (s : State) (off : Nat) (w : BitVec 64), (s.setSto64 off w).host = s.host := by intros; rfl
@[simp] theorem State.setSto64_log : ∀ (s : State) (off : Nat) (w : BitVec 64), (s.setSto64 off w).log = s.log := by intros; rfl
@[simp] theorem State.setSto64_diag : ∀ (s : State) (off : Nat) (w : BitVec 64), (s.setSto64 off w).diag = s.diag := by intros; rfl

/-! State.setSmp -/
@[simp] theorem State.setSmp_regs : ∀ (s : State) (j l : Nat) (w : BitVec 64), (s.setSmp j l w).regs = s.regs := by intros; rfl
@[simp] theorem State.setSmp_pending : ∀ (s : State) (j l : Nat) (w : BitVec 64), (s.setSmp j l w).pending = s.pending := by intros; rfl
@[simp] theorem State.setSmp_free : ∀ (s : State) (j l : Nat) (w : BitVec 64), (s.setSmp j l w).free = s.free := by intros; rfl
@[simp] theorem State.setSmp_out : ∀ (s : State) (j l : Nat) (w : BitVec 64), (s.setSmp j l w).out = s.out := by intros; rfl
@[simp] theorem State.setSmp_pwr : ∀ (s : State) (j l : Nat) (w : BitVec 64), (s.setSmp j l w).pwr = s.pwr := by intros; rfl
@[simp] theorem State.setSmp_img : ∀ (s : State) (j l : Nat) (w : BitVec 64), (s.setSmp j l w).img = s.img := by intros; rfl
@[simp] theorem State.setSmp_ang : ∀ (s : State) (j l : Nat) (w : BitVec 64), (s.setSmp j l w).ang = s.ang := by intros; rfl
@[simp] theorem State.setSmp_chains : ∀ (s : State) (j l : Nat) (w : BitVec 64), (s.setSmp j l w).chains = s.chains := by intros; rfl
@[simp] theorem State.setSmp_nodes : ∀ (s : State) (j l : Nat) (w : BitVec 64), (s.setSmp j l w).nodes = s.nodes := by intros; rfl
@[simp] theorem State.setSmp_swp : ∀ (s : State) (j l : Nat) (w : BitVec 64), (s.setSmp j l w).swp = s.swp := by intros; rfl
@[simp] theorem State.setSmp_est : ∀ (s : State) (j l : Nat) (w : BitVec 64), (s.setSmp j l w).est = s.est := by intros; rfl
@[simp] theorem State.setSmp_sop : ∀ (s : State) (j l : Nat) (w : BitVec 64), (s.setSmp j l w).sop = s.sop := by intros; rfl
@[simp] theorem State.setSmp_dsc : ∀ (s : State) (j l : Nat) (w : BitVec 64), (s.setSmp j l w).dsc = s.dsc := by intros; rfl
@[simp] theorem State.setSmp_ctr : ∀ (s : State) (j l : Nat) (w : BitVec 64), (s.setSmp j l w).ctr = s.ctr := by intros; rfl
@[simp] theorem State.setSmp_pair : ∀ (s : State) (j l : Nat) (w : BitVec 64), (s.setSmp j l w).pair = s.pair := by intros; rfl
@[simp] theorem State.setSmp_sio : ∀ (s : State) (j l : Nat) (w : BitVec 64), (s.setSmp j l w).sio = s.sio := by intros; rfl
@[simp] theorem State.setSmp_sfl : ∀ (s : State) (j l : Nat) (w : BitVec 64), (s.setSmp j l w).sfl = s.sfl := by intros; rfl
@[simp] theorem State.setSmp_sw : ∀ (s : State) (j l : Nat) (w : BitVec 64), (s.setSmp j l w).sw = s.sw := by intros; rfl
@[simp] theorem State.setSmp_host : ∀ (s : State) (j l : Nat) (w : BitVec 64), (s.setSmp j l w).host = s.host := by intros; rfl
@[simp] theorem State.setSmp_log : ∀ (s : State) (j l : Nat) (w : BitVec 64), (s.setSmp j l w).log = s.log := by intros; rfl
@[simp] theorem State.setSmp_diag : ∀ (s : State) (j l : Nat) (w : BitVec 64), (s.setSmp j l w).diag = s.diag := by intros; rfl

/-! State.setCell -/
@[simp] theorem State.setCell_regs : ∀ (s : State) (i : Nat) (x : CellX), (s.setCell i x).regs = s.regs := by intros; rfl
@[simp] theorem State.setCell_pending : ∀ (s : State) (i : Nat) (x : CellX), (s.setCell i x).pending = s.pending := by intros; rfl
@[simp] theorem State.setCell_free : ∀ (s : State) (i : Nat) (x : CellX), (s.setCell i x).free = s.free := by intros; rfl
@[simp] theorem State.setCell_out : ∀ (s : State) (i : Nat) (x : CellX), (s.setCell i x).out = s.out := by intros; rfl
@[simp] theorem State.setCell_pwr : ∀ (s : State) (i : Nat) (x : CellX), (s.setCell i x).pwr = s.pwr := by intros; rfl
@[simp] theorem State.setCell_img : ∀ (s : State) (i : Nat) (x : CellX), (s.setCell i x).img = s.img := by intros; rfl
@[simp] theorem State.setCell_ang : ∀ (s : State) (i : Nat) (x : CellX), (s.setCell i x).ang = s.ang := by intros; rfl
@[simp] theorem State.setCell_chains : ∀ (s : State) (i : Nat) (x : CellX), (s.setCell i x).chains = s.chains := by intros; rfl
@[simp] theorem State.setCell_nodes : ∀ (s : State) (i : Nat) (x : CellX), (s.setCell i x).nodes = s.nodes := by intros; rfl
@[simp] theorem State.setCell_swp : ∀ (s : State) (i : Nat) (x : CellX), (s.setCell i x).swp = s.swp := by intros; rfl
@[simp] theorem State.setCell_sto : ∀ (s : State) (i : Nat) (x : CellX), (s.setCell i x).sto = s.sto := by intros; rfl
@[simp] theorem State.setCell_sop : ∀ (s : State) (i : Nat) (x : CellX), (s.setCell i x).sop = s.sop := by intros; rfl
@[simp] theorem State.setCell_dsc : ∀ (s : State) (i : Nat) (x : CellX), (s.setCell i x).dsc = s.dsc := by intros; rfl
@[simp] theorem State.setCell_ctr : ∀ (s : State) (i : Nat) (x : CellX), (s.setCell i x).ctr = s.ctr := by intros; rfl
@[simp] theorem State.setCell_pair : ∀ (s : State) (i : Nat) (x : CellX), (s.setCell i x).pair = s.pair := by intros; rfl
@[simp] theorem State.setCell_sio : ∀ (s : State) (i : Nat) (x : CellX), (s.setCell i x).sio = s.sio := by intros; rfl
@[simp] theorem State.setCell_sfl : ∀ (s : State) (i : Nat) (x : CellX), (s.setCell i x).sfl = s.sfl := by intros; rfl
@[simp] theorem State.setCell_sw : ∀ (s : State) (i : Nat) (x : CellX), (s.setCell i x).sw = s.sw := by intros; rfl
@[simp] theorem State.setCell_host : ∀ (s : State) (i : Nat) (x : CellX), (s.setCell i x).host = s.host := by intros; rfl
@[simp] theorem State.setCell_log : ∀ (s : State) (i : Nat) (x : CellX), (s.setCell i x).log = s.log := by intros; rfl
@[simp] theorem State.setCell_diag : ∀ (s : State) (i : Nat) (x : CellX), (s.setCell i x).diag = s.diag := by intros; rfl

/-! State.emit -/
@[simp] theorem State.emit_regs : ∀ (s : State) (o : Output), (s.emit o).regs = s.regs := by intros; rfl
@[simp] theorem State.emit_pending : ∀ (s : State) (o : Output), (s.emit o).pending = s.pending := by intros; rfl
@[simp] theorem State.emit_free : ∀ (s : State) (o : Output), (s.emit o).free = s.free := by intros; rfl
@[simp] theorem State.emit_pwr : ∀ (s : State) (o : Output), (s.emit o).pwr = s.pwr := by intros; rfl
@[simp] theorem State.emit_img : ∀ (s : State) (o : Output), (s.emit o).img = s.img := by intros; rfl
@[simp] theorem State.emit_ang : ∀ (s : State) (o : Output), (s.emit o).ang = s.ang := by intros; rfl
@[simp] theorem State.emit_chains : ∀ (s : State) (o : Output), (s.emit o).chains = s.chains := by intros; rfl
@[simp] theorem State.emit_nodes : ∀ (s : State) (o : Output), (s.emit o).nodes = s.nodes := by intros; rfl
@[simp] theorem State.emit_swp : ∀ (s : State) (o : Output), (s.emit o).swp = s.swp := by intros; rfl
@[simp] theorem State.emit_sto : ∀ (s : State) (o : Output), (s.emit o).sto = s.sto := by intros; rfl
@[simp] theorem State.emit_est : ∀ (s : State) (o : Output), (s.emit o).est = s.est := by intros; rfl
@[simp] theorem State.emit_sop : ∀ (s : State) (o : Output), (s.emit o).sop = s.sop := by intros; rfl
@[simp] theorem State.emit_dsc : ∀ (s : State) (o : Output), (s.emit o).dsc = s.dsc := by intros; rfl
@[simp] theorem State.emit_ctr : ∀ (s : State) (o : Output), (s.emit o).ctr = s.ctr := by intros; rfl
@[simp] theorem State.emit_pair : ∀ (s : State) (o : Output), (s.emit o).pair = s.pair := by intros; rfl
@[simp] theorem State.emit_sio : ∀ (s : State) (o : Output), (s.emit o).sio = s.sio := by intros; rfl
@[simp] theorem State.emit_sfl : ∀ (s : State) (o : Output), (s.emit o).sfl = s.sfl := by intros; rfl
@[simp] theorem State.emit_sw : ∀ (s : State) (o : Output), (s.emit o).sw = s.sw := by intros; rfl
@[simp] theorem State.emit_host : ∀ (s : State) (o : Output), (s.emit o).host = s.host := by intros; rfl
@[simp] theorem State.emit_log : ∀ (s : State) (o : Output), (s.emit o).log = s.log := by intros; rfl
@[simp] theorem State.emit_diag : ∀ (s : State) (o : Output), (s.emit o).diag = s.diag := by intros; rfl

/-! State.setRing -/
@[simp] theorem State.setRing_regs : ∀ (s : State) (n : Nat) (x : RingX), (s.setRing n x).regs = s.regs := by intros; rfl
@[simp] theorem State.setRing_pending : ∀ (s : State) (n : Nat) (x : RingX), (s.setRing n x).pending = s.pending := by intros; rfl
@[simp] theorem State.setRing_free : ∀ (s : State) (n : Nat) (x : RingX), (s.setRing n x).free = s.free := by intros; rfl
@[simp] theorem State.setRing_out : ∀ (s : State) (n : Nat) (x : RingX), (s.setRing n x).out = s.out := by intros; rfl
@[simp] theorem State.setRing_pwr : ∀ (s : State) (n : Nat) (x : RingX), (s.setRing n x).pwr = s.pwr := by intros; rfl
@[simp] theorem State.setRing_img : ∀ (s : State) (n : Nat) (x : RingX), (s.setRing n x).img = s.img := by intros; rfl
@[simp] theorem State.setRing_ang : ∀ (s : State) (n : Nat) (x : RingX), (s.setRing n x).ang = s.ang := by intros; rfl
@[simp] theorem State.setRing_chains : ∀ (s : State) (n : Nat) (x : RingX), (s.setRing n x).chains = s.chains := by intros; rfl
@[simp] theorem State.setRing_nodes : ∀ (s : State) (n : Nat) (x : RingX), (s.setRing n x).nodes = s.nodes := by intros; rfl
@[simp] theorem State.setRing_swp : ∀ (s : State) (n : Nat) (x : RingX), (s.setRing n x).swp = s.swp := by intros; rfl
@[simp] theorem State.setRing_sto : ∀ (s : State) (n : Nat) (x : RingX), (s.setRing n x).sto = s.sto := by intros; rfl
@[simp] theorem State.setRing_est : ∀ (s : State) (n : Nat) (x : RingX), (s.setRing n x).est = s.est := by intros; rfl
@[simp] theorem State.setRing_sop : ∀ (s : State) (n : Nat) (x : RingX), (s.setRing n x).sop = s.sop := by intros; rfl
@[simp] theorem State.setRing_dsc : ∀ (s : State) (n : Nat) (x : RingX), (s.setRing n x).dsc = s.dsc := by intros; rfl
@[simp] theorem State.setRing_ctr : ∀ (s : State) (n : Nat) (x : RingX), (s.setRing n x).ctr = s.ctr := by intros; rfl
@[simp] theorem State.setRing_pair : ∀ (s : State) (n : Nat) (x : RingX), (s.setRing n x).pair = s.pair := by intros; rfl
@[simp] theorem State.setRing_sio : ∀ (s : State) (n : Nat) (x : RingX), (s.setRing n x).sio = s.sio := by intros; rfl
@[simp] theorem State.setRing_sfl : ∀ (s : State) (n : Nat) (x : RingX), (s.setRing n x).sfl = s.sfl := by intros; rfl
@[simp] theorem State.setRing_sw : ∀ (s : State) (n : Nat) (x : RingX), (s.setRing n x).sw = s.sw := by intros; rfl
@[simp] theorem State.setRing_log : ∀ (s : State) (n : Nat) (x : RingX), (s.setRing n x).log = s.log := by intros; rfl
@[simp] theorem State.setRing_diag : ∀ (s : State) (n : Nat) (x : RingX), (s.setRing n x).diag = s.diag := by intros; rfl

end Sys2Proof.Machine
end

