-- ==== Sys2Proof/Laws/Regs.lean ====
section
/-! SUPPORT. The laws of register words and fields. -/

namespace Sys2Proof.Machine

theorem State.word_setWord (s : State) (a : Nat) (w : Word) (b : Nat) : (s.setWord a w).word b = if b = a then w else s.word b :=
  Sparse.get_set resetWord s.regs a w b

@[simp] theorem State.word_setWord_self (s : State) (a : Nat) (w : Word) : (s.setWord a w).word a = w := by simp [State.word_setWord]

theorem State.word_setWord_other (s : State) (a : Nat) (w : Word) (b : Nat) (h : b ≠ a) : (s.setWord a w).word b = s.word b := by
  simp [State.word_setWord, h]

/-- Two states with the same registers read the same. -/
theorem State.word_congr {s t : State} (h : t.regs = s.regs) (a : Nat) : t.word a = s.word a := by simp [State.word, h]
theorem State.get_congr {s t : State} (h : t.regs = s.regs) (f : Fld) : t.get f = s.get f := by simp [State.get, State.word, h]
theorem State.getB_congr {s t : State} (h : t.regs = s.regs) (f : Fld) : t.getB f = s.getB f := by simp [State.getB, State.get_congr h]

theorem bitsOf_lt (v lo w : Nat) : bitsOf v lo w < 2 ^ w := Nat.mod_lt _ (Nat.two_pow_pos w)

/-- Bit `i` of a number with a field replaced. -/
theorem setBits_testBit (v lo w x i : Nat) :
    (setBits v lo w x).testBit i = if lo ≤ i ∧ i < lo + w then x.testBit (i - lo) else v.testBit i := by
  have key : setBits v lo w x = v % 2 ^ lo + (x % 2 ^ w) * 2 ^ lo + (v >>> (lo + w)) * 2 ^ (lo + w) := by
    unfold setBits bitsOf
    have h1 : v = v % 2 ^ lo + 2 ^ lo * (v >>> lo) := by rw [Nat.shiftRight_eq_div_pow]; exact (Nat.mod_add_div v _).symm
    have h2 : v >>> lo = (v >>> lo) % 2 ^ w + 2 ^ w * (v >>> (lo + w)) := by
      rw [Nat.shiftRight_add, Nat.shiftRight_eq_div_pow (v >>> lo)]; exact (Nat.mod_add_div _ _).symm
    have h3 : v = v % 2 ^ lo + ((v >>> lo) % 2 ^ w) * 2 ^ lo + (v >>> (lo + w)) * 2 ^ (lo + w) := by
      conv => lhs; rw [h1, h2]
      rw [Nat.mul_add, Nat.pow_add, Nat.mul_comm (2 ^ lo) ((v >>> lo) % 2 ^ w), ← Nat.mul_assoc, Nat.mul_comm (2 ^ lo * 2 ^ w), Nat.add_assoc]
    omega
  rw [key]
  have hx : x % 2 ^ w < 2 ^ w := Nat.mod_lt _ (Nat.two_pow_pos w)
  have hv : v % 2 ^ lo < 2 ^ lo := Nat.mod_lt _ (Nat.two_pow_pos lo)
  have hlow : v % 2 ^ lo + (x % 2 ^ w) * 2 ^ lo < 2 ^ (lo + w) := by
    rw [Nat.pow_add]
    calc v % 2 ^ lo + (x % 2 ^ w) * 2 ^ lo < 2 ^ lo + (x % 2 ^ w) * 2 ^ lo := by omega
      _ = (x % 2 ^ w + 1) * 2 ^ lo := by rw [Nat.add_mul, Nat.one_mul, Nat.add_comm]
      _ ≤ 2 ^ w * 2 ^ lo := Nat.mul_le_mul_right _ hx
      _ = 2 ^ lo * 2 ^ w := Nat.mul_comm _ _
  rw [Nat.add_comm _ ((v >>> (lo + w)) * _), Nat.mul_comm (v >>> (lo + w)), Nat.testBit_two_pow_mul_add _ hlow]
  by_cases hi : i < lo + w
  · rw [if_pos hi, Nat.add_comm (v % 2 ^ lo), Nat.mul_comm (x % 2 ^ w), Nat.testBit_two_pow_mul_add _ hv]
    by_cases hl : i < lo
    · rw [if_pos hl, if_neg (by omega), Nat.testBit_mod_two_pow]; simp [hl]
    · rw [if_neg hl, if_pos (by omega), Nat.testBit_mod_two_pow]
      have : i - lo < w := by omega
      simp [this]
  · rw [if_neg hi, if_neg (by omega), Nat.testBit_shiftRight]
    congr 1; omega

theorem bitsOf_testBit (v lo w i : Nat) : (bitsOf v lo w).testBit i = (decide (i < w) && v.testBit (lo + i)) := by
  unfold bitsOf; rw [Nat.testBit_mod_two_pow, Nat.testBit_shiftRight]

theorem setBits_lt (v lo w x : Nat) (hv : v < 2 ^ 32) (hf : lo + w ≤ 32) : setBits v lo w x < 2 ^ 32 := by
  apply Nat.lt_pow_two_of_testBit
  intro i hi
  rw [setBits_testBit, if_neg (by omega)]
  exact Nat.testBit_lt_two_pow (Nat.lt_of_lt_of_le hv (Nat.pow_le_pow_right (by decide) hi))

/-- Bit `i` of a register word after a field is replaced. -/
theorem State.put_bit (s : State) (f : Fld) (v a i : Nat) (hf : f.lo + f.w ≤ 32) :
    ((s.put f v).word a).getLsbD i = if f.has a i = true then v.testBit (i - f.lo) else (s.word a).getLsbD i := by
  unfold State.put
  rw [State.word_setWord]
  by_cases h : a = f.addr
  · subst h
    rw [if_pos rfl, BitVec.getLsbD_ofNat, setBits_testBit]
    by_cases hi : i < 32
    · by_cases hr : f.lo ≤ i ∧ i < f.lo + f.w
      · have : f.has f.addr i = true := by simp [Fld.has, hr.1, hr.2]
        rw [if_pos hr, if_pos this]; simp [hi]
      · have : ¬ f.has f.addr i = true := by
          simp only [Fld.has, beq_self_eq_true, Bool.true_and, Bool.and_eq_true, decide_eq_true_eq]; exact hr
        rw [if_neg hr, if_neg this]; simp [hi, BitVec.getLsbD]
    · have : ¬ f.has f.addr i = true := by
        simp only [Fld.has, beq_self_eq_true, Bool.true_and, Bool.and_eq_true, decide_eq_true_eq]; omega
      rw [if_neg this]; simp only [hi, decide_false, Bool.false_and]
      exact (BitVec.getLsbD_of_ge _ _ (by omega)).symm
  · have : ¬ f.has a i = true := by simp [Fld.has, Ne.symm h]
    rw [if_neg h, if_neg this]

/-- A field reads what was put into it. -/
theorem State.get_put_self (s : State) (f : Fld) (v : Nat) (hf : f.lo + f.w ≤ 32) : (s.put f v).get f = v % 2 ^ f.w := by
  apply Nat.eq_of_testBit_eq; intro i
  unfold State.get
  rw [bitsOf_testBit, Nat.testBit_mod_two_pow]
  by_cases hi : i < f.w
  · have h1 := State.put_bit s f v f.addr (f.lo + i) hf
    have : f.has f.addr (f.lo + i) = true := by simp [Fld.has, hi]
    rw [if_pos this, Nat.add_sub_cancel_left] at h1
    rw [← h1]; simp [hi, BitVec.getLsbD]
  · simp [hi]

/-- Two fields share no bit. -/
def Fld.disj (f g : Fld) : Bool := f.addr != g.addr || decide (f.lo + f.w ≤ g.lo) || decide (g.lo + g.w ≤ f.lo)

/-- A field keeps its value when another is put. -/
theorem State.get_put_other (s : State) (f g : Fld) (v : Nat) (hf : f.lo + f.w ≤ 32) (h : f.disj g = true) : (s.put f v).get g = s.get g := by
  apply Nat.eq_of_testBit_eq; intro i
  unfold State.get
  rw [bitsOf_testBit, bitsOf_testBit]
  by_cases hi : i < g.w
  · have h1 := State.put_bit s f v g.addr (g.lo + i) hf
    have : ¬ f.has g.addr (g.lo + i) = true := by
      simp only [Fld.disj, bne_iff_ne, Bool.or_eq_true, ne_eq, decide_eq_true_eq] at h
      simp only [Fld.has, Bool.and_eq_true, beq_iff_eq, decide_eq_true_eq]
      rintro ⟨⟨h2, h3⟩, h4⟩
      rcases h with (h | h) | h
      · exact h h2
      · omega
      · omega
    rw [if_neg this] at h1
    simpa [hi, BitVec.getLsbD] using h1
  · simp [hi]

/-- A field reads below its range. -/
theorem State.get_lt (s : State) (f : Fld) : s.get f < 2 ^ f.w := bitsOf_lt _ _ _

end Sys2Proof.Machine

namespace Sys2Proof

open Sys2Proof.Machine

theorem FieldsBut.refl (s : Machine.State) (fs : List Machine.Fld) : FieldsBut s s fs := fun _ _ _ => rfl

theorem FieldsBut.trans {s t u : Machine.State} {fs : List Machine.Fld} (h : FieldsBut s t fs) (g : FieldsBut t u fs) : FieldsBut s u fs :=
  fun a i hf => (g a i hf).trans (h a i hf)

theorem FieldsBut.mono {s t : Machine.State} {fs gs : List Machine.Fld} (h : FieldsBut s t fs) (hs : ∀ f ∈ fs, f ∈ gs) : FieldsBut s t gs :=
  fun a i hf => h a i (fun f m => hf f (hs f m))

/-- Registers that are the same data read the same. -/
theorem FieldsBut.of_regs {s t : Machine.State} (h : t.regs = s.regs) (fs : List Machine.Fld) : FieldsBut s t fs :=
  fun a _ _ => by rw [State.word_congr h a]

/-- Putting a field named changes nothing else. -/
theorem FieldsBut.put (s : Machine.State) (f : Machine.Fld) (v : Nat) (fs : List Machine.Fld) (hm : f ∈ fs) (hf : f.lo + f.w ≤ 32) :
    FieldsBut s (s.put f v) fs := by
  intro a i h
  rw [State.put_bit s f v a i hf, if_neg (by simp [h f hm])]

/-- A field that shares no bit with those named keeps its value. -/
theorem FieldsBut.get {s t : Machine.State} {fs : List Machine.Fld} (h : FieldsBut s t fs) (g : Machine.Fld)
    (hg : ∀ f ∈ fs, f.disj g = true) : t.get g = s.get g := by
  apply Nat.eq_of_testBit_eq; intro i
  unfold State.get
  rw [bitsOf_testBit, bitsOf_testBit]
  by_cases hi : i < g.w
  · have := h g.addr (g.lo + i) (fun f m => by
      have hd := hg f m
      simp only [Fld.disj, bne_iff_ne, Bool.or_eq_true, ne_eq, decide_eq_true_eq] at hd
      simp only [Fld.has, Bool.and_eq_false_iff, beq_eq_false_iff_ne, decide_eq_false_iff_not]
      rcases hd with (hd | hd) | hd
      · exact .inl (.inl hd)
      · right; omega
      · left; right; omega)
    simpa [hi, BitVec.getLsbD] using this
  · simp [hi]

end Sys2Proof
end

