-- ==== Sys2Proof/Laws/Ops.lean ====
section
/-! SUPPORT. The shared operations: what a message, a cause bit and an event record change, and the outcome of a command. -/

namespace Sys2Proof.Machine

/-! State.sendVector -/
@[simp] theorem State.sendVector_regs (s : State) (v : Nat) : (s.sendVector v).regs = s.regs := by
  unfold State.sendVector; split <;> rfl
@[simp] theorem State.sendVector_pending (s : State) (v : Nat) : (s.sendVector v).pending = s.pending := by
  unfold State.sendVector; split <;> rfl
@[simp] theorem State.sendVector_free (s : State) (v : Nat) : (s.sendVector v).free = s.free := by
  unfold State.sendVector; split <;> rfl
@[simp] theorem State.sendVector_pwr (s : State) (v : Nat) : (s.sendVector v).pwr = s.pwr := by
  unfold State.sendVector; split <;> rfl
@[simp] theorem State.sendVector_img (s : State) (v : Nat) : (s.sendVector v).img = s.img := by
  unfold State.sendVector; split <;> rfl
@[simp] theorem State.sendVector_ang (s : State) (v : Nat) : (s.sendVector v).ang = s.ang := by
  unfold State.sendVector; split <;> rfl
@[simp] theorem State.sendVector_chains (s : State) (v : Nat) : (s.sendVector v).chains = s.chains := by
  unfold State.sendVector; split <;> rfl
@[simp] theorem State.sendVector_nodes (s : State) (v : Nat) : (s.sendVector v).nodes = s.nodes := by
  unfold State.sendVector; split <;> rfl
@[simp] theorem State.sendVector_swp (s : State) (v : Nat) : (s.sendVector v).swp = s.swp := by
  unfold State.sendVector; split <;> rfl
@[simp] theorem State.sendVector_sto (s : State) (v : Nat) : (s.sendVector v).sto = s.sto := by
  unfold State.sendVector; split <;> rfl
@[simp] theorem State.sendVector_est (s : State) (v : Nat) : (s.sendVector v).est = s.est := by
  unfold State.sendVector; split <;> rfl
@[simp] theorem State.sendVector_sop (s : State) (v : Nat) : (s.sendVector v).sop = s.sop := by
  unfold State.sendVector; split <;> rfl
@[simp] theorem State.sendVector_dsc (s : State) (v : Nat) : (s.sendVector v).dsc = s.dsc := by
  unfold State.sendVector; split <;> rfl
@[simp] theorem State.sendVector_ctr (s : State) (v : Nat) : (s.sendVector v).ctr = s.ctr := by
  unfold State.sendVector; split <;> rfl
@[simp] theorem State.sendVector_pair (s : State) (v : Nat) : (s.sendVector v).pair = s.pair := by
  unfold State.sendVector; split <;> rfl
@[simp] theorem State.sendVector_sio (s : State) (v : Nat) : (s.sendVector v).sio = s.sio := by
  unfold State.sendVector; split <;> rfl
@[simp] theorem State.sendVector_sfl (s : State) (v : Nat) : (s.sendVector v).sfl = s.sfl := by
  unfold State.sendVector; split <;> rfl
@[simp] theorem State.sendVector_sw (s : State) (v : Nat) : (s.sendVector v).sw = s.sw := by
  unfold State.sendVector; split <;> rfl
@[simp] theorem State.sendVector_log (s : State) (v : Nat) : (s.sendVector v).log = s.log := by
  unfold State.sendVector; split <;> rfl
@[simp] theorem State.sendVector_diag (s : State) (v : Nat) : (s.sendVector v).diag = s.diag := by
  unfold State.sendVector; split <;> rfl

/-! State.setCause -/
@[simp] theorem State.setCause_regs (s : State) (j : Nat) : (s.setCause j).regs = s.regs := by
  unfold State.setCause; repeat' split
  all_goals first | rfl | simp only [State.sendVector_regs]
@[simp] theorem State.setCause_pending (s : State) (j : Nat) : (s.setCause j).pending = s.pending := by
  unfold State.setCause; repeat' split
  all_goals first | rfl | simp only [State.sendVector_pending]
@[simp] theorem State.setCause_free (s : State) (j : Nat) : (s.setCause j).free = s.free := by
  unfold State.setCause; repeat' split
  all_goals first | rfl | simp only [State.sendVector_free]
@[simp] theorem State.setCause_pwr (s : State) (j : Nat) : (s.setCause j).pwr = s.pwr := by
  unfold State.setCause; repeat' split
  all_goals first | rfl | simp only [State.sendVector_pwr]
@[simp] theorem State.setCause_img (s : State) (j : Nat) : (s.setCause j).img = s.img := by
  unfold State.setCause; repeat' split
  all_goals first | rfl | simp only [State.sendVector_img]
@[simp] theorem State.setCause_ang (s : State) (j : Nat) : (s.setCause j).ang = s.ang := by
  unfold State.setCause; repeat' split
  all_goals first | rfl | simp only [State.sendVector_ang]
@[simp] theorem State.setCause_chains (s : State) (j : Nat) : (s.setCause j).chains = s.chains := by
  unfold State.setCause; repeat' split
  all_goals first | rfl | simp only [State.sendVector_chains]
@[simp] theorem State.setCause_nodes (s : State) (j : Nat) : (s.setCause j).nodes = s.nodes := by
  unfold State.setCause; repeat' split
  all_goals first | rfl | simp only [State.sendVector_nodes]
@[simp] theorem State.setCause_swp (s : State) (j : Nat) : (s.setCause j).swp = s.swp := by
  unfold State.setCause; repeat' split
  all_goals first | rfl | simp only [State.sendVector_swp]
@[simp] theorem State.setCause_sto (s : State) (j : Nat) : (s.setCause j).sto = s.sto := by
  unfold State.setCause; repeat' split
  all_goals first | rfl | simp only [State.sendVector_sto]
@[simp] theorem State.setCause_est (s : State) (j : Nat) : (s.setCause j).est = s.est := by
  unfold State.setCause; repeat' split
  all_goals first | rfl | simp only [State.sendVector_est]
@[simp] theorem State.setCause_sop (s : State) (j : Nat) : (s.setCause j).sop = s.sop := by
  unfold State.setCause; repeat' split
  all_goals first | rfl | simp only [State.sendVector_sop]
@[simp] theorem State.setCause_dsc (s : State) (j : Nat) : (s.setCause j).dsc = s.dsc := by
  unfold State.setCause; repeat' split
  all_goals first | rfl | simp only [State.sendVector_dsc]
@[simp] theorem State.setCause_ctr (s : State) (j : Nat) : (s.setCause j).ctr = s.ctr := by
  unfold State.setCause; repeat' split
  all_goals first | rfl | simp only [State.sendVector_ctr]
@[simp] theorem State.setCause_pair (s : State) (j : Nat) : (s.setCause j).pair = s.pair := by
  unfold State.setCause; repeat' split
  all_goals first | rfl | simp only [State.sendVector_pair]
@[simp] theorem State.setCause_sio (s : State) (j : Nat) : (s.setCause j).sio = s.sio := by
  unfold State.setCause; repeat' split
  all_goals first | rfl | simp only [State.sendVector_sio]
@[simp] theorem State.setCause_sfl (s : State) (j : Nat) : (s.setCause j).sfl = s.sfl := by
  unfold State.setCause; repeat' split
  all_goals first | rfl | simp only [State.sendVector_sfl]
@[simp] theorem State.setCause_sw (s : State) (j : Nat) : (s.setCause j).sw = s.sw := by
  unfold State.setCause; repeat' split
  all_goals first | rfl | simp only [State.sendVector_sw]
@[simp] theorem State.setCause_log (s : State) (j : Nat) : (s.setCause j).log = s.log := by
  unfold State.setCause; repeat' split
  all_goals first | rfl | simp only [State.sendVector_log]
@[simp] theorem State.setCause_diag (s : State) (j : Nat) : (s.setCause j).diag = s.diag := by
  unfold State.setCause; repeat' split
  all_goals first | rfl | simp only [State.sendVector_diag]

/-! State.logCause -/
@[simp] theorem State.logCause_regs (s : State) (c : Nat) (w : Wrote) : (s.logCause c w).regs = s.regs := by
  unfold State.logCause; repeat' split
  all_goals first | rfl | simp only [State.setCause_regs]
@[simp] theorem State.logCause_pending (s : State) (c : Nat) (w : Wrote) : (s.logCause c w).pending = s.pending := by
  unfold State.logCause; repeat' split
  all_goals first | rfl | simp only [State.setCause_pending]
@[simp] theorem State.logCause_free (s : State) (c : Nat) (w : Wrote) : (s.logCause c w).free = s.free := by
  unfold State.logCause; repeat' split
  all_goals first | rfl | simp only [State.setCause_free]
@[simp] theorem State.logCause_pwr (s : State) (c : Nat) (w : Wrote) : (s.logCause c w).pwr = s.pwr := by
  unfold State.logCause; repeat' split
  all_goals first | rfl | simp only [State.setCause_pwr]
@[simp] theorem State.logCause_img (s : State) (c : Nat) (w : Wrote) : (s.logCause c w).img = s.img := by
  unfold State.logCause; repeat' split
  all_goals first | rfl | simp only [State.setCause_img]
@[simp] theorem State.logCause_ang (s : State) (c : Nat) (w : Wrote) : (s.logCause c w).ang = s.ang := by
  unfold State.logCause; repeat' split
  all_goals first | rfl | simp only [State.setCause_ang]
@[simp] theorem State.logCause_chains (s : State) (c : Nat) (w : Wrote) : (s.logCause c w).chains = s.chains := by
  unfold State.logCause; repeat' split
  all_goals first | rfl | simp only [State.setCause_chains]
@[simp] theorem State.logCause_nodes (s : State) (c : Nat) (w : Wrote) : (s.logCause c w).nodes = s.nodes := by
  unfold State.logCause; repeat' split
  all_goals first | rfl | simp only [State.setCause_nodes]
@[simp] theorem State.logCause_swp (s : State) (c : Nat) (w : Wrote) : (s.logCause c w).swp = s.swp := by
  unfold State.logCause; repeat' split
  all_goals first | rfl | simp only [State.setCause_swp]
@[simp] theorem State.logCause_sto (s : State) (c : Nat) (w : Wrote) : (s.logCause c w).sto = s.sto := by
  unfold State.logCause; repeat' split
  all_goals first | rfl | simp only [State.setCause_sto]
@[simp] theorem State.logCause_est (s : State) (c : Nat) (w : Wrote) : (s.logCause c w).est = s.est := by
  unfold State.logCause; repeat' split
  all_goals first | rfl | simp only [State.setCause_est]
@[simp] theorem State.logCause_sop (s : State) (c : Nat) (w : Wrote) : (s.logCause c w).sop = s.sop := by
  unfold State.logCause; repeat' split
  all_goals first | rfl | simp only [State.setCause_sop]
@[simp] theorem State.logCause_dsc (s : State) (c : Nat) (w : Wrote) : (s.logCause c w).dsc = s.dsc := by
  unfold State.logCause; repeat' split
  all_goals first | rfl | simp only [State.setCause_dsc]
@[simp] theorem State.logCause_ctr (s : State) (c : Nat) (w : Wrote) : (s.logCause c w).ctr = s.ctr := by
  unfold State.logCause; repeat' split
  all_goals first | rfl | simp only [State.setCause_ctr]
@[simp] theorem State.logCause_pair (s : State) (c : Nat) (w : Wrote) : (s.logCause c w).pair = s.pair := by
  unfold State.logCause; repeat' split
  all_goals first | rfl | simp only [State.setCause_pair]
@[simp] theorem State.logCause_sio (s : State) (c : Nat) (w : Wrote) : (s.logCause c w).sio = s.sio := by
  unfold State.logCause; repeat' split
  all_goals first | rfl | simp only [State.setCause_sio]
@[simp] theorem State.logCause_sfl (s : State) (c : Nat) (w : Wrote) : (s.logCause c w).sfl = s.sfl := by
  unfold State.logCause; repeat' split
  all_goals first | rfl | simp only [State.setCause_sfl]
@[simp] theorem State.logCause_sw (s : State) (c : Nat) (w : Wrote) : (s.logCause c w).sw = s.sw := by
  unfold State.logCause; repeat' split
  all_goals first | rfl | simp only [State.setCause_sw]
@[simp] theorem State.logCause_log (s : State) (c : Nat) (w : Wrote) : (s.logCause c w).log = s.log := by
  unfold State.logCause; repeat' split
  all_goals first | rfl | simp only [State.setCause_log]
@[simp] theorem State.logCause_diag (s : State) (c : Nat) (w : Wrote) : (s.logCause c w).diag = s.diag := by
  unfold State.logCause; repeat' split
  all_goals first | rfl | simp only [State.setCause_diag]

/-! State.record -/
@[simp] theorem State.record_regs (s : State) (e : Event) (k : Nat) : (s.record e k).regs = s.regs := by
  unfold State.record; repeat' split
  all_goals first | rfl | (simp only [State.logCause_regs]; done) | (dsimp only; split <;> simp only [State.logCause_regs])
@[simp] theorem State.record_pending (s : State) (e : Event) (k : Nat) : (s.record e k).pending = s.pending := by
  unfold State.record; repeat' split
  all_goals first | rfl | (simp only [State.logCause_pending]; done) | (dsimp only; split <;> simp only [State.logCause_pending])
@[simp] theorem State.record_free (s : State) (e : Event) (k : Nat) : (s.record e k).free = s.free := by
  unfold State.record; repeat' split
  all_goals first | rfl | (simp only [State.logCause_free]; done) | (dsimp only; split <;> simp only [State.logCause_free])
@[simp] theorem State.record_pwr (s : State) (e : Event) (k : Nat) : (s.record e k).pwr = s.pwr := by
  unfold State.record; repeat' split
  all_goals first | rfl | (simp only [State.logCause_pwr]; done) | (dsimp only; split <;> simp only [State.logCause_pwr])
@[simp] theorem State.record_img (s : State) (e : Event) (k : Nat) : (s.record e k).img = s.img := by
  unfold State.record; repeat' split
  all_goals first | rfl | (simp only [State.logCause_img]; done) | (dsimp only; split <;> simp only [State.logCause_img])
@[simp] theorem State.record_ang (s : State) (e : Event) (k : Nat) : (s.record e k).ang = s.ang := by
  unfold State.record; repeat' split
  all_goals first | rfl | (simp only [State.logCause_ang]; done) | (dsimp only; split <;> simp only [State.logCause_ang])
@[simp] theorem State.record_chains (s : State) (e : Event) (k : Nat) : (s.record e k).chains = s.chains := by
  unfold State.record; repeat' split
  all_goals first | rfl | (simp only [State.logCause_chains]; done) | (dsimp only; split <;> simp only [State.logCause_chains])
@[simp] theorem State.record_nodes (s : State) (e : Event) (k : Nat) : (s.record e k).nodes = s.nodes := by
  unfold State.record; repeat' split
  all_goals first | rfl | (simp only [State.logCause_nodes]; done) | (dsimp only; split <;> simp only [State.logCause_nodes])
@[simp] theorem State.record_swp (s : State) (e : Event) (k : Nat) : (s.record e k).swp = s.swp := by
  unfold State.record; repeat' split
  all_goals first | rfl | (simp only [State.logCause_swp]; done) | (dsimp only; split <;> simp only [State.logCause_swp])
@[simp] theorem State.record_sto (s : State) (e : Event) (k : Nat) : (s.record e k).sto = s.sto := by
  unfold State.record; repeat' split
  all_goals first | rfl | (simp only [State.logCause_sto]; done) | (dsimp only; split <;> simp only [State.logCause_sto])
@[simp] theorem State.record_est (s : State) (e : Event) (k : Nat) : (s.record e k).est = s.est := by
  unfold State.record; repeat' split
  all_goals first | rfl | (simp only [State.logCause_est]; done) | (dsimp only; split <;> simp only [State.logCause_est])
@[simp] theorem State.record_sop (s : State) (e : Event) (k : Nat) : (s.record e k).sop = s.sop := by
  unfold State.record; repeat' split
  all_goals first | rfl | (simp only [State.logCause_sop]; done) | (dsimp only; split <;> simp only [State.logCause_sop])
@[simp] theorem State.record_dsc (s : State) (e : Event) (k : Nat) : (s.record e k).dsc = s.dsc := by
  unfold State.record; repeat' split
  all_goals first | rfl | (simp only [State.logCause_dsc]; done) | (dsimp only; split <;> simp only [State.logCause_dsc])
@[simp] theorem State.record_ctr (s : State) (e : Event) (k : Nat) : (s.record e k).ctr = s.ctr := by
  unfold State.record; repeat' split
  all_goals first | rfl | (simp only [State.logCause_ctr]; done) | (dsimp only; split <;> simp only [State.logCause_ctr])
@[simp] theorem State.record_pair (s : State) (e : Event) (k : Nat) : (s.record e k).pair = s.pair := by
  unfold State.record; repeat' split
  all_goals first | rfl | (simp only [State.logCause_pair]; done) | (dsimp only; split <;> simp only [State.logCause_pair])
@[simp] theorem State.record_sio (s : State) (e : Event) (k : Nat) : (s.record e k).sio = s.sio := by
  unfold State.record; repeat' split
  all_goals first | rfl | (simp only [State.logCause_sio]; done) | (dsimp only; split <;> simp only [State.logCause_sio])
@[simp] theorem State.record_sfl (s : State) (e : Event) (k : Nat) : (s.record e k).sfl = s.sfl := by
  unfold State.record; repeat' split
  all_goals first | rfl | (simp only [State.logCause_sfl]; done) | (dsimp only; split <;> simp only [State.logCause_sfl])
@[simp] theorem State.record_sw (s : State) (e : Event) (k : Nat) : (s.record e k).sw = s.sw := by
  unfold State.record; repeat' split
  all_goals first | rfl | (simp only [State.logCause_sw]; done) | (dsimp only; split <;> simp only [State.logCause_sw])
@[simp] theorem State.record_diag (s : State) (e : Event) (k : Nat) : (s.record e k).diag = s.diag := by
  unfold State.record; repeat' split
  all_goals first | rfl | (simp only [State.logCause_diag]; done) | (dsimp only; split <;> simp only [State.logCause_diag])

/-! State.stageEvent -/
@[simp] theorem State.stageEvent_regs (s : State) (e : Event) : (s.stageEvent e).regs = s.regs := by
  unfold State.stageEvent; split
  · rfl
  · simp only [State.setCause_regs]
@[simp] theorem State.stageEvent_pending (s : State) (e : Event) : (s.stageEvent e).pending = s.pending := by
  unfold State.stageEvent; split
  · rfl
  · simp only [State.setCause_pending]
@[simp] theorem State.stageEvent_free (s : State) (e : Event) : (s.stageEvent e).free = s.free := by
  unfold State.stageEvent; split
  · rfl
  · simp only [State.setCause_free]
@[simp] theorem State.stageEvent_pwr (s : State) (e : Event) : (s.stageEvent e).pwr = s.pwr := by
  unfold State.stageEvent; split
  · rfl
  · simp only [State.setCause_pwr]
@[simp] theorem State.stageEvent_img (s : State) (e : Event) : (s.stageEvent e).img = s.img := by
  unfold State.stageEvent; split
  · rfl
  · simp only [State.setCause_img]
@[simp] theorem State.stageEvent_ang (s : State) (e : Event) : (s.stageEvent e).ang = s.ang := by
  unfold State.stageEvent; split
  · rfl
  · simp only [State.setCause_ang]
@[simp] theorem State.stageEvent_chains (s : State) (e : Event) : (s.stageEvent e).chains = s.chains := by
  unfold State.stageEvent; split
  · rfl
  · simp only [State.setCause_chains]
@[simp] theorem State.stageEvent_nodes (s : State) (e : Event) : (s.stageEvent e).nodes = s.nodes := by
  unfold State.stageEvent; split
  · rfl
  · simp only [State.setCause_nodes]
@[simp] theorem State.stageEvent_swp (s : State) (e : Event) : (s.stageEvent e).swp = s.swp := by
  unfold State.stageEvent; split
  · rfl
  · simp only [State.setCause_swp]
@[simp] theorem State.stageEvent_sto (s : State) (e : Event) : (s.stageEvent e).sto = s.sto := by
  unfold State.stageEvent; split
  · rfl
  · simp only [State.setCause_sto]
@[simp] theorem State.stageEvent_est (s : State) (e : Event) : (s.stageEvent e).est = s.est := by
  unfold State.stageEvent; split
  · rfl
  · simp only [State.setCause_est]
@[simp] theorem State.stageEvent_sop (s : State) (e : Event) : (s.stageEvent e).sop = s.sop := by
  unfold State.stageEvent; split
  · rfl
  · simp only [State.setCause_sop]
@[simp] theorem State.stageEvent_dsc (s : State) (e : Event) : (s.stageEvent e).dsc = s.dsc := by
  unfold State.stageEvent; split
  · rfl
  · simp only [State.setCause_dsc]
@[simp] theorem State.stageEvent_ctr (s : State) (e : Event) : (s.stageEvent e).ctr = s.ctr := by
  unfold State.stageEvent; split
  · rfl
  · simp only [State.setCause_ctr]
@[simp] theorem State.stageEvent_pair (s : State) (e : Event) : (s.stageEvent e).pair = s.pair := by
  unfold State.stageEvent; split
  · rfl
  · simp only [State.setCause_pair]
@[simp] theorem State.stageEvent_sio (s : State) (e : Event) : (s.stageEvent e).sio = s.sio := by
  unfold State.stageEvent; split
  · rfl
  · simp only [State.setCause_sio]
@[simp] theorem State.stageEvent_sfl (s : State) (e : Event) : (s.stageEvent e).sfl = s.sfl := by
  unfold State.stageEvent; split
  · rfl
  · simp only [State.setCause_sfl]
@[simp] theorem State.stageEvent_sw (s : State) (e : Event) : (s.stageEvent e).sw = s.sw := by
  unfold State.stageEvent; split
  · rfl
  · simp only [State.setCause_sw]
@[simp] theorem State.stageEvent_diag (s : State) (e : Event) : (s.stageEvent e).diag = s.diag := by
  unfold State.stageEvent; split
  · rfl
  · simp only [State.setCause_diag]

/-! State.take -/
@[simp] theorem State.take_regs (s : State) (e : Event) : (s.take e).regs = s.regs := by
  unfold State.take; split
  · exact State.record_regs s e _
  · exact State.stageEvent_regs s e
@[simp] theorem State.take_pending (s : State) (e : Event) : (s.take e).pending = s.pending := by
  unfold State.take; split
  · exact State.record_pending s e _
  · exact State.stageEvent_pending s e
@[simp] theorem State.take_free (s : State) (e : Event) : (s.take e).free = s.free := by
  unfold State.take; split
  · exact State.record_free s e _
  · exact State.stageEvent_free s e
@[simp] theorem State.take_pwr (s : State) (e : Event) : (s.take e).pwr = s.pwr := by
  unfold State.take; split
  · exact State.record_pwr s e _
  · exact State.stageEvent_pwr s e
@[simp] theorem State.take_img (s : State) (e : Event) : (s.take e).img = s.img := by
  unfold State.take; split
  · exact State.record_img s e _
  · exact State.stageEvent_img s e
@[simp] theorem State.take_ang (s : State) (e : Event) : (s.take e).ang = s.ang := by
  unfold State.take; split
  · exact State.record_ang s e _
  · exact State.stageEvent_ang s e
@[simp] theorem State.take_chains (s : State) (e : Event) : (s.take e).chains = s.chains := by
  unfold State.take; split
  · exact State.record_chains s e _
  · exact State.stageEvent_chains s e
@[simp] theorem State.take_nodes (s : State) (e : Event) : (s.take e).nodes = s.nodes := by
  unfold State.take; split
  · exact State.record_nodes s e _
  · exact State.stageEvent_nodes s e
@[simp] theorem State.take_swp (s : State) (e : Event) : (s.take e).swp = s.swp := by
  unfold State.take; split
  · exact State.record_swp s e _
  · exact State.stageEvent_swp s e
@[simp] theorem State.take_sto (s : State) (e : Event) : (s.take e).sto = s.sto := by
  unfold State.take; split
  · exact State.record_sto s e _
  · exact State.stageEvent_sto s e
@[simp] theorem State.take_est (s : State) (e : Event) : (s.take e).est = s.est := by
  unfold State.take; split
  · exact State.record_est s e _
  · exact State.stageEvent_est s e
@[simp] theorem State.take_sop (s : State) (e : Event) : (s.take e).sop = s.sop := by
  unfold State.take; split
  · exact State.record_sop s e _
  · exact State.stageEvent_sop s e
@[simp] theorem State.take_dsc (s : State) (e : Event) : (s.take e).dsc = s.dsc := by
  unfold State.take; split
  · exact State.record_dsc s e _
  · exact State.stageEvent_dsc s e
@[simp] theorem State.take_ctr (s : State) (e : Event) : (s.take e).ctr = s.ctr := by
  unfold State.take; split
  · exact State.record_ctr s e _
  · exact State.stageEvent_ctr s e
@[simp] theorem State.take_pair (s : State) (e : Event) : (s.take e).pair = s.pair := by
  unfold State.take; split
  · exact State.record_pair s e _
  · exact State.stageEvent_pair s e
@[simp] theorem State.take_sio (s : State) (e : Event) : (s.take e).sio = s.sio := by
  unfold State.take; split
  · exact State.record_sio s e _
  · exact State.stageEvent_sio s e
@[simp] theorem State.take_sfl (s : State) (e : Event) : (s.take e).sfl = s.sfl := by
  unfold State.take; split
  · exact State.record_sfl s e _
  · exact State.stageEvent_sfl s e
@[simp] theorem State.take_sw (s : State) (e : Event) : (s.take e).sw = s.sw := by
  unfold State.take; split
  · exact State.record_sw s e _
  · exact State.stageEvent_sw s e
@[simp] theorem State.take_diag (s : State) (e : Event) : (s.take e).diag = s.diag := by
  unfold State.take; split
  · exact State.record_diag s e _
  · exact State.stageEvent_diag s e

/-! State.report -/
@[simp] theorem State.report_regs (s : State) (code source : Nat) (ps : List Par) : (s.report code source ps).regs = s.regs := by
  unfold State.report; split
  · rfl
  · exact State.take_regs s _
@[simp] theorem State.report_pending (s : State) (code source : Nat) (ps : List Par) : (s.report code source ps).pending = s.pending := by
  unfold State.report; split
  · rfl
  · exact State.take_pending s _
@[simp] theorem State.report_free (s : State) (code source : Nat) (ps : List Par) : (s.report code source ps).free = s.free := by
  unfold State.report; split
  · rfl
  · exact State.take_free s _
@[simp] theorem State.report_pwr (s : State) (code source : Nat) (ps : List Par) : (s.report code source ps).pwr = s.pwr := by
  unfold State.report; split
  · rfl
  · exact State.take_pwr s _
@[simp] theorem State.report_img (s : State) (code source : Nat) (ps : List Par) : (s.report code source ps).img = s.img := by
  unfold State.report; split
  · rfl
  · exact State.take_img s _
@[simp] theorem State.report_ang (s : State) (code source : Nat) (ps : List Par) : (s.report code source ps).ang = s.ang := by
  unfold State.report; split
  · rfl
  · exact State.take_ang s _
@[simp] theorem State.report_chains (s : State) (code source : Nat) (ps : List Par) : (s.report code source ps).chains = s.chains := by
  unfold State.report; split
  · rfl
  · exact State.take_chains s _
@[simp] theorem State.report_nodes (s : State) (code source : Nat) (ps : List Par) : (s.report code source ps).nodes = s.nodes := by
  unfold State.report; split
  · rfl
  · exact State.take_nodes s _
@[simp] theorem State.report_swp (s : State) (code source : Nat) (ps : List Par) : (s.report code source ps).swp = s.swp := by
  unfold State.report; split
  · rfl
  · exact State.take_swp s _
@[simp] theorem State.report_sto (s : State) (code source : Nat) (ps : List Par) : (s.report code source ps).sto = s.sto := by
  unfold State.report; split
  · rfl
  · exact State.take_sto s _
@[simp] theorem State.report_est (s : State) (code source : Nat) (ps : List Par) : (s.report code source ps).est = s.est := by
  unfold State.report; split
  · rfl
  · exact State.take_est s _
@[simp] theorem State.report_sop (s : State) (code source : Nat) (ps : List Par) : (s.report code source ps).sop = s.sop := by
  unfold State.report; split
  · rfl
  · exact State.take_sop s _
@[simp] theorem State.report_dsc (s : State) (code source : Nat) (ps : List Par) : (s.report code source ps).dsc = s.dsc := by
  unfold State.report; split
  · rfl
  · exact State.take_dsc s _
@[simp] theorem State.report_ctr (s : State) (code source : Nat) (ps : List Par) : (s.report code source ps).ctr = s.ctr := by
  unfold State.report; split
  · rfl
  · exact State.take_ctr s _
@[simp] theorem State.report_pair (s : State) (code source : Nat) (ps : List Par) : (s.report code source ps).pair = s.pair := by
  unfold State.report; split
  · rfl
  · exact State.take_pair s _
@[simp] theorem State.report_sio (s : State) (code source : Nat) (ps : List Par) : (s.report code source ps).sio = s.sio := by
  unfold State.report; split
  · rfl
  · exact State.take_sio s _
@[simp] theorem State.report_sfl (s : State) (code source : Nat) (ps : List Par) : (s.report code source ps).sfl = s.sfl := by
  unfold State.report; split
  · rfl
  · exact State.take_sfl s _
@[simp] theorem State.report_sw (s : State) (code source : Nat) (ps : List Par) : (s.report code source ps).sw = s.sw := by
  unfold State.report; split
  · rfl
  · exact State.take_sw s _
@[simp] theorem State.report_diag (s : State) (code source : Nat) (ps : List Par) : (s.report code source ps).diag = s.diag := by
  unfold State.report; split
  · rfl
  · exact State.take_diag s _

/-! The outcome of a command. -/
@[simp] theorem riseCause_regs (s t : State) : (riseCause s t).regs = t.regs := by
  unfold riseCause; split
  · exact State.setCause_regs t 0
  · rfl
@[simp] theorem riseCause_pending (s t : State) : (riseCause s t).pending = t.pending := by
  unfold riseCause; split
  · exact State.setCause_pending t 0
  · rfl
@[simp] theorem riseCause_free (s t : State) : (riseCause s t).free = t.free := by
  unfold riseCause; split
  · exact State.setCause_free t 0
  · rfl
@[simp] theorem riseCause_pwr (s t : State) : (riseCause s t).pwr = t.pwr := by
  unfold riseCause; split
  · exact State.setCause_pwr t 0
  · rfl
@[simp] theorem riseCause_img (s t : State) : (riseCause s t).img = t.img := by
  unfold riseCause; split
  · exact State.setCause_img t 0
  · rfl
@[simp] theorem riseCause_ang (s t : State) : (riseCause s t).ang = t.ang := by
  unfold riseCause; split
  · exact State.setCause_ang t 0
  · rfl
@[simp] theorem riseCause_chains (s t : State) : (riseCause s t).chains = t.chains := by
  unfold riseCause; split
  · exact State.setCause_chains t 0
  · rfl
@[simp] theorem riseCause_nodes (s t : State) : (riseCause s t).nodes = t.nodes := by
  unfold riseCause; split
  · exact State.setCause_nodes t 0
  · rfl
@[simp] theorem riseCause_swp (s t : State) : (riseCause s t).swp = t.swp := by
  unfold riseCause; split
  · exact State.setCause_swp t 0
  · rfl
@[simp] theorem riseCause_sto (s t : State) : (riseCause s t).sto = t.sto := by
  unfold riseCause; split
  · exact State.setCause_sto t 0
  · rfl
@[simp] theorem riseCause_est (s t : State) : (riseCause s t).est = t.est := by
  unfold riseCause; split
  · exact State.setCause_est t 0
  · rfl
@[simp] theorem riseCause_sop (s t : State) : (riseCause s t).sop = t.sop := by
  unfold riseCause; split
  · exact State.setCause_sop t 0
  · rfl
@[simp] theorem riseCause_dsc (s t : State) : (riseCause s t).dsc = t.dsc := by
  unfold riseCause; split
  · exact State.setCause_dsc t 0
  · rfl
@[simp] theorem riseCause_ctr (s t : State) : (riseCause s t).ctr = t.ctr := by
  unfold riseCause; split
  · exact State.setCause_ctr t 0
  · rfl
@[simp] theorem riseCause_pair (s t : State) : (riseCause s t).pair = t.pair := by
  unfold riseCause; split
  · exact State.setCause_pair t 0
  · rfl
@[simp] theorem riseCause_sio (s t : State) : (riseCause s t).sio = t.sio := by
  unfold riseCause; split
  · exact State.setCause_sio t 0
  · rfl
@[simp] theorem riseCause_sfl (s t : State) : (riseCause s t).sfl = t.sfl := by
  unfold riseCause; split
  · exact State.setCause_sfl t 0
  · rfl
@[simp] theorem riseCause_sw (s t : State) : (riseCause s t).sw = t.sw := by
  unfold riseCause; split
  · exact State.setCause_sw t 0
  · rfl
@[simp] theorem riseCause_log (s t : State) : (riseCause s t).log = t.log := by
  unfold riseCause; split
  · exact State.setCause_log t 0
  · rfl
@[simp] theorem riseCause_diag (s t : State) : (riseCause s t).diag = t.diag := by
  unfold riseCause; split
  · exact State.setCause_diag t 0
  · rfl

/-- A frame with the CRC that its sender computes passes R182. -/
theorem rxOk_sealed (f : NodeRx) (row : Nat) (pl : List Byte) (hc : f.codeErr = false) (hl : pl.length ≤ 96) :
    rxOk (rxSealed f row pl) row pl = true := by
  simp [rxOk, rxSealed, rxBody, rxOpcode, hc, hl]

/-- Every command that is written with `finish` completes. -/
theorem finish_runs (s t : State) : finish s t = .next (riseCause s t) := rfl

/-- A property that the fault summary's cause keeps passes to the outcome. -/
theorem gives_finish (s t : State) (P : State → Prop) (h : P (riseCause s t)) : Sys2Proof.Gives (finish s t) P := ⟨riseCause s t, rfl, h⟩

@[simp] theorem whenOn_on (s : State) (f : State → State) (h : s.pwr.mainOn = true) : whenOn s f = f s := by simp [whenOn, h]
@[simp] theorem whenOn_off (s : State) (f : State → State) (h : s.pwr.mainOn = false) : whenOn s f = s := by simp [whenOn, h]

@[simp] theorem State.get_report (s : State) (code source : Nat) (ps : List Par) (f : Fld) : (s.report code source ps).get f = s.get f :=
  State.get_congr (State.report_regs s code source ps) f
@[simp] theorem State.get_setCause (s : State) (j : Nat) (f : Fld) : (s.setCause j).get f = s.get f := State.get_congr (State.setCause_regs s j) f
@[simp] theorem State.get_emit (s : State) (x : Output) (f : Fld) : (s.emit x).get f = s.get f := rfl
@[simp] theorem State.get_riseCause (s t : State) (f : Fld) : (riseCause s t).get f = t.get f := State.get_congr (riseCause_regs s t) f
@[simp] theorem State.word_report (s : State) (code source : Nat) (ps : List Par) (a : Nat) : (s.report code source ps).word a = s.word a :=
  State.word_congr (State.report_regs s code source ps) a
@[simp] theorem State.word_setCause (s : State) (j a : Nat) : (s.setCause j).word a = s.word a := State.word_congr (State.setCause_regs s j) a
@[simp] theorem State.word_riseCause (s t : State) (a : Nat) : (riseCause s t).word a = t.word a := State.word_congr (riseCause_regs s t) a

/-- An event goes where an earlier message or cause bit has not been: its record depends on the log and the times alone. -/
theorem State.take_log_congr {s t : State} (hl : t.log = s.log) (e : Event) : (t.take e).log = (s.take e).log := by
  have hr : ∀ (x : State) (c : Nat) (w : Wrote), (x.logCause c w).log = x.log := fun x c w => by
    unfold State.logCause; repeat' split
    all_goals first | rfl | simp only [State.setCause_log]
  unfold State.take
  rw [hl]
  split
  · unfold State.record
    rw [hl]
    split
    · split
      · simp only [hr]
      · simp only [hr]; split <;> simp only [hr]
    · simp only [hr]
  · unfold State.stageEvent
    rw [hl]
    split
    · rfl
    · simp only [State.setCause_log]

theorem State.report_log_congr {s t : State} (hl : t.log = s.log) (hp : t.pwr = s.pwr) (code source : Nat) (ps : List Par) :
    (t.report code source ps).log = (s.report code source ps).log := by
  unfold State.report
  split
  · exact hl
  · rename_i c _
    have : t.event c code source (packPars 8 ps) = s.event c code source (packPars 8 ps) := by simp only [State.event, hp]
    rw [this]; exact State.take_log_congr hl _

end Sys2Proof.Machine
end

