-- ==== Sys2Proof/Machine/Pins.lean ====
section
/-! DEFINITION. What the lands of the module do in each stage (Table PIN-3), which of them boundary scan covers, and what the PCIe endpoint reports
of itself (Table HOST-1). -/

namespace Sys2Proof.Machine

/-- Signals of Table PIN-3, by row; a chain's ports by its number. -/
inductive Pin where
  | linkOut (c : Nat)
  | linkRet (c : Nat)
  | dsm
  | dsmClk
  | hall
  | line
  | syncIn
  | sin
  | tpo
  | coil
  | load
  | inPin
  | pcie
  | perst
  | canTx
  | canRx
  | ethTx
  | ethRx
  | qspiClk
  | qspiCs
  | qspiData
  | resetN
  | wakeIn
  | wakeOut
  | snapIn
  | snapOut
  | faultN
  | dbgEn
  | tapIn
  | tdo
  deriving DecidableEq, Repr

/-- States of a signal: what an input does and what an output drives. -/
inductive PinMode where
  | idle
  | driverOff
  | toneOnly
  | active
  | sampled
  | notMonitored
  | notUsed
  | ignored
  | monitored
  | off
  | on
  | low
  | high
  | highZ
  | released
  deriving DecidableEq, Repr

/-- A signal's direction and type as boundary scan sees it: an LV land. The chain ports, the AN and HV inputs, TPO_A, TPO_B, WAKE_OUT and the switch
outputs are none (R88); PCIe and FAULT_N have types of their own. -/
def Pin.lv : Pin → Bool
  | .dsm | .dsmClk | .syncIn | .inPin | .perst | .canTx | .canRx | .ethTx | .ethRx | .qspiClk | .qspiCs | .qspiData | .resetN | .snapIn | .snapOut
  | .dbgEn | .tapIn | .tdo => true
  | _ => false

/-- The boundary-scan register reaches a land: in board-test mode, with the TAP out of reset (R88, R89). -/
def State.scans (s : State) (p : Pin) : Bool := p.lv && s.tapOffers.contains .boundary

/-- The module is in sleep or its main domain is off: only what Table PIN-3 gives for sleep works. -/
def State.dark (s : State) : Bool := !s.pwr.mainOn

/-- A chain is used: it is in the chain map, and for LINKRET has a ring. -/
def State.portUsed (s : State) (c : Nat) : Bool := s.img.loaded && s.tab.chainOn c

/-- A chain port: idle with its driver off in stage 0, the wake-tone detector alone in sleep, active from stage 1 (Table PIN-3). -/
def State.portMode (s : State) (used : Bool) : PinMode :=
  if s.dark then .toneOnly else if s.stage = 0 then .driverOff else if used then .active else .idle

/-- An output with a level of its own while the module runs; `asleep` is its state in sleep. -/
def State.outMode (s : State) (asleep : PinMode) (level : Bool) : PinMode := if s.dark then asleep else if level then .high else .low

/-- An access to CS0 or CS1 may run: the image read, recovery staging, and from stage 2 as needed (Table PIN-3). -/
def State.qspiBusy (s : State) : Bool :=
  (s.stage == 0 && !s.img.attempted && !s.pwr.boardTest) || (s.stage == 1 && s.getB R.GLOBAL_STAGE_IMAGE_RECOVERY) || decide (2 ≤ s.stage)

/-- The state of a signal (R49, Table PIN-3). The levels of outputs that a bus controller drives in a stage read `active`. (DEDUCED, log 112) -/
def State.pinMode (s : State) : Pin → PinMode
  | .linkOut c => s.portMode (s.portUsed c)
  | .linkRet c => s.portMode (s.portUsed c && s.tab.chainRing c)
  | .dsm => if s.dark then .notMonitored else .sampled
  | .dsmClk => if s.dark then .low else .active
  | .hall => if s.dark then .notMonitored else .sampled
  | .line => if s.dark then .notMonitored else if s.stage = 0 then .notUsed else .active
  | .syncIn => if s.dark then .notMonitored else if s.stage = 0 then .notUsed else .active
  | .sin => if s.dark then .notMonitored else .monitored
  | .tpo => if s.dark || s.pwr.boardTest then .off else .on
  | .coil => if s.outputsOff || s.stage = 1 then .off else .active
  | .load => if s.outputsOff then .off else .active
  | .inPin => if s.dark then .notMonitored else if s.stage < 2 then .ignored else .active
  | .pcie => if s.dark then .off else .active
  | .perst => if s.dark then .notMonitored else .active
  | .canTx => if s.dark then .highZ else if s.stage < 2 then .high else .active
  | .canRx => if s.dark then .notMonitored else if s.stage < 2 then .ignored else .active
  | .ethTx => if s.dark then .highZ else if s.stage < 2 then .low else .active
  | .ethRx => if s.dark then .notMonitored else if s.stage < 2 then .ignored else .active
  | .qspiClk => if s.dark then .highZ else if s.qspiBusy then .active else .low
  | .qspiCs => if s.dark then .highZ else if s.qspiBusy then .active else .high
  | .qspiData => if s.dark then .highZ else if s.qspiBusy then .active else .sampled
  | .resetN => if s.dark then .ignored else .active
  | .wakeIn => .active
  | .wakeOut => if !s.dark && s.pwr.wakeOut then .on else .off
  | .snapIn => if s.dark then .notMonitored else if s.stage = 0 then .ignored else .active
  | .snapOut => s.outMode .highZ s.diag.snapOut
  | .faultN => if s.faultN then .low else .released
  | .dbgEn => if !s.dark && s.pwr.dbgDue then .sampled else .ignored
  | .tapIn => if s.dark then .notMonitored else .active
  | .tdo => .highZ
/-- What the endpoint reports and offers (R505, Table HOST-1). -/
structure Endpoint where
  vendor : BitVec 16
  device : BitVec 16
  classCode : BitVec 24
  maxSpeedGTs : Nat
  maxLanes : Nat
  bar0Bytes : Nat
  bar0Prefetch : Bool
  bar2Bytes : Nat
  bar2Prefetch : Bool
  maxPayload : Nat
  maxRead : Nat
  msixVectors : Nat
  msi : Bool
  intx : Bool
  ioOrRom : Bool
  errorReporting : Bool
  functionReset : Bool
  completionMs : Nat
  deriving DecidableEq, Repr

def endpoint : Endpoint :=
  { vendor := Config.vendorId, device := 0x6440#16, classCode := 0x118000#24, maxSpeedGTs := 8, maxLanes := 2, bar0Bytes := 0x400000, bar0Prefetch := false
    bar2Bytes := 0x4000000, bar2Prefetch := true, maxPayload := 256, maxRead := 512, msixVectors := 72, msi := false, intx := false, ioOrRom := false
    errorReporting := true, functionReset := true, completionMs := 50 }

/-- What a configuration request finds: the endpoint answers from stage 0 on, board-test mode included (R74, R118), while PERST_N is high (R75). -/
def State.configRead (s : State) : Option Endpoint := if s.pwr.mainOn && s.host.perstHigh then some endpoint else none

end Sys2Proof.Machine
end

