-- ==== Sys2Proof/WellFormed.lean ====
section
/-! DEFINITION. Commands that are well formed: lists of the lengths the manual gives. -/

namespace Sys2Proof

/-- Four trimmed corners, one for each filter code (R214). -/
def NodeIdent.wf (x : NodeIdent) : Bool := x.corners.length == 4

/-- Inputs of an NH0824, or of an NH0403 (R213, Table NODE-7). -/
def inputsWf (l : List (BitVec 16)) : Bool := l.length == 32 || l.length == 8

/-- The most code groups of a frame: idles and delimiters around a payload of 255 bytes (R178, Table LNK-3). -/
def lineWf (l : List (BitVec 10)) : Bool := decide (l.length ≤ 300)

/-- What a probe step meets. -/
def ProbeStep.wf (x : ProbeStep) : Bool := match x.reply with | none => true | some l => lineWf l

/-- At most 129 steps of a probe (R196), and at most one configuration for each node. -/
def EnumResult.wf (r : EnumResult) : Bool :=
  decide (r.outs.length ≤ 129) && decide (r.rets.length ≤ 129) && decide (r.cfg.length ≤ 128) && r.outs.all ProbeStep.wf && r.rets.all ProbeStep.wf

/-- A payload that the length byte of Table LNK-4 can carry. -/
def payloadWf (l : List Byte) : Bool := decide (l.length ≤ 255)

/-- A command whose lists have the lengths of the manual. (DEDUCED, log 91) -/
def Instr.wf (i : Instr) : Bool :=
  match i with
  | .lockAcquired _ obs _ => obs.length == 8
  | .lockLost o => o.phases.length == 3
  | .shedTimer cur _ => cur.length == 24
  | .conversion _ _ m _ => inputsWf m.inputs && decide (m.shunt.length ≤ 4)
  | .sleepCheck _ _ l => inputsWf l
  | .nodeWakeTone _ _ _ _ x => x.wf
  | .gapProbe _ _ (some l) _ => lineWf l
  | .enumerationDone _ r => r.wf
  | .selftestDone _ _ _ data => decide (data.length ≤ 6)
  | .responseFrame _ _ _ i l _ _ _ => lineWf (i ++ l)
  | .maintResponse _ i l => lineWf (i ++ l)
  | .sweepFrame _ _ _ m => payloadWf m.payload
  | .collectSeg _ _ _ m => payloadWf m.payload
  | .enumFrame _ _ _ l => payloadWf l
  | .assignNode _ _ _ l => payloadWf l
  | .readReg _ _ _ l => payloadWf l
  | .writeReg _ _ _ l => payloadWf l
  | .balSet _ _ _ l => payloadWf l
  | .ctrSet _ _ _ l _ => payloadWf l
  | .selftest _ _ _ l => payloadWf l
  | .sleepFrame _ _ _ l => payloadWf l
  | .clearNode _ _ m => payloadWf m.payload
  | .safeFrameArrival _ _ _ _ _ d => decide (d.length ≤ 1518)
  | .macFrameRx _ _ _ _ d => decide (d.length ≤ 1518)
  | .nodeWrite _ _ _ _ _ _ w => decide (w.length ≤ 46)
  | .imageChunk _ _ _ _ _ d _ => decide (d.length ≤ 65536)
  | _ => true

end Sys2Proof
end

