-- ==== Sys2Proof/Tests/Slice0.lean ====
section
/-! SUPPORT. Tests. -/

namespace Sys2Proof.Tests

set_option Elab.async false

/-! One ill-formed command for each check. -/
theorem test_wf_shed : Instr.wf (.shedTimer [] true) = false := by decide
theorem test_wf_conversion : Instr.wf (.conversion 0 0 { inputs := [0#16] } false) = false := by decide
theorem test_wf_lock : Instr.wf (.lockAcquired 0#32 [] 0#16) = false := by decide
theorem test_wf_loss : Instr.wf (.lockLost {}) = false := by decide
theorem test_wf_sleepCheck : Instr.wf (.sleepCheck 0 0 [0#16]) = false := by decide
theorem test_wf_nodeWakeTone : Instr.wf (.nodeWakeTone 0 0 false true { corners := [] }) = false := by decide
theorem test_wf_gapProbe : Instr.wf (.gapProbe 0 false (some (List.replicate 301 0#10)) 0#32) = false := by simp only [Instr.wf, lineWf, List.length_replicate]; decide
theorem test_wf_enumeration : Instr.wf (.enumerationDone 0 { outs := List.replicate 130 {} }) = false := by simp only [Instr.wf, EnumResult.wf, List.length_replicate]; decide
theorem test_wf_selftest : Instr.wf (.selftestDone 0 0 true (List.replicate 7 0#16)) = false := by simp only [Instr.wf, List.length_replicate]; decide
theorem test_wf_response : Instr.wf (.responseFrame 0 false 1#8 [] (List.replicate 301 0#10) 0#16 true []) = false := by simp only [Instr.wf, lineWf, List.nil_append, List.length_replicate]; decide
theorem test_wf_maint : Instr.wf (.maintResponse 0 [] (List.replicate 301 0#10)) = false := by simp only [Instr.wf, lineWf, List.nil_append, List.length_replicate]; decide
theorem test_wf_sweep : Instr.wf (.sweepFrame 0 0 {} { payload := List.replicate 256 0#8 }) = false := by simp only [Instr.wf, payloadWf, List.length_replicate]; decide
theorem test_wf_collectSeg : Instr.wf (.collectSeg 0 0 {} { payload := List.replicate 256 0#8 }) = false := by simp only [Instr.wf, payloadWf, List.length_replicate]; decide
theorem test_wf_enum : Instr.wf (.enumFrame 0 0 {} (List.replicate 256 0#8)) = false := by simp only [Instr.wf, payloadWf, List.length_replicate]; decide
theorem test_wf_assign : Instr.wf (.assignNode 0 0 {} (List.replicate 256 0#8)) = false := by simp only [Instr.wf, payloadWf, List.length_replicate]; decide
theorem test_wf_readReg : Instr.wf (.readReg 0 0 {} (List.replicate 256 0#8)) = false := by simp only [Instr.wf, payloadWf, List.length_replicate]; decide
theorem test_wf_writeReg : Instr.wf (.writeReg 0 0 {} (List.replicate 256 0#8)) = false := by simp only [Instr.wf, payloadWf, List.length_replicate]; decide
theorem test_wf_balSet : Instr.wf (.balSet 0 0 {} (List.replicate 256 0#8)) = false := by simp only [Instr.wf, payloadWf, List.length_replicate]; decide
theorem test_wf_ctrSet : Instr.wf (.ctrSet 0 0 {} (List.replicate 256 0#8) 0#3) = false := by simp only [Instr.wf, payloadWf, List.length_replicate]; decide
theorem test_wf_nodeSelftest : Instr.wf (.selftest 0 0 {} (List.replicate 256 0#8)) = false := by simp only [Instr.wf, payloadWf, List.length_replicate]; decide
theorem test_wf_sleep : Instr.wf (.sleepFrame 0 0 {} (List.replicate 256 0#8)) = false := by simp only [Instr.wf, payloadWf, List.length_replicate]; decide
theorem test_wf_clear : Instr.wf (.clearNode 0 0 { payload := List.replicate 256 0#8 }) = false := by simp only [Instr.wf, payloadWf, List.length_replicate]; decide
theorem test_wf_safeFrame : Instr.wf (.safeFrameArrival 0 0#32 0#16 true true (List.replicate 1519 0#8)) = false := by simp only [Instr.wf, List.length_replicate]; decide
theorem test_wf_macFrame : Instr.wf (.macFrameRx 0 0#32 true true (List.replicate 1519 0#8)) = false := by simp only [Instr.wf, List.length_replicate]; decide
theorem test_wf_nodeWrite : Instr.wf (.nodeWrite 0 0#32 0#8 0#8 0#16 47#8 (List.replicate 47 0#16)) = false := by simp only [Instr.wf, List.length_replicate]; decide
theorem test_wf_chunk : Instr.wf (.imageChunk 0 0#32 0#64 0#32 false (List.replicate 65537 0#8) none) = false := by simp only [Instr.wf, List.length_replicate]; decide

/-! Effects, with results from the manual. -/

/-- Table NODE-6 and its example: at 100 °C a commanded code of 160 is applied as 120; 20 % from 110 °C; 0 from 120 °C, held down to 115 °C. -/
theorem test_duty_cap_example : min 160 (Machine.dutyCap 10000 false) = 120 := by decide
theorem test_duty_cap_edges : (Machine.dutyCap 9000 false, Machine.dutyCap 11000 false, Machine.dutyCap 12000 false, Machine.dutyCap 11500 true, Machine.dutyCap 11499 true) = (200, 40, 0, 0, 40) := by decide

/-- Safety parameters of the example of R386: ENV_ABS 50 A, ENV_REL 5 %, T_RESP 100 ms, T_RAMP 400 ms. -/
def rampS : Machine.State :=
  { Machine.State.reset with img := { loaded := true, dir := [(8, 0, 0x1000)], data := [(0x404, 0#8), (0x405, 0#8), (0x406, 0x48#8), (0x407, 0x42#8), (0x41C, 100#8), (0x41D, 0#8), (0x41E, 0x90#8), (0x41F, 1#8), (0x434, 5#8)] } }
/-- E(100 ms) = 3,150 A and E(300 ms) = 1,650 A from 3,000 A (R386). -/
theorem test_envelope_100ms : (let e := rampS.envelope 0x453B8000#32 1000; decide (e.num = 3150 * e.den)) = true := by decide
theorem test_envelope_300ms : (let e := rampS.envelope 0x453B8000#32 3000; decide (e.num = 1650 * e.den)) = true := by decide

set_option maxRecDepth 20000 in
/-- CRC-32C over the nine digits, the published check value of the parameters of R230. -/
theorem test_crc32c_digits : Machine.crc32c ((List.range 9).map (fun i => BitVec.ofNat 8 (0x31 + i))) = 0xE3069283#32 := by decide

set_option maxRecDepth 20000 in
/-- VBUS_START powers the main domain (R93); without supply an idle step changes nothing (R97). -/
theorem test_vbus_start : (match Machine.step { Machine.State.reset with pending := [.vbusStart] } with | .next t => t.pwr.mainOn && t.pending.isEmpty | _ => false) = true := by decide
theorem test_idle_unpowered : (match Machine.step Machine.State.reset with | .next t => decide (t = Machine.State.reset) | _ => false) = true := by decide

/-- Most severe first, the lowest code among equals (R373). -/
theorem test_most_severe : Machine.mostSevere (Machine.codes [0x02, 0x12, 0x05, 0x15]) = 0x05 := by decide
theorem test_most_severe_sd1 : Machine.mostSevere (Machine.codes [0x23, 0x16, 0x09]) = 0x09 := by decide

/-- The integer root behind a square root. -/
theorem test_isqrt : (Machine.isqrtFrom 6 0 624, Machine.isqrtFrom 6 0 625) = (24, 25) := by decide

/-! Witnesses: for each statement, states and operands that meet the hypotheses of each of its clauses. -/

open Sys2Proof.Machine

/-! States for the witnesses: a powered module with some register fields and parts set. -/
def onS (l : List (Fld × Nat)) : State := ({ State.reset with pwr := { alwaysOn := true, mainOn := true }, host := { perstHigh := true } }).putAll l
def asleepS : State :=
  { State.reset with pwr := { alwaysOn := true, asleep := true, timer := 5, tones := 0x8000000000000000#64 } }
def latchedS : State := { asleepS with pwr := { asleepS.pwr with latchedWake := some { src := 2, chain := 63, port := 1 } } }
def pwrS (f : PwrState → PwrState) (l : List (Fld × Nat)) : State := let s := onS l; { s with pwr := f s.pwr }
def heldS : State := pwrS (fun p => { p with held := true }) []
def dbgS : State := pwrS (fun p => { p with dbgDue := true }) []
def imgS (f : ImgState → ImgState) (l : List (Fld × Nat)) : State := let s := onS l; { s with img := f s.img }
def loadedS (l : List (Fld × Nat)) : State := imgS (fun i => { i with loaded := true }) l
def ready1S : State :=
  let s := imgS (fun i => { i with attempted := true }) [(R.PAIR_STAT_INJ_START_OK, 1)]
  { s with diag := { s.diag with testsDone := true }, log := { s.log with scanDone := true } }
def ready2S : State := let s := loadedS [(R.GLOBAL_STAGE_STAGE, 1)]; { s with swp := { s.swp with first := true } }
def ready3S : State := let s := imgS (fun i => { i with checked := true }) [(R.GLOBAL_STAGE_STAGE, 2)]; { s with est := { s.est with restored := true } }
def provenS (l : List (Fld × Nat)) : State := pwrS (fun p => { p with optime := 2100 }) l
def restartS : State := provenS [(R.GLOBAL_STAGE_STAGE, 2), (R.IMG_STAT_SESSION, 1)]
def sleepReadyS : State := let s := onS [(R.GLOBAL_STAGE_STAGE, 3), (R.PAIR_STAT_MODE, 1), (R.PWR_STAT_WAKE_IN, 0)]; { s with ctr := { s.ctr with freshP := 255#8 } }
def chanS (n : Nat) (x : SwChan) (l : List (Fld × Nat)) : State := (onS l).setChan n x
def latchedOffS : State := chanS 8 { latch := 3, retries := [1, 2] } [(R.GLOBAL_STAGE_STAGE, 3), (R.SW_CFG_RETRY_MAX 8, 3)]
def latchedOffThermS : State := chanS 8 { latch := 3 } [(R.GLOBAL_STAGE_STAGE, 3), (R.SW_STAT_THERM 8, 1)]
def retriesS : State := chanS 8 { retries := [5, 2000] } [(R.SW_CFG_RETRY_MAX 8, 3)] |> fun s => { s with pwr := { s.pwr with optime := 10 } }
def pairSeenS : State := (chanS 16 { seen := [2, 2, 2] } [(R.SW_CFG_FLAGS 0, 4), (R.SW_CFG_FLAGS 16, 4)]).setChan 0 { seen := [2, 2, 2] }
def seenS : State := chanS 8 { seen := [0, 2, 0] } [(R.SW_CFG_FLAGS 8, 4)]
def goneS : State := chanS 8 { gone := [0, 2, 0] } [(R.SW_CFG_FLAGS 8, 4)]
/-- An image whose section `t` holds these bytes. -/
def secS (t len : Nat) (bytes : List (Nat × Byte)) (l : List (Fld × Nat)) : State := imgS (fun i => { i with loaded := true, data := bytes, dir := [(t, 0, len)] }) l
def mapS (bytes : List (Nat × Byte)) (l : List (Fld × Nat)) : State := secS 1 132096 bytes l
def wdS (st : Nat) : State := secS 9 0x1D0 [(2, 100#8), (3, 0#8), (0, 1#8)] [(R.GLOBAL_STAGE_STAGE, 3), (R.SW_WDSTAT_STATE, st)]
def wdLateS : State := let s := wdS 1; { s with pwr := { s.pwr with optime := 100 } }
def inFuncS (k : Byte) : State := secS 8 0x1000 [(0x500, k)] [(R.SIO_IN_A_HIGH, 255), (R.SIO_IN_B_HIGH, 255)]
def proofS : State := let s := secS 8 0x1000 [(0x504, 2#8), (0x506, 1#8), (0x507, 0#8), (0x508, 1#8), (0x509, 0#8)] [(R.SIO_PROOF_STATE 0, 2)]; { s with pwr := { s.pwr with optime := 0xFFFFFFFF } }
def tpoS : State := onS [(R.SIO_TPO_TPO_B_ON, 1), (R.SIO_IN_B_HIGH, 255)]
def extTpoS : State := secS 8 0x1000 [] [(R.SIO_TPO_TPO_B_ON, 1)]
def tpoCfgS : State := secS 8 0x1000 [] [(R.SIO_TPO_TPO_B_ON, 1), (R.GLOBAL_STAGE_STAGE, 1)]
def sioS (f : SioState → SioState) (s : State) : State := { s with sio := f s.sio }
def pulseS : State := sioS (fun x => { x with tpoPulse := 3#2 }) (secS 8 0x1000 [(0x500, 1#8), (0x501, 0#8)] [(R.GLOBAL_STAGE_STAGE, 3)])
def disagreeS : State := sioS (fun x => { x with disagree := 1#8 }) (inFuncS 1#8)
def gateS : State := sioS (fun x => { x with gateHs := 255#8, gateLs := 255#8 }) (onS [])
def gatePulseS : State := sioS (fun x => { x with pulseLs := 255#8, pulseHs := 255#8 }) gateS
def passwordS : State :=
  let s := secS 12 64 ((List.range 32).map (fun i => (16 + i, BitVec.ofNat 8 (0x9c29864a5fe6e77b78a174a08cd1d60f621f23faba5758223f8671b986cbe45c / 256 ^ i % 256)))) []
  { s with img := { s.img with comparing := some [97#8] } }
def comparingS : State := imgS (fun i => { i with comparing := some (List.replicate 8 0#8) }) [(R.GLOBAL_STAGE_STAGE, 1)]
def comparing7S : State := imgS (fun i => { i with comparing := some (List.replicate 7 0#8) }) [(R.GLOBAL_STAGE_STAGE, 1)]
def recommS : State := imgS (fun i => { i with loaded := true, recomm := true, slotSize := 128, data := [(8, 128#8), (9, 0#8), (10, 0#8), (11, 0#8)] }) [(R.IMG_STAT_SESSION, 1)]
def loadedRecommS : State := imgS (fun i => { i with loaded := true, recomm := true }) [(R.GLOBAL_STAGE_STAGE, 3), (R.IMG_STAT_SESSION, 1)]
def recStartedS : State := imgS (fun i => { i with started := true }) [(R.IMG_STAT_UPD_STATE, 1), (R.GLOBAL_STAGE_STAGE, 1), (R.IMG_STAT_SESSION, 1), (R.IMG_STAT_RECOVERY, 1)]
def recCommitS : State := imgS (fun i => { i with started := true, recCommit := true, slotSize := 128, nor := [(8, 128#8), (9, 0#8), (10, 0#8), (11, 0#8)] }) [(R.IMG_STAT_RECOVERY, 1)]
def checkS : State := imgS (fun i => { i with loaded := true, checks := [1] }) [(R.GLOBAL_STAGE_STAGE, 2)]
def slewS : State := let s := loadedS [(R.GLOBAL_STAGE_STAGE, 1), (R.ANG_STAT_LOCKED, 1), (R.ANG_STAT_SLEWING, 1)]; { s with ang := { s.ang with sched := 64 * 65536 } }
def tryS : State := let s := loadedS [(R.GLOBAL_STAGE_STAGE, 1)]; { s with ang := { s.ang with tryOther := true } }
def edgeS : State := let s := loadedS [(R.GLOBAL_STAGE_STAGE, 1), (R.ANG_STAT_SRC_ACTIVE, 1)]; { s with ang := { s.ang with edgeSeen := true } }
/-- A powered node of this type, numbered 3 from OUT, at position 2 of chain 5. -/
def nodeS (typ : Nat) (x : NodeX) : State := (onS []).setNode 5 2 { x with typ := typ, powered := true, outNum := 3 }
def freshNodeS (typ : Nat) (x : NodeX) : State := (onS []).setNode 5 2 { x with typ := typ, powered := true }
def chainS (c : Nat) (x : ChainX) : State := (onS []).setChain c x
def muteS : State := let s := (onS [(R.LNK_STAT_STATE 63, 3), (R.LNK_MUTE 63 3, 2 ^ 31)]).setChain 63 { probeOk := [(127, 3)] }; { s with swp := { s.swp with open_ := true } }
/-- A staged image of 128 bytes. -/
def stagedS (l : List (Fld × Nat)) : State := imgS (fun i => { i with slotSize := 128, nor := [(8, 128#8), (9, 0#8), (10, 0#8), (11, 0#8)] }) l
def openSweepS (l : List (Fld × Nat)) : State := let s := mapS [(0, 3#8), (1, 2#8), (16, 1#8), (32, 1#8)] l; { s with swp := { s.swp with open_ := true, any := true, epoch := 7#32, nextEpoch := 8#32 } }
def anyS : State := let s := openSweepS []; { s with swp := { s.swp with open_ := false } }
def busyTags (w : WaitCmd) : List TagState := [.busy w, .free, .free, .free, .free, .free, .free, .free]
def collectingS (x : ChainX) : State := (openSweepS [(R.LNK_STAT_STATE 0, 3)]).setChain 0 { x with tags := busyTags { opcode := 2, hop := 0 } }
def readingS : State := (openSweepS [(R.LNK_STAT_STATE 0, 3)]).setChain 0 { tags := busyTags { opcode := 0x40, hop := 0, kind := 1 } }
def swpS (f : SwpState → SwpState) (s : State) : State := { s with swp := f s.swp }
def requestS : State := swpS (fun x => { x with hostReq := some (3, 0), hostTodo := [0] }) (openSweepS [(R.GLOBAL_STAGE_STAGE, 1)])
def runningS : State := swpS (fun x => { x with running := [(0, 3, 0)] }) requestS
/-- A chain of two blocks, a schedule with test slots, and a request for hops 1 and 2 within 60000 s. -/
def goS : State :=
  imgS (fun i => { i with loaded := true, dir := [(1, 0, 132096), (7, 200000, 64)], data := [(0, 3#8), (1, 2#8), (16, 1#8), (32, 1#8), (200004, 0#8), (200005, 128#8), (200006, 0x58#8), (200007, 0x1B#8), (200008, 0#8), (200009, 16#8), (200010, 0#8), (200011, 32#8), (200012, 4#8)] })
    [(R.GLOBAL_STAGE_STAGE, 1), (R.LNK_STAT_STATE 0, 3), (R.ANG_SFREQ, 1000), (R.SWP_TREQ_RANGE_FIRST_HOP, 1), (R.SWP_TREQ_RANGE_LAST_HOP, 2), (R.SWP_TREQ_RANGE_DEADLINE_S, 60000)]
def campS (x : CampX) : State := swpS (fun y => { y with camps := [{}, x] }) (onS [])
/-- Entry 0 of the campaigns asks for a test of one block that has not run. -/
def campOwedS (late : Bool) : State :=
  let s := imgS (fun i => { i with loaded := true, dir := [(1, 0, 132096), (15, 200000, 32)], data := [(0, 1#8), (1, 1#8), (16, 1#8), (200016, 1#8)] }) []
  { s with swp := { s.swp with camps := [{ late := late }] } }
def derateS : State := let s := onS []; { s with sop := { s.sop with derate := [(1023, 5)] } }
def bgS (k : Nat) : State := let s := onS [(R.GLOBAL_STAGE_STAGE, 2)]; { s with diag := { s.diag with bgNext := k } }
def bankS (phase : Nat) : State :=
  let s := onS [(R.GLOBAL_STAGE_STAGE, 2), (R.STO_MIRROR_SET, 16), (R.STO_MIRROR_MIRROR_PHASE, phase), (R.DIAG_BG_STAT_ACTIVE, 1)]
  { s with sto := { s.sto with bank := some (16, 0) } }
/-- Board-test mode. -/
def boardS : State := pwrS (fun p => { p with boardTest := true }) [(R.GLOBAL_STAGE_STAGE, 1)]
/-- The TAP holds the unlocked port, in this mode of the pair. -/
def portS (mode : Nat) (l : List (Fld × Nat)) : State :=
  let s := onS ([(R.GLOBAL_STAGE_STAGE, 3), (R.IMG_STAT_SESSION, 1), (R.DIAG_DBG_STAT_MASTER, 1), (R.DIAG_DBG_STAT_UNLOCKED, 1), (R.PAIR_STAT_MODE, mode)] ++ l)
  { s with diag := { s.diag with trstHigh := true } }
def idleS : State := let s := onS [(R.GLOBAL_STAGE_STAGE, 1), (R.IMG_STAT_SESSION, 1)]; { s with log := { s.log with scanDone := true } }
def repeatS : State := let s := idleS.take (idleS.event 2 0x0101 5 7); { s with log := { s.log with busy := false } }
def clearS : State := { repeatS with log := { repeatS.log with queue := [{ cls := 2, code := 0x0102#16 }] } }
def queuedS : State := { idleS with log := { idleS.log with queue := [{ cls := 2, code := 0x0101#16 }] } }
def estBusyS : State := let s := onS []; { s with est := { s.est with busy := 0x80#8 } }
def savingS (l : List (Fld × Nat)) (h : Bool) : State := let s := onS l; { s with est := { s.est with saving := some 2, held := h } }
def cutSaveS : State := let s := savingS [] false; { s with est := { s.est with saving := some 1, sleepNext := true } }
def excS (l : List (Fld × Nat)) : State := onS (l ++ [(R.EST_EXC_STAT_STATE, 2)])
def pairS (f : PairState → PairState) (s : State) : State := { s with pair := f s.pair }
def comparePairS : State := pairS (fun x => { x with held := some (7, 9#32) }) (onS [(R.PAIR_STAT_INJ_START_OK, 1), (R.PAIR_STAT_MODE, 1)])
def compareSd0S : State := let s := comparePairS; { s with dsc := { s.dsc with condG := 2#64 } }
def compareInjS : State := pairS (fun x => { x with held := some (1024, 9#32) }) comparePairS
def rejoiningS : State := pairS (fun x => { x with reloaded := true, matched := 1 }) (comparePairS.putAll [(R.PAIR_STAT_MODE, 3)])
def backstopS : State := sioS (fun x => { x with gateHs := 255#8 }) (onS [(R.PAIR_STAT_BACKSTOP, 1)])
def replayS : State := pairS (fun x => { x with replay := [{ op := 1 }, { op := 2 }] }) (onS [])
def hallS : State := pairS (fun x => { x with hallMoves := [2, 0] }) (secS 13 64 [] [])
def roleS (role phase : Nat) : State := secS 8 0x1000 [(0x600, BitVec.ofNat 8 role), (0x608, 0#8)] [(R.CTR_STAT_PHASE, phase)]
def roleOnS (role phase : Nat) : State := (roleS role phase).put R.CTR_STAT_PAIRS_ON 255
def roleStuckS : State := let s := (roleS 3 6).put R.CTR_FB_FB_CLOSED 255; { s with ctr := { s.ctr with waitOk := true } }
/-- Safety parameters with these bytes, and every sense channel on. -/
def senseS (bytes : List (Nat × Byte)) (l : List (Fld × Nat)) : State :=
  imgS (fun i => { i with loaded := true, data := bytes, dir := [(8, 0, 0x1000), (13, 0x1000, 64)] }) l
def zeros (a : Nat) : List (Nat × Byte) := [(a, 0#8), (a + 1, 0#8), (a + 2, 0#8), (a + 3, 0#8)]
def ratioS : State := senseS [(0x61E, 80#8)] [(R.CTR_STAT_PHASE, 4), (R.DSC_VBAT 0, 0x43480000)]
def linkHighS : State :=
  let s := senseS (zeros 0x418 ++ [(0x626, 0#8)]) [(R.CTR_STAT_PHASE, 3)]
  { s with dsc := { s.dsc with vlG := 0x43480000#32 } }
def strS (n : Nat) (x : StrX) : State := (onS []).setStr n x
def joinS : State := secS 2 16384 [(0, 1#8), (2, 0#8)] [(R.GLOBAL_STAGE_STAGE, 3), (R.DSC_STATE_STATE, 2), (R.PAIR_STAT_MODE, 1)]
def joinAuxS : State := joinS.setStr 0 { contactor := 0x08#8 }
def linkLowS : State := senseS (zeros 0x418) [(R.GLOBAL_STAGE_STAGE, 3), (R.IMG_STAT_SESSION, 1), (R.DSC_STATE_STATE, 5), (R.CTR_STAT_PAIR_WELD, 128)]
def weldStrS : State := (onS [(R.GLOBAL_STAGE_STAGE, 3), (R.IMG_STAT_SESSION, 1), (R.DSC_STATE_STATE, 5)]).setStr 511 { state := 9, valid := true }
def freshWeldS : State := let s := linkLowS; { s with ctr := { s.ctr with freshP := 0x80#8 } }
def weldStrKeptS : State := weldStrS.setStr 511 { state := 9 }
def cutStrS : State := onS [(R.GLOBAL_STAGE_STAGE, 3), (R.IMG_STAT_SESSION, 1), (R.DSC_EXCL 0, 1), (R.LNK_STAT_STATE 0, 6)]
def apartS : State := senseS (zeros 0x410 ++ [(0x438, 0#8)]) [(R.DSC_I 0, 0x43480000)]
def envS : State := senseS (zeros 0x404 ++ [(0x434, 0#8), (0x435, 1#8)]) [(R.DSC_STATE_STATE, 3), (R.DSC_STATE_SD_KIND, 1)]
def breakS : State := senseS (zeros 0x400) [(R.DSC_STATE_STATE, 3)]
def envLastS : State := let s := envS; { s with dsc := { s.dsc with envAbove := [9, 9] } }
def breakHighS : State := breakS.putAll [(R.DSC_I 0, 0x43480000), (R.DSC_I 1, 0x43480000)]
def followS : State := senseS (zeros 0x40C ++ [(0x437, 0#8)]) [(R.DSC_STATE_STATE, 2)]
def verifyS : State :=
  let s := senseS [(0x600, 1#8), (0x608, 0#8)] [(R.DSC_STATE_VERIFY, 1), (R.CTR_FB_FB_CLOSED, 1)]
  { s with dsc := { s.dsc with wasOn := 1#8 } }
def lehrS : State := let s := onS [(R.DSC_STATE_STATE, 4)]; { s with dsc := { s.dsc with lehr := [{ kind := 0 }], allowed := 10 } }
/-- Connection 15 on CAN0 with identifier 0x70; the others are off. -/
def connS : State :=
  secS 11 0x210 ((List.range 16).map (fun n => (16 + 32 * n, if n = 15 then 5#8 else 0#8)) ++ [(16 + 32 * 15 + 1, 0#8), (16 + 32 * 15 + 16, 0x70#8), (16 + 32 * 15 + 17, 0#8), (16 + 32 * 15 + 18, 0#8), (16 + 32 * 15 + 19, 0#8)]) [(R.GLOBAL_STAGE_STAGE, 3)]
def connUpS : State := connS.putAll [(R.SFL_C_STAT_STATE 15, 2), (R.DSC_STATE_STATE, 2), (R.SFL_STAT_ESTABLISHED, 0x8000)]
/-- Ring 63 runs in stage 4. -/
def ringS (l : List (Fld × Nat)) : State := onS ([(R.GLOBAL_STAGE_STAGE, 4), (R.RING_CTRL_ENABLE 63, 1), (R.RING_STAT_STATE 63, 1), (R.RING_SIZE_LOG2 63, 4)] ++ l)
def cmdRingS (l : List (Fld × Nat)) : State := ringS ([(R.RING_TAIL_TAIL 63, 1), (R.RING_STAT_TYPE 63, 1)] ++ l)
def reachS (l : List (Fld × Nat)) : State :=
  let s := cmdRingS ([(R.LNK_STAT_STATE 0, 3)] ++ l)
  { s with img := { s.img with loaded := true, dir := [(1, 0, 132096)], data := [(0, 3#8), (1, 2#8), (16, 1#8), (32, 1#8)] } }
def hostS (f : HostState → HostState) (s : State) : State := { s with host := f s.host }
def owedS (o : Bool) : State := hostS (fun h => { h with linkUp := true, busMaster := true }) ((ringS [(R.RING_CTRL_INT_EN 63, 1), (R.MSIX_VCTRL_MASKED 63, 0)]).setRing 63 { holdoff := true, owed := o })
def nodeCmdS : State := (cmdRingS []).setRing 63 { node := some {} }
def eventRec : LogRec := let r : LogRec := { seq := 1#32, cls := 3, mark := 0xA5#8 }; { r with crc := r.crcOf }
def eventRingS (p : Nat) : State :=
  let s := (ringS [(R.RING_TAIL_TAIL 63, 1), (R.RING_STAT_TYPE 63, 3)]).setRing 63 { pos := some (BitVec.ofNat 32 p) }
  { s with log := { s.log with slots := [(0, eventRec)] } }
def chunkS : State :=
  let s := cmdRingS [(R.RING_STAT_TYPE 63, 5), (R.IMG_UPD_RING, 63), (R.IMG_STAT_UPD_STATE, 1)]
  { s with img := { s.img with slotSize := 128 } }
def pubS (d q0 : Bool) : State :=
  hostS (fun h => { h with pub := { done := d } }) (cmdRingS [(R.RING_STAT_TYPE 63, 2), (R.HOST_PUB_STAT_ACTIVE, 1), (R.HOST_PUB_STAT_RING, 63), (R.SWP_SCHED2_Q, if q0 then 0 else 5)])
def maskedS : State := hostS (fun h => { h with linkUp := true, busMaster := true, icause := 0x80#9 }) (onS [(R.GLOBAL_STAGE_STAGE, 3), (R.HOST_IMASK_MASK, 0x80), (R.MSIX_VCTRL_MASKED 71, 0)])
def linkedS (st : Nat) (p : Bool) : State := hostS (fun h => { h with linkUp := true, busMaster := true, perstHigh := p }) (onS [(R.GLOBAL_STAGE_STAGE, st)])
/-- Host traffic of all media; filter 0 passes every standard identifier of CAN1. -/
def macS (st : Nat) : State :=
  secS 14 0x60 ([(0, 15#8), (0x20, 0#8), (0x21, 0#8), (0x22, 0#8), (0x23, 0xC0#8), (0x24, 0#8), (0x25, 0#8), (0x26, 0#8), (0x27, 0#8)] ++ (List.range 7).map (fun j => (0x2B + 8 * j, 0#8))) [(R.GLOBAL_STAGE_STAGE, st)]
/-- An ARP request for 255.255.255.255, and its answer from ff:ff:ff:ff:ff:ff. -/
def arpReq : List Byte := List.replicate 12 0xFF#8 ++ [8#8, 6#8, 0#8, 1#8, 8#8, 0#8, 6#8, 4#8, 0#8, 1#8] ++ List.replicate 20 0xFF#8
def arpAns : List Byte := List.replicate 12 0xFF#8 ++ [8#8, 6#8, 0#8, 1#8, 8#8, 0#8, 6#8, 4#8, 0#8, 2#8] ++ List.replicate 20 0xFF#8
def earlyS : State := let s := onS [(R.GLOBAL_STAGE_STAGE, 2), (R.PAIR_STAT_INJ_START_OK, 1), (R.PAIR_STAT_MODE, 1)]; { s with ctr := { s.ctr with closeReq := true } }
def cycleS (st sf : Nat) : State := onS [(R.GLOBAL_STAGE_STAGE, st), (R.PAIR_STAT_INJ_START_OK, 1), (R.PAIR_STAT_MODE, 1), (R.DSC_STATE_STATE, sf)]
def cycleNextS : State := pairS (fun x => { x with nextMode := some 3 }) (cycleS 3 0)
def cycleCondS : State := let s := cycleS 3 2; { s with dsc := { s.dsc with condG := 2#64 } }

theorem wit_SupplyStarts :
    (∃ (s : State), (s.pwr.mainOn = false) ∧ (s.pwr.alwaysOn = false)) ∧
    (∃ (s : State), (s.pwr.mainOn = false) ∧ (s.pwr.alwaysOn = true)) ∧
    (∃ (s : State), (s.pwr.mainOn = true)) ∧
    (∃ (s : State) (d : BitVec 16), (s.pwr.asleep = true) ∧ (s.pwr.latchedWake = none) ∧ (s.get R.PWR_STAT_WAKE_IN = 0) ∧ (10 ≤ d.toNat)) ∧
    (∃ (s : State) (e : Option (BitVec 16)), (s.pwr.asleep = true) ∧ (e = none ∨ s.get R.PWR_STAT_WAKE_IN = 1 ∨ (e.getD 0#16).toNat < 10)) ∧
    (∃ (s : State) (e : WakeEvent) (d : BitVec 16), (s.pwr.asleep = true) ∧ (s.pwr.latchedWake = some e) ∧ (e.src < 4) ∧ (e.chain < 64) ∧ (e.port < 2) ∧ (s.get R.PWR_STAT_WAKE_IN = 0) ∧ (10 ≤ d.toNat)) ∧
    (∃ (s : State), (s.pwr.asleep = false) ∧ (s.pwr.mainOn = true → s.get R.PWR_STAT_SLEEP_PENDING = 0)) ∧
    (∃ (s : State), (s.pwr.asleep = false) ∧ (s.pwr.mainOn = true) ∧ (s.get R.PWR_STAT_SLEEP_PENDING = 1) ∧ (s.pwr.latchedWake = none)) ∧
    (∃ (s : State) (c : Fin 64), (s.pwr.asleep = true) ∧ (s.pwr.latchedWake = none) ∧ (s.pwr.tones.getLsbD c.val = true)) ∧
    (∃ (s : State) (c : Fin 64), (s.pwr.asleep = true) ∧ (s.pwr.tones.getLsbD c.val = false)) ∧
    (∃ (s : State), (s.pwr.asleep = true) ∧ (s.pwr.latchedWake = none) ∧ (s.pwr.timer ≠ 0)) ∧
    (∃ (s : State), (s.pwr.asleep = true → s.pwr.timer = 0)) ∧
    (∃ (s : State) (e : WakeEvent), (s.pwr.asleep = true) ∧ (s.pwr.latchedWake = some e) ∧ (e.src < 4) ∧ (e.chain < 64) ∧ (e.port < 2)) ∧
    (∃ (s : State), (s.pwr.asleep = false ∨ s.pwr.latchedWake = none)) :=
  ⟨⟨State.reset, by decide +kernel⟩,
   ⟨{ State.reset with pwr := { alwaysOn := true } }, by decide +kernel⟩,
   ⟨onS [], by decide +kernel⟩,
   ⟨asleepS, 10, by decide +kernel⟩,
   ⟨asleepS, (some 9#16), by decide +kernel⟩,
   ⟨latchedS, { src := 2, chain := 63, port := 1 }, 10, by decide +kernel⟩,
   ⟨onS [], by decide +kernel⟩,
   ⟨onS [(R.PWR_STAT_SLEEP_PENDING, 1)], by decide +kernel⟩,
   ⟨asleepS, 63, by decide +kernel⟩,
   ⟨asleepS, 1, by decide +kernel⟩,
   ⟨asleepS, by decide +kernel⟩,
   ⟨onS [], by decide +kernel⟩,
   ⟨latchedS, { src := 2, chain := 63, port := 1 }, by decide +kernel⟩,
   ⟨onS [], by decide +kernel⟩⟩

theorem wit_SupplyWarnings :
    (∃ (s : State) (ms v : BitVec 16), (s.pwr.mainOn = true) ∧ (s.getB R.PWR_STAT_VBUS_LOW = false) ∧ (v.toNat < 3600) ∧ (10 ≤ ms.toNat)) ∧
    (∃ (s : State) (ms v : BitVec 16), (s.pwr.mainOn = true) ∧ (s.getB R.PWR_STAT_VBUS_LOW = true) ∧ (3650 ≤ v.toNat) ∧ (10 ≤ ms.toNat)) ∧
    (∃ (s : State) (ms v : BitVec 16), (s.pwr.mainOn = true) ∧ (ms.toNat < 10 ∨ (s.getB R.PWR_STAT_VBUS_LOW = false ∧ ¬ v.toNat < 3600) ∨ (s.getB R.PWR_STAT_VBUS_LOW = true ∧ ¬ 3650 ≤ v.toNat))) ∧
    (∃ (s : State) (ms v : BitVec 16), (s.pwr.mainOn = true) ∧ (s.getB R.PWR_STAT_VBUS_HIGH = false) ∧ (7500 < v.toNat) ∧ (10 ≤ ms.toNat)) ∧
    (∃ (s : State) (ms v : BitVec 16), (s.pwr.mainOn = true) ∧ (s.getB R.PWR_STAT_VBUS_HIGH = true) ∧ (v.toNat ≤ 7450) ∧ (10 ≤ ms.toNat)) ∧
    (∃ (s : State) (ms v : BitVec 16), (s.pwr.mainOn = true) ∧ (ms.toNat < 10 ∨ (s.getB R.PWR_STAT_VBUS_HIGH = false ∧ ¬ 7500 < v.toNat) ∨ (s.getB R.PWR_STAT_VBUS_HIGH = true ∧ ¬ v.toNat ≤ 7450))) :=
  ⟨⟨onS [], 10, 3599, by decide +kernel⟩,
   ⟨onS [(R.PWR_STAT_VBUS_LOW, 1)], 10, 3650, by decide +kernel⟩,
   ⟨onS [], 9, 3600, by decide +kernel⟩,
   ⟨onS [], 10, 7501, by decide +kernel⟩,
   ⟨onS [(R.PWR_STAT_VBUS_HIGH, 1)], 10, 7450, by decide +kernel⟩,
   ⟨onS [], 9, 7500, by decide +kernel⟩⟩

theorem wit_SupplyEnds :
    (∃ (s : State), (s.pwr.mainOn = true)) ∧
    (∃ (s : State), (s.pwr.mainOn = true) ∧ (s.get R.PWR_STAT_SLEEP_PENDING = 1) ∧ (s.sleepReady = true)) ∧
    (∃ (s : State), (s.pwr.mainOn = true) ∧ (s.get R.PWR_STAT_SLEEP_PENDING = 0 ∨ s.sleepReady = false)) ∧
    (∃ (s : State), (s.pwr.mainOn = true)) :=
  ⟨⟨onS [], by decide +kernel⟩,
   ⟨onS [(R.PWR_STAT_SLEEP_PENDING, 1)], by decide +kernel⟩,
   ⟨onS [], by decide +kernel⟩,
   ⟨onS [], by decide +kernel⟩⟩

theorem wit_StageEntries :
    (∃ (s : State), (s.pwr.mainOn = true) ∧ (s.ready1 = true)) ∧
    (∃ (s : State), (s.pwr.mainOn = true) ∧ (s.ready1 = false)) ∧
    (∃ (s : State), (s.pwr.mainOn = true) ∧ (s.ready2 = true)) ∧
    (∃ (s : State), (s.pwr.mainOn = true) ∧ (s.ready2 = false)) ∧
    (∃ (s : State), (s.pwr.mainOn = true) ∧ (s.ready3 = true)) ∧
    (∃ (s : State), (s.pwr.mainOn = true) ∧ (s.ready3 = false)) :=
  ⟨⟨ready1S, by decide +kernel⟩,
   ⟨onS [], by decide +kernel⟩,
   ⟨ready2S, by decide +kernel⟩,
   ⟨onS [], by decide +kernel⟩,
   ⟨ready3S, by decide +kernel⟩,
   ⟨onS [], by decide +kernel⟩⟩

theorem wit_ResetsAndRestart :
    (∃ (s : State), (s.pwr.mainOn = true) ∧ (s.get R.GLOBAL_RESET_CAUSE_STUCK_RESET_IGNORED = 0)) ∧
    (∃ (s : State), (s.pwr.mainOn = true) ∧ (s.get R.GLOBAL_RESET_CAUSE_STUCK_RESET_IGNORED = 1)) ∧
    (∃ (s : State), (s.pwr.mainOn = true) ∧ (s.pwr.held = true)) ∧
    (∃ (s : State), (s.pwr.mainOn = true) ∧ (s.pwr.held = false)) ∧
    (∃ (s : State), (s.pwr.mainOn = true) ∧ (s.pwr.held = true)) ∧
    (∃ (s : State), (s.pwr.mainOn = true) ∧ (s.pwr.held = false)) ∧
    (∃ (s : State), (s.pwr.mainOn = true)) ∧
    (∃ (s : State), (s.pwr.mainOn = true) ∧ (1 ≤ s.stage) ∧ (s.host.perstHigh = true) ∧ (s.session = true) ∧ (s.safety = 0) ∧ (s.provenOpen = true)) ∧
    (∃ (s : State), (s.pwr.mainOn = true) ∧ (1 ≤ s.stage) ∧ (s.host.perstHigh = true) ∧ (s.session = true) ∧ ((s.safety = 0 ∧ s.provenOpen = true) → False)) :=
  ⟨⟨onS [(R.GLOBAL_STAGE_STAGE, 3)], by decide +kernel⟩,
   ⟨onS [(R.GLOBAL_RESET_CAUSE_STUCK_RESET_IGNORED, 1)], by decide +kernel⟩,
   ⟨heldS, by decide +kernel⟩,
   ⟨onS [], by decide +kernel⟩,
   ⟨heldS, by decide +kernel⟩,
   ⟨onS [], by decide +kernel⟩,
   ⟨onS [(R.GLOBAL_RESET_CAUSE_STUCK_RESET_IGNORED, 1)], by decide +kernel⟩,
   ⟨restartS, by decide +kernel⟩,
   ⟨onS [(R.GLOBAL_STAGE_STAGE, 3), (R.IMG_STAT_SESSION, 1), (R.DSC_STATE_STATE, 2)], by decide +kernel⟩⟩

theorem wit_SleepAndPulses :
    (∃ (s : State), (s.pwr.mainOn = true) ∧ (1 ≤ s.stage) ∧ (s.host.perstHigh = true) ∧ (s.get R.PWR_STAT_SLEEP_PENDING = 0) ∧ (s.sleepRefusal ≠ 0)) ∧
    (∃ (s : State), (s.pwr.mainOn = true) ∧ (1 ≤ s.stage) ∧ (s.host.perstHigh = true) ∧ (s.get R.PWR_STAT_SLEEP_PENDING = 0) ∧ (s.sleepRefusal = 0)) ∧
    (∃ (s : State), (s.stage = 3) ∧ (s.get R.DSC_STATE_STATE ≠ 0)) ∧
    (∃ (s : State), (s.stage < 3)) ∧
    (∃ (s : State), (s.pwr.mainOn = true) ∧ (1 ≤ s.stage) ∧ (s.host.perstHigh = true)) ∧
    (∃ (s : State), (s.pwr.mainOn = true)) ∧
    (∃ (s : State), (s.pwr.mainOn = true) ∧ (s.pwr.dbgDue = true)) ∧
    (∃ (s : State), (s.pwr.mainOn = true) ∧ (s.pwr.dbgDue = true)) ∧
    (∃ (s : State), (s.pwr.mainOn = true) ∧ (s.pwr.dbgDue = false)) ∧
    (∃ (s : State), (s.pwr.mainOn = true)) ∧
    (∃ (s : State) (mv : BitVec 16), (s.pwr.mainOn = true) ∧ (mv.toNat < 3000) ∧ (s.stage = 0) ∧ (s.img.attempted = false) ∧ (s.pwr.boardTest = false) ∧ (s.pwr.held = false) ∧ (s.pwr.voutLogged = false)) :=
  ⟨⟨onS [(R.GLOBAL_STAGE_STAGE, 2)], by decide +kernel⟩,
   ⟨sleepReadyS, by decide +kernel⟩,
   ⟨onS [(R.GLOBAL_STAGE_STAGE, 3), (R.DSC_STATE_STATE, 2)], by decide +kernel⟩,
   ⟨onS [(R.GLOBAL_STAGE_STAGE, 2)], by decide +kernel⟩,
   ⟨onS [(R.GLOBAL_STAGE_STAGE, 1)], by decide +kernel⟩,
   ⟨onS [], by decide +kernel⟩,
   ⟨dbgS, by decide +kernel⟩,
   ⟨dbgS, by decide +kernel⟩,
   ⟨onS [], by decide +kernel⟩,
   ⟨onS [], by decide +kernel⟩,
   ⟨onS [], 2999, by decide +kernel⟩⟩

theorem wit_SwitchSupplies :
    (∃ (s : State) (n : Fin 4) (v : BitVec 16), (s.pwr.mainOn = true) ∧ (v.toNat < 3200) ∧ (s.bit R.PWR_STAT_VSW_LOST n.val = false)) ∧
    (∃ (s : State) (n : Fin 4) (v : BitVec 16), (s.pwr.mainOn = true) ∧ (3200 ≤ v.toNat ∨ s.bit R.PWR_STAT_VSW_LOST n.val = true)) ∧
    (∃ (s : State) (n : Fin 4) (v : BitVec 16), (s.pwr.mainOn = true) ∧ (3400 ≤ v.toNat) ∧ (s.bit R.PWR_STAT_VSW_LOST n.val = true)) ∧
    (∃ (s : State) (n : Fin 4) (v : BitVec 16), (s.pwr.mainOn = true) ∧ (v.toNat < 3400 ∨ s.bit R.PWR_STAT_VSW_LOST n.val = false)) :=
  ⟨⟨onS [(R.GLOBAL_STAGE_STAGE, 2)], 3, 3199, by decide +kernel⟩,
   ⟨onS [], 0, 3200, by decide +kernel⟩,
   ⟨onS [(R.PWR_STAT_VSW_LOST, 8)], 3, 3400, by decide +kernel⟩,
   ⟨onS [(R.PWR_STAT_VSW_LOST, 8)], 3, 3399, by decide +kernel⟩⟩

theorem wit_SwitchSources :
    (∃ (s : State) (n : Fin 24), (s.pwr.mainOn = true) ∧ (1 ≤ s.stage) ∧ (s.host.perstHigh = true) ∧ (8 ≤ n.val) ∧ (n.val < 16) ∧ (s.get (R.SW_CFG_SRC n.val) = 0)) ∧
    (∃ (s : State) (n : Fin 24), (s.pwr.mainOn = true) ∧ (1 ≤ s.stage) ∧ (s.host.perstHigh = true) ∧ (n.val < 8 ∨ 16 ≤ n.val ∨ s.get (R.SW_CFG_SRC n.val) ≠ 0)) ∧
    (∃ (s : State) (n : Fin 24), (s.pwr.mainOn = true) ∧ (n.val < 8 ∨ 16 ≤ n.val ∨ s.get (R.SW_CFG_SRC n.val) ≠ 0)) ∧
    (∃ (s : State), (s.pwr.mainOn = true)) ∧
    (∃ (s : State), (s.pwr.mainOn = true) ∧ (1 ≤ s.stage) ∧ (s.sw.genF.length = 8)) ∧
    (∃ (s : State), (s.pwr.mainOn = true) ∧ (1 ≤ s.stage) ∧ (s.sw.genF.length = 8) ∧ (s.sw.genP.length = 8) ∧ (s.get R.SW_WDSTAT_STATE ≠ 2)) ∧
    (∃ (s : State), (s.pwr.mainOn = true) ∧ (s.stage = 0)) ∧
    (∃ (s : State) (v : Word), (s.pwr.mainOn = true) ∧ (1 ≤ s.stage) ∧ (s.host.perstHigh = true) ∧ (s.get R.GLOBAL_STAGE_FOREIGN_IMAGE = 0) ∧ (50 ≤ bitsOf v.toNat 0 16) ∧ (bitsOf v.toNat 0 16 ≤ 2000) ∧ (bitsOf v.toNat 16 16 ≤ 1000)) ∧
    (∃ (s : State) (v : Word), (s.pwr.mainOn = true) ∧ (1 ≤ s.stage) ∧ (s.host.perstHigh = true) ∧ (bitsOf v.toNat 0 16 < 50 ∨ 2000 < bitsOf v.toNat 0 16 ∨ 1000 < bitsOf v.toNat 16 16)) ∧
    (∃ (s : State) (v : Word), (s.pwr.mainOn = true) ∧ (1 ≤ s.stage) ∧ (s.host.perstHigh = true) ∧ (s.get R.GLOBAL_STAGE_FOREIGN_IMAGE = 0) ∧ (bitsOf v.toNat 0 12 ≤ 3599) ∧ (s.tab.swFlags.testBit 1 = true → bitsOf v.toNat 0 12 % 450 = 0)) ∧
    (∃ (s : State) (v : Word), (s.pwr.mainOn = true) ∧ (1 ≤ s.stage) ∧ (s.host.perstHigh = true) ∧ (3599 < bitsOf v.toNat 0 12 ∨ (s.tab.swFlags.testBit 1 = true ∧ bitsOf v.toNat 0 12 % 450 ≠ 0))) :=
  ⟨⟨onS [(R.GLOBAL_STAGE_STAGE, 3)], 15, by decide +kernel⟩,
   ⟨onS [(R.GLOBAL_STAGE_STAGE, 3)], 16, by decide +kernel⟩,
   ⟨onS [(R.GLOBAL_STAGE_STAGE, 3)], 7, by decide +kernel⟩,
   ⟨onS [(R.GLOBAL_STAGE_STAGE, 3)], by decide +kernel⟩,
   ⟨onS [(R.GLOBAL_STAGE_STAGE, 3)], by decide +kernel⟩,
   ⟨onS [(R.GLOBAL_STAGE_STAGE, 3)], by decide +kernel⟩,
   ⟨onS [], by decide +kernel⟩,
   ⟨onS [(R.GLOBAL_STAGE_STAGE, 1)], 65536050#32, by decide +kernel⟩,
   ⟨onS [(R.GLOBAL_STAGE_STAGE, 1)], 49#32, by decide +kernel⟩,
   ⟨onS [(R.GLOBAL_STAGE_STAGE, 1)], 3599#32, by decide +kernel⟩,
   ⟨onS [(R.GLOBAL_STAGE_STAGE, 1)], 3600#32, by decide +kernel⟩⟩

theorem wit_SwitchProtection :
    (∃ (s : State) (n : Fin 24), (s.pwr.mainOn = true) ∧ (s.get (R.SW_STAT_OUT_ON n.val) = 1)) ∧
    (∃ (s : State) (n : Fin 24), (s.pwr.mainOn = true) ∧ (s.get (R.SW_STAT_OUT_ON n.val) = 0)) ∧
    (∃ (s : State), (s.pwr.mainOn = true)) ∧
    (∃ (s : State) (n : Fin 24) (dt tj : BitVec 16), (s.pwr.mainOn = true) ∧ (s.get (R.SW_STAT_THERM n.val) = 0) ∧ ((10 * s.get (R.SW_CFG_DT_LIMIT n.val) : Nat) ≤ dt.toInt ∨ 1750 ≤ tj.toInt)) ∧
    (∃ (s : State) (n : Fin 24) (dt tj : BitVec 16), (s.pwr.mainOn = true) ∧ (dt.toInt < (10 * s.get (R.SW_CFG_DT_LIMIT n.val) : Nat)) ∧ (tj.toInt < 1750)) ∧
    (∃ (s : State) (n : Fin 24) (dt tj : BitVec 16), (s.pwr.mainOn = true) ∧ (s.get (R.SW_STAT_THERM n.val) = 1) ∧ (dt.toInt ≤ (10 * s.get (R.SW_CFG_DT_LIMIT n.val) : Nat) - 150) ∧ (tj.toInt ≤ 1600)) ∧
    (∃ (s : State) (n : Fin 24) (dt tj : BitVec 16), (s.pwr.mainOn = true) ∧ ((10 * s.get (R.SW_CFG_DT_LIMIT n.val) : Nat) - 150 < dt.toInt ∨ 1600 < tj.toInt)) ∧
    (∃ (s : State), (s.pwr.mainOn = true)) ∧
    (∃ (s : State) (x : BitVec 16), (s.pwr.mainOn = true) ∧ (1250 < x.toInt)) ∧
    (∃ (s : State) (x : BitVec 16), (s.pwr.mainOn = true) ∧ (x.toInt ≤ 1250)) ∧
    (∃ (s : State) (n : Fin 24), (s.pwr.mainOn = true) ∧ (1 ≤ s.stage) ∧ (s.host.perstHigh = true) ∧ ((s.chan n.val).latch ≠ 3) ∧ (s.get (R.SW_STAT_FW_MISSING n.val) = 0)) ∧
    (∃ (s : State) (n : Fin 24), (s.pwr.mainOn = true) ∧ (1 ≤ s.stage) ∧ (s.host.perstHigh = true) ∧ ((s.chan n.val).latch = 3) ∧ (s.get (R.SW_STAT_THERM n.val) = 0) ∧ (s.get (R.SW_STAT_FW_MISSING n.val) = 0)) ∧
    (∃ (s : State) (n : Fin 24), (s.pwr.mainOn = true) ∧ (1 ≤ s.stage) ∧ (s.host.perstHigh = true) ∧ ((s.chan n.val).latch = 3) ∧ (s.get (R.SW_STAT_THERM n.val) = 1) ∧ (s.get (R.SW_STAT_FW_MISSING n.val) = 0)) :=
  ⟨⟨onS [(R.SW_STAT_OUT_ON 23, 1)], 23, by decide +kernel⟩,
   ⟨onS [], 0, by decide +kernel⟩,
   ⟨onS [(R.SW_STAT_LIMITING 3, 1)], by decide +kernel⟩,
   ⟨onS [(R.SW_CFG_DT_LIMIT 8, 60)], 8, 600, 0, by decide +kernel⟩,
   ⟨onS [(R.SW_CFG_DT_LIMIT 8, 60)], 8, 599, 1749, by decide +kernel⟩,
   ⟨onS [(R.SW_STAT_THERM 8, 1), (R.SW_CFG_DT_LIMIT 8, 60)], 8, 450, 1600, by decide +kernel⟩,
   ⟨onS [(R.SW_STAT_THERM 8, 1), (R.SW_CFG_DT_LIMIT 8, 60)], 8, 451, 1600, by decide +kernel⟩,
   ⟨retriesS, by decide +kernel⟩,
   ⟨onS [], 1251, by decide +kernel⟩,
   ⟨onS [], 1250, by decide +kernel⟩,
   ⟨onS [(R.GLOBAL_STAGE_STAGE, 1)], 8, by decide +kernel⟩,
   ⟨latchedOffS, 8, by decide +kernel⟩,
   ⟨latchedOffThermS, 8, by decide +kernel⟩⟩

theorem wit_SwitchWatchdogAndShedding :
    (∃ (s : State), (s.pwr.mainOn = true) ∧ (1 ≤ s.stage) ∧ (s.host.perstHigh = true) ∧ (s.get R.SW_WDSTAT_STATE = 1) ∧ (s.pwr.optime < s.sw.lastKey + s.tab.swWdMs)) ∧
    (∃ (s : State) (k : BitVec 16), (s.pwr.mainOn = true) ∧ (1 ≤ s.stage) ∧ (s.host.perstHigh = true) ∧ (s.get R.SW_WDSTAT_STATE = 1) ∧ (s.pwr.optime < s.sw.lastKey + s.tab.swWdMs) ∧ (k ≠ (if s.get R.SW_WDSTAT_NEXT = 0 then 0x5A5A#16 else 0xA5A5#16))) ∧
    (∃ (s : State), (s.pwr.mainOn = true) ∧ (s.get R.SW_WDSTAT_STATE = 3)) ∧
    (∃ (s : State), (s.pwr.mainOn = true) ∧ (s.get R.SW_WDSTAT_STATE = 1) ∧ (s.sw.lastKey + s.tab.swWdMs ≤ s.pwr.optime)) ∧
    (∃ (s : State), (s.pwr.mainOn = true) ∧ (1 ≤ s.stage) ∧ (s.host.perstHigh = true) ∧ (s.get R.SW_WDSTAT_STATE = 1) ∧ (s.sw.lastKey + s.tab.swWdMs ≤ s.pwr.optime)) ∧
    (∃ (s : State), (s.pwr.mainOn = true) ∧ (s.get R.SW_WDSTAT_STATE ≠ 1 ∨ s.pwr.optime < s.sw.lastKey + s.tab.swWdMs)) ∧
    (∃ (s : State), (s.pwr.mainOn = true) ∧ (1 ≤ s.stage) ∧ (s.host.perstHigh = true) ∧ (s.get R.SW_WDSTAT_STATE ≠ 1) ∧ (s.get R.SW_WDSTAT_STATE ≠ 3) ∧ (s.get R.SW_WDSTAT_NEXT = 0) ∧ (s.sw.keys = 0)) ∧
    (∃ (s : State), (s.pwr.mainOn = true) ∧ (1 ≤ s.stage) ∧ (s.host.perstHigh = true) ∧ (s.get R.SW_WDSTAT_STATE ≠ 1) ∧ (s.get R.SW_WDSTAT_STATE ≠ 3) ∧ (s.get R.SW_WDSTAT_NEXT = 1) ∧ (s.sw.keys ≠ 0) ∧ (s.pwr.optime < s.sw.lastKey + s.tab.swWdMs)) ∧
    (∃ (s : State) (cur : List (BitVec 12)), (s.pwr.mainOn = true) ∧ (cur.length = 24) ∧ ((cur.map BitVec.toNat).sum * 4 ≤ 16000)) ∧
    (∃ (s : State) (cur : List (BitVec 12)) (n : Nat), (s.pwr.mainOn = true) ∧ (cur.length = 24) ∧ (18000 < (cur.map BitVec.toNat).sum * 4) ∧ ((s.measureCurrents (cur.map BitVec.toNat)).shedNext = some n)) :=
  ⟨⟨wdS 1, by decide +kernel⟩,
   ⟨wdS 1, 0xA5A5#16, by decide +kernel⟩,
   ⟨onS [(R.GLOBAL_STAGE_STAGE, 3), (R.SW_WDSTAT_STATE, 3)], by decide +kernel⟩,
   ⟨wdLateS, by decide +kernel⟩,
   ⟨wdLateS, by decide +kernel⟩,
   ⟨wdS 1, by decide +kernel⟩,
   ⟨wdS 0, by decide +kernel⟩,
   ⟨(let s := wdS 2; ({ s with sw := { s.sw with keys := 1 } }).put R.SW_WDSTAT_NEXT 1), by decide +kernel⟩,
   ⟨onS [], (List.replicate 24 100#12), by decide +kernel⟩,
   ⟨onS [(R.SW_CFG_FLAGS 15, 2), (R.SW_STAT_OUT_ON 15, 1)], (List.replicate 24 200#12), 15, by decide +kernel⟩⟩

theorem wit_SwitchDiagnosis :
    (∃ (s : State) (n : Fin 24), (s.pwr.mainOn = true) ∧ (s.bit (R.SW_CFG_FLAGS n.val) 2 = false)) ∧
    (∃ (s : State) (n : Fin 24), (s.pwr.mainOn = true) ∧ (8 ≤ n.val) ∧ (n.val < 16) ∧ (s.get (R.SW_STAT_OUT_ON n.val) = 1)) ∧
    (∃ (s : State) (n : Fin 24) (a : BitVec 16), (s.pwr.mainOn = true) ∧ (8 ≤ n.val) ∧ (n.val < 16) ∧ (s.bit (R.SW_CFG_FLAGS n.val) 2 = true) ∧ (s.get (R.SW_STAT_OUT_ON n.val) = 0) ∧ ((s.chan n.val).seen.length = 3) ∧ ((s.chan n.val).gone.length = 3) ∧ (2 ≤ nth 0 (s.chan n.val).seen 1) ∧ (6000 ≤ a.toNat)) ∧
    (∃ (s : State) (n : Fin 24) (a : BitVec 16), (s.pwr.mainOn = true) ∧ (8 ≤ n.val) ∧ (n.val < 16) ∧ (s.bit (R.SW_CFG_FLAGS n.val) 2 = true) ∧ (s.get (R.SW_STAT_OUT_ON n.val) = 0) ∧ ((s.chan n.val).seen.length = 3) ∧ ((s.chan n.val).gone.length = 3) ∧ (2 ≤ nth 0 (s.chan n.val).gone 1) ∧ (a.toNat < 6000)) ∧
    (∃ (s : State) (n : Fin 24) (a b : BitVec 16), (s.pwr.mainOn = true) ∧ (8 ≤ n.val) ∧ (n.val < 16) ∧ (s.bit (R.SW_CFG_FLAGS n.val) 2 = true) ∧ (s.get (R.SW_STAT_OUT_ON n.val) = 0) ∧ ((s.chan n.val).seen.length = 3) ∧ ((s.chan n.val).gone.length = 3) ∧ (2 ≤ nth 0 (s.chan n.val).seen 0) ∧ (a.toNat < 6000) ∧ (4000 ≤ b.toNat) ∧ (b.toNat < 6000)) ∧
    (∃ (s : State) (n : Fin 24) (k : Nat), (s.pwr.mainOn = true) ∧ ((n.val = k ∨ n.val = 16 + k) ∧ k < 8) ∧ (s.get (R.SW_STAT_OUT_ON k) = 1 ∨ s.get (R.SW_STAT_OUT_ON (16 + k)) = 1)) ∧
    (∃ (s : State) (n : Fin 24) (k : Nat) (a b y : BitVec 16), (s.pwr.mainOn = true) ∧ ((n.val = k ∨ n.val = 16 + k) ∧ k < 8) ∧ (s.bit (R.SW_CFG_FLAGS n.val) 2 = true) ∧ (s.get (R.SW_STAT_OUT_ON k) = 0) ∧ (s.get (R.SW_STAT_OUT_ON (16 + k)) = 0) ∧ ((s.chan k).seen.length = 3) ∧ ((s.chan k).gone.length = 3) ∧ ((s.chan (16 + k)).seen.length = 3) ∧ ((s.chan (16 + k)).gone.length = 3) ∧ (2 ≤ nth 0 (s.chan k).seen 1) ∧ (2 ≤ nth 0 (s.chan (16 + k)).seen 2) ∧ (6000 ≤ a.toNat) ∧ (b.toNat ≤ 2000) ∧ (y.toNat ≤ 2000)) ∧
    (∃ (s : State) (n : Fin 24) (v : BitVec 16), (s.pwr.mainOn = true) ∧ (8 ≤ n.val) ∧ (n.val < 16) ∧ (s.bit (R.SW_CFG_FLAGS n.val) 3 = true) ∧ (s.get (R.SW_STAT_FW_MISSING n.val) = 0) ∧ (v.toInt < -30)) ∧
    (∃ (s : State) (n : Fin 24) (v : BitVec 16), (s.pwr.mainOn = true) ∧ (n.val < 8) ∧ (s.bit (R.SW_CFG_FLAGS n.val) 3 = true) ∧ (s.get (R.SW_STAT_FW_MISSING n.val) = 0) ∧ (v.toInt < -30)) ∧
    (∃ (s : State) (n : Fin 24) (v : BitVec 16), (s.pwr.mainOn = true) ∧ ((n.val < 16 ∧ -30 ≤ v.toInt) ∨ s.bit (R.SW_CFG_FLAGS n.val) 3 = false ∨ s.get (R.SW_STAT_FW_MISSING n.val) = 1)) :=
  ⟨⟨onS [], 0, by decide +kernel⟩,
   ⟨onS [(R.SW_STAT_OUT_ON 8, 1)], 8, by decide +kernel⟩,
   ⟨seenS, 8, 6000, by decide +kernel⟩,
   ⟨goneS, 8, 5999, by decide +kernel⟩,
   ⟨chanS 8 { seen := [2, 0, 0] } [(R.SW_CFG_FLAGS 8, 4)], 8, 5999, 4000, by decide +kernel⟩,
   ⟨onS [(R.SW_STAT_OUT_ON 16, 1)], 0, 0, by decide +kernel⟩,
   ⟨pairSeenS, 16, 0, 6000, 2000, 2000, by decide +kernel⟩,
   ⟨onS [(R.SW_CFG_FLAGS 8, 8)], 8, 65505#16, by decide +kernel⟩,
   ⟨onS [(R.SW_CFG_FLAGS 7, 8)], 7, 65505#16, by decide +kernel⟩,
   ⟨onS [(R.SW_CFG_FLAGS 8, 8)], 8, 65506#16, by decide +kernel⟩⟩

theorem wit_SafetyInputs :
    (∃ (s : State) (n : Fin 8) (b h : Bool), (s.pwr.mainOn = true) ∧ (s.heldByPulse n.val b = false) ∧ (h = false ∨ s.unsupplied n.val b = false) ∧ (s.tab.inFunc n.val ≠ 1) ∧ (s.tab.inFunc n.val ≠ 2)) ∧
    (∃ (s : State) (n : Fin 8) (b : Bool), (s.pwr.mainOn = true) ∧ (s.heldByPulse n.val b = false) ∧ (s.tab.inFunc n.val = 2) ∧ (s.bit (if b then R.SIO_IN_B_HIGH else R.SIO_IN_A_HIGH) n.val = true) ∧ (b = false ∨ s.get R.PAIR_STAT_MODE ≠ 2)) ∧
    (∃ (s : State) (n : Fin 8) (b : Bool), (s.pwr.mainOn = true) ∧ (s.heldByPulse n.val b = false) ∧ (s.tab.inFunc n.val = 1) ∧ (s.bit (if b then R.SIO_IN_B_HIGH else R.SIO_IN_A_HIGH) n.val = true) ∧ (b = false ∨ s.get R.PAIR_STAT_MODE ≠ 2)) ∧
    (∃ (s : State) (n : Fin 8) (b h : Bool), (s.pwr.mainOn = true) ∧ (s.heldByPulse n.val b = true ∨ (h = true ∧ s.unsupplied n.val b = true))) ∧
    (∃ (s : State) (n : Fin 8), (s.pwr.mainOn = true) ∧ (s.sio.disagree.getLsbD n.val = true) ∧ (s.bit R.SIO_IN_DISC_FAULT n.val = false) ∧ (s.get R.PAIR_STAT_MODE ≠ 2) ∧ (s.timed n.val = true)) ∧
    (∃ (s : State) (n : Fin 8), (s.pwr.mainOn = true) ∧ (s.sio.disagree.getLsbD n.val = false ∨ s.bit R.SIO_IN_DISC_FAULT n.val = true ∨ s.get R.PAIR_STAT_MODE = 2)) ∧
    (∃ (s : State) (n : Fin 8), (s.pwr.mainOn = true) ∧ (s.tab.inProof n.val = 2) ∧ (s.get (R.SIO_PROOF_STATE n.val) = 2) ∧ (nth 0 s.sio.proofTime n.val + 3600000 * s.tab.inProofH n.val ≤ s.pwr.optime)) ∧
    (∃ (s : State) (n : Fin 8), (s.pwr.mainOn = true) ∧ (s.tab.inProof n.val ≠ 2 ∨ s.get (R.SIO_PROOF_STATE n.val) ≠ 2 ∨ s.pwr.optime < nth 0 s.sio.proofTime n.val + 3600000 * s.tab.inProofH n.val)) ∧
    (∃ (s : State) (n : Fin 8), (s.pwr.mainOn = true) ∧ (s.get (R.SIO_PROOF_STATE n.val) = 3) ∧ (nth 0 s.sio.proofTime n.val + 3600000 * (s.tab.inProofH n.val + s.tab.inGraceH n.val) ≤ s.pwr.optime)) ∧
    (∃ (s : State) (n : Fin 8), (s.pwr.mainOn = true) ∧ (s.get (R.SIO_PROOF_STATE n.val) ≠ 3 ∨ s.pwr.optime < nth 0 s.sio.proofTime n.val + 3600000 * (s.tab.inProofH n.val + s.tab.inGraceH n.val))) :=
  ⟨⟨onS [], 7, true, true, by decide +kernel⟩,
   ⟨inFuncS 2, 0, true, by decide +kernel⟩,
   ⟨inFuncS 1, 0, false, by decide +kernel⟩,
   ⟨pulseS, 0, false, false, by decide +kernel⟩,
   ⟨disagreeS, 0, by decide +kernel⟩,
   ⟨onS [(R.PAIR_STAT_MODE, 2)], 0, by decide +kernel⟩,
   ⟨proofS, 0, by decide +kernel⟩,
   ⟨onS [], 0, by decide +kernel⟩,
   ⟨proofS.put (R.SIO_PROOF_STATE 0) 3, 0, by decide +kernel⟩,
   ⟨onS [], 7, by decide +kernel⟩⟩

theorem wit_TestPulsesAndCoils :
    (∃ (s : State) (b : Bool), (s.pwr.mainOn = true) ∧ (s.stage ≠ 0) ∧ ((s.tab.sp8 0x580).testBit (b2n b) = true) ∧ (s.get (if b then R.SIO_TPO_TPO_B_ON else R.SIO_TPO_TPO_A_ON) = 1)) ∧
    (∃ (s : State) (b : Bool), (s.pwr.mainOn = true) ∧ (s.stage = 0 ∨ (s.tab.sp8 0x580).testBit (b2n b) = false ∨ s.get (if b then R.SIO_TPO_TPO_B_ON else R.SIO_TPO_TPO_A_ON) = 0)) ∧
    (∃ (s : State) (b : Bool), (s.pwr.mainOn = true) ∧ (s.sio.tpoPulse.getLsbD (b2n b) = true)) ∧
    (∃ (s : State) (b : Bool), (s.pwr.mainOn = true) ∧ (s.sio.tpoPulse.getLsbD (b2n b) = false)) ∧
    (∃ (s : State) (b : Bool), (s.pwr.mainOn = true) ∧ (s.get (if b then R.SIO_TPO_TPO_B_ON else R.SIO_TPO_TPO_A_ON) = 1 ∨ s.sio.tpoPulse.getLsbD (b2n b) = true)) ∧
    (∃ (s : State) (b : Bool), (s.pwr.mainOn = true) ∧ (s.get (if b then R.SIO_TPO_TPO_B_ON else R.SIO_TPO_TPO_A_ON) = 1 ∨ s.sio.tpoPulse.getLsbD (b2n b) = true) ∧ (∀ n < 8, s.tab.inExt n = true)) ∧
    (∃ (s : State) (b : Bool), (s.pwr.mainOn = true) ∧ (s.get (if b then R.SIO_TPO_TPO_B_ON else R.SIO_TPO_TPO_A_ON) = 0) ∧ (s.sio.tpoPulse.getLsbD (b2n b) = false)) ∧
    (∃ (s : State) (b : Bool), (s.pwr.mainOn = true) ∧ (s.pwr.boardTest = false) ∧ (s.get (if b then R.SIO_TPO_B_LIMIT else R.SIO_TPO_A_LIMIT) = 1)) ∧
    (∃ (s : State) (b : Bool), (s.pwr.mainOn = true) ∧ (s.pwr.boardTest = true ∨ s.get (if b then R.SIO_TPO_B_LIMIT else R.SIO_TPO_A_LIMIT) = 0)) ∧
    (∃ (s : State) (l : Bool) (k : Fin 8), (s.pwr.mainOn = true) ∧ ((if l then s.sio.gateLs else s.sio.gateHs).getLsbD k.val = true)) ∧
    (∃ (s : State) (l : Bool) (k : Fin 8), (s.pwr.mainOn = true) ∧ ((if l then s.sio.gateLs else s.sio.gateHs).getLsbD k.val = false)) ∧
    (∃ (s : State) (l : Bool) (k : Fin 8), (s.pwr.mainOn = true) ∧ ((if l then s.sio.pulseLs else s.sio.pulseHs).getLsbD k.val = true)) ∧
    (∃ (s : State) (l : Bool) (k : Fin 8), (s.pwr.mainOn = true) ∧ ((if l then s.sio.pulseLs else s.sio.pulseHs).getLsbD k.val = false)) ∧
    (∃ (s : State) (l : Bool) (k : Fin 8) (b : Bool), (s.pwr.mainOn = true) ∧ ((if l then s.sio.pulseLs else s.sio.pulseHs).getLsbD k.val = false) ∧ ((if l then s.sio.gateLs else s.sio.gateHs).getLsbD k.val ≠ b)) ∧
    (∃ (s : State), (s.pwr.mainOn = true)) :=
  ⟨⟨tpoCfgS, true, by decide +kernel⟩,
   ⟨onS [], true, by decide +kernel⟩,
   ⟨pulseS, false, by decide +kernel⟩,
   ⟨onS [], false, by decide +kernel⟩,
   ⟨tpoS, true, by decide +kernel⟩,
   ⟨extTpoS, true, by decide +kernel⟩,
   ⟨onS [], true, by decide +kernel⟩,
   ⟨onS [(R.SIO_TPO_B_LIMIT, 1)], true, by decide +kernel⟩,
   ⟨onS [], true, by decide +kernel⟩,
   ⟨gateS, true, 7, by decide +kernel⟩,
   ⟨onS [], true, 7, by decide +kernel⟩,
   ⟨gatePulseS, true, 7, by decide +kernel⟩,
   ⟨onS [], true, 7, by decide +kernel⟩,
   ⟨onS [], true, 7, true, by decide +kernel⟩,
   ⟨onS [], by decide +kernel⟩⟩

theorem wit_Sessions :
    (∃ (s : State), (s.pwr.mainOn = true) ∧ (1 ≤ s.stage) ∧ (s.host.perstHigh = true) ∧ (s.get R.IMG_STAT_LOCKOUT = 0) ∧ (s.get R.IMG_STAT_SESSION = 0) ∧ (s.img.comparing = none)) ∧
    (∃ (s : State), (s.pwr.mainOn = true) ∧ (1 ≤ s.stage) ∧ (s.host.perstHigh = true) ∧ (s.get R.IMG_STAT_LOCKOUT = 1 ∨ s.get R.IMG_STAT_SESSION = 1 ∨ s.img.comparing ≠ none)) ∧
    (∃ (s : State) (p : List Byte), (s.pwr.mainOn = true) ∧ (s.img.comparing = some p) ∧ (s.img.loaded = true) ∧ (sha256 (s.tab.password.take 16 ++ p) = (s.tab.password.drop 16).take 32)) ∧
    (∃ (s : State) (p : List Byte), (s.pwr.mainOn = true) ∧ (s.img.comparing = some p) ∧ (s.img.loaded = false) ∧ (s.img.shadow = none) ∧ (8 ≤ p.length) ∧ (p.length ≤ 32)) ∧
    (∃ (s : State) (p : List Byte), (s.pwr.mainOn = true) ∧ (s.img.comparing = some p) ∧ (s.img.loaded = false) ∧ (s.img.shadow = none) ∧ (p.length < 8 ∨ 32 < p.length)) ∧
    (∃ (s : State), (s.pwr.mainOn = true) ∧ (1 ≤ s.stage) ∧ (s.host.perstHigh = true) ∧ (s.get R.IMG_STAT_SESSION = 1) ∧ (s.get R.DIAG_DBG_STAT_HALTED = 0) ∧ (s.get R.DIAG_DBG_STAT_BKPT = 0) ∧ (s.get R.DIAG_DBG_STAT_UNLOCKED = 0)) ∧
    (∃ (s : State), (s.pwr.mainOn = true) ∧ (s.get R.IMG_STAT_SESSION = 1) ∧ (s.get R.DIAG_DBG_STAT_HALTED = 0) ∧ (s.get R.DIAG_DBG_STAT_BKPT = 0) ∧ (s.get R.DIAG_DBG_STAT_UNLOCKED = 0)) ∧
    (∃ (s : State), (s.pwr.mainOn = true) ∧ (s.get R.IMG_STAT_LOCKOUT = 1)) :=
  ⟨⟨onS [(R.GLOBAL_STAGE_STAGE, 1)], by decide +kernel⟩,
   ⟨onS [(R.GLOBAL_STAGE_STAGE, 1), (R.IMG_STAT_LOCKOUT, 1)], by decide +kernel⟩,
   ⟨passwordS, [0x61#8], by decide +kernel⟩,
   ⟨comparingS, (List.replicate 8 0#8), by decide +kernel⟩,
   ⟨comparing7S, (List.replicate 7 0#8), by decide +kernel⟩,
   ⟨onS [(R.GLOBAL_STAGE_STAGE, 1), (R.IMG_STAT_SESSION, 1)], by decide +kernel⟩,
   ⟨onS [(R.IMG_STAT_SESSION, 1)], by decide +kernel⟩,
   ⟨onS [(R.IMG_STAT_LOCKOUT, 1)], by decide +kernel⟩⟩

theorem wit_ImageLoading :
    (∃ (s : State), (s.pwr.mainOn = true) ∧ (s.stage = 0) ∧ (s.img.attempted = false) ∧ (s.pwr.boardTest = false) ∧ (s.pwr.held = false) ∧ (s.get R.PWR_STAT_VOUT33_OK = 1)) ∧
    (∃ (s : State), (s.pwr.mainOn = true) ∧ (s.stage = 0) ∧ (s.img.attempted = false) ∧ (s.pwr.boardTest = false) ∧ (s.pwr.held = false) ∧ (s.get R.PWR_STAT_VOUT33_OK = 1) ∧ (s.img.nor = [])) ∧
    (∃ (s : State), (s.pwr.mainOn = true) ∧ (s.stage ≠ 0 ∨ s.img.attempted = true ∨ s.pwr.boardTest = true ∨ s.pwr.held = true ∨ s.get R.PWR_STAT_VOUT33_OK = 0)) :=
  ⟨⟨onS [(R.PWR_STAT_VOUT33_OK, 1)], by decide +kernel⟩,
   ⟨onS [(R.PWR_STAT_VOUT33_OK, 1)], by decide +kernel⟩,
   ⟨onS [], by decide +kernel⟩⟩

theorem wit_Recommissioning :
    (∃ (s : State), (s.pwr.mainOn = true) ∧ (1 ≤ s.stage) ∧ (s.host.perstHigh = true) ∧ (s.session = true) ∧ (s.img.recomm = false) ∧ (s.recommRefusal ≠ 0)) ∧
    (∃ (s : State), (s.pwr.mainOn = true) ∧ (1 ≤ s.stage) ∧ (s.host.perstHigh = true) ∧ (s.session = true) ∧ (s.img.loaded = true) ∧ (s.img.recomm = false) ∧ (s.recommRefusal = 0) ∧ (s.get R.PAIR_STAT_MODE ≠ 2)) ∧
    (∃ (s : State), (s.pwr.mainOn = true) ∧ (1 ≤ s.stage) ∧ (s.host.perstHigh = true) ∧ (s.session = true) ∧ (s.img.loaded = false) ∧ (s.img.recomm = false) ∧ (s.recommRefusal = 0) ∧ (s.get R.PAIR_STAT_MODE ≠ 2)) ∧
    (∃ (s : State), (s.pwr.mainOn = true) ∧ (1 ≤ s.stage) ∧ (s.host.perstHigh = true) ∧ (s.session = true) ∧ (s.img.recomm = false) ∧ (s.recommRefusal = 0) ∧ (s.get R.PAIR_STAT_MODE = 2)) ∧
    (∃ (s : State), (s.pwr.mainOn = true) ∧ (1 ≤ s.stage) ∧ (s.host.perstHigh = true) ∧ (s.session = true) ∧ (s.img.recomm = true)) ∧
    (∃ (s : State), (s.pwr.mainOn = true) ∧ (s.img.recomm = true) ∧ (s.img.checks.contains 5 = false)) ∧
    (∃ (s : State), (s.pwr.mainOn = true) ∧ (s.img.recomm = true) ∧ (s.img.checks.contains 5 = false)) ∧
    (∃ (s : State), (s.pwr.mainOn = true) ∧ (s.img.recomm = false ∨ s.img.checks.contains 5 = true)) :=
  ⟨⟨loadedS [(R.GLOBAL_STAGE_STAGE, 3), (R.IMG_STAT_SESSION, 1), (R.DSC_STATE_STATE, 2)], by decide +kernel⟩,
   ⟨loadedS [(R.GLOBAL_STAGE_STAGE, 3), (R.IMG_STAT_SESSION, 1), (R.IMG_CHECK_RESULT, 1)], by decide +kernel⟩,
   ⟨onS [(R.GLOBAL_STAGE_STAGE, 3), (R.IMG_STAT_SESSION, 1), (R.IMG_CHECK_RESULT, 1)], by decide +kernel⟩,
   ⟨loadedS [(R.GLOBAL_STAGE_STAGE, 3), (R.IMG_STAT_SESSION, 1), (R.IMG_CHECK_RESULT, 1), (R.PAIR_STAT_MODE, 2)], by decide +kernel⟩,
   ⟨loadedRecommS, by decide +kernel⟩,
   ⟨recommS, by decide +kernel⟩,
   ⟨recommS, by decide +kernel⟩,
   ⟨onS [], by decide +kernel⟩⟩

theorem wit_Updates :
    (∃ (s : State), (s.pwr.mainOn = true) ∧ (s.stage = 4) ∧ (s.session = true) ∧ (s.get R.IMG_STAT_UPD_STATE = 0 ∨ 5 ≤ s.get R.IMG_STAT_UPD_STATE) ∧ (s.get (R.RING_STAT_TYPE (s.get R.IMG_UPD_RING)) = 5)) ∧
    (∃ (s : State), (s.pwr.mainOn = true) ∧ (s.get R.IMG_STAT_UPD_STATE = 2) ∧ (s.img.recCommit = false)) ∧
    (∃ (s : State), (s.pwr.mainOn = true) ∧ (1 ≤ s.stage) ∧ (s.host.perstHigh = true) ∧ (s.session = true) ∧ (s.get R.IMG_STAT_UPD_STATE = 3) ∧ (s.img.repairSeen = s.get R.DIAG_REP_SEQ)) ∧
    (∃ (s : State), (s.pwr.mainOn = true) ∧ (s.get R.IMG_STAT_UPD_STATE = 4)) ∧
    (∃ (s : State), (s.pwr.mainOn = true) ∧ (s.get R.IMG_STAT_UPD_STATE = 4)) ∧
    (∃ (s : State), (s.pwr.mainOn = true) ∧ (1 ≤ s.stage) ∧ (s.host.perstHigh = true) ∧ (s.session = true) ∧ (s.get R.IMG_STAT_UPD_STATE = 3) ∧ (s.img.repairSeen ≠ s.get R.DIAG_REP_SEQ)) ∧
    (∃ (s : State), (s.pwr.mainOn = true) ∧ (1 ≤ s.stage) ∧ (s.host.perstHigh = true) ∧ (s.session = true) ∧ (s.get R.IMG_STAT_UPD_STATE ≠ 3)) ∧
    (∃ (s : State), (s.pwr.mainOn = true) ∧ (1 ≤ s.stage) ∧ (s.host.perstHigh = true) ∧ (s.session = true) ∧ (s.get R.IMG_STAT_UPD_STATE ≠ 4) ∧ (s.get R.IMG_STAT_REC_BUSY = 0)) ∧
    (∃ (s : State), (s.pwr.mainOn = true) ∧ (1 ≤ s.stage) ∧ (s.host.perstHigh = true) ∧ (s.session = true) ∧ (s.get R.IMG_STAT_UPD_STATE ≠ 4) ∧ (s.get R.IMG_STAT_REC_BUSY = 1)) ∧
    (∃ (s : State), (s.pwr.mainOn = true) ∧ (1 ≤ s.stage) ∧ (s.host.perstHigh = true) ∧ (s.session = true) ∧ (s.get R.IMG_STAT_UPD_STATE = 4)) :=
  ⟨⟨onS [(R.GLOBAL_STAGE_STAGE, 4), (R.IMG_STAT_SESSION, 1), (R.RING_STAT_TYPE 0, 5)], by decide +kernel⟩,
   ⟨stagedS [(R.IMG_STAT_UPD_STATE, 2)], by decide +kernel⟩,
   ⟨onS [(R.GLOBAL_STAGE_STAGE, 4), (R.IMG_STAT_SESSION, 1), (R.IMG_STAT_UPD_STATE, 3)], by decide +kernel⟩,
   ⟨stagedS [(R.IMG_STAT_UPD_STATE, 4)], by decide +kernel⟩,
   ⟨stagedS [(R.IMG_STAT_UPD_STATE, 4)], by decide +kernel⟩,
   ⟨stagedS [(R.GLOBAL_STAGE_STAGE, 4), (R.IMG_STAT_SESSION, 1), (R.IMG_STAT_UPD_STATE, 3), (R.DIAG_REP_SEQ, 1)], by decide +kernel⟩,
   ⟨onS [(R.GLOBAL_STAGE_STAGE, 4), (R.IMG_STAT_SESSION, 1)], by decide +kernel⟩,
   ⟨onS [(R.GLOBAL_STAGE_STAGE, 4), (R.IMG_STAT_SESSION, 1), (R.IMG_STAT_UPD_STATE, 2)], by decide +kernel⟩,
   ⟨onS [(R.GLOBAL_STAGE_STAGE, 1), (R.IMG_STAT_SESSION, 1), (R.IMG_STAT_UPD_STATE, 1), (R.IMG_STAT_REC_BUSY, 1)], by decide +kernel⟩,
   ⟨onS [(R.GLOBAL_STAGE_STAGE, 4), (R.IMG_STAT_SESSION, 1), (R.IMG_STAT_UPD_STATE, 4)], by decide +kernel⟩⟩

theorem wit_RecoveryAndChecks :
    (∃ (s : State), (s.pwr.mainOn = true) ∧ (1 ≤ s.stage) ∧ (s.host.perstHigh = true) ∧ (s.session = true) ∧ (s.get R.IMG_STAT_RECOVERY = 1) ∧ (s.get R.IMG_STAT_REC_BUSY = 0) ∧ (s.img.recCommit = false) ∧ (s.get R.IMG_STAT_UPD_STATE = 1)) ∧
    (∃ (s : State), (s.pwr.mainOn = true) ∧ (1 ≤ s.stage) ∧ (s.host.perstHigh = true) ∧ (s.session = true) ∧ (s.get R.IMG_STAT_RECOVERY = 1) ∧ (s.get R.IMG_STAT_REC_BUSY = 0) ∧ (s.img.recCommit = false) ∧ (s.get R.IMG_STAT_UPD_STATE ≠ 1)) ∧
    (∃ (s : State), (s.pwr.mainOn = true) ∧ (1 ≤ s.stage) ∧ (s.host.perstHigh = true) ∧ (s.session = true) ∧ (s.get R.IMG_STAT_RECOVERY = 0 ∨ s.get R.IMG_STAT_REC_BUSY = 1 ∨ s.img.recCommit = true)) ∧
    (∃ (s : State), (s.pwr.mainOn = true) ∧ (s.get R.IMG_STAT_REC_BUSY = 1)) ∧
    (∃ (s : State), (s.pwr.mainOn = true) ∧ (s.get R.IMG_STAT_REC_BUSY = 1)) ∧
    (∃ (s : State), (s.pwr.mainOn = true) ∧ (1 ≤ s.stage) ∧ (s.host.perstHigh = true) ∧ (s.session = true) ∧ (s.get R.IMG_STAT_RECOVERY = 1) ∧ (s.get R.IMG_STAT_REC_BUSY = 0) ∧ (s.img.recCommit = false) ∧ (s.get R.IMG_STAT_UPD_STATE ≠ 0)) ∧
    (∃ (s : State), (s.pwr.mainOn = true) ∧ (s.img.recCommit = true)) ∧
    (∃ (s : State), (s.pwr.mainOn = true) ∧ (1 ≤ s.stage) ∧ (s.host.perstHigh = true) ∧ (s.img.loaded = true)) ∧
    (∃ (s : State) (k : Nat) (more : List Nat), (s.pwr.mainOn = true) ∧ (s.img.checks = k :: more) ∧ (s.img.loaded = true) ∧ (k < 6)) :=
  ⟨⟨onS [(R.GLOBAL_STAGE_STAGE, 1), (R.IMG_STAT_SESSION, 1), (R.IMG_STAT_RECOVERY, 1), (R.IMG_STAT_UPD_STATE, 1)], by decide +kernel⟩,
   ⟨onS [(R.GLOBAL_STAGE_STAGE, 1), (R.IMG_STAT_SESSION, 1), (R.IMG_STAT_RECOVERY, 1)], by decide +kernel⟩,
   ⟨onS [(R.GLOBAL_STAGE_STAGE, 1), (R.IMG_STAT_SESSION, 1)], by decide +kernel⟩,
   ⟨onS [(R.IMG_STAT_REC_BUSY, 1)], by decide +kernel⟩,
   ⟨onS [(R.IMG_STAT_REC_BUSY, 1)], by decide +kernel⟩,
   ⟨recStartedS, by decide +kernel⟩,
   ⟨recCommitS, by decide +kernel⟩,
   ⟨loadedS [(R.GLOBAL_STAGE_STAGE, 1)], by decide +kernel⟩,
   ⟨checkS, 1, [], by decide +kernel⟩⟩

theorem wit_AngleLock :
    (∃ (s : State) (f : Word) (obs : List (BitVec 16 × BitVec 16)), (s.pwr.mainOn = true) ∧ (1 ≤ s.stage) ∧ (s.img.loaded = true) ∧ (s.get R.ANG_STAT_LOCKED = 0) ∧ (s.get R.ANG_STAT_SRC_ACTIVE < 2) ∧ (s.ang.tryOther = false) ∧ (obs.length = 8) ∧ (obs.all (fun o => decide ((s.tab.phaseErr (s.get R.ANG_STAT_SRC_ACTIVE) o).natAbs ≤ 256)) = true) ∧ (400000 ≤ f.toNat) ∧ (f.toNat ≤ 700000)) ∧
    (∃ (s : State) (f : Word) (obs : List (BitVec 16 × BitVec 16)), (s.pwr.mainOn = true) ∧ (1 ≤ s.stage) ∧ (s.img.loaded = true) ∧ (s.get R.ANG_STAT_LOCKED = 0) ∧ (s.get R.ANG_STAT_SRC_ACTIVE < 2) ∧ (s.ang.tryOther = true) ∧ (obs.length = 8) ∧ (obs.all (fun o => decide ((s.tab.phaseErr (1 - s.get R.ANG_STAT_SRC_ACTIVE) o).natAbs ≤ 256)) = true) ∧ (400000 ≤ f.toNat) ∧ (f.toNat ≤ 700000)) ∧
    (∃ (s : State) (f : Word) (obs : List (BitVec 16 × BitVec 16)), (s.pwr.mainOn = true) ∧ (1 ≤ s.stage) ∧ (s.img.loaded = true) ∧ (s.get R.ANG_STAT_LOCKED = 0) ∧ (s.get R.ANG_STAT_SRC_ACTIVE < 2) ∧ (s.ang.tryOther = false) ∧ (obs.length ≠ 8 ∨ f.toNat < 400000 ∨ 700000 < f.toNat)) ∧
    (∃ (s : State) (o : LossObs) (k : Nat), (s.pwr.mainOn = true) ∧ (s.get R.ANG_STAT_LOCKED = 1) ∧ (s.tab.lossCause (s.get R.ANG_STAT_SRC_ACTIVE) o = some k)) ∧
    (∃ (s : State) (o : LossObs), (s.pwr.mainOn = true) ∧ (s.get R.ANG_STAT_LOCKED = 1) ∧ (s.tab.lossCause (s.get R.ANG_STAT_SRC_ACTIVE) o = none)) ∧
    (∃ (s : State), (s.pwr.mainOn = true) ∧ (s.get R.ANG_STAT_LOCKED = 0)) ∧
    (∃ (s : State) (k : Nat) (o : LossObs), (o.phases.length = 3) ∧ (o.phases.all (fun x => decide (2048 < (s.tab.phaseErr k x).natAbs)) = true)) ∧
    (∃ (s : State) (o : LossObs), (o.phases = []) ∧ (o.crossing = true) ∧ (500 ≤ o.mv.toNat) ∧ (o.freq.toNat < 400000 ∨ 700000 < o.freq.toNat)) ∧
    (∃ (s : State) (k : Nat) (o : LossObs), (o.phases = []) ∧ (o.crossing = false ∨ (k = 0 ∧ o.mv.toNat < 500)) ∧ (100000 * s.tab.u8 7 0x18 ≤ o.ms.toNat * s.tab.fNom)) ∧
    (∃ (s : State), (s.pwr.mainOn = true) ∧ (s.get R.ANG_STAT_FALLBACK = 1) ∧ (s.get R.ANG_STAT_SLEWING = 0)) ∧
    (∃ (s : State), (s.pwr.mainOn = true) ∧ (s.get R.ANG_STAT_FALLBACK = 0) ∧ (s.ang.tryOther = true)) ∧
    (∃ (s : State), (s.pwr.mainOn = true) ∧ (s.get R.ANG_STAT_FALLBACK = 0) ∧ (s.ang.tryOther = false)) ∧
    (∃ (s : State) (f : Word), (s.pwr.mainOn = true) ∧ (1 ≤ s.stage) ∧ (s.img.loaded = true) ∧ (400000 ≤ f.toNat) ∧ (f.toNat ≤ 700000)) ∧
    (∃ (s : State) (f : Word), (s.pwr.mainOn = true) ∧ (1 ≤ s.stage) ∧ (s.img.loaded = true) ∧ (s.get R.ANG_STAT_LOCKED = 1) ∧ (f.toNat < 400000 ∨ 700000 < f.toNat)) ∧
    (∃ (s : State), (s.pwr.mainOn = true) ∧ (s.stage = 0 ∨ s.img.loaded = false)) ∧
    (∃ (s : State) (ph : BitVec 16), (s.pwr.mainOn = true) ∧ (s.get R.ANG_STAT_LOCKED = 1) ∧ (s.get R.ANG_STAT_SLEWING = 1) ∧ (slipSmall (s.setMains (s.tab.phaseOf (s.get R.ANG_STAT_SRC_ACTIVE) ph.toNat)).ang.slip = true)) ∧
    (∃ (s : State) (ph : BitVec 16), (s.pwr.mainOn = true) ∧ (s.get R.ANG_STAT_SLEWING = 0 ∨ slipSmall (s.setMains (s.tab.phaseOf (s.get R.ANG_STAT_SRC_ACTIVE) ph.toNat)).ang.slip = false)) ∧
    (∃ (s : State), (s.pwr.mainOn = true) ∧ (1 ≤ s.stage) ∧ (s.host.perstHigh = true) ∧ (s.img.loaded = true)) :=
  ⟨⟨loadedS [(R.GLOBAL_STAGE_STAGE, 1)], 500000#32, (List.replicate 8 (0xFF00#16, 0#16)), by decide +kernel⟩,
   ⟨tryS, 700000#32, (List.replicate 8 (256#16, 0#16)), by decide +kernel⟩,
   ⟨loadedS [(R.GLOBAL_STAGE_STAGE, 1)], 399999#32, (List.replicate 8 (0#16, 0#16)), by decide +kernel⟩,
   ⟨onS [(R.ANG_STAT_LOCKED, 1), (R.ANG_STAT_SRC_ACTIVE, 1)], { freq := 700001#32 }, 2, by decide +kernel⟩,
   ⟨onS [(R.ANG_STAT_LOCKED, 1), (R.ANG_STAT_SRC_ACTIVE, 1)], { freq := 700000#32 }, by decide +kernel⟩,
   ⟨onS [], by decide +kernel⟩,
   ⟨onS [], 0, { phases := List.replicate 3 (3000#16, 0#16) }, by decide +kernel⟩,
   ⟨onS [], { mv := 500#16, freq := 399999#32 }, by decide +kernel⟩,
   ⟨onS [], 0, { mv := 499#16 }, by decide +kernel⟩,
   ⟨onS [(R.ANG_STAT_FALLBACK, 1)], by decide +kernel⟩,
   ⟨tryS, by decide +kernel⟩,
   ⟨onS [], by decide +kernel⟩,
   ⟨loadedS [(R.GLOBAL_STAGE_STAGE, 1)], 500000#32, by decide +kernel⟩,
   ⟨loadedS [(R.GLOBAL_STAGE_STAGE, 1), (R.ANG_STAT_LOCKED, 1)], 399999#32, by decide +kernel⟩,
   ⟨onS [], by decide +kernel⟩,
   ⟨slewS, 0, by decide +kernel⟩,
   ⟨slewS, 0xFFFF#16, by decide +kernel⟩,
   ⟨loadedS [(R.GLOBAL_STAGE_STAGE, 1), (R.ANG_STAT_LOCKED, 1)], by decide +kernel⟩⟩

theorem wit_AngleSchedule :
    (∃ (s : State) (u : Word), (s.pwr.mainOn = true) ∧ (1 ≤ s.stage) ∧ (s.img.loaded = true) ∧ (s.get R.ANG_STAT_SRC_ACTIVE = 1) ∧ (s.edgeOk u.toNat = true)) ∧
    (∃ (s : State) (u : Word), (s.pwr.mainOn = true) ∧ (1 ≤ s.stage) ∧ (s.img.loaded = true) ∧ (s.get R.ANG_STAT_SRC_ACTIVE = 1) ∧ (s.edgeOk u.toNat = false)) ∧
    (∃ (s : State), (s.pwr.mainOn = true) ∧ (s.stage = 0 ∨ s.img.loaded = false)) ∧
    (∃ (s : State), (s.get R.ANG_STAT_LOCKED = 0) ∧ (s.ang.edgeSeen = true)) ∧
    (∃ (s : State) (v : BitVec 2), (s.pwr.mainOn = true) ∧ (1 ≤ s.stage) ∧ (s.host.perstHigh = true) ∧ (s.session = true) ∧ (s.img.loaded = true) ∧ (v.toNat ≠ s.get R.ANG_CTRL_SRC_OVR)) ∧
    (∃ (s : State) (v : BitVec 2), (s.pwr.mainOn = true) ∧ (1 ≤ s.stage) ∧ (s.host.perstHigh = true) ∧ (s.session = false) ∧ (v.toNat ≠ s.get R.ANG_CTRL_SRC_OVR)) ∧
    (∃ (s : State), (s.pwr.mainOn = true) ∧ (s.img.loaded = true)) ∧
    (∃ (s : State), (s.pwr.mainOn = true) ∧ (s.img.loaded = false)) ∧
    (∃ (s : State), (s.pwr.mainOn = true) ∧ (1 ≤ s.stage) ∧ (s.host.perstHigh = true) ∧ (s.img.loaded = true)) ∧
    (∃ (s : State), (s.pwr.mainOn = true) ∧ (1 ≤ s.stage) ∧ (s.host.perstHigh = true) ∧ (s.img.loaded = false)) :=
  ⟨⟨loadedS [(R.GLOBAL_STAGE_STAGE, 1), (R.ANG_STAT_SRC_ACTIVE, 1)], 20000#32, by decide +kernel⟩,
   ⟨edgeS, 14199#32, by decide +kernel⟩,
   ⟨onS [], by decide +kernel⟩,
   ⟨edgeS, by decide +kernel⟩,
   ⟨loadedS [(R.GLOBAL_STAGE_STAGE, 1), (R.IMG_STAT_SESSION, 1)], 2#2, by decide +kernel⟩,
   ⟨onS [(R.GLOBAL_STAGE_STAGE, 1)], 2#2, by decide +kernel⟩,
   ⟨loadedS [], by decide +kernel⟩,
   ⟨onS [], by decide +kernel⟩,
   ⟨loadedS [(R.GLOBAL_STAGE_STAGE, 1)], by decide +kernel⟩,
   ⟨onS [(R.GLOBAL_STAGE_STAGE, 1)], by decide +kernel⟩⟩

theorem wit_NodesThatDoNotTakeAFrame :
    (∃ (s : State) (c : Fin 64) (p : Fin 128), (s.nodeUp c.val p.val = false)) ∧
    (∃ (s : State) (c : Fin 64) (p : Fin 128) (f : NodeRx), (s.nodeUp c.val p.val = true) ∧ (rxOk f 2 [] = false)) ∧
    (∃ (s : State) (c : Fin 64) (p : Fin 128) (f : NodeRx), (s.nodeUp c.val p.val = true) ∧ (rxOk f 2 [] = true) ∧ (f.rsp = true)) ∧
    (∃ (s : State) (c : Fin 64) (p : Fin 128) (f : NodeRx), (s.nodeUp c.val p.val = true) ∧ (rxOk f 2 [] = true) ∧ (f.rsp = false) ∧ (reservedOpc f.opc.toNat = true) ∧ ((s.node c.val p.val).mine f = false ∨ f.opc.toNat < 0x47) ∧ ((s.node c.val p.val).mine f = true ∨ f.hop ≠ 0xFE#8)) ∧
    (∃ (s : State) (c : Fin 64) (p : Fin 128) (f : NodeRx), (s.nodeUp c.val p.val = true) ∧ (rxOk f 2 [] = true) ∧ (f.rsp = false) ∧ (0x47 ≤ f.opc.toNat) ∧ ((s.node c.val p.val).mine f = true)) :=
  ⟨⟨onS [], 5, 2, by decide +kernel⟩,
   ⟨nodeS 2 {}, 5, 2, { hop := 3, codeErr := true }, by decide +kernel⟩,
   ⟨nodeS 2 {}, 5, 2, (rxSealed { hop := 3, rsp := true } 2 []), by decide +kernel⟩,
   ⟨nodeS 2 {}, 5, 2, (rxSealed { hop := 3, opc := 0x3F } 2 []), by decide +kernel⟩,
   ⟨nodeS 2 {}, 5, 2, (rxSealed { hop := 3, opc := 0x47 } 2 []), by decide +kernel⟩⟩

theorem wit_NodeSweepAndData :
    (∃ (s : State) (c : Fin 64) (p : Fin 128) (f : NodeRx) (pl : List Byte), (s.nodeUp c.val p.val = true) ∧ (rxOk f 1 pl = true) ∧ (f.rsp = false) ∧ (reservedOpc f.opc.toNat = false) ∧ (pl.length = 76) ∧ ((s.node c.val p.val).typ = 2) ∧ ((s.node c.val p.val).heard = false ∨ (s.node c.val p.val).epoch ≠ BitVec.ofNat 32 (ofLe (pl.take 4)))) ∧
    (∃ (s : State) (c : Fin 64) (p : Fin 128) (f : NodeRx) (pl : List Byte), (s.nodeUp c.val p.val = true) ∧ (rxOk f 1 pl = true) ∧ (f.rsp = false) ∧ (reservedOpc f.opc.toNat = false) ∧ (pl.length = 76) ∧ ((s.node c.val p.val).heard = false ∨ (s.node c.val p.val).epoch ≠ BitVec.ofNat 32 (ofLe (pl.take 4)))) ∧
    (∃ (s : State) (c : Fin 64) (p : Fin 128) (f : NodeRx) (pl : List Byte), (s.nodeUp c.val p.val = true) ∧ (rxOk f 1 pl = true) ∧ (f.rsp = false) ∧ (reservedOpc f.opc.toNat = false) ∧ ((s.node c.val p.val).heard = true) ∧ ((s.node c.val p.val).epoch = BitVec.ofNat 32 (ofLe (pl.take 4)))) ∧
    (∃ (s : State) (c : Fin 64) (p : Fin 128), (s.nodeUp c.val p.val = true) ∧ ((s.node c.val p.val).typ = 1) ∧ ((s.node c.val p.val).late = false)) ∧
    (∃ (s : State) (c : Fin 64) (p : Fin 128), (s.nodeUp c.val p.val = true) ∧ ((s.node c.val p.val).typ ≠ 1 ∨ (s.node c.val p.val).late = true)) ∧
    (∃ (s : State) (c : Fin 64) (p : Fin 128), (s.nodeUp c.val p.val = true) ∧ ((s.node c.val p.val).swept = true) ∧ ((s.node c.val p.val).typ = 1)) ∧
    (∃ (s : State) (c : Fin 64) (p : Fin 128), (s.nodeUp c.val p.val = true) ∧ ((s.node c.val p.val).swept = true) ∧ ((s.node c.val p.val).typ = 2)) ∧
    (∃ (s : State) (c : Fin 64) (p : Fin 128), (s.nodeUp c.val p.val = true) ∧ ((s.node c.val p.val).swept = false)) ∧
    (∃ (s : State) (c : Fin 64) (p : Fin 128), (s.nodeUp c.val p.val = true) ∧ ((s.node c.val p.val).swept = true)) ∧
    (∃ (s : State) (c : Fin 64) (p : Fin 128), (s.nodeUp c.val p.val = true) ∧ ((s.node c.val p.val).swept = false)) ∧
    (∃ (s : State) (c : Fin 64) (p : Fin 128) (f : NodeRx), (s.nodeUp c.val p.val = true) ∧ (rxOk f 2 [] = true) ∧ (f.rsp = false) ∧ (reservedOpc f.opc.toNat = false) ∧ ((s.node c.val p.val).mine f = true)) ∧
    (∃ (s : State) (c : Fin 64) (p : Fin 128) (f : NodeRx) (m sn : Byte) (q : BitVec 16), (s.nodeUp c.val p.val = true) ∧ (rxOk f 3 [m] = true) ∧ (f.rsp = false) ∧ (reservedOpc f.opc.toNat = false) ∧ ((s.node c.val p.val).num f.dn ≠ 0) ∧ ((s.node c.val p.val).num f.dn ≤ f.hop.toNat) ∧ (f.hop.toNat < (s.node c.val p.val).num f.dn + m.toNat) ∧ ((f.hop.toNat - (s.node c.val p.val).num f.dn ≤ sn.toNat) ∨ (sn.toNat = 0 ∧ 138 * (f.hop.toNat - (s.node c.val p.val).num f.dn) + 400 ≤ q.toNat) ∨ (sn.toNat ≠ 0 ∧ 200 ≤ q.toNat))) ∧
    (∃ (s : State) (c : Fin 64) (p : Fin 128) (f : NodeRx) (m sn : Byte) (q : BitVec 16), (s.nodeUp c.val p.val = true) ∧ (rxOk f 3 [m] = true) ∧ (f.rsp = false) ∧ (reservedOpc f.opc.toNat = false) ∧ ((s.node c.val p.val).num f.dn ≠ 0) ∧ ((s.node c.val p.val).num f.dn ≤ f.hop.toNat) ∧ (f.hop.toNat < (s.node c.val p.val).num f.dn + m.toNat) ∧ (sn.toNat < f.hop.toNat - (s.node c.val p.val).num f.dn) ∧ (sn.toNat = 0 → q.toNat < 138 * (f.hop.toNat - (s.node c.val p.val).num f.dn) + 400) ∧ (sn.toNat ≠ 0 → q.toNat < 200)) ∧
    (∃ (s : State) (c : Fin 64) (p : Fin 128) (f : NodeRx), (s.nodeUp c.val p.val = true) ∧ (rxOk f 2 [] = true) ∧ (f.rsp = false) ∧ (reservedOpc f.opc.toNat = false) ∧ ((s.node c.val p.val).mine f = false)) :=
  ⟨⟨nodeS 2 {}, 5, 2, (rxSealed { hop := 0 } 1 (List.replicate 76 0#8)), (List.replicate 76 0#8), by decide +kernel, rxOk_sealed _ _ _ rfl (by decide), by decide +kernel⟩,
   ⟨nodeS 2 {}, 5, 2, (rxSealed { hop := 0 } 1 (List.replicate 76 0#8)), (List.replicate 76 0#8), by decide +kernel, rxOk_sealed _ _ _ rfl (by decide), by decide +kernel⟩,
   ⟨nodeS 2 { heard := true }, 5, 2, (rxSealed { hop := 0 } 1 (List.replicate 76 0#8)), (List.replicate 76 0#8), by decide +kernel, rxOk_sealed _ _ _ rfl (by decide), by decide +kernel⟩,
   ⟨nodeS 1 {}, 5, 2, by decide +kernel⟩,
   ⟨nodeS 2 {}, 5, 2, by decide +kernel⟩,
   ⟨nodeS 1 { swept := true }, 5, 2, by decide +kernel⟩,
   ⟨nodeS 2 { swept := true }, 5, 2, by decide +kernel⟩,
   ⟨nodeS 2 {}, 5, 2, by decide +kernel⟩,
   ⟨nodeS 2 { swept := true }, 5, 2, by decide +kernel⟩,
   ⟨nodeS 2 {}, 5, 2, by decide +kernel⟩,
   ⟨nodeS 2 {}, 5, 2, (rxSealed { hop := 3 } 2 []), by decide +kernel⟩,
   ⟨nodeS 2 {}, 5, 2, (rxSealed { hop := 5 } 3 [3#8]), 3#8, 0, 676, by decide +kernel⟩,
   ⟨nodeS 2 {}, 5, 2, (rxSealed { hop := 5 } 3 [3#8]), 3#8, 0, 675, by decide +kernel⟩,
   ⟨nodeS 2 {}, 5, 2, (rxSealed { hop := 4 } 2 []), by decide +kernel⟩⟩

theorem wit_NodeNumbersAndIdentity :
    (∃ (s : State) (c : Fin 64) (p : Fin 128) (f : NodeRx) (pl : List Byte), (s.nodeUp c.val p.val = true) ∧ (rxOk f 4 pl = true) ∧ (f.rsp = false) ∧ (reservedOpc f.opc.toNat = false) ∧ (f.hop = 0#8)) ∧
    (∃ (s : State) (c : Fin 64) (p : Fin 128) (f : NodeRx) (k : Byte), (s.nodeUp c.val p.val = true) ∧ (rxOk f 4 [k] = true) ∧ (f.rsp = false) ∧ (reservedOpc f.opc.toNat = false) ∧ (f.hop = 0xFE#8) ∧ ((s.node c.val p.val).num f.dn = 0)) ∧
    (∃ (s : State) (c : Fin 64) (p : Fin 128) (f : NodeRx) (k : Byte), (s.nodeUp c.val p.val = true) ∧ (rxOk f 4 [k] = true) ∧ (f.rsp = false) ∧ (reservedOpc f.opc.toNat = false) ∧ (f.hop = 0xFE#8) ∧ ((s.node c.val p.val).num f.dn ≠ 0) ∧ ((s.node c.val p.val).num f.dn ≠ 0xFE)) ∧
    (∃ (s : State) (c : Fin 64) (p : Fin 128) (f : NodeRx) (pl : List Byte), (s.nodeUp c.val p.val = true) ∧ (rxOk f 5 pl = true) ∧ (f.rsp = false) ∧ (reservedOpc f.opc.toNat = false) ∧ ((s.node c.val p.val).mine f = true) ∧ (pl.length = 16)) ∧
    (∃ (s : State) (c : Fin 64) (p : Fin 128) (f : NodeRx) (pl : List Byte), (s.nodeUp c.val p.val = true) ∧ (rxOk f 5 pl = true) ∧ (f.rsp = false) ∧ (reservedOpc f.opc.toNat = false) ∧ ((s.node c.val p.val).mine f = false)) ∧
    (∃ (s : State) (c : Fin 64) (p : Fin 128) (f : NodeRx), (s.nodeUp c.val p.val = true) ∧ (rxOk f 6 [] = true) ∧ (f.rsp = false) ∧ (reservedOpc f.opc.toNat = false) ∧ ((s.node c.val p.val).mine f = true)) :=
  ⟨⟨nodeS 2 {}, 5, 2, (rxSealed { hop := 0 } 4 []), [], by decide +kernel⟩,
   ⟨freshNodeS 2 {}, 5, 2, (rxSealed { hop := 0xFE } 4 [3#8]), 3#8, by decide +kernel⟩,
   ⟨nodeS 2 {}, 5, 2, (rxSealed { hop := 0xFE } 4 [4#8]), 4#8, by decide +kernel⟩,
   ⟨nodeS 2 {}, 5, 2, (rxSealed { hop := 3 } 5 (List.replicate 16 1#8)), (List.replicate 16 1#8), by decide +kernel⟩,
   ⟨nodeS 2 {}, 5, 2, (rxSealed { hop := 4 } 5 []), [], by decide +kernel⟩,
   ⟨nodeS 2 {}, 5, 2, (rxSealed { hop := 3 } 6 []), by decide +kernel⟩⟩

theorem wit_NodeRegisters :
    (∃ (s : State) (c : Fin 64) (p : Fin 128) (f : NodeRx) (a n : Nat), (s.nodeUp c.val p.val = true) ∧ (rxOk f 0x40 (leBytes 2 a ++ leBytes 1 n) = true) ∧ (f.rsp = false) ∧ (reservedOpc f.opc.toNat = false) ∧ ((s.node c.val p.val).mine f = true) ∧ (1 ≤ n) ∧ (n ≤ 46) ∧ (a + n ≤ 256)) ∧
    (∃ (s : State) (c : Fin 64) (p : Fin 128) (f : NodeRx) (a n : Nat), (s.nodeUp c.val p.val = true) ∧ (rxOk f 0x40 (leBytes 2 a ++ leBytes 1 n) = true) ∧ (f.rsp = false) ∧ (reservedOpc f.opc.toNat = false) ∧ ((s.node c.val p.val).mine f = true) ∧ (n < 256) ∧ (a < 65536) ∧ (n = 0 ∨ 46 < n)) ∧
    (∃ (s : State) (c : Fin 64) (p : Fin 128) (f : NodeRx) (a n : Nat), (s.nodeUp c.val p.val = true) ∧ (rxOk f 0x40 (leBytes 2 a ++ leBytes 1 n) = true) ∧ (f.rsp = false) ∧ (reservedOpc f.opc.toNat = false) ∧ ((s.node c.val p.val).mine f = true) ∧ (1 ≤ n) ∧ (n ≤ 46) ∧ (a < 65536) ∧ (256 < a + n)) ∧
    (∃ (s : State) (c : Fin 64) (p : Fin 128) (f : NodeRx) (a v : Nat), (s.nodeUp c.val p.val = true) ∧ (rxOk f 0x41 (leBytes 2 a ++ leBytes 2 v) = true) ∧ (f.rsp = false) ∧ (reservedOpc f.opc.toNat = false) ∧ ((s.node c.val p.val).mine f = true) ∧ (a < 65536) ∧ (v < 65536) ∧ ((s.node c.val p.val).writeStatus a v = 0)) ∧
    (∃ (s : State) (c : Fin 64) (p : Fin 128) (f : NodeRx) (a v : Nat), (s.nodeUp c.val p.val = true) ∧ (rxOk f 0x41 (leBytes 2 a ++ leBytes 2 v) = true) ∧ (f.rsp = false) ∧ (reservedOpc f.opc.toNat = false) ∧ ((s.node c.val p.val).mine f = true) ∧ (a < 65536) ∧ (v < 65536) ∧ ((s.node c.val p.val).writeStatus a v ≠ 0)) ∧
    (∃ (s : State) (c : Fin 64) (p : Fin 128) (f : NodeRx) (pl : List Byte), (s.nodeUp c.val p.val = true) ∧ (rxOk f 0x41 pl = true) ∧ (f.rsp = false) ∧ (reservedOpc f.opc.toNat = false) ∧ ((s.node c.val p.val).mine f = true) ∧ (pl.length < 4 ∨ pl.length % 2 = 1 ∨ 94 < pl.length)) ∧
    (∃ (s : State) (c : Fin 64) (p : Fin 128) (f : NodeRx) (pl : List Byte), (s.nodeUp c.val p.val = true) ∧ (rxOk f 0x42 pl = true) ∧ (f.rsp = false) ∧ (reservedOpc f.opc.toNat = false) ∧ ((s.node c.val p.val).mine f = true) ∧ ((s.node c.val p.val).typ = 1) ∧ (pl.length = 24) ∧ (∀ d ∈ pl, d.toNat ≤ 200) ∧ ((s.node c.val p.val).frozen = false)) ∧
    (∃ (s : State) (c : Fin 64) (p : Fin 128) (f : NodeRx) (pl : List Byte), (s.nodeUp c.val p.val = true) ∧ (rxOk f 0x42 pl = true) ∧ (f.rsp = false) ∧ (reservedOpc f.opc.toNat = false) ∧ ((s.node c.val p.val).mine f = true) ∧ ((s.node c.val p.val).typ = 1) ∧ (pl.length = 24) ∧ (∀ d ∈ pl, d.toNat ≤ 200) ∧ ((s.node c.val p.val).frozen = true)) ∧
    (∃ (s : State) (c : Fin 64) (p : Fin 128) (f : NodeRx) (pl : List Byte), (s.nodeUp c.val p.val = true) ∧ (rxOk f 0x42 pl = true) ∧ (f.rsp = false) ∧ (reservedOpc f.opc.toNat = false) ∧ ((s.node c.val p.val).mine f = true) ∧ ((s.node c.val p.val).typ = 1) ∧ (pl.length = 24) ∧ (∃ d ∈ pl, 200 < d.toNat)) ∧
    (∃ (s : State) (c : Fin 64) (p : Fin 128) (f : NodeRx) (pl : List Byte), (s.nodeUp c.val p.val = true) ∧ (rxOk f 0x42 pl = true) ∧ (f.rsp = false) ∧ (reservedOpc f.opc.toNat = false) ∧ ((s.node c.val p.val).mine f = true) ∧ ((s.node c.val p.val).typ = 2)) ∧
    (∃ (s : State) (c : Fin 64) (p : Fin 128) (f : NodeRx) (r : Byte), (s.nodeUp c.val p.val = true) ∧ (rxOk f 0x43 [r, ~~~r] = true) ∧ (f.rsp = false) ∧ (reservedOpc f.opc.toNat = false) ∧ ((s.node c.val p.val).mine f = true) ∧ ((s.node c.val p.val).typ = 2) ∧ (r.toNat ≤ 7) ∧ (r.setWidth 3 &&& ~~~(s.node c.val p.val).drive = 0#3 ∨ ((s.node c.val p.val).hold = true ∧ (s.node c.val p.val).noConfig = false))) ∧
    (∃ (s : State) (c : Fin 64) (p : Fin 128) (f : NodeRx) (r : Byte), (s.nodeUp c.val p.val = true) ∧ (rxOk f 0x43 [r, ~~~r] = true) ∧ (f.rsp = false) ∧ (reservedOpc f.opc.toNat = false) ∧ ((s.node c.val p.val).mine f = true) ∧ ((s.node c.val p.val).typ = 2) ∧ (r.toNat ≤ 7) ∧ (r.setWidth 3 &&& ~~~(s.node c.val p.val).drive ≠ 0#3) ∧ ((s.node c.val p.val).hold = false ∨ (s.node c.val p.val).noConfig = true)) ∧
    (∃ (s : State) (c : Fin 64) (p : Fin 128) (f : NodeRx) (r q : Byte), (s.nodeUp c.val p.val = true) ∧ (rxOk f 0x43 [r, q] = true) ∧ (f.rsp = false) ∧ (reservedOpc f.opc.toNat = false) ∧ ((s.node c.val p.val).mine f = true) ∧ ((s.node c.val p.val).typ = 2) ∧ (7 < r.toNat ∨ q ≠ ~~~r)) :=
  ⟨⟨nodeS 2 {}, 5, 2, (rxSealed { hop := 3 } 0x40 (leBytes 2 210 ++ leBytes 1 46)), 210, 46, by decide +kernel⟩,
   ⟨nodeS 2 {}, 5, 2, (rxSealed { hop := 3 } 0x40 (leBytes 2 0 ++ leBytes 1 47)), 0, 47, by decide +kernel⟩,
   ⟨nodeS 2 {}, 5, 2, (rxSealed { hop := 3 } 0x40 (leBytes 2 211 ++ leBytes 1 46)), 211, 46, by decide +kernel⟩,
   ⟨nodeS 2 {}, 5, 2, (rxSealed { hop := 3 } 0x41 (leBytes 2 0x8A ++ leBytes 2 511)), 0x8A, 511, by decide +kernel⟩,
   ⟨nodeS 2 {}, 5, 2, (rxSealed { hop := 3 } 0x41 (leBytes 2 0x8A ++ leBytes 2 512)), 0x8A, 512, by decide +kernel⟩,
   ⟨nodeS 2 {}, 5, 2, (rxSealed { hop := 3 } 0x41 [1#8, 2#8, 3#8]), [1#8, 2#8, 3#8], by decide +kernel⟩,
   ⟨nodeS 1 {}, 5, 2, (rxSealed { hop := 3 } 0x42 (List.replicate 24 200#8)), (List.replicate 24 200#8), by decide +kernel⟩,
   ⟨nodeS 1 { frozen := true }, 5, 2, (rxSealed { hop := 3 } 0x42 (List.replicate 24 200#8)), (List.replicate 24 200#8), by decide +kernel⟩,
   ⟨nodeS 1 {}, 5, 2, (rxSealed { hop := 3 } 0x42 (List.replicate 24 201#8)), (List.replicate 24 201#8), by decide +kernel⟩,
   ⟨nodeS 2 {}, 5, 2, (rxSealed { hop := 3 } 0x42 []), [], by decide +kernel⟩,
   ⟨nodeS 2 { hold := true, written := [0x80, 0x8A, 0x8B, 0x8C] }, 5, 2, (rxSealed { hop := 3 } 0x43 [7#8, 0xF8#8]), 7#8, by decide +kernel⟩,
   ⟨nodeS 2 {}, 5, 2, (rxSealed { hop := 3 } 0x43 [1#8, 0xFE#8]), 1#8, by decide +kernel⟩,
   ⟨nodeS 2 {}, 5, 2, (rxSealed { hop := 3 } 0x43 [8#8, 0xF7#8]), 8#8, 0xF7#8, by decide +kernel⟩⟩

theorem wit_NodeTestsAndSleep :
    (∃ (s : State) (c : Fin 64) (p : Fin 128) (f : NodeRx) (k : Byte), (s.nodeUp c.val p.val = true) ∧ (rxOk f 0x44 [k] = true) ∧ (f.rsp = false) ∧ (reservedOpc f.opc.toNat = false) ∧ ((s.node c.val p.val).mine f = true) ∧ ((s.node c.val p.val).testing = none) ∧ (nodeTest (s.node c.val p.val).typ k.toNat = true) ∧ (k ≠ 6#8 ∨ (s.node c.val p.val).drive = 0#3)) ∧
    (∃ (s : State) (c : Fin 64) (p : Fin 128) (f : NodeRx) (k : Byte), (s.nodeUp c.val p.val = true) ∧ (rxOk f 0x44 [k] = true) ∧ (f.rsp = false) ∧ (reservedOpc f.opc.toNat = false) ∧ ((s.node c.val p.val).mine f = true) ∧ ((s.node c.val p.val).testing ≠ none)) ∧
    (∃ (s : State) (c : Fin 64) (p : Fin 128) (f : NodeRx) (k : Byte), (s.nodeUp c.val p.val = true) ∧ (rxOk f 0x44 [k] = true) ∧ (f.rsp = false) ∧ (reservedOpc f.opc.toNat = false) ∧ ((s.node c.val p.val).mine f = true) ∧ ((s.node c.val p.val).testing = none) ∧ (nodeTest (s.node c.val p.val).typ k.toNat = false)) ∧
    (∃ (s : State) (c : Fin 64) (p : Fin 128) (k : Nat), (s.nodeUp c.val p.val = true) ∧ ((s.node c.val p.val).testing = some k)) ∧
    (∃ (s : State) (v : List (BitVec 16)), (v ≠ [])) ∧
    (∃ (s : State) (c : Fin 64) (p : Fin 128), (s.nodeUp c.val p.val = true) ∧ ((s.node c.val p.val).testing = none)) ∧
    (∃ (s : State) (c : Fin 64) (p : Fin 128) (f : NodeRx), (s.nodeUp c.val p.val = true) ∧ (rxOk f 0x45 [0xA5#8] = true) ∧ (f.rsp = false) ∧ (reservedOpc f.opc.toNat = false) ∧ (f.hop = 0#8)) ∧
    (∃ (s : State) (c : Fin 64) (p : Fin 128) (f : NodeRx) (pl : List Byte), (s.nodeUp c.val p.val = true) ∧ (rxOk f 0x45 pl = true) ∧ (f.rsp = false) ∧ (reservedOpc f.opc.toNat = false) ∧ ((s.node c.val p.val).mine f = true) ∧ (pl.length ≠ 1)) ∧
    (∃ (s : State) (c : Fin 64) (p : Fin 128) (f : NodeRx) (k : Byte), (s.nodeUp c.val p.val = true) ∧ (rxOk f 0x45 [k] = true) ∧ (f.rsp = false) ∧ (reservedOpc f.opc.toNat = false) ∧ ((s.node c.val p.val).mine f = true)) ∧
    (∃ (s : State) (c : Fin 64) (p : Fin 128) (f : NodeRx), (s.nodeUp c.val p.val = true) ∧ (rxOk f 0x46 [] = true) ∧ (f.rsp = false) ∧ (reservedOpc f.opc.toNat = false) ∧ (f.hop = 0#8)) ∧
    (∃ (s : State) (c : Fin 64) (p : Fin 128) (f : NodeRx), (s.nodeUp c.val p.val = true) ∧ (rxOk f 0x46 [] = true) ∧ (f.rsp = false) ∧ (reservedOpc f.opc.toNat = false) ∧ ((s.node c.val p.val).mine f = true)) ∧
    (∃ (s : State) (c : Fin 64) (p : Fin 128) (f : NodeRx) (pl : List Byte), (s.nodeUp c.val p.val = true) ∧ (rxOk f 0x46 pl = true) ∧ (f.rsp = false) ∧ (reservedOpc f.opc.toNat = false) ∧ ((s.node c.val p.val).mine f = true) ∧ (pl ≠ [])) ∧
    (∃ (s : State) (c : Fin 64) (p : Fin 128), ((s.node c.val p.val).typ ≠ 0)) ∧
    (∃ (s : State) (c : Fin 64) (p : Fin 128), (s.nodeUp c.val p.val = true)) ∧
    (∃ (s : State) (c : Fin 64) (p : Fin 128), ((s.node c.val p.val).typ ≠ 0)) :=
  ⟨⟨nodeS 2 {}, 5, 2, (rxSealed { hop := 3 } 0x44 [6#8]), 6#8, by decide +kernel⟩,
   ⟨nodeS 2 { testing := some 3 }, 5, 2, (rxSealed { hop := 3 } 0x44 [6#8]), 6#8, by decide +kernel⟩,
   ⟨nodeS 2 {}, 5, 2, (rxSealed { hop := 3 } 0x44 [1#8]), 1#8, by decide +kernel⟩,
   ⟨nodeS 2 { testing := some 6 }, 5, 2, 6, by decide +kernel⟩,
   ⟨onS [], [500#16], by decide +kernel⟩,
   ⟨nodeS 2 {}, 5, 2, by decide +kernel⟩,
   ⟨nodeS 2 {}, 5, 2, (rxSealed { hop := 0 } 0x45 [0xA5#8]), by decide +kernel⟩,
   ⟨nodeS 2 {}, 5, 2, (rxSealed { hop := 3 } 0x45 []), [], by decide +kernel⟩,
   ⟨nodeS 2 {}, 5, 2, (rxSealed { hop := 3 } 0x45 [0xA5#8]), 0xA5#8, by decide +kernel⟩,
   ⟨nodeS 2 {}, 5, 2, (rxSealed { hop := 0 } 0x46 []), by decide +kernel⟩,
   ⟨nodeS 2 {}, 5, 2, (rxSealed { hop := 3 } 0x46 []), by decide +kernel⟩,
   ⟨nodeS 2 {}, 5, 2, (rxSealed { hop := 3 } 0x46 [0#8]), [0#8], by decide +kernel⟩,
   ⟨nodeS 1 { asleep := true }, 5, 2, by decide +kernel⟩,
   ⟨nodeS 2 {}, 5, 2, by decide +kernel⟩,
   ⟨nodeS 2 {}, 5, 2, by decide +kernel⟩⟩

theorem wit_NodesByThemselves :
    (∃ (s : State) (c : Fin 64) (p : Fin 128), (s.nodeUp c.val p.val = true) ∧ ((s.node c.val p.val).typ = 1)) ∧
    (∃ (s : State) (c : Fin 64) (p : Fin 128), (s.nodeUp c.val p.val = true) ∧ ((s.node c.val p.val).typ = 2)) ∧
    (∃ (s : State) (c : Fin 64) (p : Fin 128), (s.nodeUp c.val p.val = true) ∧ ((s.node c.val p.val).typ = 2)) ∧
    (∃ (s : State) (c : Fin 64) (p : Fin 128), (s.nodeUp c.val p.val = true) ∧ ((s.node c.val p.val).ring = true) ∧ ((s.node c.val p.val).dnOff = false)) ∧
    (∃ (s : State) (c : Fin 64) (p : Fin 128), ((s.node c.val p.val).ring = false ∨ (s.node c.val p.val).dnOff = true)) ∧
    (∃ (s : State) (c : Fin 64) (p : Fin 128), ((s.node c.val p.val).typ = 1) ∧ ((s.node c.val p.val).powered = true)) ∧
    (∃ (s : State) (c : Fin 64) (p : Fin 128) (v : List (BitVec 16)) (k : Nat), ((s.node c.val p.val).typ = 1) ∧ ((s.node c.val p.val).powered = true) ∧ ((s.node c.val p.val).asleep = true) ∧ ((s.node c.val p.val).sleepViolation v = some k)) ∧
    (∃ (s : State) (c : Fin 64) (p : Fin 128) (v : List (BitVec 16)), ((s.node c.val p.val).sleepViolation v = none)) ∧
    (∃ (s : State) (c : Fin 64) (p : Fin 128), (s.nodeUp c.val p.val = true) ∧ ((s.node c.val p.val).typ = 1) ∧ ((s.node c.val p.val).stopped = false)) :=
  ⟨⟨nodeS 1 {}, 5, 2, by decide +kernel⟩,
   ⟨nodeS 2 {}, 5, 2, by decide +kernel⟩,
   ⟨nodeS 2 {}, 5, 2, by decide +kernel⟩,
   ⟨nodeS 1 { ring := true }, 5, 2, by decide +kernel⟩,
   ⟨nodeS 2 {}, 5, 2, by decide +kernel⟩,
   ⟨nodeS 1 { asleep := true }, 5, 2, by decide +kernel⟩,
   ⟨nodeS 1 { asleep := true, words := [(0x85, 4200#16)] }, 5, 2, [4201#16], 256, by decide +kernel⟩,
   ⟨nodeS 1 { asleep := true }, 5, 2, (List.replicate 32 3000#16), by decide +kernel⟩,
   ⟨nodeS 1 {}, 5, 2, by decide +kernel⟩⟩

theorem wit_LinkTags :
    (∃ (s : State) (c : Fin 64) (k : Fin 8) (w : WaitCmd), (s.pwr.mainOn = true) ∧ (nth .free (s.chain c.val).tags k.val = .busy w) ∧ (w.kind ≠ 0) ∧ (w.kind ≠ 2) ∧ (w.kind ≠ 6) ∧ (s.linkState c.val ≠ 2 ∨ (s.chain c.val).tmoHop = none ∨ (s.chain c.val).tmoHop = some w.hop)) ∧
    (∃ (s : State) (c : Fin 64) (k : Fin 8) (n : TmoFinding) (w : WaitCmd), (s.pwr.mainOn = true) ∧ ((s.chain c.val).tags.length = 8) ∧ (nth .free (s.chain c.val).tags k.val = .busy w) ∧ (w.kind = 0) ∧ (w.opcode = 2) ∧ ((s.chain c.val).due.contains w.hop = true) ∧ (n.room = false) ∧ (s.linkState c.val ≠ 2 ∨ (s.chain c.val).tmoHop = none ∨ (s.chain c.val).tmoHop = some w.hop)) ∧
    (∃ (s : State) (c : Fin 64) (k : Fin 8) (w : WaitCmd) (j : Nat), (s.pwr.mainOn = true) ∧ (nth .free (s.chain c.val).tags k.val = .busy w) ∧ (w.kind ≠ 0) ∧ (s.linkState c.val = 2) ∧ ((s.chain c.val).tmoHop = some j) ∧ (j ≠ w.hop)) ∧
    (∃ (s : State) (c : Fin 64) (k : Fin 8), (s.pwr.mainOn = true) ∧ ((nth .free (s.chain c.val).tags k.val).isBusy = false)) ∧
    (∃ (s : State) (c : Fin 64) (k : Fin 8) (w : WaitCmd), (s.pwr.mainOn = true) ∧ ((s.chain c.val).tags.length = 8) ∧ (nth .free (s.chain c.val).tags k.val = .quarantine w)) ∧
    (∃ (s : State) (c : Fin 64) (k : Fin 8), (s.pwr.mainOn = true) ∧ ((nth .free (s.chain c.val).tags k.val).isQuarantine = false)) :=
  ⟨⟨chainS 63 { tags := [.busy { kind := 1 }, .free, .free, .free, .free, .free, .free, .free] }, 63, 0, { kind := 1 }, by decide +kernel⟩,
   ⟨chainS 63 { due := [1], tags := [.busy { opcode := 2, hop := 1 }, .free, .free, .free, .free, .free, .free, .free] }, 63, 0, {}, { opcode := 2, hop := 1 }, by decide +kernel⟩,
   ⟨(onS [(R.LNK_STAT_STATE 63, 2)]).setChain 63 { tmoHop := some 5, tags := [.busy { kind := 1 }, .free, .free, .free, .free, .free, .free, .free] }, 63, 0, { kind := 1 }, 5, by decide +kernel⟩,
   ⟨onS [], 63, 0, by decide +kernel⟩,
   ⟨chainS 63 { tags := [.quarantine { kind := 1 }, .free, .free, .free, .free, .free, .free, .free] }, 63, 0, { kind := 1 }, by decide +kernel⟩,
   ⟨onS [], 63, 0, by decide +kernel⟩⟩

theorem wit_LinkMuting :
    (∃ (s : State) (c : Fin 64) (h : Fin 128), (s.pwr.mainOn = true) ∧ (8 ≤ Sparse.get zeroNat (s.chain c.val).silent h.val) ∧ (s.hopBit R.LNK_MUTE c.val h.val = false)) ∧
    (∃ (s : State) (c : Fin 64) (h : Fin 128), (s.pwr.mainOn = true) ∧ (Sparse.get zeroNat (s.chain c.val).silent h.val < 8 ∨ s.hopBit R.LNK_MUTE c.val h.val = true)) ∧
    (∃ (s : State) (c : Fin 64) (h : Fin 128) (k : Nat), (s.pwr.mainOn = true) ∧ (s.active c.val = true) ∧ (s.hopBit R.LNK_MUTE c.val h.val = true) ∧ (s.swp.open_ = true) ∧ (s.chainDone c.val = true) ∧ ((s.chain c.val).freeTag = some k)) ∧
    (∃ (s : State) (c : Fin 64) (h : Fin 128) (k : Nat), (s.pwr.mainOn = true) ∧ (s.active c.val = true) ∧ (s.hopBit R.LNK_MUTE c.val h.val = true) ∧ (s.swp.open_ = true) ∧ (s.chainDone c.val = true) ∧ ((s.chain c.val).freeTag = some k) ∧ (s.linkState c.val ≠ 2 ∨ (s.chain c.val).tmoHop = none ∨ (s.chain c.val).tmoHop = some h.val)) ∧
    (∃ (s : State) (c : Fin 64) (h : Fin 128), (s.pwr.mainOn = true) ∧ (s.hopBit R.LNK_MUTE c.val h.val = false ∨ s.active c.val = false ∨ s.swp.open_ = false ∨ s.chainDone c.val = false ∨ (s.chain c.val).freeTag = none)) ∧
    (∃ (s : State), (s.pwr.mainOn = true) ∧ (1 ≤ s.stage) ∧ (s.host.perstHigh = true)) :=
  ⟨⟨chainS 63 { silent := [(127, 8)] }, 63, 127, by decide +kernel⟩,
   ⟨chainS 63 { silent := [(127, 7)] }, 63, 127, by decide +kernel⟩,
   ⟨muteS, 63, 127, 0, by decide +kernel⟩,
   ⟨muteS, 63, 127, 0, by decide +kernel⟩,
   ⟨onS [], 63, 127, by decide +kernel⟩,
   ⟨onS [(R.GLOBAL_STAGE_STAGE, 1)], by decide +kernel⟩⟩

theorem wit_Enumeration :
    (∃ (s : State) (c : Fin 64), (s.pwr.mainOn = true) ∧ (s.img.loaded = true) ∧ (s.tab.chainOn c.val = true) ∧ (s.held1 = false) ∧ (1 ≤ s.stage) ∧ (s.linkState c.val ≤ 1)) ∧
    (∃ (s : State) (c : Fin 64), (s.pwr.mainOn = true) ∧ (s.tab.chainOn c.val = false ∨ 2 ≤ s.linkState c.val ∨ s.held1 = true ∨ s.stage = 0 ∨ s.img.loaded = false)) ∧
    (∃ (s : State) (c : Fin 64), (s.pwr.mainOn = true) ∧ (s.linkState c.val = 1)) ∧
    (∃ (s : State) (c : Fin 64), (s.pwr.mainOn = true) ∧ (s.linkState c.val ≠ 1)) ∧
    (∃ (s : State) (c : Fin 64), (s.pwr.mainOn = true) ∧ (1 ≤ s.stage) ∧ (s.host.perstHigh = true) ∧ (s.linkState c.val ≠ 0) ∧ (s.chainProven c.val = true)) ∧
    (∃ (s : State) (c : Fin 64), (s.pwr.mainOn = true) ∧ (1 ≤ s.stage) ∧ (s.host.perstHigh = true) ∧ (s.linkState c.val ≠ 0) ∧ (s.chainProven c.val = false)) ∧
    (∃ (s : State) (c : Fin 64), (s.pwr.mainOn = true) ∧ (1 ≤ s.stage) ∧ (s.host.perstHigh = true) ∧ (s.linkState c.val = 0)) :=
  ⟨⟨mapS [(0, 1#8), (1, 3#8)] [(R.GLOBAL_STAGE_STAGE, 1)], 0, by decide +kernel⟩,
   ⟨onS [], 0, by decide +kernel⟩,
   ⟨onS [(R.LNK_STAT_STATE 63, 1)], 63, by decide +kernel⟩,
   ⟨onS [], 63, by decide +kernel⟩,
   ⟨provenS [(R.GLOBAL_STAGE_STAGE, 2), (R.LNK_STAT_STATE 63, 3)], 63, by decide +kernel⟩,
   ⟨onS [(R.GLOBAL_STAGE_STAGE, 2), (R.LNK_STAT_STATE 63, 3)], 63, by decide +kernel⟩,
   ⟨onS [(R.GLOBAL_STAGE_STAGE, 2)], 63, by decide +kernel⟩⟩

theorem wit_BreaksAndRings :
    (∃ (s : State) (c : Fin 64), (s.pwr.mainOn = true) ∧ (s.linkState c.val = 2)) ∧
    (∃ (s : State) (c : Fin 64), (s.pwr.mainOn = true) ∧ (s.linkState c.val ≠ 2)) ∧
    (∃ (s : State) (c : Fin 64), (s.pwr.mainOn = true) ∧ (s.linkState c.val = 7) ∧ ((s.chain c.val).due ≠ [])) ∧
    (∃ (s : State) (c : Fin 64), (s.pwr.mainOn = true) ∧ (s.linkState c.val ≠ 7 ∨ (s.chain c.val).due = [])) ∧
    (∃ (s : State) (c : Fin 64) (r : Bool) (l : Option (List (BitVec 10))) (x : Word) (k : Nat), (s.pwr.mainOn = true) ∧ (s.linkState c.val = 5) ∧ (s.get (R.LNK_STAT_K_OUT c.val) + s.get (R.LNK_STAT_K_RET c.val) < s.tab.nodes c.val) ∧ (r = true → s.tab.chainRing c.val = true) ∧ (s.swp.open_ = false ∨ s.chainDone c.val = true) ∧ ((s.chain c.val).freeTag = some k) ∧ (identOf k l x.toNat = none)) ∧
    (∃ (s : State) (c : Fin 64) (l : Option (List (BitVec 10))) (x : Word) (k : Nat) (i : Ident), (s.pwr.mainOn = true) ∧ (s.linkState c.val = 5) ∧ (s.get (R.LNK_STAT_K_OUT c.val) + s.get (R.LNK_STAT_K_RET c.val) < s.tab.nodes c.val) ∧ (s.tab.nodes c.val ≤ 128) ∧ (s.swp.open_ = false ∨ s.chainDone c.val = true) ∧ ((s.chain c.val).freeTag = some k) ∧ (identOf k l x.toNat = some i) ∧ (i.typ = s.tab.nodeType c.val (s.get (R.LNK_STAT_K_OUT c.val))) ∧ (s.tab.chainIdCheck c.val = false ∨ i.uid.toNat = s.tab.nodeUid c.val (s.get (R.LNK_STAT_K_OUT c.val)))) ∧
    (∃ (s : State) (c : Fin 64) (r : Bool) (l : Option (List (BitVec 10))) (x : Word) (k : Nat) (i : Ident), (s.pwr.mainOn = true) ∧ (s.linkState c.val = 5) ∧ (s.get (R.LNK_STAT_K_OUT c.val) + s.get (R.LNK_STAT_K_RET c.val) < s.tab.nodes c.val) ∧ (r = true → s.tab.chainRing c.val = true) ∧ (s.swp.open_ = false ∨ s.chainDone c.val = true) ∧ ((s.chain c.val).freeTag = some k) ∧ (identOf k l x.toNat = some i) ∧ (i.typ ≠ s.tab.nodeType c.val (if r then s.tab.nodes c.val - 1 - s.get (R.LNK_STAT_K_RET c.val) else s.get (R.LNK_STAT_K_OUT c.val)))) ∧
    (∃ (s : State) (c : Fin 64) (r : Bool), (s.pwr.mainOn = true) ∧ (s.linkState c.val ≠ 5 ∨ s.tab.nodes c.val ≤ s.get (R.LNK_STAT_K_OUT c.val) + s.get (R.LNK_STAT_K_RET c.val) ∨ (r = true ∧ s.tab.chainRing c.val = false) ∨ s.maintOk c.val = false)) ∧
    (∃ (s : State) (c : Fin 64), (s.pwr.mainOn = true) ∧ (s.linkState c.val = 4 ∨ s.linkState c.val = 5) ∧ (s.tab.chainRing c.val = true) ∧ (s.swp.open_ = false ∨ s.chainDone c.val = true)) ∧
    (∃ (s : State) (c : Fin 64), (s.pwr.mainOn = true) ∧ (s.tab.chainRing c.val = false ∨ (s.linkState c.val ≠ 4 ∧ s.linkState c.val ≠ 5) ∨ s.maintOk c.val = false)) :=
  ⟨⟨onS [(R.LNK_STAT_STATE 63, 2)], 63, by decide +kernel⟩,
   ⟨onS [], 63, by decide +kernel⟩,
   ⟨(onS [(R.LNK_STAT_STATE 63, 7)]).setChain 63 { due := [0] }, 63, by decide +kernel⟩,
   ⟨onS [], 63, by decide +kernel⟩,
   ⟨mapS [(0, 3#8), (1, 2#8)] [(R.LNK_STAT_STATE 0, 5)], 0, false, none, 0#32, 0, by decide +kernel⟩,
   ⟨mapS [(0, 3#8), (1, 2#8), (32, 1#8)] [(R.LNK_STAT_STATE 0, 5), (R.LNK_STAT_K_OUT 0, 1)], 0, (some (lineCode false (lineFrame false (frame 4 0xFE 0 true false true ([1#8, 0#8, 0#8, 0#8] ++ List.replicate 16 0#8))))), 0#32, 0, { typ := 1 }, by decide +kernel⟩,
   ⟨mapS [(0, 3#8), (1, 2#8), (32, 1#8)] [(R.LNK_STAT_STATE 0, 5), (R.LNK_STAT_K_OUT 0, 1)], 0, false, (some (lineCode false (lineFrame false (frame 4 0xFE 0 true false true ([2#8, 0#8, 0#8, 0#8] ++ List.replicate 16 0#8))))), 0#32, 0, { typ := 2 }, by decide +kernel⟩,
   ⟨onS [], 0, true, by decide +kernel⟩,
   ⟨mapS [(0, 3#8)] [(R.LNK_STAT_STATE 0, 4)], 0, by decide +kernel⟩,
   ⟨onS [], 0, by decide +kernel⟩⟩

theorem wit_SweepsAndCloses :
    (∃ (s : State), (s.pwr.mainOn = true) ∧ (s.img.loaded = true) ∧ (s.stage ≠ 0) ∧ (s.held1 = false) ∧ (s.swp.open_ = false)) ∧
    (∃ (s : State), (s.pwr.mainOn = true) ∧ (s.img.loaded = false ∨ s.stage = 0 ∨ s.held1 = true ∨ s.swp.open_ = true)) ∧
    (∃ (s : State) (a b : Bool), (s.pwr.mainOn = true) ∧ (s.img.loaded = true) ∧ (a = true ∨ b = true)) ∧
    (∃ (s : State) (a b : Bool), (s.pwr.mainOn = true) ∧ (s.img.loaded = false ∨ (a = false ∧ b = false))) ∧
    (∃ (s : State), (s.pwr.mainOn = true) ∧ (s.swp.open_ = true) ∧ (s.unfinished = [])) ∧
    (∃ (s : State), (s.pwr.mainOn = true) ∧ (s.swp.open_ = false ∨ s.unfinished ≠ [])) ∧
    (∃ (s : State), (s.pwr.mainOn = true) ∧ (s.swp.any = true) ∧ (s.swp.open_ = true)) ∧
    (∃ (s : State), (s.pwr.mainOn = true) ∧ (s.swp.any = true) ∧ (s.swp.open_ = false)) ∧
    (∃ (s : State), (s.pwr.mainOn = true) ∧ (s.swp.any = false)) :=
  ⟨⟨loadedS [(R.GLOBAL_STAGE_STAGE, 1), (R.LNK_STAT_STATE 63, 3)], by decide +kernel⟩,
   ⟨onS [], by decide +kernel⟩,
   ⟨loadedS [], true, true, by decide +kernel⟩,
   ⟨onS [], true, false, by decide +kernel⟩,
   ⟨openSweepS [], by decide +kernel⟩,
   ⟨(openSweepS [(R.LNK_STAT_STATE 0, 3)]).setChain 0 { due := [0] }, by decide +kernel⟩,
   ⟨openSweepS [], by decide +kernel⟩,
   ⟨anyS, by decide +kernel⟩,
   ⟨onS [], by decide +kernel⟩⟩

set_option maxRecDepth 100000 in
theorem wit_NodeResponses :
    (∃ (s : State), (s.pwr.mainOn = true)) ∧
    (∃ (s : State) (c : Fin 64), (s.pwr.mainOn = true) ∧ (s.active c.val = false)) ∧
    (∃ (s : State) (c : Fin 64), (s.pwr.mainOn = true) ∧ (s.active c.val = true) ∧ (s.swp.open_ = false)) ∧
    (∃ (s : State) (c : Fin 64) (i l : List (BitVec 10)), (s.pwr.mainOn = true) ∧ (s.active c.val = true) ∧ (s.swp.open_ = true) ∧ (rxFrame (i ++ l) = none)) ∧
    (∃ (s : State) (c : Fin 64) (i l : List (BitVec 10)) (f : RxFrame), (s.pwr.mainOn = true) ∧ (s.active c.val = true) ∧ (s.swp.open_ = true) ∧ (rxFrame (i ++ l) = some f) ∧ ((s.chain c.val).matching (s.tab.nodes c.val) f = none)) ∧
    (∃ (s : State) (c : Fin 64) (i l : List (BitVec 10)) (f : RxFrame) (w : WaitCmd), (s.pwr.mainOn = true) ∧ (s.active c.val = true) ∧ (s.swp.open_ = true) ∧ (rxFrame (i ++ l) = some f) ∧ ((s.chain c.val).matching (s.tab.nodes c.val) f = some (w, false)) ∧ (w.kind = 0) ∧ (w.opcode = 2) ∧ (w.hop < s.tab.nodes c.val) ∧ ((s.chain c.val).due.contains w.hop = true) ∧ ((s.chain c.val).answered.contains w.hop = false)) ∧
    (∃ (s : State) (c : Fin 64) (i l : List (BitVec 10)) (f : RxFrame) (w : WaitCmd), (s.pwr.mainOn = true) ∧ (s.active c.val = true) ∧ (s.swp.open_ = true) ∧ (rxFrame (i ++ l) = some f) ∧ ((s.chain c.val).matching (s.tab.nodes c.val) f = some (w, false)) ∧ (w.kind = 0) ∧ (w.opcode = 2) ∧ (w.hop < s.tab.nodes c.val) ∧ ((s.chain c.val).due.contains w.hop = true) ∧ ((s.chain c.val).answered.contains w.hop = true)) ∧
    (∃ (s : State) (c : Fin 64) (i l : List (BitVec 10)) (f : RxFrame) (w : WaitCmd), (s.pwr.mainOn = true) ∧ (s.active c.val = true) ∧ (s.swp.open_ = true) ∧ (rxFrame (i ++ l) = some f) ∧ ((s.chain c.val).matching (s.tab.nodes c.val) f = some (w, false)) ∧ (w.kind = 0) ∧ (w.opcode = 2) ∧ (w.hop < s.tab.nodes c.val) ∧ ((s.chain c.val).due.contains w.hop = false)) ∧
    (∃ (s : State) (c : Fin 64), (s.pwr.mainOn = true) ∧ (s.active c.val = false)) ∧
    (∃ (s : State) (c : Fin 64) (i l : List (BitVec 10)), (s.pwr.mainOn = true) ∧ (s.active c.val = true) ∧ (rxFrame (i ++ l) = none)) ∧
    (∃ (s : State) (c : Fin 64) (i l : List (BitVec 10)) (f : RxFrame), (s.pwr.mainOn = true) ∧ (s.active c.val = true) ∧ (rxFrame (i ++ l) = some f) ∧ (((s.chain c.val).matching (s.tab.nodes c.val) f).map (fun p => p.1.kind) = none ∨ ((s.chain c.val).matching (s.tab.nodes c.val) f).map (fun p => p.1.kind) = some 0)) ∧
    (∃ (s : State) (c : Fin 64) (i l : List (BitVec 10)) (f : RxFrame) (w : WaitCmd), (s.pwr.mainOn = true) ∧ (s.active c.val = true) ∧ (rxFrame (i ++ l) = some f) ∧ ((s.chain c.val).matching (s.tab.nodes c.val) f = some (w, false)) ∧ (w.kind = 1) ∧ (nth 0#8 f.payload 0 = 0#8)) ∧
    (∃ (s : State) (c : Fin 64) (i l : List (BitVec 10)) (f : RxFrame) (w : WaitCmd), (s.pwr.mainOn = true) ∧ (s.active c.val = true) ∧ (rxFrame (i ++ l) = some f) ∧ ((s.chain c.val).matching (s.tab.nodes c.val) f = some (w, false)) ∧ (w.kind = 1) ∧ (nth 0#8 f.payload 0 ≠ 0#8)) :=
  ⟨⟨onS [], by decide +kernel⟩,
   ⟨onS [], 0, by decide +kernel⟩,
   ⟨onS [(R.LNK_STAT_STATE 0, 3)], 0, by decide +kernel⟩,
   ⟨openSweepS [(R.LNK_STAT_STATE 0, 3)], 0, [], [], by decide +kernel⟩,
   ⟨openSweepS [(R.LNK_STAT_STATE 0, 3)], 0, [], (lineCode false (lineFrame false (frame 0x02 1 0 true false false (List.replicate 72 0#8)))), { opc := 2, hop := 1, tag := 0, rsp := true, payload := List.replicate 72 0#8 }, by decide +kernel⟩,
   ⟨collectingS { due := [0] }, 0, [], (lineCode false (lineFrame false (frame 0x02 1 0 true false false (List.replicate 72 0#8)))), { opc := 2, hop := 1, tag := 0, rsp := true, payload := List.replicate 72 0#8 }, { opcode := 2, hop := 0 }, by decide +kernel⟩,
   ⟨collectingS { due := [0], answered := [0] }, 0, [], (lineCode false (lineFrame false (frame 0x02 1 0 true false false (List.replicate 72 0#8)))), { opc := 2, hop := 1, tag := 0, rsp := true, payload := List.replicate 72 0#8 }, { opcode := 2, hop := 0 }, by decide +kernel⟩,
   ⟨collectingS {}, 0, [], (lineCode false (lineFrame false (frame 0x02 1 0 true false false (List.replicate 72 0#8)))), { opc := 2, hop := 1, tag := 0, rsp := true, payload := List.replicate 72 0#8 }, { opcode := 2, hop := 0 }, by decide +kernel⟩,
   ⟨onS [], 0, by decide +kernel⟩,
   ⟨onS [(R.LNK_STAT_STATE 0, 3)], 0, [], [], by decide +kernel⟩,
   ⟨openSweepS [(R.LNK_STAT_STATE 0, 3)], 0, [], (lineCode false (lineFrame false (frame 0x02 1 0 true false false (List.replicate 72 0#8)))), { opc := 2, hop := 1, tag := 0, rsp := true, payload := List.replicate 72 0#8 }, by decide +kernel⟩,
   ⟨readingS, 0, [], (lineCode false (lineFrame false (frame 0x40 1 0 true false false (List.replicate 59 0#8)))), { opc := 0x40, hop := 1, tag := 0, rsp := true, payload := List.replicate 59 0#8 }, { opcode := 0x40, hop := 0, kind := 1 }, by decide +kernel⟩,
   ⟨readingS, 0, [], (lineCode false (lineFrame false (frame 0x40 1 0 true false false [4#8, 16#8, 0#8]))), { opc := 0x40, hop := 1, tag := 0, rsp := true, payload := [4#8, 16#8, 0#8] }, { opcode := 0x40, hop := 0, kind := 1 }, by decide +kernel⟩⟩

theorem wit_SelfTestRequests :
    (∃ (s : State) (k : BitVec 3) (c : Fin 64), (s.pwr.mainOn = true) ∧ (1 ≤ s.stage) ∧ (s.host.perstHigh = true) ∧ (((s.putAll [(R.SWP_TREQ_CODE, k.toNat), (R.SWP_TREQ_CHAIN, c.val)]).testRefusal k.toNat c.val (s.get R.SWP_TREQ_RANGE_FIRST_HOP) (s.get R.SWP_TREQ_RANGE_LAST_HOP) (s.get R.SWP_TREQ_RANGE_DEADLINE_S)) ≠ 0)) ∧
    (∃ (s : State) (k : BitVec 3) (c : Fin 64), (s.pwr.mainOn = true) ∧ (1 ≤ s.stage) ∧ (s.host.perstHigh = true) ∧ (((s.putAll [(R.SWP_TREQ_CODE, k.toNat), (R.SWP_TREQ_CHAIN, c.val)]).testRefusal k.toNat c.val (s.get R.SWP_TREQ_RANGE_FIRST_HOP) (s.get R.SWP_TREQ_RANGE_LAST_HOP) (s.get R.SWP_TREQ_RANGE_DEADLINE_S)) = 0)) ∧
    (∃ (s : State), (s.pwr.mainOn = true) ∧ (1 ≤ s.stage) ∧ (s.host.perstHigh = true) ∧ (s.swp.hostReq ≠ none) ∧ (s.swp.running.any (fun r => r.2.2 == 0) = false)) ∧
    (∃ (s : State), (s.pwr.mainOn = true) ∧ (1 ≤ s.stage) ∧ (s.host.perstHigh = true) ∧ (s.swp.hostReq ≠ none) ∧ (s.swp.running.any (fun r => r.2.2 == 0) = true)) ∧
    (∃ (s : State), (s.pwr.mainOn = true) ∧ (s.swp.hostReq = none)) ∧
    (∃ (s : State) (c : Fin 64) (n k j : Nat) (w : BitVec 16), (s.pwr.mainOn = true) ∧ (s.swp.slots = 0) ∧ (s.swp.running.find? (fun r => r.1 / 128 == c.val) = some (n, k, 0)) ∧ ((s.chain c.val).freeTag = some j) ∧ (w.getLsbD 8 = true) ∧ (w.toNat % 256 = k)) ∧
    (∃ (s : State) (c : Fin 64) (n k j : Nat), (s.pwr.mainOn = true) ∧ (s.swp.slots = 0) ∧ (s.swp.abort = false) ∧ (s.linkState c.val ≠ 2) ∧ (s.swp.running.find? (fun r => r.1 / 128 == c.val) = some (n, k, 0)) ∧ ((s.chain c.val).freeTag = some j)) ∧
    (∃ (s : State) (c : Fin 64) (r : Option (BitVec 16 × BitVec 16)), (s.pwr.mainOn = true) ∧ (s.swp.running.find? (fun r => r.1 / 128 == c.val) = none ∨ (s.chain c.val).freeTag = none)) ∧
    (∃ (s : State) (e : Fin 32), (s.pwr.mainOn = true) ∧ (e.val < s.swp.camps.length) ∧ ((s.camp e.val).finished = true ∨ s.campDone e.val = true)) ∧
    (∃ (s : State) (e : Fin 32), (s.pwr.mainOn = true) ∧ (e.val < s.swp.camps.length) ∧ ((s.camp e.val).finished = false) ∧ (s.campDone e.val = false) ∧ ((s.camp e.val).late = false)) ∧
    (∃ (s : State) (e : Fin 32), (s.pwr.mainOn = true) ∧ (s.swp.camps.length ≤ e.val ∨ ((s.camp e.val).finished = false ∧ s.campDone e.val = false ∧ (s.camp e.val).late = true))) ∧
    (∃ (s : State) (n : Fin 512) (d : Bool), (s.pwr.mainOn = true) ∧ (s.sop.derate.any (fun p => p.1 == 2 * n.val + b2n d) = true)) ∧
    (∃ (s : State) (n : Fin 512) (d : Bool), (s.pwr.mainOn = true) ∧ (s.sop.derate.any (fun p => p.1 == 2 * n.val + b2n d) = false)) :=
  ⟨⟨onS [(R.GLOBAL_STAGE_STAGE, 1)], 3, 63, by decide +kernel⟩,
   ⟨goS, 3, 0, by decide +kernel⟩,
   ⟨requestS, by decide +kernel⟩,
   ⟨runningS, by decide +kernel⟩,
   ⟨onS [(R.GLOBAL_STAGE_STAGE, 1)], by decide +kernel⟩,
   ⟨runningS, 0, 0, 3, 0, 0x103#16, by decide +kernel⟩,
   ⟨runningS, 0, 0, 3, 0, by decide +kernel⟩,
   ⟨onS [], 63, none, by decide +kernel⟩,
   ⟨campS { finished := true }, 1, by decide +kernel⟩,
   ⟨campOwedS false, 0, by decide +kernel⟩,
   ⟨campOwedS true, 0, by decide +kernel⟩,
   ⟨derateS, 511, true, by decide +kernel⟩,
   ⟨derateS, 511, false, by decide +kernel⟩⟩

theorem wit_StoreOwnershipAndWrites :
    (∃ (s : State), (s.pwr.mainOn = true) ∧ (1 ≤ s.stage) ∧ (s.host.perstHigh = true)) ∧
    (∃ (s : State), (s.pwr.mainOn = true) ∧ (1 ≤ s.stage) ∧ (s.host.perstHigh = true) ∧ (s.session = true) ∧ (s.safety ≠ 0) ∧ (s.safety ≠ 6)) ∧
    (∃ (s : State) (v : BitVec 2), (s.pwr.mainOn = true) ∧ (1 ≤ s.stage) ∧ (s.host.perstHigh = true) ∧ (s.session = true) ∧ (v ≠ 3#2) ∧ (v = 2#2 → s.safety = 0 ∨ s.safety = 6)) ∧
    (∃ (s : State) (u : Fin 24) (v : BitVec 2), (s.pwr.mainOn = true) ∧ (1 ≤ s.stage) ∧ (s.host.perstHigh = true) ∧ (s.session = false) ∧ (v ≠ 3#2) ∧ (v.toNat ≠ s.owner u.val)) ∧
    (∃ (s : State) (off : BitVec 26) (u x : Nat), (s.pwr.mainOn = true) ∧ (2 ≤ s.stage) ∧ (s.host.perstHigh = true) ∧ (unitOf off.toNat = some (u, x)) ∧ (u < 24) ∧ (s.hostHolds u = true)) ∧
    (∃ (s : State) (off : BitVec 26) (u x : Nat), (s.pwr.mainOn = true) ∧ (2 ≤ s.stage) ∧ (s.host.perstHigh = true) ∧ (unitOf off.toNat = some (u, x)) ∧ (24 ≤ u ∨ s.hostHolds u = false)) ∧
    (∃ (s : State) (off : BitVec 26), (s.pwr.mainOn = true) ∧ (s.stage < 2 ∨ unitOf off.toNat = none ∨ s.host.perstHigh = false)) ∧
    (∃ (s : State), (s.pwr.mainOn = true) ∧ (1 ≤ s.stage) ∧ (s.host.perstHigh = true)) ∧
    (∃ (s : State), (s.pwr.mainOn = true) ∧ (1 ≤ s.stage) ∧ (s.host.perstHigh = true)) ∧
    (∃ (s : State), (s.pwr.mainOn = true) ∧ (s.stage = 0 ∨ s.host.perstHigh = false)) :=
  ⟨⟨onS [(R.GLOBAL_STAGE_STAGE, 1)], by decide +kernel⟩,
   ⟨onS [(R.GLOBAL_STAGE_STAGE, 3), (R.IMG_STAT_SESSION, 1), (R.DSC_STATE_STATE, 2)], by decide +kernel⟩,
   ⟨onS [(R.GLOBAL_STAGE_STAGE, 3), (R.IMG_STAT_SESSION, 1)], 2#2, by decide +kernel⟩,
   ⟨onS [(R.GLOBAL_STAGE_STAGE, 3)], 23, 2#2, by decide +kernel⟩,
   ⟨onS [(R.GLOBAL_STAGE_STAGE, 3), (R.STO_OWN_S_OWNER 0, 2)], 0x2000008#26, 0, 8, by decide +kernel⟩,
   ⟨onS [(R.GLOBAL_STAGE_STAGE, 3)], 0x2480008#26, 24, 8, by decide +kernel⟩,
   ⟨onS [(R.GLOBAL_STAGE_STAGE, 3)], 0x2420000#26, by decide +kernel⟩,
   ⟨onS [(R.GLOBAL_STAGE_STAGE, 1)], by decide +kernel⟩,
   ⟨onS [(R.GLOBAL_STAGE_STAGE, 1)], by decide +kernel⟩,
   ⟨onS [], by decide +kernel⟩⟩

theorem wit_Snapshots :
    (∃ (s : State) (u : BitVec 16), (s.pwr.mainOn = true) ∧ (1 ≤ s.stage) ∧ (s.diag.lastTrig = none ∨ 1000 ≤ u.toNat)) ∧
    (∃ (s : State) (u : BitVec 16), (s.pwr.mainOn = true) ∧ (s.stage = 0 ∨ (s.diag.lastTrig ≠ none ∧ u.toNat < 1000))) ∧
    (∃ (s : State), (s.pwr.mainOn = true) ∧ (1 ≤ s.stage) ∧ (s.host.perstHigh = true)) ∧
    (∃ (s : State), (s.pwr.mainOn = true)) ∧
    (∃ (s : State), (s.pwr.mainOn = true) ∧ (1 ≤ s.stage) ∧ (s.host.perstHigh = true)) ∧
    (∃ (s : State), (s.pwr.mainOn = true) ∧ (1 ≤ s.stage) ∧ (s.host.perstHigh = true)) :=
  ⟨⟨onS [(R.GLOBAL_STAGE_STAGE, 1)], 1000, by decide +kernel⟩,
   ⟨onS [], 1000, by decide +kernel⟩,
   ⟨onS [(R.GLOBAL_STAGE_STAGE, 1)], by decide +kernel⟩,
   ⟨onS [], by decide +kernel⟩,
   ⟨onS [(R.GLOBAL_STAGE_STAGE, 1), (R.DIAG_SNAP_STAT_FIRST_VALID, 1)], by decide +kernel⟩,
   ⟨onS [(R.GLOBAL_STAGE_STAGE, 1), (R.STO_SLOTSTAT_PINNED, 15)], by decide +kernel⟩⟩

theorem wit_StartupAndBackgroundTests :
    (∃ (s : State), (s.pwr.mainOn = true) ∧ (s.stage = 0) ∧ (s.diag.testsDone = false)) ∧
    (∃ (s : State), (s.pwr.mainOn = true) ∧ (s.stage = 0) ∧ (s.diag.testsDone = false)) ∧
    (∃ (s : State), (s.pwr.mainOn = true) ∧ (s.stage ≠ 0 ∨ s.diag.testsDone = true)) ∧
    (∃ (s : State), (s.pwr.mainOn = true) ∧ (s.stage < 2 ∨ s.get R.DIAG_BG_STAT_ACTIVE = 1)) ∧
    (∃ (s : State) (u k : Nat), (s.pwr.mainOn = true) ∧ (2 ≤ s.stage) ∧ (s.get R.DIAG_BG_STAT_ACTIVE = 0) ∧ (s.diag.bgNext < 422) ∧ (bgStep (s.bgFind 422 s.diag.bgNext 0).1 = .bank u k)) ∧
    (∃ (s : State) (w : Nat), (s.pwr.mainOn = true) ∧ (2 ≤ s.stage) ∧ (s.get R.DIAG_BG_STAT_ACTIVE = 0) ∧ (s.diag.bgNext < 422) ∧ (bgStep (s.bgFind 422 s.diag.bgNext 0).1 = .window w)) ∧
    (∃ (s : State) (k : Nat), (s.pwr.mainOn = true) ∧ (2 ≤ s.stage) ∧ (s.get R.DIAG_BG_STAT_ACTIVE = 0) ∧ (s.diag.bgNext < 422) ∧ (bgStep (s.bgFind 422 s.diag.bgNext 0).1 = .log k)) ∧
    (∃ (s : State), (s.pwr.mainOn = true) ∧ (s.sto.bank = none)) ∧
    (∃ (s : State) (u b : Nat), (s.pwr.mainOn = true) ∧ (s.sto.bank = some (u, b)) ∧ (s.get R.STO_MIRROR_MIRROR_PHASE < 3)) ∧
    (∃ (s : State) (u b : Nat), (s.pwr.mainOn = true) ∧ (s.sto.bank = some (u, b)) ∧ (s.get R.STO_MIRROR_MIRROR_PHASE = 3)) ∧
    (∃ (s : State) (u b : Nat), (s.pwr.mainOn = true) ∧ (s.sto.bank = some (u, b)) ∧ (s.get R.STO_MIRROR_MIRROR_PHASE ≤ 2) ∧ (s.spareUsed (largeUnit u) (bankRegion u b) = false) ∧ (bankRegion u b < 8)) ∧
    (∃ (s : State), (s.pwr.mainOn = true) ∧ (s.get R.DIAG_BG_STAT_WINDOW = 31 ∨ s.diag.abandoned = true)) ∧
    (∃ (s : State), (s.pwr.mainOn = true) ∧ (s.get R.DIAG_BG_STAT_WINDOW ≠ 31) ∧ (s.diag.abandoned = false)) ∧
    (∃ (s : State), (s.pwr.mainOn = true) ∧ (s.get R.DIAG_BG_STAT_WINDOW = 31)) ∧
    (∃ (s : State), (s.pwr.mainOn = true) ∧ (s.get R.DIAG_BG_STAT_WINDOW ≠ 31) ∧ (s.diag.abandoned = false)) ∧
    (∃ (s : State), (s.pwr.mainOn = true) ∧ (s.get R.DIAG_BG_STAT_WINDOW ≠ 31) ∧ (s.diag.abandoned = false) ∧ (s.get R.DIAG_REP_STAT_WIN_G = 0)) :=
  ⟨⟨onS [], by decide +kernel⟩,
   ⟨onS [], by decide +kernel⟩,
   ⟨onS [(R.GLOBAL_STAGE_STAGE, 1)], by decide +kernel⟩,
   ⟨onS [], by decide +kernel⟩,
   ⟨onS [(R.GLOBAL_STAGE_STAGE, 2)], 16, 0, by decide +kernel⟩,
   ⟨bgS 138, 4, by decide +kernel⟩,
   ⟨bgS 421, 255, by decide +kernel⟩,
   ⟨onS [], by decide +kernel⟩,
   ⟨bankS 1, 16, 0, by decide +kernel⟩,
   ⟨bankS 3, 16, 0, by decide +kernel⟩,
   ⟨bankS 2, 16, 0, by decide +kernel⟩,
   ⟨onS [(R.DIAG_BG_STAT_WINDOW, 31)], by decide +kernel⟩,
   ⟨onS [(R.DIAG_BG_STAT_WINDOW, 5)], by decide +kernel⟩,
   ⟨onS [(R.DIAG_BG_STAT_WINDOW, 31)], by decide +kernel⟩,
   ⟨onS [(R.DIAG_BG_STAT_WINDOW, 5)], by decide +kernel⟩,
   ⟨onS [(R.DIAG_BG_STAT_WINDOW, 5)], by decide +kernel⟩⟩

theorem wit_DebugPort :
    (∃ (s : State), (s.pwr.mainOn = true) ∧ (1 ≤ s.stage) ∧ (s.host.perstHigh = true) ∧ (s.get R.DIAG_DBG_STAT_MASTER = 0)) ∧
    (∃ (s : State), (s.pwr.mainOn = true) ∧ (1 ≤ s.stage) ∧ (s.host.perstHigh = true) ∧ (s.get R.DIAG_DBG_STAT_MASTER = 1)) ∧
    (∃ (s : State), (s.pwr.mainOn = true) ∧ (1 ≤ s.stage) ∧ (s.host.perstHigh = true) ∧ (s.get R.DIAG_DBG_STAT_MASTER = 2)) ∧
    (∃ (s : State), (s.pwr.mainOn = true) ∧ (s.get R.DIAG_DBG_STAT_MASTER = 1)) ∧
    (∃ (s : State), (s.pwr.mainOn = true) ∧ (s.get R.DIAG_DBG_STAT_MASTER ≠ 1)) ∧
    (∃ (s : State), (s.pwr.mainOn = true) ∧ (1 ≤ s.stage) ∧ (s.host.perstHigh = true) ∧ (s.session = true) ∧ (s.get R.DIAG_DBG_STAT_UNLOCKED = 0)) ∧
    (∃ (s : State), (s.pwr.mainOn = true) ∧ (1 ≤ s.stage) ∧ (s.host.perstHigh = true) ∧ (s.get R.DIAG_DBG_STAT_UNLOCKED = 1)) ∧
    (∃ (s : State) (h : Bool), (s.pwr.mainOn = true) ∧ (s.stage ≠ 0) ∧ (h = true ∨ s.host.perstHigh = true) ∧ (s.claimed h = none) ∧ (h = true → s.tapOffers.contains .debug = true)) ∧
    (∃ (s : State) (h : Bool), (s.pwr.mainOn = true) ∧ (s.stage ≠ 0) ∧ (h = true ∨ s.host.perstHigh = true) ∧ (s.claimed h = some s) ∧ (s.get R.DIAG_DBG_STAT_UNLOCKED = 0 ∨ s.intrusiveOk = false)) ∧
    (∃ (s : State) (h : Bool), (s.pwr.mainOn = true) ∧ (s.stage = 0 ∨ (h = true ∧ s.tapOffers.contains .debug = false) ∨ (h = false ∧ s.host.perstHigh = false))) ∧
    (∃ (s : State) (h : Bool), (s.pwr.mainOn = true) ∧ (s.stage ≠ 0) ∧ (h = true ∨ s.host.perstHigh = true) ∧ (s.get R.DIAG_DBG_STAT_HALTED = 0) ∧ (s.claimed h = some s) ∧ (s.get R.DIAG_DBG_STAT_UNLOCKED = 1) ∧ (s.intrusiveOk = true) ∧ (s.get R.PAIR_STAT_MODE = 2)) ∧
    (∃ (s : State) (h : Bool), (s.pwr.mainOn = true) ∧ (s.stage ≠ 0) ∧ (h = true ∨ s.host.perstHigh = true) ∧ (s.claimed h = some s) ∧ (s.get R.DIAG_DBG_STAT_HALTED = 1) ∧ (s.get R.PAIR_STAT_MODE = 2)) ∧
    (∃ (s : State) (h : Bool), (s.pwr.mainOn = true) ∧ (s.stage ≠ 0) ∧ (h = true ∨ s.host.perstHigh = true) ∧ (s.claimed h = some s) ∧ (s.get R.DIAG_DBG_STAT_UNLOCKED = 1) ∧ (s.intrusiveOk = true) ∧ (s.get R.PAIR_STAT_MODE = 2)) ∧
    (∃ (s : State) (h : Bool), (s.pwr.mainOn = true) ∧ (s.stage ≠ 0) ∧ (h = true ∨ s.host.perstHigh = true) ∧ (s.claimed h = some s) ∧ (s.get R.DIAG_DBG_STAT_UNLOCKED = 1)) ∧
    (∃ (s : State) (h : Bool), (s.pwr.mainOn = true) ∧ (s.stage ≠ 0) ∧ (h = true ∨ s.host.perstHigh = true) ∧ (s.claimed h = some s) ∧ (s.get R.DIAG_DBG_STAT_UNLOCKED = 1) ∧ (s.get R.DIAG_DBG_STAT_HALTED = 1)) ∧
    (∃ (s : State) (h : Bool), (s.pwr.mainOn = true) ∧ (s.stage ≠ 0) ∧ (h = true ∨ s.host.perstHigh = true) ∧ (s.claimed h = some s) ∧ (s.get R.DIAG_DBG_STAT_UNLOCKED = 0 ∨ s.get R.DIAG_DBG_STAT_HALTED = 0)) ∧
    (∃ (s : State) (h : Bool), (s.pwr.mainOn = true) ∧ (s.stage ≠ 0) ∧ (h = true ∨ s.host.perstHigh = true) ∧ (s.claimed h = some s) ∧ (s.get R.DIAG_DBG_STAT_UNLOCKED = 1) ∧ (s.intrusiveOk = true) ∧ (s.get R.PAIR_STAT_MODE = 2)) ∧
    (∃ (s : State) (h : Bool), (s.pwr.mainOn = true) ∧ (s.stage ≠ 0) ∧ (h = true ∨ s.host.perstHigh = true) ∧ (s.claimed h = some s) ∧ (s.get R.DIAG_DBG_STAT_UNLOCKED = 1) ∧ (s.intrusiveOk = true) ∧ (s.get R.PAIR_STAT_MODE = 2)) ∧
    (∃ (s : State) (h : Bool), (s.pwr.mainOn = true) ∧ (s.stage ≠ 0) ∧ (h = true ∨ s.host.perstHigh = true) ∧ (s.claimed h = some s) ∧ (s.get R.DIAG_DBG_STAT_UNLOCKED = 1) ∧ (s.intrusiveOk = true) ∧ (s.get R.PAIR_STAT_MODE = 2)) ∧
    (∃ (s : State) (h : Bool), (s.pwr.mainOn = true) ∧ (s.stage ≠ 0) ∧ (h = true ∨ s.host.perstHigh = true) ∧ (s.claimed h = some s) ∧ (s.get R.DIAG_DBG_STAT_UNLOCKED = 1) ∧ (s.intrusiveOk = true) ∧ (s.get R.PAIR_STAT_MODE = 2)) :=
  ⟨⟨onS [(R.GLOBAL_STAGE_STAGE, 1)], by decide +kernel⟩,
   ⟨onS [(R.GLOBAL_STAGE_STAGE, 1), (R.DIAG_DBG_STAT_MASTER, 1)], by decide +kernel⟩,
   ⟨onS [(R.GLOBAL_STAGE_STAGE, 1), (R.DIAG_DBG_STAT_MASTER, 2)], by decide +kernel⟩,
   ⟨onS [(R.DIAG_DBG_STAT_MASTER, 1)], by decide +kernel⟩,
   ⟨onS [(R.DIAG_DBG_STAT_MASTER, 2)], by decide +kernel⟩,
   ⟨onS [(R.GLOBAL_STAGE_STAGE, 1), (R.IMG_STAT_SESSION, 1)], by decide +kernel⟩,
   ⟨onS [(R.GLOBAL_STAGE_STAGE, 1), (R.DIAG_DBG_STAT_UNLOCKED, 1)], by decide +kernel⟩,
   ⟨onS [(R.GLOBAL_STAGE_STAGE, 1)], false, by decide +kernel⟩,
   ⟨onS [(R.GLOBAL_STAGE_STAGE, 1), (R.DIAG_DBG_STAT_MASTER, 2)], false, by decide +kernel⟩,
   ⟨boardS, true, by decide +kernel⟩,
   ⟨portS 2 [], true, by decide +kernel⟩,
   ⟨portS 2 [(R.DIAG_DBG_STAT_HALTED, 1)], true, by decide +kernel⟩,
   ⟨portS 2 [], true, by decide +kernel⟩,
   ⟨portS 2 [], true, by decide +kernel⟩,
   ⟨portS 2 [(R.DIAG_DBG_STAT_HALTED, 1)], true, by decide +kernel⟩,
   ⟨portS 2 [], true, by decide +kernel⟩,
   ⟨portS 2 [], true, by decide +kernel⟩,
   ⟨portS 2 [], true, by decide +kernel⟩,
   ⟨portS 2 [], true, by decide +kernel⟩,
   ⟨portS 2 [], true, by decide +kernel⟩⟩

theorem wit_EventRecorder :
    (∃ (s : State) (c : BitVec 16), (s.pwr.mainOn = true) ∧ (classOf? c.toNat = none)) ∧
    (∃ (s : State) (c : BitVec 16) (x : BitVec 24) (p : BitVec 64) (k i : Nat), (s.pwr.mainOn = true) ∧ (classOf? c.toNat = some k) ∧ (s.log.idle = true) ∧ (windowed c.toNat = false ∨ s.log.window (s.event k c.toNat x.toNat p.toNat) (windowKey (s.event k c.toNat x.toNat p.toNat)) = none) ∧ (s.log.lastEquals (s.event k c.toNat x.toNat p.toNat) = none) ∧ (s.log.place k = some i)) ∧
    (∃ (s : State) (c : BitVec 16) (x : BitVec 24) (p : BitVec 64) (k i : Nat), (s.pwr.mainOn = true) ∧ (classOf? c.toNat = some k) ∧ (s.log.idle = true) ∧ (windowed c.toNat = false) ∧ (s.log.lastEquals (s.event k c.toNat x.toNat p.toNat) = some i)) ∧
    (∃ (s : State) (c : BitVec 16) (k : Nat), (s.pwr.mainOn = true) ∧ (classOf? c.toNat = some k) ∧ (s.log.idle = false) ∧ (s.log.queue.length < 16)) ∧
    (∃ (s : State), (s.pwr.mainOn = true) ∧ (s.log.queue = [])) ∧
    (∃ (s : State) (e : Event) (q : List Event), (s.pwr.mainOn = true) ∧ (s.log.scanDone = true) ∧ (s.log.queue = e :: q) ∧ (q ≠ [] ∨ s.log.lostRun = 0)) ∧
    (∃ (s : State), (s.pwr.mainOn = true) ∧ (s.log.scanDone = true)) ∧
    (∃ (s : State), (s.pwr.mainOn = true) ∧ (s.log.scanDone = false)) ∧
    (∃ (s : State), (s.pwr.mainOn = true) ∧ (1 ≤ s.stage) ∧ (s.host.perstHigh = true) ∧ (s.session = true) ∧ (s.safety = 0 ∨ s.safety = 6)) ∧
    (∃ (s : State), (s.pwr.mainOn = true) ∧ (1 ≤ s.stage) ∧ (s.host.perstHigh = true) ∧ (s.session = true) ∧ (s.safety ≠ 0) ∧ (s.safety ≠ 6)) ∧
    (∃ (s : State) (n : BitVec 17), (s.pwr.mainOn = true) ∧ (1 ≤ s.stage) ∧ (s.host.perstHigh = true) ∧ (n.toNat < 65792)) ∧
    (∃ (s : State) (n : BitVec 17), (s.pwr.mainOn = true) ∧ (1 ≤ s.stage) ∧ (s.host.perstHigh = true) ∧ (65792 ≤ n.toNat)) ∧
    (∃ (s : State), (s.pwr.mainOn = true) ∧ (1 ≤ s.stage) ∧ (s.host.perstHigh = true)) ∧
    (∃ (s : State), (s.pwr.mainOn = true) ∧ (1 ≤ s.stage) ∧ (s.host.perstHigh = true)) ∧
    (∃ (s : State), (s.pwr.mainOn = true) ∧ (1 ≤ s.stage) ∧ (s.host.perstHigh = true)) ∧
    (∃ (s : State), (s.stage = 0 ∨ s.host.perstHigh = false)) :=
  ⟨⟨onS [], 0x01FF#16, by decide +kernel⟩,
   ⟨idleS, 0x0101#16, 5#24, 7#64, 2, 0, by decide +kernel⟩,
   ⟨repeatS, 0x0101#16, 5#24, 7#64, 2, 0, by decide +kernel⟩,
   ⟨onS [], 0x0101#16, 2, by decide +kernel⟩,
   ⟨onS [], by decide +kernel⟩,
   ⟨queuedS, { cls := 2, code := 0x0101#16 }, [], by decide +kernel⟩,
   ⟨idleS, by decide +kernel⟩,
   ⟨onS [], by decide +kernel⟩,
   ⟨clearS, by decide +kernel⟩,
   ⟨onS [(R.GLOBAL_STAGE_STAGE, 3), (R.IMG_STAT_SESSION, 1), (R.DSC_STATE_STATE, 2)], by decide +kernel⟩,
   ⟨onS [(R.GLOBAL_STAGE_STAGE, 1)], 65791, by decide +kernel⟩,
   ⟨onS [(R.GLOBAL_STAGE_STAGE, 1)], 65792, by decide +kernel⟩,
   ⟨onS [(R.GLOBAL_STAGE_STAGE, 1)], by decide +kernel⟩,
   ⟨onS [(R.GLOBAL_STAGE_STAGE, 1)], by decide +kernel⟩,
   ⟨onS [(R.GLOBAL_STAGE_STAGE, 1)], by decide +kernel⟩,
   ⟨onS [], by decide +kernel⟩⟩

theorem wit_EstimatorUpdatesAndSaves :
    (∃ (s : State) (r : Fin 8), (s.pwr.mainOn = true) ∧ (s.est.busy.getLsbD r.val = true) ∧ (s.est.finished.length = 8)) ∧
    (∃ (s : State) (r : Fin 8), (s.pwr.mainOn = true) ∧ (s.est.busy.getLsbD r.val = false)) ∧
    (∃ (s : State), (s.pwr.mainOn = true)) ∧
    (∃ (s : State) (k : BitVec 18), (s.pwr.mainOn = true) ∧ (1 ≤ s.stage) ∧ (s.host.perstHigh = true) ∧ (s.session = true) ∧ (s.tab.assigned k.toNat = true)) ∧
    (∃ (s : State) (k : BitVec 18), (s.pwr.mainOn = true) ∧ (1 ≤ s.stage) ∧ (s.host.perstHigh = true) ∧ (s.tab.assigned k.toNat = false)) ∧
    (∃ (s : State) (k : BitVec 18), (s.pwr.mainOn = true) ∧ (1 ≤ s.stage) ∧ (s.host.perstHigh = true) ∧ (s.session = false) ∧ (s.tab.assigned k.toNat = true)) ∧
    (∃ (s : State), (s.pwr.mainOn = true) ∧ (1 ≤ s.stage) ∧ (s.host.perstHigh = true) ∧ (s.est.saving = none) ∧ (s.get R.EST_STAT_NO_MEMORY = 0)) ∧
    (∃ (s : State), (s.pwr.mainOn = true) ∧ (1 ≤ s.stage) ∧ (s.host.perstHigh = true) ∧ (s.est.saving = none) ∧ (s.get R.EST_STAT_NO_MEMORY = 1)) ∧
    (∃ (s : State) (k : Nat), (s.pwr.mainOn = true) ∧ (1 ≤ s.stage) ∧ (s.host.perstHigh = true) ∧ (s.est.saving = some k)) ∧
    (∃ (s : State), (s.pwr.mainOn = true) ∧ (3 ≤ s.stage) ∧ (s.est.saving = none) ∧ (s.get R.EST_STAT_NO_MEMORY = 0)) ∧
    (∃ (s : State), (s.pwr.mainOn = true) ∧ (3 ≤ s.stage) ∧ (s.est.saving = none) ∧ (s.get R.EST_STAT_NO_MEMORY = 1)) ∧
    (∃ (s : State), (s.pwr.mainOn = true) ∧ (s.stage < 3 ∨ s.est.saving ≠ none)) ∧
    (∃ (s : State) (k : Nat), (s.pwr.mainOn = true) ∧ (s.est.saving = some k) ∧ (1 ≤ k) ∧ (k ≤ 3) ∧ (s.est.held = false) ∧ (s.est.sleepNext = false) ∧ (s.est.saveSeq < 2 ^ 32)) ∧
    (∃ (s : State) (k : Nat), (s.pwr.mainOn = true) ∧ (s.est.saving = some k) ∧ (1 ≤ k) ∧ (k ≤ 3) ∧ (s.est.held = true) ∧ (s.est.sleepNext = false) ∧ (s.get R.EST_STAT_NO_MEMORY = 0)) ∧
    (∃ (s : State) (k : Nat), (s.pwr.mainOn = true) ∧ (s.est.saving = some k) ∧ (1 ≤ k) ∧ (k ≤ 3) ∧ (s.est.sleepNext = true) ∧ (s.est.saveAt < 7) ∧ (s.get R.EST_STAT_NO_MEMORY = 0)) ∧
    (∃ (s : State), (s.pwr.mainOn = true) ∧ (s.est.saving = none)) ∧
    (∃ (s : State), (s.pwr.mainOn = true) ∧ (s.stage = 2) ∧ (s.est.restored = false)) ∧
    (∃ (s : State), (s.pwr.mainOn = true) ∧ (s.stage ≠ 2 ∨ s.est.restored = true)) :=
  ⟨⟨estBusyS, 7, by decide +kernel⟩,
   ⟨estBusyS, 6, by decide +kernel⟩,
   ⟨estBusyS, by decide +kernel⟩,
   ⟨mapS [(0, 3#8), (1, 1#8), (16, 1#8)] [(R.GLOBAL_STAGE_STAGE, 3), (R.IMG_STAT_SESSION, 1)], 23, by decide +kernel⟩,
   ⟨mapS [(0, 3#8), (1, 1#8), (16, 1#8)] [(R.GLOBAL_STAGE_STAGE, 3), (R.IMG_STAT_SESSION, 1)], 24, by decide +kernel⟩,
   ⟨mapS [(0, 3#8), (1, 1#8), (16, 1#8)] [(R.GLOBAL_STAGE_STAGE, 3)], 23, by decide +kernel⟩,
   ⟨onS [(R.GLOBAL_STAGE_STAGE, 3)], by decide +kernel⟩,
   ⟨onS [(R.GLOBAL_STAGE_STAGE, 3), (R.EST_STAT_NO_MEMORY, 1)], by decide +kernel⟩,
   ⟨savingS [(R.GLOBAL_STAGE_STAGE, 3)] false, 2, by decide +kernel⟩,
   ⟨onS [(R.GLOBAL_STAGE_STAGE, 3)], by decide +kernel⟩,
   ⟨onS [(R.GLOBAL_STAGE_STAGE, 3), (R.EST_STAT_NO_MEMORY, 1)], by decide +kernel⟩,
   ⟨onS [(R.GLOBAL_STAGE_STAGE, 2)], by decide +kernel⟩,
   ⟨savingS [] false, 2, by decide +kernel⟩,
   ⟨savingS [] true, 2, by decide +kernel⟩,
   ⟨cutSaveS, 1, by decide +kernel⟩,
   ⟨onS [], by decide +kernel⟩,
   ⟨onS [(R.GLOBAL_STAGE_STAGE, 2)], by decide +kernel⟩,
   ⟨onS [], by decide +kernel⟩⟩

theorem wit_LimitScanAndExcitation :
    (∃ (s : State), (s.pwr.mainOn = true) ∧ (2 ≤ s.stage) ∧ (s.img.loaded = true)) ∧
    (∃ (s : State), (s.pwr.mainOn = true) ∧ (s.stage < 2 ∨ s.img.loaded = false)) ∧
    (∃ (s : State) (b : Bool), (s.pwr.mainOn = true) ∧ (1 ≤ s.stage) ∧ (s.host.perstHigh = true) ∧ (s.session = true) ∧ (s.getB R.EST_EXC_CTRL_EXC_EN ≠ b) ∧ (s.excActive = false)) ∧
    (∃ (s : State) (b : Bool), (s.pwr.mainOn = true) ∧ (1 ≤ s.stage) ∧ (s.host.perstHigh = true) ∧ (s.session = true) ∧ (s.getB R.EST_EXC_CTRL_EXC_EN ≠ b) ∧ (s.excActive = true)) ∧
    (∃ (s : State) (b : Bool), (s.pwr.mainOn = true) ∧ (1 ≤ s.stage) ∧ (s.host.perstHigh = true) ∧ (s.session = false) ∧ (s.getB R.EST_EXC_CTRL_EXC_EN ≠ b)) ∧
    (∃ (s : State), (s.pwr.mainOn = true) ∧ (1 ≤ s.stage) ∧ (s.host.perstHigh = true) ∧ (s.excActive = false)) ∧
    (∃ (s : State), (s.pwr.mainOn = true) ∧ (1 ≤ s.stage) ∧ (s.host.perstHigh = true) ∧ (s.excActive = true)) ∧
    (∃ (s : State), (s.pwr.mainOn = true) ∧ (s.excActive = true)) ∧
    (∃ (s : State), (s.pwr.mainOn = true) ∧ (s.excActive = false)) :=
  ⟨⟨loadedS [(R.GLOBAL_STAGE_STAGE, 2)], by decide +kernel⟩,
   ⟨onS [], by decide +kernel⟩,
   ⟨onS [(R.GLOBAL_STAGE_STAGE, 3), (R.IMG_STAT_SESSION, 1)], true, by decide +kernel⟩,
   ⟨excS [(R.GLOBAL_STAGE_STAGE, 3), (R.IMG_STAT_SESSION, 1)], true, by decide +kernel⟩,
   ⟨onS [(R.GLOBAL_STAGE_STAGE, 3)], true, by decide +kernel⟩,
   ⟨onS [(R.GLOBAL_STAGE_STAGE, 3)], by decide +kernel⟩,
   ⟨excS [(R.GLOBAL_STAGE_STAGE, 3)], by decide +kernel⟩,
   ⟨excS [], by decide +kernel⟩,
   ⟨onS [], by decide +kernel⟩⟩

theorem wit_PairComparison :
    (∃ (s : State) (k : Nat) (d : Word) (u : BitVec 8), (s.pwr.mainOn = true) ∧ (s.pair.held = some (k, d)) ∧ (s.compares = true) ∧ (u.toNat ≤ 100) ∧ (k < 2 ^ 32)) ∧
    (∃ (s : State) (e f : Word) (k : Nat) (d : Word) (u : BitVec 8) (fl : Bool) (x : Fin 3), (s.pwr.mainOn = true) ∧ (s.pair.held = some (k, d)) ∧ (s.compares = true) ∧ (s.get R.PAIR_STAT_MODE ≠ 3) ∧ (s.get R.PAIR_STAT_MODE ≠ 5) ∧ (u.toNat ≤ 100) ∧ (e = f) ∧ (x ≠ 2) ∧ (k < 1024 ∨ k % 1024 ≠ 0 ∨ fl = true)) ∧
    (∃ (s : State) (e f : Word) (k : Nat) (d : Word) (u : BitVec 8), (s.pwr.mainOn = true) ∧ (s.pair.held = some (k, d)) ∧ (s.compares = true) ∧ (s.get R.PAIR_STAT_MODE ≠ 3) ∧ (s.get R.PAIR_STAT_MODE ≠ 5) ∧ (s.get R.PAIR_STAT_FAULT = 0) ∧ (u.toNat ≤ 100) ∧ (e ≠ f) ∧ (s.besideSd0 = false) ∧ (k < 2 ^ 32)) ∧
    (∃ (s : State) (e f : Word) (k : Nat) (d : Word) (u : BitVec 8) (fl : Bool) (x : Fin 3), (s.pwr.mainOn = true) ∧ (s.pair.held = some (k, d)) ∧ (s.compares = true) ∧ (s.get R.PAIR_STAT_MODE ≠ 3) ∧ (s.get R.PAIR_STAT_MODE ≠ 5) ∧ (u.toNat ≤ 100) ∧ (e ≠ f) ∧ (s.besideSd0 = true) ∧ (x ≠ 2) ∧ (k < 1024 ∨ k % 1024 ≠ 0 ∨ fl = true)) ∧
    (∃ (s : State) (e f : Word) (k : Nat) (d : Word) (u : BitVec 8) (fl : Bool), (s.pwr.mainOn = true) ∧ (s.pair.held = some (k, d)) ∧ (s.compares = true) ∧ (s.get R.PAIR_STAT_MODE ≠ 3) ∧ (s.get R.PAIR_STAT_MODE ≠ 5) ∧ (s.get R.PAIR_STAT_FAULT = 0) ∧ (u.toNat ≤ 100) ∧ (e = f) ∧ (1024 ≤ k) ∧ (k % 1024 = 0) ∧ (fl = false) ∧ (k < 2 ^ 32)) ∧
    (∃ (s : State) (e f : Word) (k : Nat) (d : Word) (u : BitVec 8) (fl : Bool) (x : Fin 3), (s.pwr.mainOn = true) ∧ (s.pair.held = some (k, d)) ∧ (s.compares = true) ∧ (s.get R.PAIR_STAT_MODE ≠ 3) ∧ (s.get R.PAIR_STAT_MODE ≠ 5) ∧ (s.get R.PAIR_STAT_FAULT = 0) ∧ (u.toNat ≤ 100) ∧ (e = f) ∧ (x = 2) ∧ (k < 1024 ∨ k % 1024 ≠ 0 ∨ fl = true) ∧ (k < 2 ^ 32)) ∧
    (∃ (s : State) (k : Nat) (d : Word) (u : BitVec 8), (s.pwr.mainOn = true) ∧ (s.pair.held = some (k, d)) ∧ (s.compares = true) ∧ (s.get R.PAIR_STAT_MODE ≠ 3) ∧ (s.get R.PAIR_STAT_MODE ≠ 5) ∧ (s.get R.PAIR_STAT_FAULT = 0) ∧ (100 < u.toNat) ∧ (k < 2 ^ 32)) ∧
    (∃ (s : State) (e f : Word) (k : Nat) (d : Word) (u : BitVec 8) (fl : Bool) (x : Fin 3), (s.pwr.mainOn = true) ∧ (s.pair.held = some (k, d)) ∧ (s.compares = true) ∧ (s.get R.PAIR_STAT_MODE = 3) ∧ (s.get R.PAIR_STAT_FAULT = 0) ∧ (u.toNat ≤ 100) ∧ (e = f) ∧ (x = 0) ∧ (k < 1024 ∨ k % 1024 ≠ 0 ∨ fl = true) ∧ (1 ≤ s.pair.matched)) ∧
    (∃ (s : State), (s.pwr.mainOn = true) ∧ (s.pair.held = none ∨ s.compares = false)) ∧
    (∃ (s : State) (k : Nat) (d : Word), (s.pwr.mainOn = true) ∧ (s.pair.held = some (k, d)) ∧ (s.compares = true) ∧ (s.get R.PAIR_STAT_MODE ≠ 3) ∧ (s.get R.PAIR_STAT_MODE ≠ 5) ∧ (s.get R.PAIR_STAT_FAULT = 0) ∧ (k < 2 ^ 32)) ∧
    (∃ (s : State) (k : Nat) (d : Word), (s.pwr.mainOn = true) ∧ (s.pair.held = some (k, d)) ∧ (s.compares = true) ∧ (s.get R.PAIR_STAT_MODE = 3) ∧ (s.get R.PAIR_MODESTAT_ATTEMPTS < 2)) ∧
    (∃ (s : State), (s.pwr.mainOn = true) ∧ (s.pair.held = none ∨ s.compares = false ∨ s.get R.PAIR_STAT_MODE = 5)) ∧
    (∃ (s : State), (s.pwr.mainOn = true) ∧ (s.compares = true) ∧ (s.get R.PAIR_STAT_MODE ≠ 3) ∧ (s.get R.PAIR_STAT_MODE ≠ 5) ∧ (s.get R.PAIR_STAT_FAULT = 0)) ∧
    (∃ (s : State), (s.pwr.mainOn = true) ∧ (s.compares = true) ∧ (s.get R.PAIR_STAT_MODE = 3) ∧ (s.get R.PAIR_MODESTAT_ATTEMPTS < 2)) ∧
    (∃ (s : State), (s.pwr.mainOn = true) ∧ (s.compares = false ∨ s.get R.PAIR_STAT_MODE = 5)) ∧
    (∃ (s : State), (s.pwr.mainOn = true) ∧ (s.get R.PAIR_STAT_BACKSTOP = 1) ∧ (s.sio.gateHs ≠ 0#8 ∨ s.sio.gateLs ≠ 0#8)) ∧
    (∃ (s : State), (s.pwr.mainOn = true) ∧ (s.get R.PAIR_STAT_BACKSTOP = 1) ∧ (s.sio.gateHs = 0#8) ∧ (s.sio.gateLs = 0#8)) ∧
    (∃ (s : State), (s.pwr.mainOn = true) ∧ (s.get R.PAIR_STAT_BACKSTOP = 0)) ∧
    (∃ (s : State), (s.pwr.mainOn = true) ∧ (s.sio.gateHs = 0#8) ∧ (s.sio.gateLs = 0#8)) ∧
    (∃ (s : State), (s.pwr.mainOn = true) ∧ (s.sio.gateHs ≠ 0#8 ∨ s.sio.gateLs ≠ 0#8)) ∧
    (∃ (s : State) (g h : Fin 3), (s.pwr.mainOn = true) ∧ (s.stage = 0) ∧ (s.pwr.boardTest = false) ∧ (s.get R.PAIR_STAT_MODE = 0) ∧ (s.get R.PAIR_STAT_INJ_START_OK = 0) ∧ (g ≠ 2) ∧ (h ≠ 2)) ∧
    (∃ (s : State) (p : Option (Fin 64)) (g h : Fin 3), (s.pwr.mainOn = true) ∧ (s.stage = 0) ∧ (s.pwr.boardTest = false) ∧ (s.get R.PAIR_STAT_MODE = 0) ∧ (s.get R.PAIR_STAT_INJ_START_OK = 0) ∧ (p ≠ none ∨ g = 2 ∨ h = 2)) ∧
    (∃ (s : State), (s.pwr.mainOn = true) ∧ (s.stage ≠ 0 ∨ s.pwr.boardTest = true ∨ s.get R.PAIR_STAT_MODE ≠ 0 ∨ s.get R.PAIR_STAT_INJ_START_OK = 1)) :=
  ⟨⟨comparePairS, 7, 9#32, 100#8, by decide +kernel⟩,
   ⟨comparePairS, 5#32, 5#32, 7, 9#32, 100#8, false, 0, by decide +kernel⟩,
   ⟨comparePairS, 5#32, 6#32, 7, 9#32, 100#8, by decide +kernel⟩,
   ⟨compareSd0S, 5#32, 6#32, 7, 9#32, 100#8, false, 0, by decide +kernel⟩,
   ⟨compareInjS, 5#32, 5#32, 1024, 9#32, 0#8, false, by decide +kernel⟩,
   ⟨comparePairS, 5#32, 5#32, 7, 9#32, 0#8, false, 2, by decide +kernel⟩,
   ⟨comparePairS, 7, 9#32, 101#8, by decide +kernel⟩,
   ⟨rejoiningS, 5#32, 5#32, 7, 9#32, 100#8, false, 0, by decide +kernel⟩,
   ⟨onS [], by decide +kernel⟩,
   ⟨comparePairS, 7, 9#32, by decide +kernel⟩,
   ⟨rejoiningS, 7, 9#32, by decide +kernel⟩,
   ⟨onS [], by decide +kernel⟩,
   ⟨comparePairS, by decide +kernel⟩,
   ⟨rejoiningS, by decide +kernel⟩,
   ⟨onS [], by decide +kernel⟩,
   ⟨backstopS, by decide +kernel⟩,
   ⟨onS [(R.PAIR_STAT_BACKSTOP, 1)], by decide +kernel⟩,
   ⟨onS [], by decide +kernel⟩,
   ⟨onS [(R.PAIR_STAT_BACKSTOP, 1)], by decide +kernel⟩,
   ⟨backstopS, by decide +kernel⟩,
   ⟨onS [], 0, 1, by decide +kernel⟩,
   ⟨onS [], (some 63), 1, 2, by decide +kernel⟩,
   ⟨onS [(R.GLOBAL_STAGE_STAGE, 1)], by decide +kernel⟩⟩

theorem wit_PairModesAndChannels :
    (∃ (s : State), (s.pwr.mainOn = true) ∧ (1 ≤ s.stage) ∧ (s.host.perstHigh = true) ∧ (s.session = true)) ∧
    (∃ (s : State), (s.pwr.mainOn = true) ∧ (1 ≤ s.stage) ∧ (s.host.perstHigh = true) ∧ (s.session = true) ∧ (s.get R.PAIR_STAT_MODE = 2) ∧ (s.get R.PAIR_STAT_CAMPAIGN = 0)) ∧
    (∃ (s : State), (s.pwr.mainOn = true) ∧ (1 ≤ s.stage) ∧ (s.host.perstHigh = true) ∧ (s.session = true) ∧ (s.get R.PAIR_STAT_MODE = 2) ∧ (s.get R.PAIR_STAT_CAMPAIGN ≠ 0)) ∧
    (∃ (s : State), (s.pwr.mainOn = true) ∧ (1 ≤ s.stage) ∧ (s.host.perstHigh = true) ∧ (s.session = true) ∧ (s.get R.PAIR_STAT_MODE ≠ 2)) ∧
    (∃ (s : State), (s.pwr.mainOn = true) ∧ (s.get R.PAIR_STAT_MODE = 3)) ∧
    (∃ (s : State), (s.pwr.mainOn = true) ∧ (s.get R.PAIR_STAT_MODE ≠ 3)) ∧
    (∃ (s : State) (k : BitVec 3), (s.pwr.mainOn = true) ∧ (1 ≤ s.stage) ∧ (s.host.perstHigh = true) ∧ (s.session = true) ∧ (1 ≤ k.toNat) ∧ (k.toNat ≤ 4) ∧ (s.get R.PAIR_STAT_MODE = 2) ∧ (s.get R.PAIR_STAT_CAMPAIGN = 0)) ∧
    (∃ (s : State) (k : BitVec 3), (s.pwr.mainOn = true) ∧ (1 ≤ s.stage) ∧ (s.host.perstHigh = true) ∧ (s.session = true) ∧ (1 ≤ k.toNat) ∧ (k.toNat ≤ 4) ∧ (s.get R.PAIR_STAT_MODE ≠ 2 ∨ s.get R.PAIR_STAT_CAMPAIGN ≠ 0)) ∧
    (∃ (s : State) (k : BitVec 3), (s.pwr.mainOn = true) ∧ (1 ≤ s.stage) ∧ (s.host.perstHigh = true) ∧ (k = 0#3 ∨ 4 < k.toNat)) ∧
    (∃ (s : State), (s.pwr.mainOn = true) ∧ (s.get R.PAIR_STAT_CAMPAIGN ≠ 0)) ∧
    (∃ (s : State), (s.pwr.mainOn = true) ∧ (s.get R.PAIR_STAT_CAMPAIGN = 0)) ∧
    (∃ (s : State) (e : ReplayEntry) (l : List ReplayEntry), (s.pwr.mainOn = true) ∧ (s.pair.replay = e :: l) ∧ (l.length < 512)) ∧
    (∃ (s : State), (s.pwr.mainOn = true) ∧ (s.pair.replay = [])) ∧
    (∃ (s : State) (b : Fin 6), (s.pwr.mainOn = true) ∧ (b.val < 5) ∧ (s.tab.senseOn b.val = true) ∧ (s.lost b.val = false)) ∧
    (∃ (s : State) (b : Fin 6), (s.pwr.mainOn = true) ∧ (b.val = 5 ∨ s.tab.senseOn b.val = false ∨ s.lost b.val = true)) ∧
    (∃ (s : State), (s.pwr.mainOn = true) ∧ (s.tab.senseOn 5 = true) ∧ (s.lost 5 = false)) ∧
    (∃ (s : State), (s.pwr.mainOn = true) ∧ (s.tab.senseOn 5 = false ∨ s.lost 5 = true)) ∧
    (∃ (s : State) (m : Bool), (s.pwr.mainOn = true) ∧ (s.pair.hallMoves.length = 2) ∧ (m = false ∨ nth 0 s.pair.hallMoves (b2n s.pair.hallNext) < 2)) ∧
    (∃ (s : State), (s.pwr.mainOn = true) ∧ (2 ≤ nth 0 s.pair.hallMoves (b2n s.pair.hallNext)) ∧ (s.tab.senseOn 5 = false ∨ s.lost 5 = true)) ∧
    (∃ (s : State), (s.pwr.mainOn = true) ∧ (s.pair.hallMoves.length = 2) ∧ (2 ≤ nth 0 s.pair.hallMoves (b2n s.pair.hallNext)) ∧ (s.tab.senseOn 5 = true) ∧ (s.lost 5 = false)) ∧
    (∃ (s : State) (b : Fin 6), (s.pwr.mainOn = true) ∧ (s.lost b.val = true)) ∧
    (∃ (s : State) (b : Fin 6), (s.pwr.mainOn = true) ∧ (s.lost b.val = false)) :=
  ⟨⟨onS [(R.GLOBAL_STAGE_STAGE, 3), (R.IMG_STAT_SESSION, 1)], by decide +kernel⟩,
   ⟨onS [(R.GLOBAL_STAGE_STAGE, 3), (R.IMG_STAT_SESSION, 1), (R.PAIR_STAT_MODE, 2)], by decide +kernel⟩,
   ⟨onS [(R.GLOBAL_STAGE_STAGE, 3), (R.IMG_STAT_SESSION, 1), (R.PAIR_STAT_MODE, 2), (R.PAIR_STAT_CAMPAIGN, 4)], by decide +kernel⟩,
   ⟨onS [(R.GLOBAL_STAGE_STAGE, 3), (R.IMG_STAT_SESSION, 1)], by decide +kernel⟩,
   ⟨onS [(R.PAIR_STAT_MODE, 3)], by decide +kernel⟩,
   ⟨onS [], by decide +kernel⟩,
   ⟨onS [(R.GLOBAL_STAGE_STAGE, 3), (R.IMG_STAT_SESSION, 1), (R.PAIR_STAT_MODE, 2)], 4, by decide +kernel⟩,
   ⟨onS [(R.GLOBAL_STAGE_STAGE, 3), (R.IMG_STAT_SESSION, 1)], 4, by decide +kernel⟩,
   ⟨onS [(R.GLOBAL_STAGE_STAGE, 3)], 5, by decide +kernel⟩,
   ⟨onS [(R.PAIR_STAT_CAMPAIGN, 2)], by decide +kernel⟩,
   ⟨onS [], by decide +kernel⟩,
   ⟨replayS, { op := 1 }, [{ op := 2 }], by decide +kernel⟩,
   ⟨onS [], by decide +kernel⟩,
   ⟨secS 13 64 [] [], 4, by decide +kernel⟩,
   ⟨onS [], 4, by decide +kernel⟩,
   ⟨secS 13 64 [] [], by decide +kernel⟩,
   ⟨onS [], by decide +kernel⟩,
   ⟨onS [], true, by decide +kernel⟩,
   ⟨pairS (fun x => { x with hallMoves := [2, 0] }) (onS []), by decide +kernel⟩,
   ⟨hallS, by decide +kernel⟩,
   ⟨onS [(R.PAIR_CHAN_LOST, 63)], 5, by decide +kernel⟩,
   ⟨onS [], 5, by decide +kernel⟩⟩

theorem wit_PrechargeSequence :
    (∃ (s : State), (s.pwr.mainOn = true) ∧ (1 ≤ s.stage) ∧ (s.host.perstHigh = true)) ∧
    (∃ (s : State), (s.pwr.mainOn = true) ∧ (1 ≤ s.stage) ∧ (s.host.perstHigh = true)) ∧
    (∃ (s : State), (s.pwr.mainOn = true) ∧ (s.get R.CTR_STAT_PHASE = 3) ∧ (s.allClosed (s.tab.roleMask 2) = false)) ∧
    (∃ (s : State), (s.pwr.mainOn = true) ∧ (s.get R.CTR_STAT_PHASE = 4) ∧ (s.allClosed (s.tab.roleMask 3) = false)) ∧
    (∃ (s : State), (s.pwr.mainOn = true) ∧ (s.get R.CTR_STAT_PHASE = 5) ∧ (s.get R.CTR_STAT_PAIRS_ON &&& s.tab.roleMask 1 ≠ 0) ∧ (s.allClosed (s.tab.roleMask 1) = false)) ∧
    (∃ (s : State), (s.pwr.mainOn = true) ∧ (s.get R.CTR_STAT_PHASE = 6) ∧ (s.ctr.waitOk = true) ∧ (s.allOpen (s.tab.roleMask 3) = false)) ∧
    (∃ (s : State), (s.pwr.mainOn = true) ∧ (s.get R.CTR_STAT_PHASE = 3 → s.allClosed (s.tab.roleMask 2) = true) ∧ (s.get R.CTR_STAT_PHASE = 4 → s.allClosed (s.tab.roleMask 3) = true) ∧ (s.get R.CTR_STAT_PHASE = 5 → s.get R.CTR_STAT_PAIRS_ON &&& s.tab.roleMask 1 = 0 ∨ s.allClosed (s.tab.roleMask 1) = true) ∧ (s.get R.CTR_STAT_PHASE = 6 → s.ctr.waitOk = false ∨ s.allOpen (s.tab.roleMask 3) = true)) ∧
    (∃ (s : State), (s.pwr.mainOn = true) ∧ (s.get R.CTR_STAT_PHASE = 4) ∧ (s.ratioLt false (s.tab.sp8 0x61E) = true ∨ s.ratioLt true (s.tab.sp8 0x61E) = true)) ∧
    (∃ (s : State), (s.pwr.mainOn = true) ∧ (s.get R.CTR_STAT_PHASE ≠ 4 ∨ (s.ratioLt false (s.tab.sp8 0x61E) = false ∧ s.ratioLt true (s.tab.sp8 0x61E) = false))) ∧
    (∃ (s : State), (s.pwr.mainOn = true) ∧ (s.get R.CTR_STAT_PHASE = 4)) ∧
    (∃ (s : State), (s.pwr.mainOn = true) ∧ (s.get R.CTR_STAT_PHASE = 5) ∧ (s.tab.pcsPrecharge = true) ∧ (s.get R.CTR_STAT_PAIRS_ON &&& s.tab.roleMask 1 = 0)) ∧
    (∃ (s : State), (s.pwr.mainOn = true) ∧ (s.get R.CTR_STAT_PHASE ≠ 4) ∧ (s.get R.CTR_STAT_PHASE ≠ 5 ∨ s.tab.pcsPrecharge = false ∨ s.get R.CTR_STAT_PAIRS_ON &&& s.tab.roleMask 1 ≠ 0)) ∧
    (∃ (s : State), (s.pwr.mainOn = true) ∧ (s.get R.CTR_STAT_PHASE = 3) ∧ (s.tab.pcsPrecharge = true ∨ (s.linkHigh false = false ∧ s.linkHigh true = false))) ∧
    (∃ (s : State), (s.pwr.mainOn = true) ∧ (s.get R.CTR_STAT_PHASE = 3) ∧ (s.tab.pcsPrecharge = false) ∧ (s.linkHigh false = true ∨ s.linkHigh true = true)) ∧
    (∃ (s : State), (s.pwr.mainOn = true) ∧ (s.get R.CTR_STAT_PHASE ≠ 3)) ∧
    (∃ (s : State), (s.pwr.mainOn = true) ∧ (s.get R.CTR_STAT_PHASE = 6) ∧ (s.ctr.waitOk = false)) ∧
    (∃ (s : State), (s.pwr.mainOn = true) ∧ (s.get R.CTR_STAT_PHASE ≠ 6 ∨ s.ctr.waitOk = true)) ∧
    (∃ (s : State), (s.pwr.mainOn = true)) :=
  ⟨⟨onS [(R.GLOBAL_STAGE_STAGE, 3)], by decide +kernel⟩,
   ⟨onS [(R.GLOBAL_STAGE_STAGE, 3)], by decide +kernel⟩,
   ⟨roleS 2 3, by decide +kernel⟩,
   ⟨roleS 3 4, by decide +kernel⟩,
   ⟨roleOnS 1 5, by decide +kernel⟩,
   ⟨roleStuckS, by decide +kernel⟩,
   ⟨onS [(R.CTR_STAT_PHASE, 3)], by decide +kernel⟩,
   ⟨ratioS, by decide +kernel⟩,
   ⟨onS [(R.CTR_STAT_PHASE, 5)], by decide +kernel⟩,
   ⟨onS [(R.CTR_STAT_PHASE, 4)], by decide +kernel⟩,
   ⟨roleS 1 5, by decide +kernel⟩,
   ⟨onS [(R.CTR_STAT_PHASE, 6)], by decide +kernel⟩,
   ⟨onS [(R.CTR_STAT_PHASE, 3)], by decide +kernel⟩,
   ⟨linkHighS, by decide +kernel⟩,
   ⟨onS [], by decide +kernel⟩,
   ⟨roleS 3 6, by decide +kernel⟩,
   ⟨onS [], by decide +kernel⟩,
   ⟨onS [], by decide +kernel⟩⟩

theorem wit_StringsAndWelds :
    (∃ (s : State) (n : Fin 512), (s.pwr.mainOn = true) ∧ ((s.str n.val).state = 5) ∧ ((s.str n.val).aux.testBit 2 = true)) ∧
    (∃ (s : State) (n : Fin 512), (s.pwr.mainOn = true) ∧ (2 ≤ (s.str n.val).state) ∧ ((s.str n.val).state ≤ 4) ∧ ((s.str n.val).ackHere = true) ∧ ((s.str n.val).acked = s.want n.val) ∧ ((s.str n.val).aux &&& s.want n.val ≠ s.want n.val)) ∧
    (∃ (s : State) (n : Fin 512), (s.pwr.mainOn = true) ∧ ((s.str n.val).state = 5 → (s.str n.val).aux.testBit 2 = false) ∧ (2 ≤ (s.str n.val).state → (s.str n.val).state ≤ 4 → (s.str n.val).ackHere = false ∨ (s.str n.val).acked ≠ s.want n.val ∨ (s.str n.val).aux &&& s.want n.val = s.want n.val)) ∧
    (∃ (s : State) (n : Fin 512), (s.pwr.mainOn = true) ∧ ((s.str n.val).state = 3 ∨ ((s.str n.val).state = 2 ∧ s.tab.strPre n.val = false)) ∧ (s.joinOk n.val = false)) ∧
    (∃ (s : State) (n : Fin 512), (s.pwr.mainOn = true) ∧ (((s.str n.val).state ≠ 3 ∧ ((s.str n.val).state ≠ 2 ∨ s.tab.strPre n.val = true)) ∨ s.joinOk n.val = true)) ∧
    (∃ (s : State) (n : Fin 512), (s.pwr.mainOn = true) ∧ ((s.str n.val).state = 7) ∧ ((s.str n.val).aux = 0)) ∧
    (∃ (s : State) (n : Fin 512), (s.pwr.mainOn = true) ∧ ((s.str n.val).state = 7) ∧ ((s.str n.val).aux ≠ 0)) ∧
    (∃ (s : State) (n : Fin 512), (s.pwr.mainOn = true) ∧ ((s.str n.val).state ≠ 7)) ∧
    (∃ (s : State) (n : Fin 512), (s.pwr.mainOn = true) ∧ (1 ≤ s.stage) ∧ (s.host.perstHigh = true) ∧ ((s.safety ≠ 2 ∧ s.safety ≠ 4) ∨ ((s.str n.val).state ≠ 0 ∧ (s.str n.val).state ≠ 8) ∨ s.closable n.val = false ∨ s.ctr.joining ≠ none ∨ s.get R.PAIR_STAT_MODE ≠ 1)) ∧
    (∃ (s : State) (n : Fin 512), (s.pwr.mainOn = true) ∧ (1 ≤ s.stage) ∧ (s.host.perstHigh = true) ∧ (s.safety = 2 ∨ s.safety = 4) ∧ ((s.str n.val).state = 0 ∨ (s.str n.val).state = 8) ∧ (s.closable n.val = true) ∧ ((s.str n.val).aux = 0) ∧ (s.ctr.joining = none) ∧ (s.get R.PAIR_STAT_MODE = 1)) ∧
    (∃ (s : State) (n : Fin 512), (s.pwr.mainOn = true) ∧ (1 ≤ s.stage) ∧ (s.host.perstHigh = true) ∧ (s.safety = 2 ∨ s.safety = 4) ∧ ((s.str n.val).state = 0 ∨ (s.str n.val).state = 8) ∧ (s.closable n.val = true) ∧ ((s.str n.val).aux ≠ 0) ∧ (s.ctr.joining = none) ∧ (s.get R.PAIR_STAT_MODE = 1)) ∧
    (∃ (s : State), (s.pwr.mainOn = true) ∧ (1 ≤ s.stage) ∧ (s.host.perstHigh = true) ∧ (s.session = false)) ∧
    (∃ (s : State) (m : BitVec 8), (s.pwr.mainOn = true) ∧ (1 ≤ s.stage) ∧ (s.host.perstHigh = true) ∧ (s.session = true) ∧ (s.safety = 5 ∨ s.safety = 6) ∧ (m.toNat &&& s.get R.CTR_STAT_PAIR_WELD = 0)) ∧
    (∃ (s : State) (k : Fin 8), (s.pwr.mainOn = true) ∧ (1 ≤ s.stage) ∧ (s.host.perstHigh = true) ∧ (s.session = true) ∧ (s.safety = 5 ∨ s.safety = 6) ∧ (s.bit R.CTR_STAT_PAIR_WELD k.val = true) ∧ (s.ctr.freshP.getLsbD k.val = true ∨ s.allOpen (2 ^ k.val) = false ∨ s.linkLow false = false ∨ s.linkLow true = false)) ∧
    (∃ (s : State), (s.pwr.mainOn = true) ∧ (1 ≤ s.stage) ∧ (s.host.perstHigh = true) ∧ (s.session = true) ∧ (s.safety ≠ 5) ∧ (s.safety ≠ 6)) ∧
    (∃ (s : State) (k : Fin 8), (s.pwr.mainOn = true) ∧ (1 ≤ s.stage) ∧ (s.host.perstHigh = true) ∧ (s.session = true) ∧ (s.safety = 5 ∨ s.safety = 6) ∧ (s.bit R.CTR_STAT_PAIR_WELD k.val = true) ∧ (s.ctr.freshP.getLsbD k.val = false) ∧ (s.allOpen (2 ^ k.val) = true) ∧ (s.linkLow false = true) ∧ (s.linkLow true = true)) ∧
    (∃ (s : State), (s.pwr.mainOn = true) ∧ (1 ≤ s.stage) ∧ (s.host.perstHigh = true) ∧ (s.session = true) ∧ (s.safety ≠ 5) ∧ (s.safety ≠ 6)) ∧
    (∃ (s : State) (n : Fin 512), (s.pwr.mainOn = true) ∧ (1 ≤ s.stage) ∧ (s.host.perstHigh = true) ∧ (s.session = true) ∧ (s.safety = 5 ∨ s.safety = 6) ∧ ((s.str n.val).state = 9) ∧ (s.ctr.freshS.contains n.val = false) ∧ ((s.str n.val).valid = true) ∧ ((s.str n.val).aux = 0)) ∧
    (∃ (s : State) (n : Fin 512), (s.pwr.mainOn = true) ∧ (1 ≤ s.stage) ∧ (s.host.perstHigh = true) ∧ (s.session = true) ∧ (s.safety = 5 ∨ s.safety = 6) ∧ ((s.str n.val).state ≠ 9)) ∧
    (∃ (s : State) (n : Fin 512), (s.pwr.mainOn = true) ∧ (1 ≤ s.stage) ∧ (s.host.perstHigh = true) ∧ (s.session = true) ∧ (s.safety = 5 ∨ s.safety = 6) ∧ ((s.str n.val).state = 9) ∧ (s.ctr.freshS.contains n.val = true ∨ (s.str n.val).valid = false ∨ (s.str n.val).aux ≠ 0)) ∧
    (∃ (s : State), (s.pwr.mainOn = true) ∧ (1 ≤ s.stage) ∧ (s.host.perstHigh = true) ∧ (s.session = false)) :=
  ⟨⟨strS 511 { state := 5, contactor := 0x20#8 }, 511, by decide +kernel⟩,
   ⟨strS 511 { state := 2, ackHere := true, acked := 2 }, 511, by decide +kernel⟩,
   ⟨onS [], 511, by decide +kernel⟩,
   ⟨strS 511 { state := 3 }, 511, by decide +kernel⟩,
   ⟨onS [], 511, by decide +kernel⟩,
   ⟨strS 511 { state := 7 }, 511, by decide +kernel⟩,
   ⟨strS 511 { state := 7, contactor := 0x08#8 }, 511, by decide +kernel⟩,
   ⟨onS [], 511, by decide +kernel⟩,
   ⟨onS [(R.GLOBAL_STAGE_STAGE, 3)], 511, by decide +kernel⟩,
   ⟨joinS, 0, by decide +kernel⟩,
   ⟨joinAuxS, 0, by decide +kernel⟩,
   ⟨onS [(R.GLOBAL_STAGE_STAGE, 3)], by decide +kernel⟩,
   ⟨linkLowS, 1, by decide +kernel⟩,
   ⟨freshWeldS, 7, by decide +kernel⟩,
   ⟨onS [(R.GLOBAL_STAGE_STAGE, 3), (R.IMG_STAT_SESSION, 1)], by decide +kernel⟩,
   ⟨linkLowS, 7, by decide +kernel⟩,
   ⟨onS [(R.GLOBAL_STAGE_STAGE, 3), (R.IMG_STAT_SESSION, 1)], by decide +kernel⟩,
   ⟨weldStrS, 511, by decide +kernel⟩,
   ⟨weldStrS, 510, by decide +kernel⟩,
   ⟨weldStrKeptS, 511, by decide +kernel⟩,
   ⟨onS [(R.GLOBAL_STAGE_STAGE, 3)], by decide +kernel⟩⟩

theorem wit_DisconnectDecisions :
    (∃ (s : State) (b : Bool) (k : Fin 32), (s.pwr.mainOn = true) ∧ (sd0Codes.getLsbD k.val = true) ∧ (b = false ∨ s.alone = false)) ∧
    (∃ (s : State) (b : Bool) (k : Fin 32), (s.pwr.mainOn = true) ∧ (sd0Codes.getLsbD k.val = false ∨ (b = true ∧ s.alone = true))) ∧
    (∃ (s : State) (b : Bool), (s.pwr.mainOn = true) ∧ (s.chanOk (if b then 5 else 0) = true) ∧ (b = false ∨ s.alone = false)) ∧
    (∃ (s : State) (b : Bool), (s.pwr.mainOn = true) ∧ (s.chanOk (if b then 5 else 0) = false ∨ (b = true ∧ s.alone = true))) ∧
    (∃ (s : State) (v : Bool), (s.pwr.mainOn = true) ∧ (s.alone = false) ∧ ((if v then s.voltagesApart else s.currentsApart) = true)) ∧
    (∃ (s : State) (v : Bool), (s.pwr.mainOn = true) ∧ (s.alone = true ∨ (if v then s.voltagesApart else s.currentsApart) = false)) ∧
    (∃ (s : State), (s.pwr.mainOn = true) ∧ (s.safety ≠ 3 ∨ s.get R.DSC_STATE_SD_KIND ≠ 1 ∨ s.dsc.coilsOff = true)) ∧
    (∃ (s : State) (b : Bool) (a : Word), (s.pwr.mainOn = true) ∧ (s.safety = 3) ∧ (s.get R.DSC_STATE_SD_KIND = 1) ∧ (s.dsc.coilsOff = false) ∧ (s.dsc.envN.length = 2) ∧ (s.dsc.envAbove.length = 2) ∧ ((s.envelope (if b then s.dsc.i0B else s.dsc.i0A) (nth 0 s.dsc.envN (b2n b) + 1)).lt (Q.ofFp a).abs = false) ∧ (s.tab.sp8 0x435 ≠ 0)) ∧
    (∃ (s : State) (b : Bool) (a : Word), (s.pwr.mainOn = true) ∧ (s.safety = 3) ∧ (s.get R.DSC_STATE_SD_KIND = 1) ∧ (s.dsc.coilsOff = false) ∧ (s.dsc.envN.length = 2) ∧ (s.dsc.envAbove.length = 2) ∧ ((s.envelope (if b then s.dsc.i0B else s.dsc.i0A) (nth 0 s.dsc.envN (b2n b) + 1)).lt (Q.ofFp a).abs = true) ∧ (nth 0 s.dsc.envAbove (b2n b) + 1 ≠ 10 * s.tab.sp8 0x435)) ∧
    (∃ (s : State) (b : Bool) (a : Word), (s.pwr.mainOn = true) ∧ (s.safety = 3) ∧ (s.get R.DSC_STATE_SD_KIND = 1) ∧ (s.dsc.coilsOff = false) ∧ (s.dsc.envAbove.length = 2) ∧ ((s.envelope (if b then s.dsc.i0B else s.dsc.i0A) (nth 0 s.dsc.envN (b2n b) + 1)).lt (Q.ofFp a).abs = true) ∧ (nth 0 s.dsc.envAbove (b2n b) + 1 = 10 * s.tab.sp8 0x435)) ∧
    (∃ (s : State), (s.pwr.mainOn = true) ∧ (s.safety = 3) ∧ (s.dsc.coilsOff = false) ∧ (s.curOf false = none ∨ s.curOf true = none)) ∧
    (∃ (s : State) (x y : Q), (s.pwr.mainOn = true) ∧ (s.curOf false = some x) ∧ (s.curOf true = some y) ∧ (x.abs.le (s.tab.spQ 0x400) = false ∨ y.abs.le (s.tab.spQ 0x400) = false)) ∧
    (∃ (s : State), (s.pwr.mainOn = true) ∧ (s.safety ≠ 3 ∨ s.dsc.coilsOff = true)) ∧
    (∃ (s : State) (x y : Q), (s.pwr.mainOn = true) ∧ (s.safety = 3) ∧ (s.dsc.coilsOff = false) ∧ (s.curOf false = some x) ∧ (s.curOf true = some y) ∧ (x.abs.le (s.tab.spQ 0x400) = true) ∧ (y.abs.le (s.tab.spQ 0x400) = true)) ∧
    (∃ (s : State), (s.pwr.mainOn = true) ∧ (s.safety = 3) ∧ (s.dsc.coilsOff = false)) ∧
    (∃ (s : State), (s.pwr.mainOn = true) ∧ (s.safety ≠ 3 ∨ s.dsc.coilsOff = true)) ∧
    (∃ (s : State), (s.pwr.mainOn = true) ∧ (s.get R.DSC_STATE_VERIFY = 1) ∧ (s.openingOk = true)) ∧
    (∃ (s : State), (s.pwr.mainOn = true) ∧ (s.get R.DSC_STATE_VERIFY = 1) ∧ (s.openingOk = false)) ∧
    (∃ (s : State), (s.pwr.mainOn = true) ∧ (s.get R.DSC_STATE_VERIFY ≠ 1)) ∧
    (∃ (s : State) (h : Fin 3) (a : Word), (s.pwr.mainOn = true) ∧ (s.safety = 2 ∨ s.safety = 4) ∧ ((s.allowedCurrent (2 * h.val + (if (Q.ofFp a).num < 0 then 0 else 1))).lt (Q.ofFp a).abs = true)) ∧
    (∃ (s : State) (h : Fin 3) (a : Word), (s.pwr.mainOn = true) ∧ ((s.safety ≠ 2 ∧ s.safety ≠ 4) ∨ (s.allowedCurrent (2 * h.val + (if (Q.ofFp a).num < 0 then 0 else 1))).lt (Q.ofFp a).abs = false)) :=
  ⟨⟨onS [(R.GLOBAL_STAGE_STAGE, 3)], true, 0x10, by decide +kernel⟩,
   ⟨onS [], true, 2, by decide +kernel⟩,
   ⟨secS 13 64 [] [], true, by decide +kernel⟩,
   ⟨onS [], true, by decide +kernel⟩,
   ⟨apartS, false, by decide +kernel⟩,
   ⟨onS [], false, by decide +kernel⟩,
   ⟨onS [], by decide +kernel⟩,
   ⟨envS, true, 0#32, by decide +kernel⟩,
   ⟨envS, true, 0x43480000#32, by decide +kernel⟩,
   ⟨envLastS, true, 0x43480000#32, by decide +kernel⟩,
   ⟨onS [(R.DSC_STATE_STATE, 3)], by decide +kernel⟩,
   ⟨breakHighS, (Q.ofFp 0x43480000#32), (Q.ofFp 0x43480000#32), by decide +kernel⟩,
   ⟨onS [], by decide +kernel⟩,
   ⟨breakS, (Q.ofFp 0#32), (Q.ofFp 0#32), by decide +kernel⟩,
   ⟨onS [(R.DSC_STATE_STATE, 3), (R.CTR_STAT_PAIRS_ON, 3)], by decide +kernel⟩,
   ⟨onS [], by decide +kernel⟩,
   ⟨onS [(R.DSC_STATE_VERIFY, 1)], by decide +kernel⟩,
   ⟨verifyS, by decide +kernel⟩,
   ⟨onS [], by decide +kernel⟩,
   ⟨followS, 2, 0x43480000#32, by decide +kernel⟩,
   ⟨followS, 2, 0#32, by decide +kernel⟩⟩

theorem wit_DisconnectRequestsAndLehr :
    (∃ (s : State), (s.pwr.mainOn = true) ∧ (1 ≤ s.stage) ∧ (s.host.perstHigh = true) ∧ (s.safety = 1 ∨ s.safety = 2 ∨ s.safety = 4)) ∧
    (∃ (s : State), (s.pwr.mainOn = true) ∧ (s.safety ≠ 1) ∧ (s.safety ≠ 2) ∧ (s.safety ≠ 4)) ∧
    (∃ (s : State), (s.pwr.mainOn = true) ∧ (1 ≤ s.stage) ∧ (s.host.perstHigh = true)) ∧
    (∃ (s : State), (s.pwr.mainOn = true) ∧ (1 ≤ s.stage) ∧ (s.host.perstHigh = true)) ∧
    (∃ (s : State), (s.pwr.mainOn = true) ∧ (1 ≤ s.stage) ∧ (s.host.perstHigh = true) ∧ (s.session = true)) ∧
    (∃ (s : State), (s.pwr.mainOn = true) ∧ (1 ≤ s.stage) ∧ (s.host.perstHigh = true) ∧ (s.session = false)) ∧
    (∃ (s : State), (s.pwr.mainOn = true) ∧ (1 ≤ s.stage) ∧ (s.host.perstHigh = true) ∧ (s.session = true)) ∧
    (∃ (s : State), (s.pwr.mainOn = true) ∧ (1 ≤ s.stage) ∧ (s.host.perstHigh = true) ∧ (s.session = false)) ∧
    (∃ (s : State), (s.pwr.mainOn = true) ∧ (1 ≤ s.stage) ∧ (s.host.perstHigh = true) ∧ (s.session = true)) ∧
    (∃ (s : State) (n : Fin 512), (s.pwr.mainOn = true) ∧ (1 ≤ s.stage) ∧ (s.host.perstHigh = true) ∧ (s.session = true) ∧ (s.excluded n.val = true) ∧ (s.strCut n.val = false) ∧ (s.strRegionOut n.val = false)) ∧
    (∃ (s : State) (n : Fin 512), (s.pwr.mainOn = true) ∧ (1 ≤ s.stage) ∧ (s.host.perstHigh = true) ∧ (s.session = true) ∧ (s.excluded n.val = true) ∧ (s.strCut n.val = true ∨ s.strRegionOut n.val = true)) ∧
    (∃ (s : State), (s.pwr.mainOn = true) ∧ (1 ≤ s.stage) ∧ (s.host.perstHigh = true) ∧ (s.session = false)) ∧
    (∃ (s : State), (s.pwr.mainOn = true) ∧ (1 ≤ s.stage) ∧ (s.host.perstHigh = true) ∧ (s.session = false)) ∧
    (∃ (s : State) (n : Fin 512), (s.pwr.mainOn = true) ∧ (1 ≤ s.stage) ∧ (s.host.perstHigh = true) ∧ (s.session = true) ∧ (s.excluded n.val = false)) ∧
    (∃ (s : State), (s.pwr.mainOn = true) ∧ (s.safety = 4) ∧ (s.onlyProof = false)) ∧
    (∃ (s : State), (s.pwr.mainOn = true) ∧ (s.safety ≠ 4 ∨ s.onlyProof = true)) ∧
    (∃ (s : State), (s.pwr.mainOn = true) ∧ (s.safety = 4) ∧ (s.onlyProof = false) ∧ (s.dsc.allowed < 2048)) ∧
    (∃ (s : State), (s.pwr.mainOn = true) ∧ (s.safety ≠ 4 ∨ s.onlyProof = true)) ∧
    (∃ (s : State), (s.pwr.mainOn = true) ∧ (s.safety = 4) ∧ (s.dsc.lehr = [])) ∧
    (∃ (s : State), (s.pwr.mainOn = true) ∧ (s.safety ≠ 4 ∨ s.dsc.lehr ≠ [])) :=
  ⟨⟨onS [(R.GLOBAL_STAGE_STAGE, 3), (R.DSC_STATE_STATE, 2)], by decide +kernel⟩,
   ⟨onS [(R.GLOBAL_STAGE_STAGE, 3)], by decide +kernel⟩,
   ⟨onS [(R.GLOBAL_STAGE_STAGE, 3)], by decide +kernel⟩,
   ⟨onS [(R.GLOBAL_STAGE_STAGE, 3)], by decide +kernel⟩,
   ⟨onS [(R.GLOBAL_STAGE_STAGE, 3), (R.IMG_STAT_SESSION, 1)], by decide +kernel⟩,
   ⟨onS [(R.GLOBAL_STAGE_STAGE, 3)], by decide +kernel⟩,
   ⟨onS [(R.GLOBAL_STAGE_STAGE, 3), (R.IMG_STAT_SESSION, 1)], by decide +kernel⟩,
   ⟨onS [(R.GLOBAL_STAGE_STAGE, 3)], by decide +kernel⟩,
   ⟨onS [(R.GLOBAL_STAGE_STAGE, 3), (R.IMG_STAT_SESSION, 1)], by decide +kernel⟩,
   ⟨onS [(R.GLOBAL_STAGE_STAGE, 3), (R.IMG_STAT_SESSION, 1), (R.DSC_EXCL 15, 0x80000000)], 511, by decide +kernel⟩,
   ⟨cutStrS, 0, by decide +kernel⟩,
   ⟨onS [(R.GLOBAL_STAGE_STAGE, 3)], by decide +kernel⟩,
   ⟨onS [(R.GLOBAL_STAGE_STAGE, 3)], by decide +kernel⟩,
   ⟨onS [(R.GLOBAL_STAGE_STAGE, 3), (R.IMG_STAT_SESSION, 1)], 511, by decide +kernel⟩,
   ⟨lehrS, by decide +kernel⟩,
   ⟨onS [], by decide +kernel⟩,
   ⟨lehrS, by decide +kernel⟩,
   ⟨onS [], by decide +kernel⟩,
   ⟨onS [(R.DSC_STATE_STATE, 4)], by decide +kernel⟩,
   ⟨lehrS, by decide +kernel⟩⟩

theorem wit_SafeFrameConnections :
    (∃ (s : State), (s.pwr.mainOn = true) ∧ (s.stage = 0)) ∧
    (∃ (s : State) (m : Fin 4) (i : Word) (p : BitVec 16), (s.pwr.mainOn = true) ∧ (1 ≤ s.stage) ∧ (s.matchConn m.val i.toNat p.toNat = none) ∧ (2 ≤ m.val ∨ s.tab.hostOn m.val = false ∨ s.tab.canFilter m.val i.toNat = false)) ∧
    (∃ (s : State) (m : Fin 4) (i : Word) (p : BitVec 16), (s.pwr.mainOn = true) ∧ (1 ≤ s.stage) ∧ (s.matchConn m.val i.toNat p.toNat = none) ∧ (m.val < 2) ∧ (s.tab.hostOn m.val = true) ∧ (s.tab.canFilter m.val i.toNat = true)) ∧
    (∃ (s : State) (m : Fin 4) (i : Word) (p : BitVec 16) (d sm : Bool) (b : List Byte) (n : Nat), (s.pwr.mainOn = true) ∧ (1 ≤ s.stage) ∧ (s.matchConn m.val i.toNat p.toNat = some n) ∧ (d = true) ∧ (sm = true) ∧ (b.length = 48)) ∧
    (∃ (s : State) (m : Fin 4) (i : Word) (p : BitVec 16) (d sm : Bool) (b : List Byte) (n : Nat), (s.pwr.mainOn = true) ∧ (1 ≤ s.stage) ∧ (s.matchConn m.val i.toNat p.toNat = some n) ∧ (d = false ∨ sm = false ∨ b.length ≠ 48)) ∧
    (∃ (s : State) (n : Fin 16), (s.pwr.mainOn = true) ∧ (s.get (R.SFL_C_STAT_STATE n.val) = 1)) ∧
    (∃ (s : State) (n : Fin 16), (s.pwr.mainOn = true) ∧ (s.get (R.SFL_C_STAT_STATE n.val) ≠ 1)) ∧
    (∃ (s : State) (n : Fin 16), (s.pwr.mainOn = true) ∧ (s.get (R.SFL_C_STAT_STATE n.val) = 2) ∧ (s.wdDue n.val = true)) ∧
    (∃ (s : State) (n : Fin 16), (s.pwr.mainOn = true) ∧ (s.get (R.SFL_C_STAT_STATE n.val) ≠ 2 ∨ s.wdDue n.val = false)) :=
  ⟨⟨onS [], by decide +kernel⟩,
   ⟨onS [(R.GLOBAL_STAGE_STAGE, 3)], 3, 0xFFFFFFFF#32, 0, by decide +kernel⟩,
   ⟨macS 3, 1, 0#32, 0, by decide +kernel⟩,
   ⟨connS, 0, 0x70#32, 0, true, true, (List.replicate 48 0#8), 15, by decide +kernel⟩,
   ⟨connS, 0, 0x70#32, 0, true, true, (List.replicate 47 0#8), 15, by decide +kernel⟩,
   ⟨onS [(R.SFL_C_STAT_STATE 15, 1)], 15, by decide +kernel⟩,
   ⟨onS [], 15, by decide +kernel⟩,
   ⟨connUpS, 15, by decide +kernel⟩,
   ⟨onS [(R.SFL_C_STAT_STATE 15, 1)], 15, by decide +kernel⟩⟩

theorem wit_RingControl :
    (∃ (s : State) (n : Fin 64) (v : BitVec 16), (s.pwr.mainOn = true) ∧ (1 ≤ s.stage) ∧ (s.host.perstHigh = true) ∧ ((v.toNat + 65536 - s.get (R.RING_HEAD_HEAD n.val)) % 65536 ≤ 2 ^ s.get (R.RING_SIZE_LOG2 n.val))) ∧
    (∃ (s : State) (n : Fin 64) (v : BitVec 16), (s.pwr.mainOn = true) ∧ (1 ≤ s.stage) ∧ (s.host.perstHigh = true) ∧ (2 ^ s.get (R.RING_SIZE_LOG2 n.val) < (v.toNat + 65536 - s.get (R.RING_HEAD_HEAD n.val)) % 65536)) ∧
    (∃ (s : State) (n : Fin 64), (s.pwr.mainOn = true) ∧ (1 ≤ s.stage) ∧ (s.host.perstHigh = true) ∧ (s.get (R.RING_CTRL_ENABLE n.val) = 0)) ∧
    (∃ (s : State) (n : Fin 64), (s.pwr.mainOn = true) ∧ (1 ≤ s.stage) ∧ (s.host.perstHigh = true) ∧ (s.get (R.RING_CTRL_ENABLE n.val) = 1)) ∧
    (∃ (s : State) (n : Fin 64) (a : Bool), (s.pwr.mainOn = true) ∧ (1 ≤ s.stage) ∧ (s.host.perstHigh = true) ∧ (s.get (R.RING_CTRL_ENABLE n.val) = b2n a)) ∧
    (∃ (s : State) (n : Fin 64), (s.pwr.mainOn = true) ∧ (1 ≤ s.stage) ∧ (s.host.perstHigh = true) ∧ (s.ringRuns n.val = true) ∧ (s.get (R.RING_CTRL_ENABLE n.val) = 0)) ∧
    (∃ (s : State) (n : Fin 64), (s.pwr.mainOn = true) ∧ (1 ≤ s.stage) ∧ (s.host.perstHigh = true) ∧ (s.ringRuns n.val = true) ∧ (s.get (R.RING_CTRL_ENABLE n.val) = 1)) ∧
    (∃ (s : State) (n : Fin 64), (s.pwr.mainOn = true) ∧ (1 ≤ s.stage) ∧ (s.host.perstHigh = true) ∧ (s.ringRuns n.val = false) ∧ (s.get (R.RING_CTRL_ENABLE n.val) = 1)) ∧
    (∃ (s : State) (n : Fin 64), (s.pwr.mainOn = true) ∧ (1 ≤ s.stage) ∧ (s.host.perstHigh = true) ∧ (s.ringRuns n.val = false) ∧ (s.get (R.RING_CTRL_ENABLE n.val) = 0)) ∧
    (∃ (s : State) (n : Fin 64), (s.pwr.mainOn = true) ∧ (s.ringRuns n.val = true)) ∧
    (∃ (s : State) (n : Fin 64), (s.pwr.mainOn = true) ∧ (s.ringRuns n.val = true) ∧ (s.ringType n.val ≠ 5 ∨ s.get R.IMG_UPD_RING ≠ n.val ∨ s.get R.IMG_STAT_UPD_STATE < 1 ∨ 3 < s.get R.IMG_STAT_UPD_STATE)) ∧
    (∃ (s : State) (n : Fin 64), (s.pwr.mainOn = true) ∧ (s.ringRuns n.val = true) ∧ (s.ringType n.val = 5) ∧ (s.get R.IMG_UPD_RING = n.val) ∧ (1 ≤ s.get R.IMG_STAT_UPD_STATE) ∧ (s.get R.IMG_STAT_UPD_STATE ≤ 3)) ∧
    (∃ (s : State) (n : Fin 64), (s.pwr.mainOn = true) ∧ (s.ringRuns n.val = false)) ∧
    (∃ (s : State) (n : Fin 64) (ctl : Word), (s.pwr.mainOn = true) ∧ (s.cmdReady n.val = true) ∧ (opOf ctl ≠ 0x10) ∧ (opOf ctl ≠ 0x11) ∧ (opOf ctl ≠ 0x20)) ∧
    (∃ (s : State) (n : Fin 64) (ctl : Word), (s.pwr.mainOn = true) ∧ (s.cmdReady n.val = false ∨ opOf ctl = 0x10 ∨ opOf ctl = 0x11 ∨ opOf ctl = 0x20)) ∧
    (∃ (s : State) (n : Fin 64), (s.pwr.mainOn = true) ∧ ((s.ring_ n.val).holdoff = true) ∧ ((s.ring_ n.val).owed = true) ∧ (s.get (R.RING_CTRL_INT_EN n.val) = 1) ∧ (s.get (R.MSIX_VCTRL_MASKED n.val) = 0) ∧ (s.host.linkUp = true) ∧ (s.host.busMaster = true)) ∧
    (∃ (s : State) (n : Fin 64), (s.pwr.mainOn = true) ∧ ((s.ring_ n.val).holdoff = true) ∧ ((s.ring_ n.val).owed = true) ∧ (s.get (R.RING_CTRL_INT_EN n.val) = 1) ∧ (s.get (R.MSIX_VCTRL_MASKED n.val) = 1 ∨ s.host.linkUp = false ∨ s.host.busMaster = false)) ∧
    (∃ (s : State) (n : Fin 64), (s.pwr.mainOn = true) ∧ ((s.ring_ n.val).holdoff = true) ∧ ((s.ring_ n.val).owed = true) ∧ (s.get (R.RING_CTRL_INT_EN n.val) = 0)) ∧
    (∃ (s : State) (n : Fin 64), (s.pwr.mainOn = true) ∧ ((s.ring_ n.val).holdoff = false ∨ (s.ring_ n.val).owed = false)) :=
  ⟨⟨onS [(R.GLOBAL_STAGE_STAGE, 4), (R.RING_SIZE_LOG2 63, 4)], 63, 16, by decide +kernel⟩,
   ⟨onS [(R.GLOBAL_STAGE_STAGE, 4), (R.RING_SIZE_LOG2 63, 4)], 63, 17, by decide +kernel⟩,
   ⟨ringS [(R.RING_CTRL_ENABLE 63, 0)], 63, by decide +kernel⟩,
   ⟨ringS [], 63, by decide +kernel⟩,
   ⟨ringS [], 63, true, by decide +kernel⟩,
   ⟨ringS [(R.RING_TAIL_TAIL 63, 3), (R.RING_CTRL_ENABLE 63, 0)], 63, by decide +kernel⟩,
   ⟨ringS [(R.RING_TAIL_TAIL 63, 3)], 63, by decide +kernel⟩,
   ⟨ringS [(R.GLOBAL_STAGE_STAGE, 3)], 63, by decide +kernel⟩,
   ⟨ringS [(R.GLOBAL_STAGE_STAGE, 3), (R.RING_CTRL_ENABLE 63, 0)], 63, by decide +kernel⟩,
   ⟨ringS [], 63, by decide +kernel⟩,
   ⟨ringS [(R.RING_STAT_TYPE 63, 5), (R.IMG_UPD_RING, 63), (R.IMG_STAT_UPD_STATE, 4)], 63, by decide +kernel⟩,
   ⟨ringS [(R.RING_STAT_TYPE 63, 5), (R.IMG_UPD_RING, 63), (R.IMG_STAT_UPD_STATE, 3)], 63, by decide +kernel⟩,
   ⟨ringS [(R.RING_STAT_STATE 63, 3)], 63, by decide +kernel⟩,
   ⟨ringS [(R.RING_TAIL_TAIL 63, 1), (R.RING_STAT_TYPE 63, 1)], 63, 1#32, by decide +kernel⟩,
   ⟨ringS [(R.RING_STAT_TYPE 63, 1)], 63, 1#32, by decide +kernel⟩,
   ⟨owedS true, 63, by decide +kernel⟩,
   ⟨(owedS true).put (R.MSIX_VCTRL_MASKED 63) 1, 63, by decide +kernel⟩,
   ⟨(owedS true).put (R.RING_CTRL_INT_EN 63) 0, 63, by decide +kernel⟩,
   ⟨owedS false, 63, by decide +kernel⟩⟩

theorem wit_RingCommands :
    (∃ (s : State) (n : Fin 64) (ctl : Word) (k h : BitVec 8) (a : BitVec 16) (m : BitVec 8), (s.pwr.mainOn = true) ∧ (s.cmdReady n.val = true) ∧ (opOf ctl = 0x10) ∧ (s.badParam k.toNat h.toNat a.toNat m.toNat = true)) ∧
    (∃ (s : State) (n : Fin 64) (ctl : Word) (k h : BitVec 8) (a : BitVec 16) (m : BitVec 8), (s.pwr.mainOn = true) ∧ (s.cmdReady n.val = true) ∧ (opOf ctl = 0x10) ∧ (s.badParam k.toNat h.toNat a.toNat m.toNat = false) ∧ (s.noNode k.toNat (h.toNat - 1) = true)) ∧
    (∃ (s : State) (n : Fin 64) (ctl : Word) (k h : BitVec 8) (a : BitVec 16) (m : BitVec 8), (s.pwr.mainOn = true) ∧ (s.cmdReady n.val = true) ∧ (opOf ctl = 0x10) ∧ (s.badParam k.toNat h.toNat a.toNat m.toNat = false) ∧ (s.noNode k.toNat (h.toNat - 1) = false)) ∧
    (∃ (s : State) (n : Fin 64) (ctl : Word), (s.pwr.mainOn = true) ∧ (s.cmdReady n.val = false ∨ opOf ctl ≠ 0x10)) ∧
    (∃ (s : State) (n : Fin 64) (ctl : Word) (k h : BitVec 8) (a : BitVec 16) (m : BitVec 8), (s.pwr.mainOn = true) ∧ (s.cmdReady n.val = true) ∧ (opOf ctl = 0x11) ∧ (s.badParam k.toNat h.toNat a.toNat m.toNat = true)) ∧
    (∃ (s : State) (n : Fin 64) (ctl : Word) (k h : BitVec 8) (a : BitVec 16) (m : BitVec 8), (s.pwr.mainOn = true) ∧ (s.cmdReady n.val = true) ∧ (opOf ctl = 0x11) ∧ (s.badParam k.toNat h.toNat a.toNat m.toNat = false) ∧ (s.session = false)) ∧
    (∃ (s : State) (n : Fin 64) (ctl : Word) (k h : BitVec 8) (a : BitVec 16) (m : BitVec 8), (s.pwr.mainOn = true) ∧ (s.cmdReady n.val = true) ∧ (opOf ctl = 0x11) ∧ (s.badParam k.toNat h.toNat a.toNat m.toNat = false) ∧ (s.session = true) ∧ ((List.range m.toNat).all (fun j => s.hostWord k.toNat (h.toNat - 1) (a.toNat + j)) = false)) ∧
    (∃ (s : State) (n : Fin 64) (ctl : Word) (k h : BitVec 8) (a : BitVec 16) (m : BitVec 8), (s.pwr.mainOn = true) ∧ (s.cmdReady n.val = true) ∧ (opOf ctl = 0x11) ∧ (s.badParam k.toNat h.toNat a.toNat m.toNat = false) ∧ (s.session = true) ∧ ((List.range m.toNat).all (fun j => s.hostWord k.toNat (h.toNat - 1) (a.toNat + j)) = true) ∧ (s.noNode k.toNat (h.toNat - 1) = true)) ∧
    (∃ (s : State) (n : Fin 64) (ctl : Word) (k h : BitVec 8) (a : BitVec 16) (m : BitVec 8), (s.pwr.mainOn = true) ∧ (s.cmdReady n.val = true) ∧ (opOf ctl = 0x11) ∧ (s.badParam k.toNat h.toNat a.toNat m.toNat = false) ∧ (s.session = true) ∧ ((List.range m.toNat).all (fun j => s.hostWord k.toNat (h.toNat - 1) (a.toNat + j)) = true) ∧ (s.noNode k.toNat (h.toNat - 1) = false)) ∧
    (∃ (s : State) (n : Fin 64) (ctl : Word), (s.pwr.mainOn = true) ∧ (s.cmdReady n.val = false ∨ opOf ctl ≠ 0x11)) ∧
    (∃ (s : State) (n : Fin 64) (x : NodeCmd), (s.pwr.mainOn = true) ∧ ((s.ring_ n.val).node = some x) ∧ (s.ringReady n.val 1 = true)) ∧
    (∃ (s : State) (n : Fin 64), (s.pwr.mainOn = true) ∧ ((s.ring_ n.val).node = none ∨ s.ringReady n.val 1 = false)) ∧
    (∃ (s : State) (n : Fin 64) (ctl : Word), (s.pwr.mainOn = true) ∧ (s.cmdReady n.val = true) ∧ (opOf ctl = 0x20)) ∧
    (∃ (s : State) (n : Fin 64) (ctl : Word), (s.pwr.mainOn = true) ∧ (s.cmdReady n.val = false ∨ opOf ctl ≠ 0x20)) ∧
    (∃ (s : State) (n : Fin 64), (s.pwr.mainOn = true) ∧ (s.ringReady n.val 3 = true) ∧ (s.nextRecord ((s.ring_ n.val).pos.getD s.log.startSeq) (s.tab.ringClass n.val) = none)) ∧
    (∃ (s : State) (n : Fin 64), (s.pwr.mainOn = true) ∧ (s.ringReady n.val 3 = false)) ∧
    (∃ (s : State) (n : Fin 64) (r : LogRec), (s.pwr.mainOn = true) ∧ (s.ringReady n.val 3 = true) ∧ ((s.ring_ n.val).pos = some r.seq) ∧ (s.nextRecord r.seq (s.tab.ringClass n.val) = some r)) ∧
    (∃ (s : State) (n : Fin 64) (r : LogRec), (s.pwr.mainOn = true) ∧ (s.ringReady n.val 3 = true) ∧ (s.nextRecord ((s.ring_ n.val).pos.getD s.log.startSeq) (s.tab.ringClass n.val) = some r)) ∧
    (∃ (s : State) (n : Fin 64) (r : LogRec) (p : Word), (s.pwr.mainOn = true) ∧ (s.ringReady n.val 3 = true) ∧ ((s.ring_ n.val).pos = some p) ∧ (s.nextRecord p (s.tab.ringClass n.val) = some r) ∧ (s.log.held.length = 1) ∧ (r.seq ≠ p)) ∧
    (∃ (s : State) (n : Fin 64) (d : BitVec 64) (m : Word) (p : BitVec 8) (o : BitVec 64), (s.pwr.mainOn = true) ∧ (s.ringReady n.val 4 = true) ∧ (d.toNat % 8 = 0) ∧ (8 ≤ m.toNat) ∧ (m.toNat ≤ 4194304) ∧ (m.toNat % 8 = 0) ∧ (p = 0#8) ∧ (o.toNat % 8 = 0) ∧ (o.toNat + m.toNat ≤ 0x4000000)) ∧
    (∃ (s : State) (n : Fin 64) (d : BitVec 64) (m : Word) (p : BitVec 8) (o : BitVec 64), (s.pwr.mainOn = true) ∧ (s.ringReady n.val 4 = true) ∧ (d.toNat % 8 ≠ 0 ∨ m.toNat < 8 ∨ 4194304 < m.toNat ∨ m.toNat % 8 ≠ 0 ∨ 1 < p.toNat ∨ o.toNat % 8 ≠ 0 ∨ (p = 0#8 ∧ 0x4000000 < o.toNat + m.toNat) ∨ (p = 1#8 ∧ 32 * allSlots < o.toNat + m.toNat))) ∧
    (∃ (s : State) (n : Fin 64) (d : BitVec 64) (m : Word) (p : BitVec 8) (o : BitVec 64), (s.pwr.mainOn = true) ∧ (s.ringReady n.val 4 = true) ∧ (d.toNat % 8 = 0) ∧ (8 ≤ m.toNat) ∧ (m.toNat ≤ 4194304) ∧ (m.toNat % 8 = 0) ∧ ((p = 0#8 ∧ o.toNat + m.toNat ≤ 0x4000000) ∨ (p = 1#8 ∧ o.toNat + m.toNat ≤ 32 * allSlots)) ∧ (o.toNat % 8 = 0)) ∧
    (∃ (s : State) (n : Fin 64), (s.pwr.mainOn = true) ∧ (s.ringReady n.val 4 = false)) ∧
    (∃ (s : State) (n : Fin 64), (s.pwr.mainOn = true) ∧ (s.ringReady n.val 5 = false ∨ s.get R.IMG_STAT_UPD_STATE ≠ 1 ∨ s.get R.IMG_UPD_RING ≠ n.val)) ∧
    (∃ (s : State) (n : Fin 64) (a : BitVec 64) (m : Word), (s.pwr.mainOn = true) ∧ (s.ringReady n.val 5 = true) ∧ (s.get R.IMG_STAT_UPD_STATE = 1) ∧ (s.get R.IMG_UPD_RING = n.val) ∧ (a.toNat % 4 ≠ 0 ∨ m.toNat < 4 ∨ 65536 < m.toNat ∨ m.toNat % 4 ≠ 0)) ∧
    (∃ (s : State) (n : Fin 64) (a : BitVec 64) (m : Word), (s.pwr.mainOn = true) ∧ (s.ringReady n.val 5 = true) ∧ (s.get R.IMG_STAT_UPD_STATE = 1) ∧ (s.get R.IMG_UPD_RING = n.val) ∧ (a.toNat % 4 = 0) ∧ (4 ≤ m.toNat) ∧ (m.toNat ≤ 65536) ∧ (m.toNat % 4 = 0) ∧ (min 16777216 s.img.slotSize < s.get R.IMG_UPD_LEN + m.toNat)) ∧
    (∃ (s : State) (n : Fin 64) (a : BitVec 64) (m : Word) (f : Option (BitVec 32)), (s.pwr.mainOn = true) ∧ (s.ringReady n.val 5 = true) ∧ (s.get R.IMG_STAT_UPD_STATE = 1) ∧ (s.get R.IMG_UPD_RING = n.val) ∧ (a.toNat % 4 = 0) ∧ (4 ≤ m.toNat) ∧ (m.toNat ≤ 65536) ∧ (m.toNat % 4 = 0) ∧ (s.get R.IMG_UPD_LEN + m.toNat ≤ min 16777216 s.img.slotSize) ∧ (f = none)) ∧
    (∃ (s : State) (n : Fin 64) (a : BitVec 64) (m : Word) (f : Option (BitVec 32)), (s.pwr.mainOn = true) ∧ (s.ringReady n.val 5 = true) ∧ (s.get R.IMG_STAT_UPD_STATE = 1) ∧ (s.get R.IMG_UPD_RING = n.val) ∧ (a.toNat % 4 = 0) ∧ (4 ≤ m.toNat) ∧ (m.toNat ≤ 65536) ∧ (m.toNat % 4 = 0) ∧ (s.get R.IMG_UPD_LEN + m.toNat ≤ min 16777216 s.img.slotSize) ∧ (f ≠ none)) :=
  ⟨⟨cmdRingS [], 63, 0x1001#32, 5, 129, 0x10, 24, by decide +kernel⟩,
   ⟨cmdRingS [], 63, 0x1001#32, 5, 3, 0x10, 24, by decide +kernel⟩,
   ⟨reachS [], 63, 0x1001#32, 0, 1, 0x10, 24, by decide +kernel⟩,
   ⟨cmdRingS [], 63, 0x1101#32, by decide +kernel⟩,
   ⟨cmdRingS [], 63, 0x1101#32, 64, 3, 0x81, 1, by decide +kernel⟩,
   ⟨cmdRingS [], 63, 0x1101#32, 5, 3, 0x81, 1, by decide +kernel⟩,
   ⟨cmdRingS [(R.IMG_STAT_SESSION, 1)], 63, 0x1101#32, 5, 3, 0x81, 1, by decide +kernel⟩,
   ⟨reachS [(R.IMG_STAT_SESSION, 1), (R.LNK_STAT_STATE 0, 6)], 63, 0x1101#32, 0, 1, 0x81, 1, by decide +kernel⟩,
   ⟨reachS [(R.IMG_STAT_SESSION, 1)], 63, 0x1101#32, 0, 1, 0x81, 1, by decide +kernel⟩,
   ⟨cmdRingS [], 63, 0x1001#32, by decide +kernel⟩,
   ⟨nodeCmdS, 63, {}, by decide +kernel⟩,
   ⟨cmdRingS [], 63, by decide +kernel⟩,
   ⟨cmdRingS [], 63, 0x2001#32, by decide +kernel⟩,
   ⟨cmdRingS [], 63, 0x1001#32, by decide +kernel⟩,
   ⟨cmdRingS [(R.RING_STAT_TYPE 63, 3)], 63, by decide +kernel⟩,
   ⟨cmdRingS [], 63, by decide +kernel⟩,
   ⟨eventRingS 1, 63, eventRec, by decide +kernel⟩,
   ⟨eventRingS 0, 63, eventRec, by decide +kernel⟩,
   ⟨eventRingS 0, 63, eventRec, 0#32, by decide +kernel⟩,
   ⟨cmdRingS [(R.RING_STAT_TYPE 63, 4)], 63, 8, 8, 0, 0x3FFFFF8, by decide +kernel⟩,
   ⟨cmdRingS [(R.RING_STAT_TYPE 63, 4)], 63, 8, 8, 0, 0x4000000, by decide +kernel⟩,
   ⟨cmdRingS [(R.RING_STAT_TYPE 63, 4)], 63, 8, 8, 1, 0, by decide +kernel⟩,
   ⟨cmdRingS [], 63, by decide +kernel⟩,
   ⟨cmdRingS [], 63, by decide +kernel⟩,
   ⟨chunkS, 63, 2, 4, by decide +kernel⟩,
   ⟨chunkS, 63, 4, 132, by decide +kernel⟩,
   ⟨chunkS, 63, 4, 128, none, by decide +kernel⟩,
   ⟨chunkS, 63, 4, 4, (some 0x100#32), by decide +kernel⟩⟩

theorem wit_PublicationAndEndpoint :
    (∃ (s : State), (s.pwr.mainOn = true) ∧ (s.pubRuns = true) ∧ (s.get R.SWP_SCHED2_Q ≠ 0) ∧ (s.host.pub.angleHit = false) ∧ (s.host.pub.done = true)) ∧
    (∃ (s : State), (s.pwr.mainOn = true) ∧ (s.pubRuns = true) ∧ (s.get R.SWP_SCHED2_Q ≠ 0) ∧ (s.host.pub.angleHit = false) ∧ (s.host.pub.done = false)) ∧
    (∃ (s : State), (s.pwr.mainOn = true) ∧ (s.pubRuns = false ∨ s.get R.SWP_SCHED2_Q = 0 ∨ s.host.pub.angleHit = true)) ∧
    (∃ (s : State), (s.pwr.mainOn = true) ∧ (s.pubRuns = true) ∧ (s.host.pub.done = false) ∧ (s.est.busy = 0#8) ∧ (s.sop.epoch = s.host.pub.epoch) ∧ (s.get R.SWP_SCHED2_Q = 0 ∨ s.host.pub.angleHit = true)) ∧
    (∃ (s : State), (s.pwr.mainOn = true) ∧ (s.pubRuns = true) ∧ (s.host.pub.done = false) ∧ (s.est.busy = 0#8) ∧ (s.sop.epoch = s.host.pub.epoch) ∧ (s.get R.SWP_SCHED2_Q ≠ 0) ∧ (s.host.pub.angleHit = false)) ∧
    (∃ (s : State), (s.pwr.mainOn = true) ∧ (s.pubRuns = false ∨ s.host.pub.done = true ∨ s.est.busy ≠ 0#8 ∨ s.sop.epoch ≠ s.host.pub.epoch)) ∧
    (∃ (s : State), (s.pwr.mainOn = true) ∧ (s.pubRuns = true)) ∧
    (∃ (s : State), (s.pwr.mainOn = true) ∧ (s.pubRuns = false)) ∧
    (∃ (s : State), (s.pwr.mainOn = true) ∧ (1 ≤ s.stage) ∧ (s.host.perstHigh = true)) ∧
    (∃ (s : State) (v : Word), (s.pwr.mainOn = true) ∧ (1 ≤ s.stage) ∧ (s.host.perstHigh = true) ∧ (72 ≤ bitsOf v.toNat 16 7) ∧ (bitsOf v.toNat 16 7 ≠ 127)) ∧
    (∃ (s : State) (v : Word), (s.pwr.mainOn = true) ∧ (1 ≤ s.stage) ∧ (s.host.perstHigh = true) ∧ (bitsOf v.toNat 16 7 < 72 ∨ bitsOf v.toNat 16 7 = 127)) ∧
    (∃ (s : State) (v : Word) (j : Fin 8), (s.pwr.mainOn = true) ∧ (1 ≤ s.stage) ∧ (s.host.perstHigh = true) ∧ (bitsOf v.toNat 16 7 < 72 ∨ bitsOf v.toNat 16 7 = 127) ∧ (s.bit R.HOST_IMASK_MASK j.val = true) ∧ (v.getLsbD j.val = false) ∧ (s.host.icause.getLsbD j.val = true) ∧ (s.get (R.MSIX_VCTRL_MASKED (64 + j.val)) = 0) ∧ (s.host.linkUp = true) ∧ (s.host.busMaster = true)) ∧
    (∃ (s : State), (s.stage = 3) ∧ (s.host.linkUp = true) ∧ (s.host.busMaster = true) ∧ (s.get R.PWR_STAT_SLEEP_PENDING = 0)) ∧
    (∃ (s : State), (s.stage = 3) ∧ (s.host.linkUp = false ∨ s.host.busMaster = false ∨ s.get R.PWR_STAT_SLEEP_PENDING = 1)) ∧
    (∃ (s : State), (s.stage = 4) ∧ (s.host.linkUp = true) ∧ (s.host.busMaster = true)) ∧
    (∃ (s : State), (s.stage ≠ 3) ∧ (s.stage ≠ 4)) ∧
    (∃ (s : State), (s.pwr.mainOn = false)) ∧
    (∃ (s : State), (s.pwr.mainOn = true)) ∧
    (∃ (s : State), (s.pwr.mainOn = true)) ∧
    (∃ (s : State), (s.pwr.mainOn = true) ∧ (s.stage = 3) ∧ (s.host.perstHigh = true) ∧ (s.get R.PWR_STAT_SLEEP_PENDING = 0)) ∧
    (∃ (s : State) (x : Option (BitVec 24)) (b : Bool), (s.pwr.mainOn = true) ∧ (s.stage = 4) ∧ (x = none ∨ b = false ∨ s.host.perstHigh = false)) ∧
    (∃ (s : State), (s.pwr.mainOn = true) ∧ (s.stage ≠ 3) ∧ (s.stage ≠ 4)) ∧
    (∃ (s : State) (x : Option (BitVec 24)) (b : Bool), (s.pwr.mainOn = true) ∧ (s.stage = 3) ∧ (x = none ∨ b = false ∨ s.host.perstHigh = false ∨ s.get R.PWR_STAT_SLEEP_PENDING = 1)) ∧
    (∃ (s : State), (s.pwr.mainOn = true) ∧ (s.stage = 4) ∧ (s.host.perstHigh = true)) :=
  ⟨⟨pubS true false, by decide +kernel⟩,
   ⟨pubS false false, by decide +kernel⟩,
   ⟨onS [], by decide +kernel⟩,
   ⟨pubS false true, by decide +kernel⟩,
   ⟨pubS false false, by decide +kernel⟩,
   ⟨onS [], by decide +kernel⟩,
   ⟨pubS false false, by decide +kernel⟩,
   ⟨onS [], by decide +kernel⟩,
   ⟨onS [(R.GLOBAL_STAGE_STAGE, 3)], by decide +kernel⟩,
   ⟨onS [(R.GLOBAL_STAGE_STAGE, 3)], 0x480000#32, by decide +kernel⟩,
   ⟨onS [(R.GLOBAL_STAGE_STAGE, 3)], 0x7F01FF#32, by decide +kernel⟩,
   ⟨maskedS, 0x7F0000#32, 7, by decide +kernel⟩,
   ⟨linkedS 3 false, by decide +kernel⟩,
   ⟨onS [(R.GLOBAL_STAGE_STAGE, 3)], by decide +kernel⟩,
   ⟨linkedS 4 false, by decide +kernel⟩,
   ⟨onS [], by decide +kernel⟩,
   ⟨State.reset, by decide +kernel⟩,
   ⟨linkedS 4 true, by decide +kernel⟩,
   ⟨linkedS 4 true, by decide +kernel⟩,
   ⟨linkedS 3 true, by decide +kernel⟩,
   ⟨linkedS 4 true, (some 7#24), false, by decide +kernel⟩,
   ⟨linkedS 2 true, by decide +kernel⟩,
   ⟨linkedS 3 true, (some 7#24), false, by decide +kernel⟩,
   ⟨linkedS 4 true, by decide +kernel⟩⟩

theorem wit_MacTraffic :
    (∃ (s : State), (s.pwr.mainOn = true)) ∧
    (∃ (s : State), (s.pwr.mainOn = true)) ∧
    (∃ (s : State) (m : Fin 4), (s.pwr.mainOn = true) ∧ (s.tab.hostOn m.val = false ∨ s.stage < 2)) ∧
    (∃ (s : State) (m : Fin 4) (i : Word), (s.pwr.mainOn = true) ∧ (s.tab.hostOn m.val = true) ∧ (m.val < 2) ∧ (s.tab.canFilter m.val i.toNat = true) ∧ (3 ≤ s.stage)) ∧
    (∃ (s : State) (m : Fin 4) (i : Word), (s.pwr.mainOn = true) ∧ (m.val < 2) ∧ (s.tab.canFilter m.val i.toNat = false ∨ s.stage < 3)) ∧
    (∃ (s : State) (m : Fin 4) (b : List Byte), (s.pwr.mainOn = true) ∧ (2 ≤ m.val) ∧ (slice 0#8 b 0 6 ≠ s.tab.macAddr m.val ∧ slice 0#8 b 0 6 ≠ List.replicate 6 0xFF#8)) ∧
    (∃ (s : State) (m : Fin 4) (b : List Byte), (s.pwr.mainOn = true) ∧ (s.tab.hostOn m.val = true) ∧ (2 ≤ m.val) ∧ (3 ≤ s.stage) ∧ (slice 0#8 b 0 6 = s.tab.macAddr m.val ∨ slice 0#8 b 0 6 = List.replicate 6 0xFF#8) ∧ (s.tab.inetAnswer m.val b = none ∨ 10 ≤ ((Sparse.get (fun _ => []) s.host.answers (m.val - 2)).filter (fun x => decide (s.now < x + 1000))).length) ∧ (s.tab.sflPorts m.val b = false)) ∧
    (∃ (s : State) (m : Fin 4) (b : List Byte), (s.pwr.mainOn = true) ∧ (2 ≤ m.val) ∧ (slice 0#8 b 0 6 = s.tab.macAddr m.val ∨ slice 0#8 b 0 6 = List.replicate 6 0xFF#8) ∧ (s.tab.inetAnswer m.val b = none ∨ 10 ≤ ((Sparse.get (fun _ => []) s.host.answers (m.val - 2)).filter (fun x => decide (s.now < x + 1000))).length) ∧ (s.tab.sflPorts m.val b = true ∨ s.stage < 3)) ∧
    (∃ (s : State) (m : Fin 4) (b : List Byte) (a : List Byte), (s.pwr.mainOn = true) ∧ (s.tab.hostOn m.val = true) ∧ (2 ≤ s.stage) ∧ (2 ≤ m.val) ∧ (slice 0#8 b 0 6 = s.tab.macAddr m.val ∨ slice 0#8 b 0 6 = List.replicate 6 0xFF#8) ∧ (s.tab.inetAnswer m.val b = some a) ∧ (((Sparse.get (fun _ => []) s.host.answers (m.val - 2)).filter (fun x => decide (s.now < x + 1000))).length < 10)) :=
  ⟨⟨onS [], by decide +kernel⟩,
   ⟨onS [], by decide +kernel⟩,
   ⟨onS [], 3, by decide +kernel⟩,
   ⟨macS 3, 1, 0x123#32, by decide +kernel⟩,
   ⟨macS 2, 1, 0x123#32, by decide +kernel⟩,
   ⟨macS 3, 3, (List.replicate 64 0#8), by decide +kernel⟩,
   ⟨macS 3, 3, (List.replicate 64 0xFF#8), by decide +kernel⟩,
   ⟨macS 2, 3, (List.replicate 64 0xFF#8), by decide +kernel⟩,
   ⟨macS 2, 3, arpReq, arpAns, by decide +kernel⟩⟩

theorem wit_StartsOpen :
    (∃ (s : State), (s.pwr.mainOn = true) ∧ (s.get R.PAIR_STAT_INJ_START_OK = 1) ∧ (s.get R.PAIR_STAT_MODE ≠ 4) ∧ (s.pair.nextMode = none) ∧ (s.stage < 3) ∧ (s.ctr.closeReq = true)) ∧
    (∃ (s : State), (s.stage < 3)) ∧
    (∃ (s : State), (s.pwr.mainOn = false)) :=
  ⟨⟨earlyS, by decide +kernel⟩,
   ⟨earlyS, by decide +kernel⟩,
   ⟨State.reset, by decide +kernel⟩⟩

theorem wit_SafetyCycleBoundary :
    (∃ (s : State), (s.pwr.mainOn = true) ∧ (s.get R.PAIR_STAT_INJ_START_OK = 0)) ∧
    (∃ (s : State), (s.pwr.mainOn = true) ∧ (s.get R.PAIR_STAT_INJ_START_OK = 1) ∧ (s.get R.PAIR_STAT_MODE = 4) ∧ (s.pair.nextMode = none)) ∧
    (∃ (s : State), (s.pwr.mainOn = true) ∧ (s.get R.PAIR_STAT_INJ_START_OK = 1) ∧ (s.get R.PAIR_STAT_MODE ≠ 4) ∧ (s.pair.nextMode = none)) ∧
    (∃ (s : State) (k : Fin 6), (s.pwr.mainOn = true) ∧ (s.get R.PAIR_STAT_INJ_START_OK = 1) ∧ (s.pair.nextMode = some k.val) ∧ (s.ctr.closeReq = false)) ∧
    (∃ (s : State), (s.pwr.mainOn = true) ∧ (s.get R.PAIR_STAT_INJ_START_OK = 1) ∧ (s.get R.PAIR_STAT_MODE ≠ 4) ∧ (s.pair.nextMode = none) ∧ (3 ≤ s.stage) ∧ (s.safety ≤ 4) ∧ (s.dsc.condG.getLsbD 1 = true ∨ s.dsc.condS.getLsbD 1 = true)) :=
  ⟨⟨onS [], by decide +kernel⟩,
   ⟨onS [(R.PAIR_STAT_INJ_START_OK, 1), (R.PAIR_STAT_MODE, 4)], by decide +kernel⟩,
   ⟨cycleS 3 2, by decide +kernel⟩,
   ⟨cycleNextS, 3, by decide +kernel⟩,
   ⟨cycleCondS, by decide +kernel⟩⟩

theorem wit_HostRegisterWrites :
    (∃ (s : State) (a : Word), (s.pwr.mainOn = true) ∧ (s.served a.toNat = false)) ∧
    (∃ (s : State) (a : Word) (b : BitVec 4), (s.pwr.mainOn = true) ∧ (s.served a.toNat = true) ∧ (a.toNat < 0x100000 ∨ 0x110000 ≤ a.toNat) ∧ (b ≠ 15#4 ∨ lookupReg a.toNat = none)) ∧
    (∃ (s : State) (a : Word), (s.pwr.mainOn = true) ∧ (1 ≤ s.stage) ∧ (s.host.perstHigh = true) ∧ (0x100000 ≤ a.toNat) ∧ (a.toNat < 0x110000)) ∧
    (∃ (s : State) (a v : Word), (s.pwr.mainOn = true) ∧ (1 ≤ s.stage) ∧ (s.host.perstHigh = true) ∧ ((lookupReg a.toNat).isSome = true) ∧ (ownRule a.toNat = false) ∧ ((((lookupReg a.toNat).map RegSpec.fields).getD []).any (fun f => f.undefined v.toNat) = false)) ∧
    (∃ (s : State) (a v : Word), (s.pwr.mainOn = true) ∧ (1 ≤ s.stage) ∧ (s.host.perstHigh = true) ∧ ((lookupReg a.toNat).isSome = true) ∧ (ownRule a.toNat = false) ∧ ((((lookupReg a.toNat).map RegSpec.fields).getD []).any (fun f => f.undefined v.toNat) = true)) ∧
    (∃ (s : State), (s.pwr.mainOn = true) ∧ (1 ≤ s.stage) ∧ (s.host.perstHigh = true)) ∧
    (∃ (s : State) (v : Word), (s.pwr.mainOn = true) ∧ (1 ≤ s.stage) ∧ (s.host.perstHigh = true) ∧ (s.session = true) ∧ (s.get R.IMG_REC_OFF_OFF ≠ bitsOf v.toNat 0 24)) ∧
    (∃ (s : State) (v : Word), (s.pwr.mainOn = true) ∧ (1 ≤ s.stage) ∧ (s.host.perstHigh = true) ∧ (s.session = false) ∧ (s.get R.IMG_REC_OFF_OFF ≠ bitsOf v.toNat 0 24)) ∧
    (∃ (s : State) (v : Word), (s.pwr.mainOn = true) ∧ (1 ≤ s.stage) ∧ (s.host.perstHigh = true) ∧ (1440 < bitsOf v.toNat 0 11)) ∧
    (∃ (s : State) (v : Word), (s.pwr.mainOn = true) ∧ (1 ≤ s.stage) ∧ (s.host.perstHigh = true) ∧ (bitsOf v.toNat 0 11 ≤ 1440) ∧ (s.get R.GLOBAL_STAGE_FOREIGN_IMAGE = 0)) ∧
    (∃ (s : State) (v : Word), (s.pwr.mainOn = true) ∧ (1 ≤ s.stage) ∧ (s.host.perstHigh = true) ∧ (bitsOf v.toNat 0 11 ≤ 1440) ∧ (s.get R.GLOBAL_STAGE_FOREIGN_IMAGE = 1) ∧ (s.get R.PWR_WAKE_WAKE_MIN ≠ bitsOf v.toNat 0 11)) ∧
    (∃ (s : State), (s.pwr.mainOn = true) ∧ (1 ≤ s.stage) ∧ (s.host.perstHigh = true)) ∧
    (∃ (s : State), (s.pwr.mainOn = true) ∧ (1 ≤ s.stage) ∧ (s.host.perstHigh = true) ∧ (s.img.pw.length = 32)) ∧
    (∃ (s : State), (s.pwr.mainOn = true) ∧ (1 ≤ s.stage) ∧ (s.host.perstHigh = true)) ∧
    (∃ (s : State), (s.pwr.mainOn = true) ∧ (1 ≤ s.stage) ∧ (s.host.perstHigh = true)) ∧
    (∃ (s : State) (n : Fin 64), (s.pwr.mainOn = true) ∧ (1 ≤ s.stage) ∧ (s.host.perstHigh = true) ∧ (s.get (R.RING_CTRL_ENABLE n.val) = 0)) ∧
    (∃ (s : State) (n : Fin 64), (s.pwr.mainOn = true) ∧ (1 ≤ s.stage) ∧ (s.host.perstHigh = true) ∧ (s.get (R.RING_CTRL_ENABLE n.val) = 1)) ∧
    (∃ (s : State) (v : Word), (v.getLsbD 1 = false)) ∧
    (∃ (s : State) (v : Word), (v.getLsbD 1 = false)) ∧
    (∃ (s : State), (s.get R.IMG_UPD_RING = 0)) ∧
    (∃ (s : State), (s.get R.IMG_UPD_RING = 0)) ∧
    (∃ (s : State), (s.get R.IMG_UPD_RING = 0)) ∧
    (∃ (s : State), (s.get R.ANG_CTRL_SRC_OVR = 0)) ∧
    (∃ (s : State), (s.get R.SWP_TREQ_CODE = 0) ∧ (s.get R.SWP_TREQ_CHAIN = 0)) ∧
    (∃ (s : State), (s.get R.EST_EXC_CTRL_EXC_EN = 0)) ∧
    (∃ (s : State), (s.get R.CTR_CTRL_JOIN_STRING = 0) ∧ (s.get R.CTR_CTRL_PAIR_MASK = 0)) ∧
    (∃ (s : State), (s.get R.CTR_CTRL_JOIN_STRING = 0) ∧ (s.get R.CTR_CTRL_PAIR_MASK = 0)) ∧
    (∃ (s : State), (s.get R.DIAG_DBG_CTRL_TRACE_EN = 0)) ∧
    (∃ (s : State), (s.get R.DIAG_DBG_CTRL_TRACE_EN = 0)) ∧
    (∃ (s : State), (s.get R.DIAG_DBG_CTRL_TRACE_EN = 0)) ∧
    (∃ (s : State), (s.get R.DIAG_DBG_CTRL_TRACE_EN = 0)) ∧
    (∃ (s : State) (x : Fin 64), (s.get (R.LNK_CTRL_HOLD_SEG x.val) = 0)) ∧
    (∃ (s : State) (x : Fin 64), (s.get (R.LNK_CTRL_HOLD_SEG x.val) = 0)) ∧
    (∃ (s : State), (s.get R.CTR_CTRL_PAIR_MASK = 0)) ∧
    (∃ (s : State), (s.get R.CTR_CTRL_JOIN_STRING = 0)) ∧
    (∃ (s : State), (1 ≤ s.get R.PAIR_CTRL_CAMP_CODE) ∧ (s.get R.PAIR_CTRL_CAMP_CODE ≤ 4)) ∧
    (∃ (s : State), (1 ≤ s.get R.PAIR_CTRL_CAMP_CODE) ∧ (s.get R.PAIR_CTRL_CAMP_CODE ≤ 4)) ∧
    (∃ (s : State) (k : BitVec 4), (k ≠ 0#4)) :=
  ⟨⟨onS [], 0x1000#32, by decide +kernel⟩,
   ⟨onS [(R.GLOBAL_STAGE_STAGE, 3)], 0x1000#32, 7, by decide +kernel⟩,
   ⟨onS [(R.GLOBAL_STAGE_STAGE, 3)], 0x10FFFC#32, by decide +kernel⟩,
   ⟨onS [(R.GLOBAL_STAGE_STAGE, 3)], 0x2094#32, 0xFFFFFFFF#32, by decide +kernel⟩,
   ⟨onS [(R.GLOBAL_STAGE_STAGE, 3)], 0x210B8#32, 59, by decide +kernel⟩,
   ⟨onS [(R.GLOBAL_STAGE_STAGE, 3)], by decide +kernel⟩,
   ⟨onS [(R.GLOBAL_STAGE_STAGE, 3), (R.IMG_STAT_SESSION, 1)], 0xFFFFFFFF#32, by decide +kernel⟩,
   ⟨onS [(R.GLOBAL_STAGE_STAGE, 3)], 0xFFFFFFFF#32, by decide +kernel⟩,
   ⟨onS [(R.GLOBAL_STAGE_STAGE, 3)], 1441#32, by decide +kernel⟩,
   ⟨onS [(R.GLOBAL_STAGE_STAGE, 3)], 1440#32, by decide +kernel⟩,
   ⟨onS [(R.GLOBAL_STAGE_STAGE, 3), (R.GLOBAL_STAGE_FOREIGN_IMAGE, 1)], 1440#32, by decide +kernel⟩,
   ⟨onS [(R.GLOBAL_STAGE_STAGE, 3), (R.STO_STAT_XCOLL, 1)], by decide +kernel⟩,
   ⟨imgS (fun i => { i with pw := List.replicate 32 1#8 }) [(R.GLOBAL_STAGE_STAGE, 1)], by decide +kernel⟩,
   ⟨onS [(R.GLOBAL_STAGE_STAGE, 1)], by decide +kernel⟩,
   ⟨hostS (fun h => { h with linkUp := true, busMaster := true, pba := 1#72 <<< 71 }) (onS [(R.GLOBAL_STAGE_STAGE, 1)]), by decide +kernel⟩,
   ⟨onS [(R.GLOBAL_STAGE_STAGE, 1)], 63, by decide +kernel⟩,
   ⟨ringS [], 63, by decide +kernel⟩,
   ⟨ringS [], 4#32, by decide +kernel⟩,
   ⟨onS [(R.GLOBAL_STAGE_STAGE, 3), (R.IMG_STAT_SESSION, 1)], 1#32, by decide +kernel⟩,
   ⟨onS [(R.GLOBAL_STAGE_STAGE, 3), (R.IMG_STAT_SESSION, 1)], by decide +kernel⟩,
   ⟨onS [(R.GLOBAL_STAGE_STAGE, 3), (R.IMG_STAT_SESSION, 1)], by decide +kernel⟩,
   ⟨onS [(R.GLOBAL_STAGE_STAGE, 3), (R.IMG_STAT_SESSION, 1)], by decide +kernel⟩,
   ⟨onS [(R.GLOBAL_STAGE_STAGE, 3), (R.IMG_STAT_SESSION, 1)], by decide +kernel⟩,
   ⟨onS [(R.GLOBAL_STAGE_STAGE, 3), (R.IMG_STAT_SESSION, 1)], by decide +kernel⟩,
   ⟨onS [(R.GLOBAL_STAGE_STAGE, 3), (R.IMG_STAT_SESSION, 1)], by decide +kernel⟩,
   ⟨onS [(R.GLOBAL_STAGE_STAGE, 3), (R.IMG_STAT_SESSION, 1)], by decide +kernel⟩,
   ⟨onS [(R.GLOBAL_STAGE_STAGE, 3), (R.IMG_STAT_SESSION, 1)], by decide +kernel⟩,
   ⟨onS [(R.GLOBAL_STAGE_STAGE, 3), (R.IMG_STAT_SESSION, 1)], by decide +kernel⟩,
   ⟨onS [(R.GLOBAL_STAGE_STAGE, 3), (R.IMG_STAT_SESSION, 1)], by decide +kernel⟩,
   ⟨onS [(R.GLOBAL_STAGE_STAGE, 3), (R.IMG_STAT_SESSION, 1)], by decide +kernel⟩,
   ⟨onS [(R.GLOBAL_STAGE_STAGE, 3), (R.IMG_STAT_SESSION, 1)], by decide +kernel⟩,
   ⟨onS [(R.GLOBAL_STAGE_STAGE, 3), (R.IMG_STAT_SESSION, 1)], 63, by decide +kernel⟩,
   ⟨muteS, 63, by decide +kernel⟩,
   ⟨joinS, by decide +kernel⟩,
   ⟨linkLowS, by decide +kernel⟩,
   ⟨onS [(R.GLOBAL_STAGE_STAGE, 3), (R.PAIR_CTRL_CAMP_CODE, 4)], by decide +kernel⟩,
   ⟨onS [(R.GLOBAL_STAGE_STAGE, 3), (R.PAIR_CTRL_CAMP_CODE, 4)], by decide +kernel⟩,
   ⟨onS [(R.GLOBAL_STAGE_STAGE, 3), (R.IMG_STAT_SESSION, 1)], 8, by decide +kernel⟩⟩

theorem wit_StepTakesTheFrontCommand :
    (∃ (s : State) (c : Instr) (q : List Instr), (s.pending = c :: q)) ∧
    (∃ (s : State), (s.pending = []) ∧ (s.pwr.mainOn = true)) ∧
    (∃ (s : State), (s.pending = []) ∧ (s.pwr.mainOn = false)) :=
  ⟨⟨{ State.reset with pending := [.vbusStart] }, .vbusStart, [], by decide +kernel⟩,
   ⟨onS [], by decide +kernel⟩,
   ⟨State.reset, by decide +kernel⟩⟩

theorem wit_CommandsNeedTheMainDomain : ∃ (s : State) (c : Instr), (s.pwr.mainOn = false) ∧ (c.worksUnpowered = false) :=
  ⟨State.reset, .saveState, by decide +kernel⟩

theorem wit_ResetState : ∃ (s : State), (s = State.reset) :=
  ⟨State.reset, by decide +kernel⟩

theorem wit_RegistersStayCanonical : ∃ (s : State), (s.regsWf = true) :=
  ⟨State.reset, by decide +kernel⟩

theorem wit_MemoriesStayCanonical : ∃ (s : State), (s.memoriesWf = true) :=
  ⟨State.reset, by decide +kernel⟩

end Sys2Proof.Tests
end

section
-- One proof at a time, here and below: hundreds of proofs waiting for each other need more threads than the check has memory for.
set_option Elab.async false
/-! ## Canonical forms (O59, O60)

Each state function keeps each of the six maps of the state canonical. `Canon.frame` is the rule of a record update that
leaves the maps alone, `Canon.setWord`, `Canon.setSto64` and their like the rules of the operations that write one; every
other function's lemma is composed from those of the functions it calls, in the order of the model's files. -/

namespace Sys2Proof.Machine

/-- The six maps of the state that have one canonical form. -/
inductive Mem where
  | regs | nor | cs1 | xram | words | slots

/-- One of the six maps is in its canonical form. -/
def Canon (μ : Mem) (s : State) : Prop :=
  match μ with
  | .regs => Sparse.wf resetWord s.regs = true
  | .nor => Sparse.wf erased s.img.nor = true
  | .cs1 => Sparse.wf erased s.est.cs1 = true
  | .xram => Sparse.wf zeroW s.host.xram = true
  | .words => Sparse.wf zeroWord s.sto.words = true
  | .slots => Sparse.wf blankRec s.log.slots = true

variable {μ : Mem} {s t : State}

/-- The rule of every record update outside the six maps: a new part of the state holds its map as it was. -/
theorem Canon.frame {pe : List Instr} {fr : Nat} {o : List Output} {pw : PwrState} {im : ImgState} {an : AngState}
    {ch : List (Nat × ChainX)} {no : List (Nat × NodeX)} {wp : SwpState} {st : StoState} {es : EstState} {so : SopState}
    {ds : DscState} {ct : CtrState} {pa : PairState} {si : SioState} {sf : SflState} {wi : SwState} {ho : HostState}
    {lo : LogState} {di : DiagState} (h : Canon μ s)
    (nor : im.nor = s.img.nor := by with_reducible rfl) (cs1 : es.cs1 = s.est.cs1 := by with_reducible rfl)
    (xram : ho.xram = s.host.xram := by with_reducible rfl) (words : st.words = s.sto.words := by with_reducible rfl)
    (slots : lo.slots = s.log.slots := by with_reducible rfl) :
    Canon μ ⟨s.regs, pe, fr, o, pw, im, an, ch, no, wp, st, es, so, ds, ct, pa, si, sf, wi, ho, lo, di⟩ := by
  cases μ with
  | regs => exact h
  | nor => exact (congrArg (Sparse.wf _ · = true) nor).mpr h
  | cs1 => exact (congrArg (Sparse.wf _ · = true) cs1).mpr h
  | xram => exact (congrArg (Sparse.wf _ · = true) xram).mpr h
  | words => exact (congrArg (Sparse.wf _ · = true) words).mpr h
  | slots => exact (congrArg (Sparse.wf _ · = true) slots).mpr h

theorem Canon.ite {c : Prop} {_ : Decidable c} {a b : State} (ha : Canon μ a) (hb : Canon μ b) :
    Canon μ (if c then a else b) := by
  split
  · exact ha
  · exact hb

theorem Canon.of_snd {α : Type} {p : α × State} {a : α} (e : p = (a, t)) (h : Canon μ p.2) : Canon μ t := by
  subst e
  exact h

theorem Canon.forAllMem {α : Type} {l : List α} {f : α → State → State} (h : Canon μ s)
    (hf : ∀ a ∈ l, ∀ s, Canon μ s → Canon μ (f a s)) : Canon μ (forAll l f s) := by
  induction l generalizing s with
  | nil => exact h
  | cons a l ih => exact ih (hf a (by simp) s h) fun b hb => hf b (by simp [hb])

theorem Canon.forAll {α : Type} {l : List α} {f : α → State → State} (h : Canon μ s)
    (hf : ∀ a s, Canon μ s → Canon μ (f a s)) : Canon μ (forAll l f s) :=
  h.forAllMem fun a _ => hf a

theorem Canon.foldl {α : Type} {l : List α} {f : State → α → State} (h : Canon μ s)
    (hf : ∀ s a, Canon μ s → Canon μ (f s a)) : Canon μ (l.foldl f s) := by
  induction l generalizing s with
  | nil => exact h
  | cons a l ih => exact ih (hf s a h)

theorem Canon.setWord {a : Nat} {w : Word} (h : Canon μ s) : Canon μ (s.setWord a w) := by
  cases μ with
  | regs => exact Sparse.wf_set _ _ _ _ h
  | _ => exact h

end Sys2Proof.Machine
end

section
set_option Elab.async false
namespace Sys2Proof.Machine

variable {μ : Mem} {s : State}

/-! ### The functions of Machine/Regs -/

theorem Canon.put {f : Fld} {v : Nat} (h : Canon μ s) : Canon μ (s.put f v) := h.setWord
theorem Canon.putB {f : Fld} {b : Bool} (h : Canon μ s) : Canon μ (s.putB f b) := h.put
theorem Canon.putAll {l : List (Fld × Nat)} (h : Canon μ s) : Canon μ (s.putAll l) := h.foldl fun _ _ h1 => h1.put
theorem Canon.incBy {f : Fld} {n : Nat} (h : Canon μ s) : Canon μ (s.incBy f n) := h.put
theorem Canon.inc {f : Fld} (h : Canon μ s) : Canon μ (s.inc f) := h.incBy
theorem Canon.putBit {f : Fld} {i : Nat} {b : Bool} (h : Canon μ s) : Canon μ (s.putBit f i b) := h.put
theorem Canon.putW {f : Fld} {w : Word} (h : Canon μ s) : Canon μ (s.putW f w) := h.setWord

/-! ### The functions of Machine/Ops -/

theorem Canon.emit {o : Output} (h : Canon μ s) : Canon μ (s.emit o) := h.frame
theorem Canon.draw (h : Canon μ s) : Canon μ s.draw.2 := h.frame
theorem Canon.sendVector {v : Nat} (h : Canon μ s) : Canon μ (s.sendVector v) := .ite h.frame h.emit
theorem Canon.setCause {j : Nat} (h : Canon μ s) : Canon μ (s.setCause j) :=
  .ite h (.ite (.ite h.frame h.frame.sendVector) (.ite h.frame h.frame.sendVector))
theorem Canon.riseCause {old : State} (h : Canon μ s) : Canon μ (riseCause old s) := .ite h.setCause h
theorem Canon.whenOn {f : State → State} (h : Canon μ s) (hf : ∀ s, Canon μ s → Canon μ (f s)) :
    Canon μ (whenOn s f) := .ite (hf s h) h

/-! ### The functions of Machine/Log -/

theorem Canon.logCause {cls : Nat} {w : Wrote} (h : Canon μ s) : Canon μ (s.logCause cls w) := by
  unfold State.logCause
  split
  · exact h
  · exact .ite h.setCause h
  · exact h.setCause

theorem LogState.wf_repeatIn {l : LogState} (h : Sparse.wf blankRec l.slots = true) (i : Nat) :
    Sparse.wf blankRec (l.repeatIn i).slots = true := Sparse.wf_set _ _ _ _ h

theorem LogState.wf_startWindow {l : LogState} (h : Sparse.wf blankRec l.slots = true) (e : Event) (key i : Nat) :
    Sparse.wf blankRec (l.startWindow e key i).slots = true := by
  unfold LogState.startWindow
  split <;> exact h

theorem LogState.wf_put {l : LogState} (h : Sparse.wf blankRec l.slots = true) (e : Event) (key : Nat) :
    Sparse.wf blankRec (l.put e key).1.slots = true := by
  unfold LogState.put
  split
  · exact wf_repeatIn h _
  · split
    · exact wf_startWindow (wf_repeatIn h _) _ _ _
    · split
      · exact wf_startWindow (Sparse.wf_set _ _ _ _ h) _ _ _
      · exact h

theorem Canon.logPut {e : Event} {key : Nat} {l : LogState} {w : Wrote} (h : Canon μ s)
    (hp : s.log.put e key = (l, w)) :
    Canon μ { s with log := l } := by
  obtain rfl : (s.log.put e key).1 = l := congrArg Prod.fst hp
  cases μ with
  | slots => exact LogState.wf_put h e key
  | _ => exact h

theorem Canon.record {e : Event} {key : Nat} (h : Canon μ s) : Canon μ (s.record e key) := by
  unfold State.record
  dsimp only
  split
  next hp =>
    refine .ite (h.logPut hp).logCause ?_
    split
    next hd => exact ((h.logPut hp).logCause.logPut hd).frame.logCause
    next hd => exact ((h.logPut hp).logCause.logPut hd).logCause
  next hp => exact (h.logPut hp).logCause

theorem Canon.stageEvent {e : Event} (h : Canon μ s) : Canon μ (s.stageEvent e) := by
  unfold State.stageEvent
  dsimp only
  split
  · exact h.frame
  · exact h.frame.setCause

theorem Canon.take {e : Event} (h : Canon μ s) : Canon μ (s.take e) := .ite h.record h.stageEvent

theorem Canon.report {code source : Nat} {ps : List Par} (h : Canon μ s) : Canon μ (s.report code source ps) := by
  unfold State.report
  split
  · exact h
  · exact h.take

theorem Canon.drainOne (h : Canon μ s) : Canon μ s.drainOne := by
  refine .ite ?_ h.frame
  dsimp only
  split
  · exact .ite h.frame.record.frame.record h.frame.record
  · exact h.frame

theorem Canon.drain (h : Canon μ s) : Canon μ s.drain := h.foldl fun _ _ h1 => h1.drainOne
theorem Canon.logFail {slot : Nat} (h : Canon μ s) : Canon μ (s.logFail slot) := .ite h h.frame.setCause.record

/-! ### The functions of Machine/Angle -/

theorem Canon.putErr {l : List Int} (h : Canon μ s) : Canon μ (s.putErr l) := by
  unfold State.putErr
  split
  · exact h
  · exact h.put

theorem Canon.setMains {au : Nat} (h : Canon μ s) : Canon μ (s.setMains au) := h.frame
theorem Canon.setAngle {f : Nat} (h : Canon μ s) : Canon μ (s.setAngle f) :=
  .ite (.ite h.putAll.report h.putAll) (.ite h.putAll.frame h.putAll)
theorem Canon.evalClamp {f : Nat} (h : Canon μ s) : Canon μ (s.evalClamp f) :=
  .ite h (.ite h.putB.report h.putB.report)
theorem Canon.turnBy {du dm : Nat} (h : Canon μ s) : Canon μ (s.turnBy du dm) := h.frame.setAngle
theorem Canon.moveTo {au : Nat} (h : Canon μ s) : Canon μ (s.moveTo au) := .ite h h.turnBy
theorem Canon.startAngle (h : Canon μ s) : Canon μ s.startAngle := h.put.put.put.frame
theorem Canon.syncInEdge {sinceUs : Nat} (h : Canon μ s) : Canon μ (syncInEdge sinceUs s) :=
  .ite h (.ite h.frame h.inc.frame.take)
theorem Canon.putAmpl {mv : Nat} (h : Canon μ s) : Canon μ (s.putAmpl mv) := h.put.frame

theorem Canon.lockAcquired {freq : Nat} {obs : List (BitVec 16 × BitVec 16)} {mv : Nat} (h : Canon μ s) :
    Canon μ (lockAcquired freq obs mv s) := by
  unfold Machine.lockAcquired
  extract_lets _ _ _ s0 s1 _ s2 s3 s4
  have h0 : Canon μ s0 := h.putErr.putAmpl.putB
  have h1 : Canon μ s1 := h0.putB.put.setMains
  have h2 : Canon μ s2 := h1.frame
  have h3 : Canon μ s3 := h2.report
  have h4 : Canon μ s4 := .ite h3 (.ite h3.putB.report h3.putB.report)
  exact .ite h (.ite h0 h4.evalClamp.setAngle)

theorem Canon.dropLock (h : Canon μ s) : Canon μ s.dropLock := h.putB.frame.setAngle
theorem Canon.loseLock {cause : Nat} (h : Canon μ s) : Canon μ (s.loseLock cause) :=
  .frame (.ite h.dropLock.inc.report.putB h.dropLock.inc.report)

theorem Canon.lockLost {o : LossObs} (h : Canon μ s) : Canon μ (lockLost o s) := by
  refine .ite h ?_
  split
  · exact h.putErr.putAmpl.loseLock
  · exact h.putErr.putAmpl

theorem Canon.imageSourceRestored {phase : Nat} (h : Canon μ s) : Canon μ (imageSourceRestored phase s) :=
  .ite h.put.putB.setMains.frame.report.setAngle (.ite h.frame.report h)

theorem Canon.frequencyClamp {freq phase : Nat} (h : Canon μ s) : Canon μ (frequencyClamp freq phase s) :=
  .ite h (.ite h.evalClamp.setAngle
    (.ite h.putErr.setMains.putB.evalClamp.setAngle.loseLock h.putErr.setMains.putB.evalClamp.setAngle))

theorem Canon.slipResolved {phase mv : Nat} (h : Canon μ s) : Canon μ (slipResolved phase mv s) :=
  .ite h h.putErr.putAmpl.setMains.setAngle
theorem Canon.acquireLock (h : Canon μ s) : Canon μ (acquireLock s) := .ite h.frame.dropLock h
theorem Canon.srcOvr (h : Canon μ s) : Canon μ (srcOvr s) := .ite h (.ite h.report h.report.put.putB.frame.dropLock)
theorem Canon.scheduleCycleBoundary (h : Canon μ s) : Canon μ (scheduleCycleBoundary s) := .ite h h.turnBy.frame
theorem Canon.angNowAu {au : Nat} (h : Canon μ s) : Canon μ (angNowAu au s) := .frame (.ite h.moveTo h)
theorem Canon.drift (h : Canon μ s) : Canon μ s.drift := .ite h h.evalClamp.setAngle
theorem Canon.angleMs (h : Canon μ s) : Canon μ s.angleMs := .ite h h.drift.turnBy

/-! ### The functions of Machine/Shared -/

theorem Canon.setChain {c : Nat} {x : ChainX} (h : Canon μ s) : Canon μ (s.setChain c x) := h.frame
theorem Canon.setStr {n : Nat} {x : StrX} (h : Canon μ s) : Canon μ (s.setStr n x) := h.frame
theorem Canon.setConn {n : Nat} {x : SflConn} (h : Canon μ s) : Canon μ (s.setConn n x) := h.frame
theorem Canon.setChan {n : Nat} {x : SwChan} (h : Canon μ s) : Canon μ (s.setChan n x) := h.frame

theorem Canon.setSto64 {off : Nat} {w : BitVec 64} (h : Canon μ s) : Canon μ (s.setSto64 off w) := by
  cases μ with
  | words => exact Sparse.wf_set _ _ _ _ h
  | _ => exact h

theorem Canon.stoPut {off n v : Nat} (h : Canon μ s) : Canon μ (s.stoPut off n v) := h.setSto64

theorem Canon.stoPutBytes {off : Nat} {bs : List Byte} (h : Canon μ s) : Canon μ (s.stoPutBytes off bs) := by
  induction bs generalizing s off with
  | nil => exact h
  | cons b bs ih => exact ih h.stoPut

theorem Canon.measured {ch : Nat} (h : Canon μ s) : Canon μ (s.measured ch) := h.frame
theorem Canon.setVsw {n v : Nat} (h : Canon μ s) : Canon μ (s.setVsw n v) := h.put.measured
theorem Canon.setVbus {v : Nat} (h : Canon μ s) : Canon μ (s.setVbus v) := h.put.measured
theorem Canon.setVout33 {mv : Nat} (h : Canon μ s) : Canon μ (s.setVout33 mv) := h.put.measured
theorem Canon.setSmp {set l : Nat} {w : BitVec 64} (h : Canon μ s) : Canon μ (s.setSmp set l w) := h.frame
theorem Canon.stoPutFp {off : Nat} {w : Word} (h : Canon μ s) : Canon μ (s.stoPutFp off w) := .ite h h.stoPut
theorem Canon.setStrF {n o : Nat} {w : Word} (h : Canon μ s) : Canon μ (s.setStrF n o w) := h.stoPutFp
theorem Canon.setCellF {cell o : Nat} {w : Word} (h : Canon μ s) : Canon μ (s.setCellF cell o w) := h.stoPutFp
theorem Canon.putHop {f : Nat → Nat → Fld} {c hop : Nat} {b : Bool} (h : Canon μ s) : Canon μ (s.putHop f c hop b) :=
  h.putBit
theorem Canon.requestCheck {trigger : Nat} (h : Canon μ s) : Canon μ (s.requestCheck trigger) := h.frame.putB

theorem Canon.pin (h : Canon μ s) : Canon μ s.pin.1 := by
  unfold State.pin
  dsimp only
  split
  · exact h
  · split
    · exact h.putB.report
    · exact h.frame.putBit

theorem Canon.capture {srcs : List Nat} (h : Canon μ s) : Canon μ (s.capture srcs) :=
  .report (.setCause (.emit (.frame (.ite h.pin.putAll.putAll.inc h.pin.putAll.putAll.inc.putAll))))
theorem Canon.snap {source : Nat} (h : Canon μ s) : Canon μ (s.snap source) := .ite h.capture h
theorem Canon.settleChan {n : Nat} (h : Canon μ s) : Canon μ (s.settleChan n) := .ite h.putAll h.putAll.putB
theorem Canon.commandChan {on : Bool} {n : Nat} (h : Canon μ s) : Canon μ (s.commandChan on n) := h.setChan
theorem Canon.setPairs {mask : Nat} (h : Canon μ s) : Canon μ (s.setPairs mask) :=
  (h.forAll fun _ _ h1 => h1.commandChan.commandChan).put
theorem Canon.settle (h : Canon μ s) : Canon μ s.settle := (h.foldl fun _ _ h1 => h1.settleChan).frame.putAll
theorem Canon.raise {servitor : Bool} {n : Nat} (h : Canon μ s) : Canon μ (s.raise servitor n) := .ite h.frame h.frame
theorem Canon.raiseBoth {n : Nat} (h : Canon μ s) : Canon μ (s.raiseBoth n) := h.raise.raise
theorem Canon.sd0 {servitor : Bool} {code : Nat} (h : Canon μ s) : Canon μ (s.sd0 servitor code) :=
  .ite h.raise.snap h.raise.snap.frame.settle
theorem Canon.trip {pathB : Bool} (h : Canon μ s) : Canon μ (s.trip pathB) := .sd0 (.settle (.ite h h.putB.inc.snap))
theorem Canon.repaired (h : Canon μ s) : Canon μ s.repaired := h.putW.put.frame.requestCheck
theorem Canon.excludeRegion {r : Nat} (h : Canon μ s) : Canon μ (s.excludeRegion r) := h.frame.putB

theorem Canon.regionFault {r cause : Nat} (h : Canon μ s) : Canon μ (s.regionFault r cause) :=
  .report (.setCause (.ite h.putBit.put.excludeRegion
    (.ite (.put (.ite h.putBit.put.inc h.putBit.put.excludeRegion)) h.putBit.put)))

theorem Canon.lockDebug (h : Canon μ s) : Canon μ s.lockDebug := .ite h.putB.putB.report h
theorem Canon.disarm (h : Canon μ s) : Canon μ s.disarm := h.frame.putB
theorem Canon.resumeCores (h : Canon μ s) : Canon μ s.resumeCores := h.frame.putB.report
theorem Canon.debugSessionEnd (h : Canon μ s) : Canon μ s.debugSessionEnd :=
  .ite (.report (.lockDebug (.ite h.disarm.resumeCores h.disarm))) h.lockDebug
theorem Canon.endSession {cause : Nat} (h : Canon μ s) : Canon μ (s.endSession cause) :=
  h.putB.putB.debugSessionEnd.report

/-! ### The functions of Machine/Deadline -/

theorem Canon.listRefs {trigger : Nat} {refs : List Ref} (h : Canon μ s) : Canon μ (s.listRefs trigger refs) :=
  h.putAll.putAll

theorem Canon.runCheckOn {i : Img} {own : Bool} {trigger : Nat} (h : Canon μ s) :
    Canon μ (s.runCheckOn i own trigger).2 := by
  unfold State.runCheckOn
  refine .setCause ?_
  split
  · exact h.listRefs.putAll.putAll
  · exact h.listRefs.putAll.putAll.report

theorem Canon.raiseD {r : Nat} (h : Canon μ s) : Canon μ (s.raiseD r) := by
  unfold State.raiseD
  dsimp only
  split
  · exact h.put.put
  · exact h.excludeRegion

theorem Canon.deadlineCheckDone (h : Canon μ s) : Canon μ (deadlineCheckDone s) := by
  unfold Machine.deadlineCheckDone
  split
  · exact h
  · extract_lets _ s0
    have h0 : Canon μ s0 := h.frame.putB
    refine .ite h0 ?_
    split
    next _ s1 hc =>
    have h1 : Canon μ s1 := .of_snd hc h0.runCheckOn
    exact .ite (.ite h1.putB h1.frame) (.ite (h1.forAll fun _ _ h2 => h2.raiseD) (.ite h1.frame.report h1))

theorem Canon.runCheck (h : Canon μ s) : Canon μ (runCheck s) := .ite h.requestCheck h

/-! ### The functions of Machine/Switch -/

theorem Canon.coilFail {ls : Bool} {k finding : Nat} (h : Canon μ s) : Canon μ (s.coilFail ls k finding) :=
  h.putBit.frame.raise.report
theorem Canon.purgeRetries {n : Nat} (h : Canon μ s) : Canon μ (s.purgeRetries n) := h.setChan.put
theorem Canon.tryRestart {n : Nat} (h : Canon μ s) : Canon μ (s.tryRestart n) :=
  .ite (.ite h.purgeRetries.setChan.report (.ite h.purgeRetries.setChan.inc.put.report h.purgeRetries)) h
theorem Canon.touch {n : Nat} (h : Canon μ s) : Canon μ (s.touch n) := h.setChan.tryRestart
theorem Canon.inPinEdge {j : Nat} {high : Bool} (h : Canon μ s) : Canon μ (inPinEdge j high s) :=
  .settle (.ite h.putBit.touch h.putBit)
theorem Canon.generatorEdge {g : Nat} {on start : Bool} (h : Canon μ s) : Canon μ (generatorEdge g on start s) :=
  .ite h (.settle (.forAll (.frame (.ite h.frame h)) (fun _ _ h1 => h1.touch)))
theorem Canon.writeOn {n : Nat} {on : Bool} (h : Canon μ s) : Canon μ (s.writeOn n on) :=
  .ite (.ite h h.putB.touch.settle) (.ite h.report h)
theorem Canon.clrLatch {n : Nat} (h : Canon μ s) : Canon μ (s.clrLatch n) := .ite (.ite h.report h.setChan.put) h
theorem Canon.clrShed {n : Nat} (h : Canon μ s) : Canon μ (s.clrShed n) := .ite h.putBit h
theorem Canon.clrFw {n : Nat} (h : Canon μ s) : Canon μ (s.clrFw n) := .ite (.ite h.putB h.report) h
theorem Canon.clr {n : Nat} (h : Canon μ s) : Canon μ (s.clr n) := h.clrLatch.clrShed.clrFw.settle
theorem Canon.wdExpire {code : Nat} {ps : List Par} (h : Canon μ s) : Canon μ (s.wdExpire code ps) :=
  h.frame.put.put.inc.setCause.report.settle

theorem Canon.wdWrite {key : Nat} (h : Canon μ s) : Canon μ (s.wdWrite key) := by
  unfold State.wdWrite
  extract_lets _ _ armed wrong
  have hArmed : Canon μ armed := h.frame.put.put
  have hWrong : Canon μ wrong := h.inc
  refine .ite h (.ite h.wdExpire (.ite ?_ (.ite hWrong.wdExpire hWrong.frame.put.setCause)))
  exact .ite h.frame.putB (.ite h.frame.put (.ite (hArmed.forAll fun _ _ h1 => h1.tryRestart).settle h.frame.put))

theorem Canon.swWdExpiry (h : Canon μ s) : Canon μ (swWdExpiry s) := .ite h.wdExpire h
theorem Canon.currentLimiting {n cur : Nat} (h : Canon μ s) : Canon μ (currentLimiting n cur s) :=
  .ite h.putB.put.report h
theorem Canon.overloadEnd {n : Nat} (h : Canon μ s) : Canon μ (overloadEnd n s) := h.putB
theorem Canon.measureCurrents {cur : List Nat} (h : Canon μ s) : Canon μ (s.measureCurrents cur) := h.putAll.put

theorem Canon.shedTimer {cur : List Nat} {long : Bool} (h : Canon μ s) : Canon μ (shedTimer cur long s) := by
  refine .ite ?_ h.measureCurrents.frame
  dsimp only
  split
  · exact h.measureCurrents.frame
  · exact h.measureCurrents.frame.putBit.report.settle

theorem Canon.thermalLatchSet {n : Nat} {dt tj : Int} (h : Canon μ s) : Canon μ (thermalLatchSet n dt tj s) :=
  .ite h.setChan.putB.put.inc.setCause.report.settle h
theorem Canon.thermalLatchClear {n : Nat} {dt tj : Int} (h : Canon μ s) : Canon μ (thermalLatchClear n dt tj s) :=
  .ite (.settle (.ite h.putB.put.setChan h.putB.put.tryRestart)) h
theorem Canon.retryWindowExpiry {n : Nat} (h : Canon μ s) : Canon μ (retryWindowExpiry n s) := h.purgeRetries
theorem Canon.caseOvertemp {dieL : Bool} {t : Int} (h : Canon μ s) : Canon μ (caseOvertemp dieL t s) :=
  .ite h.put.setCause.report h.put

theorem Canon.finding {n i : Nat} {f : Fld} {shows : Bool} {code : Nat} {ps : List Par} (h : Canon μ s) :
    Canon μ (s.finding n i f shows code ps) :=
  .ite h.setChan.putB.report (.ite h.setChan.putB h.setChan)

theorem Canon.shortTrips {old : State} {n : Nat} (h : Canon μ s) : Canon μ (old.shortTrips s n) := .ite h.coilFail h
theorem Canon.offCheckLoad {n a b : Nat} (h : Canon μ s) : Canon μ (offCheckLoad n a b s) := h.finding.finding
theorem Canon.offCheckPair {k a1 a2 b1 b2 : Nat} (h : Canon μ s) : Canon μ (offCheckPair k a1 a2 b1 b2 s) :=
  h.finding.shortTrips.finding.shortTrips.finding.finding.finding.finding
theorem Canon.offStateCheck {n a1 a2 b1 b2 : Nat} (h : Canon μ s) : Canon μ (offStateCheck n a1 a2 b1 b2 s) :=
  .ite h (.ite (.ite h h.offCheckLoad) (.ite h h.offCheckPair))
theorem Canon.freewheelCheck {n : Nat} {v : Int} (h : Canon μ s) : Canon μ (freewheelCheck n v s) :=
  .ite (.settle (.ite h.putB.report h.putB.report.coilFail)) h
theorem Canon.vswLost {n v : Nat} (h : Canon μ s) : Canon μ (vswLost n v s) :=
  .ite h.setVsw.putBit.report.settle h.setVsw
theorem Canon.regainChan {n : Nat} (h : Canon μ s) : Canon μ (s.regainChan n) := .ite h.setChan h.setChan
theorem Canon.regainMs (h : Canon μ s) : Canon μ s.regainMs := .ite (h.forAll fun _ _ h1 => h1.setChan).settle h
theorem Canon.vswRegained {n v : Nat} (h : Canon μ s) : Canon μ (vswRegained n v s) :=
  .ite (h.setVsw.putBit.forAll fun _ _ h1 => h1.regainChan).report.settle h.setVsw
theorem Canon.loadSwitch (h : Canon μ s) : Canon μ s.loadSwitch := h.putAll.putAll.frame.put

/-! ### The functions of Machine/SafetyIo -/

theorem Canon.refreshInput {n : Nat} (h : Canon μ s) : Canon μ (s.refreshInput n) :=
  h.putBit.forAll fun _ _ h1 => h1.putBit.putBit

theorem Canon.sinFilterChange {n : Nat} {chanB high : Bool} (h : Canon μ s) :
    Canon μ (sinFilterChange n chanB high s) := by
  unfold Machine.sinFilterChange
  extract_lets _ _ _ _ s1 s2 _ s3
  have h1 : Canon μ s1 := h.frame.putBit
  have h2 : Canon μ s2 := h1.refreshInput
  have h3 : Canon μ s3 := .ite h2.report h2
  exact .ite h (.ite (.ite h3 (.ite h3.sd0 h3.raise)) h2)

theorem Canon.latchDisc {n : Nat} (h : Canon μ s) : Canon μ (s.latchDisc n) :=
  .ite h.putBit.frame.refreshInput.report h
theorem Canon.discrepancyTimeout {n : Nat} (h : Canon μ s) : Canon μ (discrepancyTimeout n s) :=
  .ite h.frame.latchDisc h
theorem Canon.tpoTestPulse {b : Bool} (h : Canon μ s) : Canon μ (tpoTestPulse b s) := .ite h.frame.putB h
theorem Canon.crossShort {n : Nat} {chanB : Bool} (h : Canon μ s) : Canon μ (s.crossShort n chanB) :=
  .ite h.putBit.report h.putBit.report.latchDisc

theorem Canon.pulseInput {b : Bool} {before atEnd n : Nat} (h : Canon μ s) :
    Canon μ (s.pulseInput b before atEnd n) :=
  .ite h (.ite (.crossShort (.ite h.crossShort h)) (.ite h.crossShort h))

theorem Canon.tpoPulseCheck {b : Bool} {before atEnd : Nat} (h : Canon μ s) :
    Canon μ (tpoPulseCheck b before atEnd s) :=
  .ite (h.frame.putB.forAll fun _ _ h1 => h1.pulseInput) h

theorem Canon.tpoCurrentLimit {b : Bool} (h : Canon μ s) : Canon μ (tpoCurrentLimit b s) :=
  .ite h (h.putB.putB.frame.inc.report.forAll fun _ _ h1 => h1.sinFilterChange)
theorem Canon.tpoRetry {b : Bool} (h : Canon μ s) : Canon μ (tpoRetry b s) := .ite h.putB.putB h
theorem Canon.setPulse {ls : Bool} {k : Nat} {b : Bool} (h : Canon μ s) : Canon μ (s.setPulse ls k b) :=
  .ite h.frame h.frame
theorem Canon.offPulse {ls : Bool} {k : Nat} (h : Canon μ s) : Canon μ (offPulse ls k s) := .ite h.setPulse.settle h

theorem Canon.offPulseReadback {ls : Bool} {k : Nat} {stayedOn : Bool} (h : Canon μ s) :
    Canon μ (offPulseReadback ls k stayedOn s) :=
  .ite (.settle (.ite h.setPulse.coilFail h.setPulse)) h

theorem Canon.coilReadbackFault {ls : Bool} {k : Nat} {on : Bool} (h : Canon μ s) :
    Canon μ (coilReadbackFault ls k on s) :=
  .ite h h.frame.coilFail.settle

theorem Canon.coilTestfailClear {ls : Bool} {k : Nat} (h : Canon μ s) : Canon μ (coilTestfailClear ls k s) :=
  h.frame.settle
theorem Canon.satisfyProof {n : Nat} (h : Canon μ s) : Canon μ (s.satisfyProof n) :=
  .ite h (.report (.putBit (.putBit (.putB (.put (.ite h.frame h.frame))))))
theorem Canon.proofIntervalExpired {n : Nat} (h : Canon μ s) : Canon μ (proofIntervalExpired n s) :=
  .ite h.put.putBit.report h
theorem Canon.proofGraceExpired {n : Nat} (h : Canon μ s) : Canon μ (proofGraceExpired n s) := .ite h.putB.report h

theorem Canon.evalProof {n : Nat} (h : Canon μ s) : Canon μ (s.evalProof n) := by
  unfold State.evalProof
  dsimp only
  split
  · exact h.put.putBit
  · exact h.put.putBit
  · exact h.put.putBit

theorem Canon.inputCycle {n : Nat} (h : Canon μ s) : Canon μ (s.inputCycle n) :=
  .ite h (.ite h.frame.latchDisc
    (.ite (.ite (.ite h.frame.putBit.refreshInput.report h.frame) (.ite h.frame.satisfyProof h.frame)) h.frame))

theorem Canon.inputsCycle (h : Canon μ s) : Canon μ s.inputsCycle := h.forAll fun _ _ h1 => h1.inputCycle
theorem Canon.pathResult {pathB ok : Bool} (h : Canon μ s) : Canon μ (s.pathResult pathB ok) :=
  .ite h.frame h.frame.raise.report
theorem Canon.tripTest {okA okB : Bool} (h : Canon μ s) : Canon μ (s.tripTest okA okB) :=
  h.putB.putB.pathResult.pathResult

theorem Canon.checkCompare {okA okB : Bool} (h : Canon μ s) : Canon μ (s.checkCompare okA okB) :=
  .ite (.ite (.ite h h.putB) (.pathResult (.ite h h.putB)))
    (.pathResult (.ite (.ite h h.putB) (.pathResult (.ite h h.putB))))

/-! ### The functions of Machine/Contactor -/

theorem Canon.strTo {n st : Nat} (h : Canon μ s) : Canon μ (s.strTo n st) :=
  .ite h h.setStr.stoPut.stoPut.putBit.putBit
theorem Canon.strWelds {n : Nat} (h : Canon μ s) : Canon μ (s.strWelds n) := h.strTo.frame.report
theorem Canon.notJoined {n cause : Nat} (h : Canon μ s) : Canon μ (s.notJoined n cause) := h.strTo.report
theorem Canon.openAll (h : Canon μ s) : Canon μ s.openAll :=
  (h.forAll fun _ _ h1 => h1.strTo).frame.setPairs.put.settle
theorem Canon.pairWelds {mask : Nat} (h : Canon μ s) : Canon μ (s.pairWelds mask) := h.frame.put

theorem Canon.failPre {code result : Nat} (h : Canon μ s) : Canon μ (s.failPre code result) := by
  unfold State.failPre
  extract_lets s1 _ s2 _ s3 s4
  have h1 : Canon μ s1 := h.openAll.put.put
  have h2 : Canon μ s2 := h1.report
  have h3 : Canon μ s3 := h2.frame
  have h4 : Canon μ s4 := .ite h3.pairWelds (.ite h3.pairWelds h3)
  exact .ite h4.raiseBoth h4

theorem Canon.endA2 (h : Canon μ s) : Canon μ s.endA2 := h.put.put
theorem Canon.startStep {ph : Nat} (h : Canon μ s) : Canon μ (s.startStep ph) := h.frame.put.setPairs.settle
theorem Canon.passPre (h : Canon μ s) : Canon μ s.passPre := h.frame.putAll

theorem Canon.arrayCycle (h : Canon μ s) : Canon μ s.arrayCycle := by
  unfold State.arrayCycle
  dsimp only
  split
  · exact .ite h.frame.failPre (.ite h.frame.startStep h.frame)
  · exact .ite h.frame.endA2.failPre
      (.ite (.ite h.frame.endA2.failPre h.frame) (.ite h.frame.endA2.startStep h.frame))
  · exact .ite (.ite h.frame.setPairs.settle h.frame) (.ite (.ite h.frame.startStep h.frame.passPre) h.frame)
  · exact .ite h.frame.passPre h.frame
  · exact h.frame

theorem Canon.weldCheckEnd (h : Canon μ s) : Canon μ (weldCheckEnd s) := .ite (.ite h.failPre h.frame) h

theorem Canon.auxTimeout (h : Canon μ s) : Canon μ (auxTimeout s) := by
  unfold Machine.auxTimeout
  dsimp only
  split
  · exact .ite h h.failPre
  · exact .ite h h.endA2.failPre
  · exact .ite h h.failPre
  · exact .ite h h.failPre
  · exact h

theorem Canon.preEarlyCheck (h : Canon μ s) : Canon μ (preEarlyCheck s) := .ite h.endA2.failPre h

theorem Canon.preMaxTimeout (h : Canon μ s) : Canon μ (preMaxTimeout s) := by
  unfold Machine.preMaxTimeout
  split
  · exact h.endA2.failPre
  · exact .ite h.failPre h
  · exact h

theorem Canon.overlapEnd (h : Canon μ s) : Canon μ (overlapEnd s) := .ite h.frame.setPairs.settle h
theorem Canon.preCoolEnd (h : Canon μ s) : Canon μ (preCoolEnd s) := h.frame
theorem Canon.abortReq (h : Canon μ s) : Canon μ (abortReq s) := h.frame
theorem Canon.closeReq (h : Canon μ s) : Canon μ (closeReq s) := h.frame
theorem Canon.selectStr {n : Nat} (h : Canon μ s) : Canon μ (s.selectStr n) := .ite h.strWelds h.strTo

theorem Canon.leadFrom {l : List Nat} (h : Canon μ s) : Canon μ (leadFrom l s) := by
  induction l generalizing s with
  | nil => exact h.frame
  | cons n ns ih => exact .ite (.ite h.selectStr.frame (ih h.selectStr)) (ih h)

theorem Canon.endStrings (h : Canon μ s) : Canon μ s.endStrings := .ite h.failPre h.startStep

theorem Canon.acceptClose (h : Canon μ s) : Canon μ s.acceptClose :=
  .ite (h.forAll fun _ _ h1 => h1.strTo).frame.put.leadFrom.report.endStrings
    (h.forAll fun _ _ h1 => h1.strTo).frame.put.leadFrom.report

theorem Canon.strEpoch {n : Nat} (h : Canon μ s) : Canon μ (s.strEpoch n) := by
  unfold State.strEpoch
  dsimp only
  split
  · exact .ite h.setStr.strTo h.setStr
  · exact .ite h.setStr.strTo h.setStr
  · exact .ite h.setStr h.setStr.strTo
  · exact .ite h.setStr.strTo h.setStr
  · exact .ite h.setStr.strTo h.setStr
  · exact .ite (.ite h.setStr.strTo (.ite h.setStr.strTo h.setStr)) h.setStr
  · exact .ite h.setStr.strTo h.setStr
  · exact .ite h.setStr.strTo h.setStr
  · exact .ite h.setStr.strTo h.setStr
  · exact h.setStr

theorem Canon.issueCtrSet {c : Nat} (h : Canon μ s) : Canon μ (s.issueCtrSet c) := by
  unfold State.issueCtrSet
  dsimp only
  split
  · exact h
  · exact h.setStr.frame.setChain

theorem Canon.ctrSetDone {n : Nat} {status : Option Nat} (h : Canon μ s) : Canon μ (s.ctrSetDone n status) := by
  unfold State.ctrSetDone
  dsimp only
  split
  · exact h
  · exact .ite h.setStr (.ite h.setStr.notJoined h.setStr)

theorem Canon.othersEpoch (h : Canon μ s) : Canon μ s.othersEpoch :=
  .ite (h.frame.forAll fun _ _ h1 => h1.selectStr).endStrings (h.frame.forAll fun _ _ h1 => h1.selectStr)

theorem Canon.phaseEpoch (h : Canon μ s) : Canon μ s.phaseEpoch := by
  unfold State.phaseEpoch
  dsimp only
  split
  · exact .ite h.frame.put.othersEpoch (.ite (.ite h.leadFrom.endStrings h.leadFrom) h)
  · exact h.othersEpoch
  · split
    · exact h
    · exact .ite h.frame.put h
  · exact h

theorem Canon.ctrEpoch (h : Canon μ s) : Canon μ s.ctrEpoch :=
  ((h.forAll fun _ _ h1 => h1.strEpoch).phaseEpoch.forAll fun _ _ h1 => h1.issueCtrSet).forAll
    fun _ _ h1 => h1.stoPut.stoPut

theorem Canon.strCloseTimeout {n : Nat} (h : Canon μ s) : Canon μ (strCloseTimeout n s) :=
  .ite (.ite h.strWelds h) (.ite h.notJoined h)
theorem Canon.strPreTimeout {n : Nat} (h : Canon μ s) : Canon μ (strPreTimeout n s) := .ite h.notJoined h
theorem Canon.strVerifyTimeout {n : Nat} (h : Canon μ s) : Canon μ (strVerifyTimeout n s) :=
  .ite (.ite h.strTo h.strWelds) h
theorem Canon.joinReq {n : Nat} (h : Canon μ s) : Canon μ (joinReq n s) :=
  .ite (.ite h.frame.put.strTo.selectStr h.frame.put.strTo.selectStr.frame.put) h.report
theorem Canon.weldClrReq {mask : Nat} (h : Canon μ s) : Canon μ (weldClrReq mask s) :=
  .ite (.ite (.ite h h.put.report) (.report (.ite h h.put.report))) h.report
theorem Canon.weldStrClrReq {n : Nat} (h : Canon μ s) : Canon μ (weldStrClrReq n s) :=
  .ite h.report (.ite h (.ite h.report (.ite h.report h.strTo.report)))
theorem Canon.ctrCycle (h : Canon μ s) : Canon μ s.ctrCycle :=
  .ite (.ite h.failPre (.ite h.failPre h.arrayCycle)) (.ite h.failPre h)

/-! ### The functions of Machine/Sfl -/

theorem Canon.sendSafe {n : Nat} {f : List Byte} (h : Canon μ s) : Canon μ (s.sendSafe n f) := .ite h.emit h.draw.emit
theorem Canon.sendMsg {m : SflMsg} (h : Canon μ s) : Canon μ (s.sendMsg m) := .ite h.inc.report h.setConn.put.sendSafe
theorem Canon.sendFrames (h : Canon μ s) : Canon μ s.sendFrames := h.frame.forAll fun _ _ h1 => h1.sendMsg
theorem Canon.addMsg {m : SflMsg} (h : Canon μ s) : Canon μ (s.addMsg m) := h.frame
theorem Canon.addKind {kind : Nat} {payload : List Byte} (h : Canon μ s) : Canon μ (s.addKind kind payload) :=
  h.forAll fun _ _ h1 => h1.addMsg
theorem Canon.lifeFrames (h : Canon μ s) : Canon μ s.lifeFrames := h.forAll fun _ _ h1 => h1.addMsg
theorem Canon.setConnState {n st : Nat} (h : Canon μ s) : Canon μ (s.setConnState n st) :=
  .ite h.put.putBit.putB h.put.putBit
theorem Canon.restartWd {n : Nat} (h : Canon μ s) : Canon μ (s.restartWd n) := h.setConn
theorem Canon.peerStatus {n : Nat} {f : List Byte} (h : Canon μ s) : Canon μ (s.peerStatus n f) :=
  .ite (.ite h.putAll h.putAll.report) h
theorem Canon.inEstablished {n : Nat} {f : List Byte} (h : Canon μ s) : Canon μ (s.inEstablished n f) :=
  .ite h.put.restartWd.addMsg.report (.ite (.peerStatus (.ite h.incBy.put.inc h.incBy.put.restartWd)) h.inc)

theorem Canon.presentFrame {n : Nat} {f : List Byte} (h : Canon μ s) : Canon μ (s.presentFrame n f) := by
  unfold State.presentFrame
  dsimp only
  split
  · exact h
  · exact .ite h.inc (.ite h.inEstablished (.ite h.setConnState.put.restartWd.report h))

theorem Canon.sflReceive (h : Canon μ s) : Canon μ s.sflReceive :=
  (h.forAll fun _ _ h1 => .ite h1 h1.setConn).frame.forAll fun _ _ h1 => h1.presentFrame

theorem Canon.safeFrameArrival {medium ident port : Nat} {fd sumOk : Bool} {data : List Byte} (h : Canon μ s) :
    Canon μ (safeFrameArrival medium ident port fd sumOk data s) := by
  refine .ite h ?_
  dsimp only
  split
  · exact .ite h h.inc.report
  · exact .ite h.frame h.inc

theorem Canon.connectFrameTimer {n : Nat} (h : Canon μ s) : Canon μ (connectFrameTimer n s) := .ite h.addMsg h

theorem Canon.sflWatchdogExpiry {n : Nat} (h : Canon μ s) : Canon μ (sflWatchdogExpiry n s) :=
  .ite (.ite (.ite h.setConnState.inc.report.setCause.raiseBoth h.setConnState.inc.report.setCause)
    h.setConnState.inc.report) h

theorem Canon.loadSfl (h : Canon μ s) : Canon μ s.loadSfl := h.putAll
theorem Canon.startSfl (h : Canon μ s) : Canon μ s.startSfl := h.forAll fun _ _ h1 => h1.setConnState

/-! ### The functions of Machine/Limits -/

theorem Canon.sendLimits {extra : Nat} (h : Canon μ s) : Canon μ (s.sendLimits extra) :=
  h.addKind.addKind.putAll.putAll.frame
theorem Canon.limitCycle (h : Canon μ s) : Canon μ s.limitCycle :=
  .ite h.putB.sendLimits (.ite h.putB.sendLimits.report (.ite h.sendLimits h))

theorem Canon.followTimeout {servitor : Bool} {horizon : Nat} {amps : Word} (h : Canon μ s) :
    Canon μ (followTimeout servitor horizon amps s) :=
  .ite h.raise h

/-! ### The functions of Machine/Pair -/

theorem Canon.nextCycle (h : Canon μ s) : Canon μ s.nextCycle := h.frame
theorem Canon.setNextMode {m : Nat} (h : Canon μ s) : Canon μ (s.setNextMode m) := .ite h h.frame
theorem Canon.armBackstop (h : Canon μ s) : Canon μ s.armBackstop := .ite h h.frame.putB
theorem Canon.pairFault {k cause : Nat} (h : Canon μ s) : Canon μ (s.pairFault k cause) :=
  .ite (.ite h.put h) h.putAll.raiseBoth.report.snap.setCause.setNextMode.armBackstop
theorem Canon.rejoinFail {k : Nat} (h : Canon μ s) : Canon μ (s.rejoinFail k) :=
  .ite h.put.frame h.put.frame.report.pairFault

theorem Canon.lateDigest {k : Nat} (h : Canon μ s) : Canon μ (s.lateDigest k) := by
  unfold State.lateDigest
  dsimp only
  split
  · exact h
  · exact h
  · exact .ite h.put.rejoinFail h
  · exact h.put.pairFault

theorem Canon.injectAt {k : Nat} {flagged : Bool} (h : Canon μ s) : Canon μ (s.injectAt k flagged) :=
  .ite (.ite h.putAll.inc h.putAll) h

theorem Canon.judge {k : Nat} {same : Bool} {found : List Nat} (h : Canon μ s) : Canon μ (s.judge k same found) := by
  refine .ite h (.ite ?_ ?_)
  · dsimp only
    split
    · exact .ite h.rejoinFail (.ite h.frame.setNextMode.report h.frame)
    · exact .pairFault (.ite h.rejoinFail (.ite h.frame.setNextMode.report h.frame))
  · split
    · exact h.pairFault
    · exact .ite h.setNextMode h

theorem Canon.holdingEcc {ecc : Nat} {side : Bool} (h : Canon μ s) : Canon μ (s.holdingEcc ecc side) :=
  .ite h.inc.report (.ite h.inc h)

theorem Canon.digestCompare {errG errS : Word} {skewUs : Nat} {flagged : Bool} {ecc : Nat} {eccSide : Bool}
    (h : Canon μ s) : Canon μ (digestCompare errG errS skewUs flagged ecc eccSide s) := by
  unfold Machine.digestCompare
  dsimp only
  split
  · exact h
  · exact .ite h (.ite h.frame.putAll.holdingEcc.lateDigest h.frame.putAll.holdingEcc.injectAt.judge)

theorem Canon.digestTimeout {_servitor : Bool} (h : Canon μ s) : Canon μ (digestTimeout _servitor s) := by
  unfold Machine.digestTimeout
  dsimp only
  split
  · exact h
  · exact .ite h.frame.lateDigest h

theorem Canon.exchangeLate {_servitor : Bool} (h : Canon μ s) : Canon μ (exchangeLate _servitor s) :=
  .ite h.lateDigest h
theorem Canon.backstopExpiry (h : Canon μ s) : Canon μ (backstopExpiry s) :=
  .ite (.ite h.putB h.putB.frame.putB.settle.report.setCause) h
theorem Canon.backstopDisarm (h : Canon μ s) : Canon μ (backstopDisarm s) := .ite h.putB h

theorem Canon.startupInjection {missed : Option Nat} {eccG eccS : Nat} {okA okB : Bool} (h : Canon μ s) :
    Canon μ (startupInjection missed eccG eccS okA okB s) :=
  .ite (.ite h.holdingEcc.holdingEcc.putB.report.tripTest.frame h.holdingEcc.holdingEcc.put.report.setCause) h

theorem Canon.splitReq (h : Canon μ s) : Canon μ (splitReq s) := h.frame
theorem Canon.judgeSplit {trigger : Bool} (h : Canon μ s) : Canon μ (s.judgeSplit trigger) :=
  .ite (.ite h.frame.put.settle.report h.frame.put.report) h
theorem Canon.endCampaign {result detail : Nat} (h : Canon μ s) : Canon μ (s.endCampaign result detail) :=
  h.putAll.report
theorem Canon.rejoinReq (h : Canon μ s) : Canon μ (rejoinReq s) :=
  .ite (.report (.setNextMode (.frame (.put (.ite h h.draw.endCampaign))))) h
theorem Canon.rejoinReloadDone (h : Canon μ s) : Canon μ (rejoinReloadDone s) := .ite h.frame h
theorem Canon.campGo {code : Nat} (h : Canon μ s) : Canon μ (campGo code s) := .ite h.putAll h
theorem Canon.campaignDone {clean : Bool} {detail : Nat} (h : Canon μ s) : Canon μ (campaignDone clean detail s) :=
  .ite h (.endCampaign (.ite h.frame (.ite h.frame h)))

theorem Canon.replayApply (h : Canon μ s) : Canon μ (replayApply s) := by
  unfold Machine.replayApply
  dsimp only
  split
  · exact h
  · exact h.frame.put

theorem Canon.loseChan {b : Nat} (h : Canon μ s) : Canon μ (s.loseChan b) := .ite h.putBit.report h
theorem Canon.dsmLost {b : Nat} (h : Canon μ s) : Canon μ (dsmLost b s) := .ite h.loseChan h
theorem Canon.hallRangeLost (h : Canon μ s) : Canon μ (hallRangeLost s) := h.loseChan
theorem Canon.hallOpenTest {moved : Bool} (h : Canon μ s) : Canon μ (hallOpenTest moved s) :=
  .ite h.frame.loseChan h.frame
theorem Canon.channelValidAgain {b : Nat} (h : Canon μ s) : Canon μ (channelValidAgain b s) := .ite h.putBit.report h
theorem Canon.timeBase {sByG gByS : Nat} (h : Canon μ s) : Canon μ (s.timeBase sByG gByS) :=
  .ite h.put.put.frame (.ite h.put.put.frame.pairFault h.put.put.frame)

theorem Canon.takeMode (h : Canon μ s) : Canon μ s.takeMode := by
  unfold State.takeMode
  dsimp only
  split
  · exact h
  · exact h.frame.put.settle

/-! ### The functions of Machine/Disconnect -/

theorem Canon.lehrCycle (h : Canon μ s) : Canon μ s.lehrCycle := h.frame.put
theorem Canon.useMinute (h : Canon μ s) : Canon μ s.useMinute := h.frame.put
theorem Canon.latchCauses {w : BitVec 64} (h : Canon μ s) : Canon μ (s.latchCauses w) := .ite h h.putAll
theorem Canon.toSafety {st : Nat} (h : Canon μ s) : Canon μ (s.toSafety st) := .ite h h.put.put.report.setCause
theorem Canon.releaseTrips (h : Canon μ s) : Canon μ s.releaseTrips := .ite h.frame.putB.putB.report h.frame
theorem Canon.backToSafe (h : Canon μ s) : Canon μ s.backToSafe := h.toSafety.putAll.frame
theorem Canon.switchOff (h : Canon μ s) : Canon μ s.switchOff := h.openAll.frame.put.put

theorem Canon.startSd0 {w : BitVec 64} (h : Canon μ s) : Canon μ (s.startSd0 w) := by
  unfold State.startSd0
  extract_lets _ s1 s2 _ _ s3 s4
  have h1 : Canon μ s1 := h.report
  have h2 : Canon μ s2 := h1.inc.putAll
  have h3 : Canon μ s3 := h2.frame
  have h4 : Canon μ s4 := .ite h3.openAll.put h3.switchOff
  exact .toSafety (.ite h4.snap h4)

theorem Canon.startSd1 {w : BitVec 64} (h : Canon μ s) : Canon μ (s.startSd1 w) :=
  h.report.inc.putAll.frame.snap.toSafety
theorem Canon.verifyPass (h : Canon μ s) : Canon μ s.verifyPass := h.putAll.report
theorem Canon.verifyTimeout (h : Canon μ s) : Canon μ (verifyTimeout s) :=
  .ite (.ite h.verifyPass h.putAll.report.pairWelds.raiseBoth) h
theorem Canon.sd0Decision {servitor : Bool} {code : Nat} (h : Canon μ s) : Canon μ (sd0Decision servitor code s) :=
  .ite h.sd0 h
theorem Canon.overcurrent {servitor : Bool} (h : Canon μ s) : Canon μ (overcurrent servitor s) := .ite h.sd0 h
theorem Canon.channelDisagreement {voltage : Bool} (h : Canon μ s) : Canon μ (channelDisagreement voltage s) :=
  .ite h (.ite (.ite h.raiseBoth h) (.ite h.raiseBoth h))

theorem Canon.envelopeCompare {servitor : Bool} {amps : Word} (h : Canon μ s) :
    Canon μ (envelopeCompare servitor amps s) :=
  .ite (.ite h.frame.report.sd0 h.frame) h

theorem Canon.breakCondition (h : Canon μ s) : Canon μ (breakCondition s) := .ite h.frame h
theorem Canon.graceEnd (h : Canon μ s) : Canon μ (graceEnd s) := .ite h.switchOff.report.frame h
theorem Canon.lehrDurationEnd (h : Canon μ s) : Canon μ (lehrDurationEnd s) := .ite h.raiseBoth h
theorem Canon.lehrBudgetMinute (h : Canon μ s) : Canon μ (lehrBudgetMinute s) :=
  .ite (.ite h.frame.put.useMinute h.frame.put) h.put
theorem Canon.lehrClearTimeout (h : Canon μ s) : Canon μ (lehrClearTimeout s) := .ite h.frame h
theorem Canon.openReq (h : Canon μ s) : Canon μ (openReq s) := .ite h.raiseBoth h
theorem Canon.ackReq {okA okB : Bool} (h : Canon μ s) : Canon μ (ackReq okA okB s) := h.frame
theorem Canon.ackSd0Req {okA okB : Bool} (h : Canon μ s) : Canon μ (ackSd0Req okA okB s) := h.frame
theorem Canon.maintReq (h : Canon μ s) : Canon μ (maintReq s) := h.frame
theorem Canon.maintExitReq {okA okB : Bool} (h : Canon μ s) : Canon μ (maintExitReq okA okB s) := h.frame
theorem Canon.exclude {n cause : Nat} (h : Canon μ s) : Canon μ (s.exclude n cause) :=
  .ite h (.report (.ite h.putBit.stoPut.strTo h.putBit.stoPut))
theorem Canon.excludeReq {n : Nat} (h : Canon μ s) : Canon μ (excludeReq n s) := h.exclude
theorem Canon.includeReq {n : Nat} (h : Canon μ s) : Canon μ (includeReq n s) := .ite h.putBit.stoPut.report h
theorem Canon.exclusionCycle (h : Canon μ s) : Canon μ s.exclusionCycle :=
  h.forAll fun _ _ h1 => .ite h1.exclude (.ite h1.exclude h1)
theorem Canon.leaveLehr (h : Canon μ s) : Canon μ s.leaveLehr := .ite h.frame.put.report h
theorem Canon.enterLehr (h : Canon μ s) : Canon μ s.enterLehr :=
  .toSafety (.report (.put (.ite h.latchCauses.frame h.latchCauses.frame.useMinute)))
theorem Canon.noteLehr (h : Canon μ s) : Canon μ s.noteLehr := .frame (.ite h (h.forAll fun _ _ h1 => h1.report))
theorem Canon.refuseReq {bit : Nat} (h : Canon μ s) : Canon μ (s.refuseReq bit) := h.report

theorem Canon.judgeAck {w : BitVec 64} {sd0 : Bool} {req : Option (Bool × Bool)} (h : Canon μ s) :
    Canon μ (s.judgeAck w sd0 req) := by
  unfold State.judgeAck
  dsimp only
  split
  · exact h
  · exact .ite h.refuseReq (.ite h.tripTest.releaseTrips.backToSafe.settle h.tripTest)

theorem Canon.judgeExit (h : Canon μ s) : Canon μ s.judgeExit := by
  unfold State.judgeExit
  dsimp only
  split
  · exact h
  · exact .ite h.refuseReq
      (.ite (.backToSafe (.ite h.tripTest h.tripTest.latchCauses))
      (.toSafety (.ite h.tripTest h.tripTest.latchCauses)))

theorem Canon.judgeMaint {w : BitVec 64} (h : Canon μ s) : Canon μ (s.judgeMaint w) :=
  .ite h (.ite h.toSafety h.refuseReq)
theorem Canon.dropRequests (h : Canon μ s) : Canon μ s.dropRequests := h.frame
theorem Canon.logPass (h : Canon μ s) : Canon μ s.logPass := h.report

theorem Canon.transit {w : BitVec 64} (h : Canon μ s) : Canon μ (s.transit w) := by
  unfold State.transit
  dsimp only
  split
  · exact .ite h.startSd0 (.ite h.putAll.toSafety h)
  · refine .ite h.startSd0 ?_
    split
    · exact .ite h.toSafety.logPass (.ite h.latchCauses.startSd0 h.enterLehr.logPass)
    · exact h.toSafety
    · exact h
  · exact .ite h.startSd0 (.ite h.startSd1 (.ite h h.enterLehr))
  · refine .ite h.startSd0 (.ite (.toSafety (.ite h.putB h)) (.ite ?_ ?_))
    · exact .ite (.toSafety (.ite h.putB h)) (.backToSafe (.ite h.putB h))
    · exact .ite (.frame (.switchOff (.ite h.putB h))) (.ite h.putB h)
  · exact .ite h.leaveLehr.startSd0 (.ite h.leaveLehr.startSd1 (.ite h.leaveLehr.toSafety h))
  · exact h

theorem Canon.dscTimers (h : Canon μ s) : Canon μ s.dscTimers := .ite h.frame.putAll.put h.frame.putAll
theorem Canon.demandCycle (h : Canon μ s) : Canon μ s.demandCycle := .ite h.addKind (.ite h h.addKind.frame)
theorem Canon.verifyCycle (h : Canon μ s) : Canon μ s.verifyCycle := .ite h.verifyPass h
theorem Canon.decideCycle (h : Canon μ s) : Canon μ s.decideCycle :=
  h.frame.latchCauses.noteLehr.transit.judgeAck.judgeAck.judgeExit.judgeMaint.dropRequests.frame

/-! ### The functions of Machine/Node -/

theorem Canon.setNode {c p : Nat} {x : NodeX} (h : Canon μ s) : Canon μ (s.setNode c p x) := h.frame
theorem Canon.onNode {c p : Nat} {f : NodeX → NodeX} (h : Canon μ s) : Canon μ (s.onNode c p f) := .ite h h.setNode
theorem Canon.answer {c p row : Nat} {f : NodeRx} {payload : List Byte} (h : Canon μ s) :
    Canon μ (s.answer c p row f payload) := h.emit

theorem Canon.rxNode {c p row : Nat} {f : NodeRx} {payload : List Byte} {takes : NodeX → Bool}
    {act : NodeX → State → State} (h : Canon μ s)
    (hact : ∀ x s, Canon μ s → Canon μ (act x s)) : Canon μ (s.rxNode c p row f payload takes act) :=
  have h2 := .ite h.setNode h.setNode.emit
  .ite h (.ite h2 (.ite (.ite (.answer h2) h2) (hact _ _ h2)))

theorem Canon.sweepFrame {c p : Nat} {f : NodeRx} {payload : List Byte} {closed : BitVec 24} (h : Canon μ s) :
    Canon μ (sweepFrame c p f payload closed s) :=
  h.rxNode fun _ _ h1 => .ite h1 h1.setNode

theorem Canon.balanceGate {c p : Nat} (h : Canon μ s) : Canon μ (balanceGate c p s) := h.onNode

theorem Canon.conversion {c p : Nat} {inputs : List (BitVec 16)} {shunt : List Word} {err : Bool} (h : Canon μ s) :
    Canon μ (conversion c p inputs shunt err s) :=
  h.onNode

theorem Canon.dataBuild {c p : Nat} {d : StringData} (h : Canon μ s) : Canon μ (dataBuild c p d s) := h.onNode
theorem Canon.sendData {c p opc : Nat} {f : NodeRx} {x : NodeX} (h : Canon μ s) : Canon μ (s.sendData c p opc f x) :=
  h.setNode.answer
theorem Canon.collectFrame {c p : Nat} {f : NodeRx} (h : Canon μ s) : Canon μ (collectFrame c p f s) :=
  h.rxNode fun _ _ h1 => .ite h1.sendData h1

theorem Canon.collectSeg {c p : Nat} {f : NodeRx} {payload : List Byte} {seen quiet : Nat} (h : Canon μ s) :
    Canon μ (collectSeg c p f payload seen quiet s) :=
  h.rxNode fun _ _ h1 => .ite h1.sendData h1

theorem Canon.enumFrame {c p : Nat} {f : NodeRx} {payload : List Byte} (h : Canon μ s) :
    Canon μ (enumFrame c p f payload s) :=
  h.rxNode fun _ _ h1 => .ite h1.setNode.setNode (.ite h1.setNode.setNode.answer h1.setNode)

theorem Canon.assignNode {c p : Nat} {f : NodeRx} {payload : List Byte} (h : Canon μ s) :
    Canon μ (assignNode c p f payload s) :=
  h.rxNode fun _ _ h1 => .ite h1.setNode.answer h1

theorem Canon.echoFrame {c p : Nat} {f : NodeRx} (h : Canon μ s) : Canon μ (echoFrame c p f s) :=
  h.rxNode fun _ _ h1 => .ite h1.answer h1

theorem Canon.nodeCmd {c p opc : Nat} {f : NodeRx} {payload : List Byte} {forType : Nat → Bool} {lenOk : Bool}
    {act : NodeX → State → State}
    (h : Canon μ s) (hact : ∀ x s, Canon μ s → Canon μ (act x s)) :
      Canon μ (s.nodeCmd c p opc f payload forType lenOk act) :=
  h.rxNode fun x s h1 => .ite h1 (.ite h1.answer (.ite h1.answer (hact x s h1)))

theorem Canon.readReg {c p : Nat} {f : NodeRx} {payload : List Byte} (h : Canon μ s) :
    Canon μ (readReg c p f payload s) :=
  h.nodeCmd fun _ _ h1 => .ite h1.answer (.ite h1.answer h1.answer)

theorem Canon.writeReg {c p : Nat} {f : NodeRx} {payload : List Byte} (h : Canon μ s) :
    Canon μ (writeReg c p f payload s) := by
  refine h.nodeCmd fun x s h1 => ?_
  dsimp only
  split
  · exact h1.answer
  · exact h1.setNode.answer

theorem Canon.balSet {c p : Nat} {f : NodeRx} {payload : List Byte} (h : Canon μ s) :
    Canon μ (balSet c p f payload s) :=
  h.nodeCmd fun _ _ h1 => .ite h1.answer h1.setNode.answer

theorem Canon.ctrSet {c p : Nat} {f : NodeRx} {payload : List Byte} {aux : BitVec 3} (h : Canon μ s) :
    Canon μ (ctrSet c p f payload aux s) :=
  h.nodeCmd fun _ _ h1 => .ite h1.answer (.ite h1.answer h1.setNode.answer)

theorem Canon.selftest {c p : Nat} {f : NodeRx} {payload : List Byte} (h : Canon μ s) :
    Canon μ (selftest c p f payload s) :=
  h.nodeCmd fun _ _ h1 => .ite h1.answer (.ite h1.answer (.ite h1.answer h1.setNode.answer))

theorem Canon.selftestDone {c p : Nat} {ok : Bool} {data : List (BitVec 16)} (h : Canon μ s) :
    Canon μ (selftestDone c p ok data s) := h.onNode

theorem Canon.sleepFrame {c p : Nat} {f : NodeRx} {payload : List Byte} (h : Canon μ s) :
    Canon μ (sleepFrame c p f payload s) :=
  h.rxNode fun _ _ h1 => .ite (.ite h1.setNode h1) (.ite h1 (.ite h1.answer h1.draw.answer))

theorem Canon.clearNode {c p : Nat} {f : NodeRx} {payload : List Byte} (h : Canon μ s) :
    Canon μ (clearNode c p f payload s) :=
  h.rxNode fun _ _ h1 => .ite (.ite h1.setNode h1) (.ite h1 (.ite h1.answer h1.setNode.answer))

theorem Canon.commTimeout {c p : Nat} (h : Canon μ s) : Canon μ (commTimeout c p s) := h.onNode
theorem Canon.tokenTimeout {c p : Nat} (h : Canon μ s) : Canon μ (tokenTimeout c p s) := h.onNode
theorem Canon.secondaryFlag {c p k : Nat} {under : Bool} (h : Canon μ s) : Canon μ (secondaryFlag c p k under s) :=
  .ite h (.ite h.setNode h.setNode)

theorem Canon.sleepCheck {c p : Nat} {v : List (BitVec 16)} (h : Canon μ s) : Canon μ (sleepCheck c p v s) := by
  refine .ite h ?_
  split
  · exact h
  · exact h.setNode.emit.emit

theorem Canon.nodeWakeTone {c p : Nat} {dn long : Bool} {ident : NodeIdent} (h : Canon μ s) :
    Canon μ (nodeWakeTone c p dn long ident s) :=
  h.setNode.emit

theorem Canon.nodeSleepReturn {c p : Nat} (h : Canon μ s) : Canon μ (nodeSleepReturn c p s) := h.onNode

theorem Canon.marksBeyond {c : Nat} {l : List Nat} (h : Canon μ s) : Canon μ (s.marksBeyond c l) := by
  induction l generalizing s with
  | nil => exact h
  | cons p ps ih => exact .ite (ih h) (.ite h (ih h.setNode.emit))

theorem Canon.breakMark {c p : Nat} (h : Canon μ s) : Canon μ (breakMark c p s) := .ite h h.setNode.emit.marksBeyond
theorem Canon.nodePowerLoss {c p : Nat} (h : Canon μ s) : Canon μ (nodePowerLoss c p s) := .ite h h.setNode
theorem Canon.dieTemperature {c p : Nat} {t : BitVec 16} (h : Canon μ s) : Canon μ (dieTemperature c p t s) :=
  h.onNode

/-! ### The functions of Machine/Link -/

theorem Canon.linkEvent {c code : Nat} {ps : List Par} (h : Canon μ s) : Canon μ (s.linkEvent c code ps) :=
  .ite h.report.setCause h.report
theorem Canon.sendBytes {c : Nat} {ret : Bool} {bytes : List Byte} (h : Canon μ s) :
    Canon μ (s.sendBytes c ret bytes) := h.emit
theorem Canon.sendCmd {c tag : Nat} {w : WaitCmd} (h : Canon μ s) : Canon μ (s.sendCmd c tag w) := h.sendBytes

theorem Canon.sendAll {c : Nat} {ret : Bool} {opc : Nat} {late lin : Bool} {payload : List Byte} (h : Canon μ s) :
    Canon μ (s.sendAll c ret opc late lin payload) :=
  h.sendBytes

theorem Canon.issueOne {c : Nat} (h : Canon μ s) : Canon μ (s.issueOne c) := by
  refine .ite h ?_
  dsimp only
  split
  · exact h.setChain.sendCmd
  · exact h

theorem Canon.countWaits {c : Nat} (h : Canon μ s) : Canon μ (s.countWaits c) := .ite h h.incBy.setChain
theorem Canon.issue {c : Nat} (h : Canon μ s) : Canon μ (s.issue c) := (h.foldl fun _ _ h1 => h1.issueOne).countWaits
theorem Canon.enqueue {c : Nat} {w : WaitCmd} (h : Canon μ s) : Canon μ (s.enqueue c w) := h.setChain.issue
theorem Canon.maintCmd {c hop opc kind : Nat} {payload : List Byte} (h : Canon μ s) :
    Canon μ (s.maintCmd c hop opc kind payload) := h.enqueue
theorem Canon.sweepUnmute {c : Nat} (h : Canon μ s) : Canon μ (s.sweepUnmute c) :=
  .ite h ((h.setChain.foldl fun _ _ h1 => h1.put).forAll fun _ _ h1 => h1.linkEvent)
theorem Canon.sweepStart {c : Nat} (h : Canon μ s) : Canon μ (s.sweepStart c) :=
  .ite h.sweepUnmute.putAll.setChain.linkEvent h.sweepUnmute
theorem Canon.sweepChain {c : Nat} (h : Canon μ s) : Canon μ (s.sweepChain c) :=
  .ite h (.issue (.setChain (.ite h.sweepStart.sendAll.sendAll h.sweepStart.sendAll)))

theorem Canon.breakRing {c kOut : Nat} {missed : Bool} (h : Canon μ s) : Canon μ (s.breakRing c kOut missed) :=
  .ite h (.ite h.inc.putAll.setChain
    (.issue (.setChain (.ite h.inc.putAll.setChain.sendAll.linkEvent h.inc.putAll.setChain))))

theorem Canon.breakDetected {c kOut : Nat} {missed : Bool} (h : Canon μ s) :
    Canon μ (breakDetected c kOut missed s) := h.breakRing
theorem Canon.heardChain {c : Nat} (h : Canon μ s) : Canon μ (s.heardChain c) := h.setChain

theorem Canon.settleTag {c t : Nat} (h : Canon μ s) : Canon μ (s.settleTag c t) := by
  unfold State.settleTag
  dsimp only
  split
  · exact .issue (.ite h.setChain h)
  · exact h.issue

theorem Canon.retryHop {c hop : Nat} {room : Bool} (h : Canon μ s) : Canon μ (s.retryHop c hop room) :=
  .ite h.stoPut.inc.stoPut.setChain.enqueue h.stoPut.setChain
theorem Canon.takeCorners {c hop : Nat} {v : List Nat} (h : Canon μ s) : Canon μ (s.takeCorners c hop v) :=
  h.setChain.forAll fun _ _ h1 => h1.report
theorem Canon.cfgFound {c hop : Nat} {bad : List Nat} (h : Canon μ s) : Canon μ (s.cfgFound c hop bad) :=
  h.setChain.forAll fun _ _ h1 => h1.report

theorem Canon.afterCollect {c : Nat} {room : Bool} (h : Canon μ s) : Canon μ (s.afterCollect c room) := by
  refine .ite h.issue (.issue (.forAll ?_ (fun _ _ h1 => h1.maintCmd)))
  split
  · exact h
  · exact .ite h.setChain.maintCmd h.setChain

theorem Canon.noteTimeout {c hop kOut : Nat} (h : Canon μ s) : Canon μ (s.noteTimeout c hop kOut).2 := by
  unfold State.noteTimeout
  dsimp only
  split
  · split
    · exact h.inc.breakRing
    · exact h.inc.setChain
  · split
    · exact h.inc.breakRing
    · exact h.inc.setChain

theorem Canon.sleepChain {c : Nat} (h : Canon μ s) : Canon μ (s.sleepChain c) :=
  .ite (.ite h.sendAll.sendAll h.sendAll) h

theorem Canon.maintLost {c : Nat} {w : WaitCmd} (h : Canon μ s) : Canon μ (s.maintLost c w) := by
  refine .ite ?_ (.ite h.sleepChain h)
  split
  · exact h.ctrSetDone
  · exact h

theorem Canon.transactionTimeout {c t hop : Nat} {room : Bool} {kOut : Nat} (h : Canon μ s) :
    Canon μ (transactionTimeout c t hop room kOut s) := by
  unfold Machine.transactionTimeout
  split
  · extract_lets _
    refine .ite h ?_
    split
    next _ s1 hs =>
    have h1 : Canon μ s1 := .of_snd hs h.noteTimeout
    extract_lets s2
    have h2 : Canon μ s2 := .ite h1 h1.setChain
    exact .ite h1 (.ite h2.retryHop.settleTag.afterCollect h2.maintLost)
  · exact h

theorem Canon.tagQuarantineEnd {c t : Nat} (h : Canon μ s) : Canon μ (tagQuarantineEnd c t s) := by
  unfold Machine.tagQuarantineEnd
  dsimp only
  split
  · exact h.setChain.issue
  · exact h

theorem Canon.probeCmd {c t hop opc : Nat} {payload : List Byte} {answered : Bool} {kOut : Nat} (h : Canon μ s) :
    Canon μ (s.probeCmd c t hop opc payload answered kOut) :=
  .ite h.sendCmd.heardChain (.ite h.sendCmd.noteTimeout h.sendCmd.noteTimeout.setChain)

theorem Canon.countSilent {c : Nat} (h : Canon μ s) : Canon μ (s.countSilent c) := h.setChain
theorem Canon.nodeMute {c hop : Nat} (h : Canon μ s) : Canon μ (nodeMute c hop s) :=
  .ite h h.putHop.setChain.linkEvent

theorem Canon.muteProbe {c hop : Nat} {answered : Bool} {kOut : Nat} (h : Canon μ s) :
    Canon μ (muteProbe c hop answered kOut s) := by
  refine .ite h ?_
  dsimp only
  split
  · exact h
  · exact .ite h.probeCmd.setChain h.probeCmd.putHop.setChain.linkEvent

theorem Canon.unmuteAll {c : Nat} (h : Canon μ s) : Canon μ (unmuteAll c s) := h.setChain
theorem Canon.toEnum {c : Nat} (h : Canon μ s) : Canon μ (s.toEnum c) := h.putAll.setChain
theorem Canon.sendEnum {c t : Nat} {ret : Bool} {k : Nat} (h : Canon μ s) : Canon μ (s.sendEnum c t ret k) :=
  h.sendBytes

theorem Canon.enumeration {c : Nat} (h : Canon μ s) : Canon μ (enumeration c s) :=
  .ite h (.sendEnum (.ite (.sendAll (.sendAll (.ite h.toEnum.emit.emit h.toEnum.emit)))
    (.sendAll (.ite h.toEnum.emit.emit h.toEnum.emit))))

theorem Canon.assign {c hop : Nat} {i : Ident} {compOut compRet tag : Nat} (h : Canon μ s) :
    Canon μ (s.assign c hop i compOut compRet tag) :=
  h.stoPut.stoPut.stoPutBytes.putAll.sendCmd

theorem Canon.configure {c hop tag : Nat} {g : NodeCfg} (h : Canon μ s) : Canon μ (s.configure c hop tag g) := by
  unfold State.configure
  extract_lets _ s1 s2 _ _ s3 s4
  have h1 : Canon μ s1 := h.forAll fun _ _ h1 => h1.sendCmd
  have h2 : Canon μ s2 := h1.forAll fun _ _ h2 => h2.sendCmd
  have h3 : Canon μ s3 := h2.forAll fun _ _ h3 => h3.report
  have h4 : Canon μ s4 := .ite h3.takeCorners h3
  exact h4.cfgFound

theorem Canon.enumerationDone {c : Nat} {r : EnumResult} (h : Canon μ s) : Canon μ (enumerationDone c r s) := by
  unfold Machine.enumerationDone
  refine .ite h ?_
  extract_lets _ _ _ s0 s1
  have h0 : Canon μ s0 := h.forAll fun _ _ h1 => h1.sendEnum
  have h1 : Canon μ s1 := .ite (h0.forAll fun _ _ h1 => h1.sendEnum) h0
  split
  extract_lets s2 _ s3 s4 s5 s6 s7 s8
  have h2 : Canon μ s2 := h1.putAll
  have h3 : Canon μ s3 := h2.forAll fun _ _ h1 => h1.putHop
  have h4 : Canon μ s4 := h3.forAll fun _ _ h1 => h1.linkEvent
  have h5 : Canon μ s5 := .ite h4 h4.linkEvent
  have h6 : Canon μ s6 := h5.forAll fun _ _ h1 => h1.assign.configure
  have h7 : Canon μ s7 := h6.forAll fun _ _ h1 => h1.setChain
  have h8 : Canon μ s8 := h7.put.linkEvent
  exact .ite h2.put.setChain.linkEvent (.ite h8.linkEvent h8)

theorem Canon.reenum {c : Nat} (h : Canon μ s) : Canon μ (reenum c s) := .ite h (.ite h.setChain h.linkEvent)

theorem Canon.judgeChain {c : Nat} (h : Canon μ s) : Canon μ (s.judgeChain c) := by
  unfold State.judgeChain
  extract_lets _ _
  refine .ite h ?_
  split
  extract_lets _ _ s1 s2 s3
  have h1 : Canon μ s1 := h.put.put
  have h2 : Canon μ s2 := h1.forAll fun _ _ h => h.putHop
  have h3 : Canon μ s3 := .ite h2.put.linkEvent (.ite h2 h2.put)
  exact .ite h3 h3.linkEvent

theorem Canon.segmentCollectionDone {c : Nat} (h : Canon μ s) : Canon μ (segmentCollectionDone c s) :=
  .ite h.judgeChain h

theorem Canon.restoreHop {c t hop : Nat} {ret : Bool} {i : Ident} (h : Canon μ s) :
    Canon μ (s.restoreHop c t hop ret i) := by
  unfold State.restoreHop
  extract_lets _ _ _ s1 _ _ s2 s3
  have h1 : Canon μ s1 := .ite h.put h.put
  have h2 : Canon μ s2 := h1.putHop.assign.linkEvent
  have h3 : Canon μ s3 := .ite h2.put h2
  exact h3.forAll fun _ _ h4 => h4.maintCmd

theorem Canon.gapProbe {c : Nat} {ret : Bool} {reply : Option (List (BitVec 10))} {rt : Nat} (h : Canon μ s) :
    Canon μ (gapProbe c ret reply rt s) := by
  refine .ite h ?_
  dsimp only
  split
  · exact h
  · split
    · exact h.sendEnum
    · exact .ite h.sendEnum.linkEvent (.ite h.sendEnum.linkEvent h.sendEnum.restoreHop)

theorem Canon.ringProbe {c : Nat} {good : Bool} (h : Canon μ s) : Canon μ (ringProbe c good s) :=
  .ite h h.sendAll.setChain

/-! ### The functions of Machine/CellRec -/

theorem Canon.writeCell {cell : Nat} {r : CellRec} {epoch flags : Nat} (h : Canon μ s) :
    Canon μ (s.writeCell cell r epoch flags) :=
  (h.forAll fun _ _ h1 => h1.setCellF).stoPut.stoPut

theorem Canon.setCell {i : Nat} {x : CellX} (h : Canon μ s) : Canon μ (s.setCell i x) := h.frame
theorem Canon.bareStart {cell : Nat} (h : Canon μ s) : Canon μ (s.bareStart cell) := h.writeCell.setCell

/-! ### The functions of Machine/Diag -/

theorem Canon.snapIn {sinceUs : Nat} (h : Canon μ s) : Canon μ (snapIn sinceUs s) := .ite h h.snap
theorem Canon.trigSnap (h : Canon μ s) : Canon μ (trigSnap s) := h.snap
theorem Canon.snapOutEnd (h : Canon μ s) : Canon μ (snapOutEnd s) := h.frame
theorem Canon.ackFirst (h : Canon μ s) : Canon μ (ackFirst s) := h.putAll
theorem Canon.relSlots {mask : Nat} (h : Canon μ s) : Canon μ (relSlots mask s) := h.frame.put
theorem Canon.takeSpare {large : Bool} {r : Nat} (h : Canon μ s) : Canon μ (s.takeSpare large r) := h.putBit
theorem Canon.bankFails {u b : Nat} (h : Canon μ s) : Canon μ (s.bankFails u b) :=
  .ite h.report.regionFault h.takeSpare.report.repaired
theorem Canon.replaceWindow {servitor : Bool} {w : Nat} (h : Canon μ s) : Canon μ (s.replaceWindow servitor w) :=
  h.putB.putB.repaired.report
theorem Canon.windowLost {servitor : Bool} (h : Canon μ s) : Canon μ (s.windowLost servitor) := h.frame.report

theorem Canon.startWindows {servitor : Bool} {wins : List Nat} {spareBad : Bool} (h : Canon μ s) :
    Canon μ (s.startWindows servitor wins spareBad) := by
  unfold State.startWindows
  dsimp only
  split
  · exact h
  · exact .ite h.report.windowLost (.ite h.report.replaceWindow h.report.replaceWindow.windowLost)

theorem Canon.replaceLane {r lane : Nat} (h : Canon μ s) : Canon μ (s.replaceLane r lane) := by
  unfold State.replaceLane
  dsimp only
  split
  · exact h.putBit.put.putAll.report.repaired
  · exact h.putAll.report.regionFault.requestCheck

theorem Canon.testFailed {item unit : Nat} (h : Canon μ s) : Canon μ (s.testFailed item unit) := h.report

theorem Canon.startupTests {t : StartTests} (h : Canon μ s) : Canon μ (startupTests t s) := by
  unfold Machine.startupTests
  extract_lets s0 s1 s2 s3 s4 s5 s6
  have h0 : Canon μ s0 := h.putAll
  have h1 : Canon μ s1 := h0.forAll fun _ _ h => h.takeSpare
  have h2 : Canon μ s2 := h1.forAll fun _ _ h => h.takeSpare
  have h3 : Canon μ s3 := h2.forAll fun _ _ h => h.testFailed.bankFails
  have h4 : Canon μ s4 := h3.forAll fun _ _ h => h.testFailed.regionFault
  have h5 : Canon μ s5 := h4.forAll fun _ _ h => h.putBit.put
  have h6 : Canon μ s6 := h5.forAll fun _ _ h => h.testFailed.replaceLane
  exact .ite h h6.startWindows.startWindows.frame

theorem Canon.bgEnd (h : Canon μ s) : Canon μ s.bgEnd := .ite h.putAll.frame.incBy h.putAll.frame

theorem Canon.backgroundTestStep {bad : Option Nat} (h : Canon μ s) : Canon μ (backgroundTestStep bad s) := by
  refine .ite h ?_
  dsimp only
  split
  · exact h.incBy.putAll.frame.putAll
  · exact h.incBy.putAll.frame.put
  · split
    · exact h.incBy.putAll.bgEnd
    · exact h.incBy.putAll.bgEnd.logFail

theorem Canon.mirrorEnd (h : Canon μ s) : Canon μ s.mirrorEnd := h.putAll.bgEnd
theorem Canon.bankRedirect {u b : Nat} (h : Canon μ s) : Canon μ (s.bankRedirect u b) := h.mirrorEnd.bankFails

theorem Canon.bankTestPhaseEnd {fail : Bool} (h : Canon μ s) : Canon μ (bankTestPhaseEnd fail s) := by
  unfold Machine.bankTestPhaseEnd
  dsimp only
  split
  · exact h
  · exact .ite h.bankRedirect (.ite h.put h.mirrorEnd.report)

theorem Canon.setAbandons {w n : Nat} (h : Canon μ s) : Canon μ (s.setAbandons w n) := h.frame
theorem Canon.lentWindowAccess (h : Canon μ s) : Canon μ (lentWindowAccess s) :=
  .ite h (.ite h.frame.setAbandons.incBy.report h.frame.setAbandons.incBy)

theorem Canon.windowStepDone {fail : Bool} (h : Canon μ s) : Canon μ (windowStepDone fail s) :=
  .ite h (.ite h.bgEnd (.ite h.bgEnd.setAbandons
    (.ite h.bgEnd.setAbandons.pairFault h.bgEnd.setAbandons.replaceWindow)))

theorem Canon.resp {v : Nat} (h : Canon μ s) : Canon μ (s.resp v) := h.put
theorem Canon.refuseIntrusive (h : Canon μ s) : Canon μ s.refuseIntrusive := h.resp.report

theorem Canon.claimed {tap : Bool} {t : State} (h : Canon μ s) (hc : s.claimed tap = some t) : Canon μ t := by
  unfold State.claimed at hc
  dsimp only at hc
  split at hc
  · split at hc
    · cases hc
    · split at hc
      · cases hc
        exact h.put
      · split at hc <;> cases hc
        exact h
  · split at hc <;> cases hc
    exact h

theorem Canon.debugRead {tap reg : Bool} {addr : Word} (h : Canon μ s) : Canon μ (s.debugRead tap reg addr) := by
  unfold State.debugRead
  split
  · exact h.resp
  next hc =>
    refine .ite (h.claimed hc).resp (.ite (h.claimed hc).putW.resp ?_)
    split
    · exact (h.claimed hc).putW.putW.resp
    · exact (h.claimed hc).putW.draw.putW.resp

theorem Canon.intrusive {tap : Bool} {f : State → State} (h : Canon μ s) (hf : ∀ s, Canon μ s → Canon μ (f s)) :
    Canon μ (s.intrusive tap f) := by
  unfold State.intrusive
  split
  · exact h.resp
  next hc => exact .ite (hf _ (h.claimed hc)) (h.claimed hc).refuseIntrusive

theorem Canon.recordReplay {op : Nat} {addr data : Word} (h : Canon μ s) : Canon μ (s.recordReplay op addr data) :=
  .ite h.frame.put h

theorem Canon.replayed {op : Nat} {addr data : Word} {f : State → State} (h : Canon μ s)
    (hf : ∀ s, Canon μ s → Canon μ (f s)) :
    Canon μ (s.replayed op addr data f) := .ite h.resp (hf _ h.recordReplay).resp

theorem Canon.haltGaffer {tap : Bool} (h : Canon μ s) : Canon μ (haltGaffer tap s) :=
  h.intrusive fun _ h1 => .ite h1.resp
    (h1.replayed fun _ h2 => .ite h2.frame.putB.report.setNextMode h2.frame.putB.report)

theorem Canon.resumeGaffer {tap : Bool} (h : Canon μ s) : Canon μ (resumeGaffer tap s) := by
  unfold Machine.resumeGaffer
  split
  · exact h.resp
  next hc =>
    have h0 := h.claimed hc
    exact .ite (.resp (.resumeCores (.ite h0 h0.recordReplay))) h0.resp

theorem Canon.stepGaffer {tap : Bool} (h : Canon μ s) : Canon μ (stepGaffer tap s) :=
  h.intrusive fun _ h1 => h1.replayed fun _ h2 => h2.frame

theorem Canon.debugWrite {tap reg : Bool} {addr data : Word} (h : Canon μ s) :
    Canon μ (s.debugWrite tap reg addr data) :=
  h.intrusive fun _ h1 => .ite h1.putW.putW.resp
    (.ite h1.putW.putW.inc.resp.report
    (.ite h1.putW.putW.resp (h1.putW.putW.replayed fun _ h2 => .ite h2.frame h2.frame)))

theorem Canon.setBreakpoint {tap : Bool} {addr : Word} (h : Canon μ s) : Canon μ (setBreakpoint tap addr s) :=
  h.intrusive fun _ h1 => h1.replayed fun _ h2 => h2.frame.putB
theorem Canon.clearBreakpoint {tap : Bool} {addr : Word} (h : Canon μ s) : Canon μ (clearBreakpoint tap addr s) :=
  h.intrusive fun _ h1 => h1.replayed fun _ h2 => h2.frame.putB
theorem Canon.claimPort (h : Canon μ s) : Canon μ (claimPort s) := .ite h.put (.ite h.resp h)
theorem Canon.releasePort (h : Canon μ s) : Canon μ (releasePort s) := .ite h.put h
theorem Canon.tapReset (h : Canon μ s) : Canon μ (tapReset s) := .ite h.frame.put h.frame
theorem Canon.unlockPort (h : Canon μ s) : Canon μ (unlockPort s) := .ite h h.putB.putB.report
theorem Canon.lockPort (h : Canon μ s) : Canon μ (lockPort s) := h.lockDebug
theorem Canon.closeDebug (h : Canon μ s) : Canon μ s.closeDebug := .ite h.disarm.lockDebug.report h.lockDebug
theorem Canon.cancelHalt (h : Canon μ s) : Canon μ s.cancelHalt := .ite h.frame.putB.put.refuseIntrusive h
theorem Canon.traceByte {b : Byte} (h : Canon μ s) : Canon μ (s.traceByte b) := .ite h.setWord.put.inc h.setWord.put
theorem Canon.traceBytes {bs : List Byte} (h : Canon μ s) : Canon μ (s.traceBytes bs) :=
  .ite (h.forAll fun _ _ h1 => h1.traceByte) h

/-! ### The functions of Machine/Store -/

theorem Canon.setRet {r k l : Nat} {w : BitVec 64} (h : Canon μ s) : Canon μ (s.setRet r k l w) := h.frame

theorem Canon.setBar2 {off : Nat} {w : BitVec 64} (h : Canon μ s) : Canon μ (s.setBar2 off w) := by
  unfold State.setBar2
  split
  · exact h
  · exact .ite h.setSmp (.ite h.setRet h.setSto64)

theorem Canon.reject {writer u x : Nat} (h : Canon μ s) : Canon μ (s.reject writer u x) := h.inc.putAll.report

theorem Canon.bar2Write {off be data : Nat} (h : Canon μ s) : Canon μ (bar2Write off be data s) := by
  refine .ite h ?_
  split
  · exact h
  · exact .ite h.setBar2 h.reject

theorem Canon.ownerReq {u owner : Nat} (h : Canon μ s) : Canon μ (ownerReq u owner s) :=
  .ite h.put.report (.ite (.putAll (.ite h.put h)) (.putAll (.ite h.put h)))

theorem Canon.loseWord {off : Nat} (h : Canon μ s) : Canon μ (s.loseWord off) := by
  unfold State.loseWord
  dsimp only
  split
  · exact h
  · exact .ite h.setSmp (.ite (.ite (.report (.ite h.bareStart h)) h.setBar2) (.ite h.frame h))

theorem Canon.eccWord {off : Nat} {ue : Bool} (h : Canon μ s) : Canon μ (s.eccWord off ue) := by
  refine .ite h.inc ?_
  dsimp only
  split
  · exact .ite h.inc.putAll.report.loseWord.bankRedirect h.inc.putAll.report.loseWord
  · exact h.inc.putAll.report.loseWord

theorem Canon.eccWords {l : List (BitVec 26 × Bool)} (h : Canon μ s) : Canon μ (s.eccWords l) :=
  h.forAll fun _ _ h1 => h1.eccWord

theorem Canon.bar2Met {off : Nat} {err : Option Bool} (h : Canon μ s) : Canon μ (s.bar2Met off err).2 := by
  unfold State.bar2Met
  split
  · exact h
  · exact h.eccWord

theorem Canon.eccX {ue : Bool} (h : Canon μ s) : Canon μ (s.eccX ue) := .ite h.inc h.draw.inc.putAll.report

theorem Canon.setXword {i : Nat} {w : Word} (h : Canon μ s) : Canon μ (s.setXword i w) := by
  cases μ with
  | xram => exact Sparse.wf_set _ _ _ _ h
  | _ => exact h

theorem Canon.mergeX {i be : Nat} {w : Word} (h : Canon μ s) : Canon μ (s.mergeX i be w) := h.setXword

theorem Canon.exchangeRamWrite {off be : Nat} {data : Word} {device : Option (BitVec 4 × Word)} (h : Canon μ s) :
    Canon μ (exchangeRamWrite off be data device s) := by
  refine .ite h ?_
  dsimp only
  split
  · exact h.mergeX
  · exact h.mergeX.mergeX.inc.putAll.report

/-! ### The functions of Machine/Gather -/

theorem Canon.tokenDeadline {lateA lateB : Bool} (h : Canon μ s) : Canon μ (tokenDeadline lateA lateB s) :=
  .ite h (.ite (.report (.ite h.frame.inc.putB.report h.frame.inc.putB))
    (.ite h.frame.inc.putB.report h.frame.inc.putB))

theorem Canon.noteToken {n : Nat} (h : Canon μ s) : Canon μ (s.noteToken n) := h.stoPut.stoPut.stoPut
theorem Canon.openSweep (h : Canon μ s) : Canon μ s.openSweep := h.moveTo.frame
theorem Canon.sweepAngle (h : Canon μ s) : Canon μ (sweepAngle s) :=
  .ite h ((h.openSweep.putB.forAll fun _ _ h1 => h1.noteToken).forAll fun _ _ h1 => h1.sweepChain).frame
theorem Canon.showDerate {n : Nat} (h : Canon μ s) : Canon μ (s.showDerate n) := h.putBit.putB
theorem Canon.derate {n dir point : Nat} (h : Canon μ s) : Canon μ (s.derate n dir point) :=
  .ite h.frame.showDerate.report h.frame.showDerate
theorem Canon.derateHoldEnd {n dir : Nat} (h : Canon μ s) : Canon μ (derateHoldEnd n dir s) :=
  .ite h.frame.showDerate.report h

theorem Canon.react {path point cls value : Nat} {v : Viol} (h : Canon μ s) :
    Canon μ (s.react path point cls value v) := by
  unfold State.react
  dsimp only
  split
  · exact h.inc.putAll.report
  · exact h.inc.putAll.report.forAll fun _ _ h1 => h1.forAll fun _ _ h2 => h2.derate
  · exact h.inc.putAll.report.raise
  · exact h.inc.putAll.report.trip

theorem Canon.limitCheck {path point ty raw : Nat} {bal use secOv secUv : Bool} (h : Canon μ s) :
    Canon μ (s.limitCheck path point ty raw bal use secOv secUv).2 := by
  unfold State.limitCheck
  dsimp only
  split
  · split
    · exact h
    · split
      · split
        · exact .ite h.frame.react h.frame
        · split
          · exact h.frame
          · exact h
      · split
        · exact .ite h.frame.react h.frame
        · split
          · exact h.frame
          · exact h
  · split
    · exact h
    · split
      · split
        · exact .ite h.frame.react h.frame
        · split
          · exact h.frame
          · exact h
      · split
        · exact .ite h.frame.react h.frame
        · split
          · exact h.frame
          · exact h

theorem Canon.setDuties {c hop : Nat} {l : List Nat} (h : Canon μ s) : Canon μ (s.setDuties c hop l) := h.frame

theorem Canon.intakePoint {c hop k raw : Nat} {f : FrameInfo} (h : Canon μ s) :
    Canon μ (s.intakePoint c hop k raw f) :=
  .ite h.limitCheck.limitCheck.reject h.limitCheck.limitCheck.setSmp

theorem Canon.intakeString {n : Nat} {d : List Byte} {usable : Bool} (h : Canon μ s) :
    Canon μ (s.intakeString n d usable) :=
  .ite h.stoPut (h.setStrF.setStrF.setStrF.setStrF.stoPut.forAll
    fun _ _ h1 => h1.setStrF).stoPut.stoPut.stoPut.stoPut.stoPut.frame.setStr

theorem Canon.stoppedFrame {c hop ty : Nat} {d : List Byte} {was : Nat} (h : Canon μ s) :
    Canon μ (s.stoppedFrame c hop ty d was) :=
  .ite h (.ite (.ite h.setDuties h) (.ite (.report (.ite h.setDuties h)) (.report (.ite h.setDuties h))))

theorem Canon.intakeBlock {c hop : Nat} {d : List Byte} {f : FrameInfo} (h : Canon μ s) :
    Canon μ (s.intakeBlock c hop d f) :=
  h.stoPut.stoPut.stoPut.stoPut.stoPut

theorem Canon.intake {c hop : Nat} {d : List Byte} (h : Canon μ s) : Canon μ (s.intake c hop d) := by
  unfold State.intake
  extract_lets _ _ _ _ _ _ _ _ s1 s2 s3 s4 s5 s6 s7
  have h1 : Canon μ s1 := .ite h.inc.report h
  have h2 : Canon μ s2 := .ite h1.inc.report h1
  have h3 : Canon μ s3 := h2.forAll fun _ _ h => h.report
  have h4 : Canon μ s4 := h3.forAll fun _ _ h => h.report
  have h6 : Canon μ s6 := h4.stoppedFrame.forAll fun _ _ h => h.intakePoint
  have h7 : Canon μ s7 := h6.intakeBlock
  split
  · exact h7.intakeString
  · exact h7

theorem Canon.badFrame {c hop : Nat} {room : Bool} (h : Canon μ s) : Canon μ (s.badFrame c hop room) := by
  unfold State.badFrame
  dsimp only
  split
  · exact h
  · split
    · exact h
    · exact .afterCollect (.settleTag (.retryHop (.ite h h.setChain)))

theorem Canon.takeAnswer {c hop : Nat} {ret : Bool} {us : Nat} {payload : List Byte} (h : Canon μ s) :
    Canon μ (s.takeAnswer c hop ret us payload) :=
  h.intake.setChain

theorem Canon.responseFrame {c : Nat} {ret : Bool} {num : Nat} {line : List (BitVec 10)} {us : Nat} {room : Bool}
    (h : Canon μ s) : Canon μ (responseFrame c ret num line us room s) := by
  refine .ite h (.ite h.inc ?_)
  split
  · exact h.inc.badFrame
  · extract_lets s0 _
    have h0 : Canon μ s0 := h.heardChain
    split
    · exact h0.inc
    · extract_lets _ s1
      have h1 : Canon μ s1 := .ite h0 h0.setChain
      exact .ite h0.inc (.ite h0 (.ite h1.inc.settleTag.issue h1.takeAnswer.settleTag.afterCollect))

theorem Canon.setCamp {e : Nat} {x : CampX} (h : Canon μ s) : Canon μ (s.setCamp e x) := h.frame
theorem Canon.campMark {e node : Nat} (h : Canon μ s) : Canon μ (s.campMark e node) :=
  .ite h.setCamp (.ite h.setCamp.setCamp h.setCamp.setCamp.putBit)
theorem Canon.campaignPeriodEnd {e : Nat} (h : Canon μ s) : Canon μ (campaignPeriodEnd e s) :=
  .ite h (.ite h.setCamp (.ite h h.setCamp.putBit.report))
theorem Canon.campSkip {c : Nat} (h : Canon μ s) : Canon μ (s.campSkip c) :=
  h.forAll fun _ _ h1 => h1.forAll fun _ _ h2 => h2.campMark
theorem Canon.hostSkip (h : Canon μ s) : Canon μ s.hostSkip := h.frame.put

theorem Canon.endHostTest {st : Nat} (h : Canon μ s) : Canon μ (s.endHostTest st) := by
  unfold State.endHostTest
  dsimp only
  split
  · exact h
  · exact .ite h.frame.put.report h.frame.put

theorem Canon.hostTestStep (h : Canon μ s) : Canon μ s.hostTestStep :=
  .ite h (.ite h.endHostTest (.ite h.endHostTest h))

theorem Canon.slotChain {c : Nat} (h : Canon μ s) : Canon μ (s.slotChain c) := by
  refine .ite h ?_
  dsimp only
  split
  · exact h.campSkip
  · exact h.campSkip.frame.maintCmd

theorem Canon.startSlot (h : Canon μ s) : Canon μ s.startSlot :=
  .ite h (h.frame.hostSkip.hostTestStep.forAll fun _ _ h1 => h1.slotChain)
theorem Canon.testRetry {n source : Nat} (h : Canon μ s) : Canon μ (s.testRetry n source) :=
  .ite h.frame (.ite h.setCamp h.campMark)
theorem Canon.noteRefused {n source : Nat} (h : Canon μ s) : Canon μ (s.noteRefused n source) := .ite h h.frame.put

theorem Canon.testRefused {n : Nat} (h : Canon μ s) : Canon μ (s.testRefused n) := by
  unfold State.testRefused
  dsimp only
  split
  · exact h
  · exact h.frame.noteRefused.testRetry.hostTestStep.startSlot

theorem Canon.testRan {n code source : Nat} {pass : Bool} {data0 : Nat} (h : Canon μ s) :
    Canon μ (s.testRan n code source pass data0) :=
  .ite (.campMark (.ite h h.report)) (.ite (.put (.ite h h.report)) (.put (.put (.ite h h.report))))

theorem Canon.testResultRead {c : Nat} {result : Option (BitVec 16)} {data0 kOut : Nat} (h : Canon μ s) :
    Canon μ (testResultRead c result data0 kOut s) := by
  unfold Machine.testResultRead
  dsimp only
  split
  · exact .startSlot (.hostTestStep (.ite h.probeCmd.frame.testRan h.probeCmd.frame.testRetry))
  · exact h

theorem Canon.testGo (h : Canon μ s) : Canon μ (testGo s) := .ite h.putAll.report h.frame.putAll
theorem Canon.testAbort (h : Canon μ s) : Canon μ (testAbort s) := .ite h h.frame.hostTestStep

/-! ### The functions of Machine/ImageCtl -/

theorem Canon.norWrite {a : Nat} {bs : List Byte} (h : Canon μ s) : Canon μ (s.norWrite a bs) := by
  cases μ with
  | nor => exact Sparse.wf_setRun _ _ _ _ h
  | _ => exact h

theorem Canon.norErase {base size : Nat} (h : Canon μ s) : Canon μ (s.norErase base size) := by
  cases μ with
  | nor => exact Sparse.wf_filter _ _ _ h
  | _ => exact h

theorem Canon.norSpoil {a : Nat} (h : Canon μ s) : Canon μ (s.norSpoil a) := .ite h.draw.norWrite h.draw
theorem Canon.setShadow {p : List Byte} (h : Canon μ s) : Canon μ (s.setShadow p) := h.frame.putB
theorem Canon.clearPw (h : Canon μ s) : Canon μ s.clearPw := h.frame
theorem Canon.openSession (h : Canon μ s) : Canon μ (openSession s) :=
  .ite h.clearPw.report (.ite h.clearPw.report (.ite h.clearPw.report h.clearPw.frame))
theorem Canon.startSession {recovery : Bool} (h : Canon μ s) : Canon μ (s.startSession recovery) :=
  h.putAll.frame.report
theorem Canon.failCompare (h : Canon μ s) : Canon μ s.failCompare :=
  .ite h.put.report h.put.report.frame.putB.report.setCause

theorem Canon.passwordCompareDone (h : Canon μ s) : Canon μ (passwordCompareDone s) := by
  unfold Machine.passwordCompareDone
  dsimp only
  split
  · exact h
  · refine .ite (.ite h.frame.startSession h.frame.failCompare) ?_
    split
    · exact .ite h.frame.startSession h.frame.failCompare
    · exact .ite h.frame.report.startSession h.frame.failCompare

theorem Canon.closeSession (h : Canon μ s) : Canon μ (closeSession s) := .ite h.endSession h
theorem Canon.sessionExpiry (h : Canon μ s) : Canon μ (sessionExpiry s) := .ite h.endSession h
theorem Canon.lockoutEnd (h : Canon μ s) : Canon μ (lockoutEnd s) := .ite h.putAll.frame h
theorem Canon.showIdentity (h : Canon μ s) : Canon μ s.showIdentity := h.putAll.putAll

theorem Canon.loadTables (h : Canon μ s) : Canon μ s.loadTables := by
  unfold State.loadTables
  exact ((h.putAll.putAll.putAll.forAll fun _ _ h1 => h1.setStr).startAngle.frame.loadSwitch.loadSfl.forAll
    fun _ _ h1 => h1.refreshInput).settle

theorem Canon.imageLoad {density : Nat} (h : Canon μ s) : Canon μ (imageLoad density s) := by
  unfold Machine.imageLoad
  extract_lets _ _ _ _ s0
  have h0 : Canon μ s0 := h.frame.put
  refine .ite h ?_
  split
  · exact h0.putAll.frame.report
  · extract_lets _ _ _ s2 _ s4
    have h2 : Canon μ s2 := h0.frame.putAll.showIdentity.loadTables
    have h4 : Canon μ s4 := .report (.ite h2.setShadow h2)
    exact .ite h4 h4.putB.take.setCause

theorem Canon.recommission (h : Canon μ s) : Canon μ (recommission s) := by
  refine .ite h ?_
  dsimp only
  split
  · exact .ite h.draw.report (.ite h.frame.requestCheck h.report)
  · exact h.report

theorem Canon.writeSlot {base : Nat} {i : Img} {fail : Option Nat} (h : Canon μ s) :
    Canon μ (s.writeSlot base i fail) := by
  unfold State.writeSlot
  dsimp only
  split
  · exact h.norWrite
  · exact h.frame.norWrite.norSpoil

theorem Canon.bindNext (h : Canon μ s) : Canon μ s.bindNext.2 := by
  unfold State.bindNext
  exact h.frame

theorem Canon.recommissionDone {fail : Option Nat} (h : Canon μ s) : Canon μ (recommissionDone fail s) := by
  refine .ite h ?_
  dsimp only
  split
  · exact h.frame.bindNext.writeSlot.report
  · exact h.frame.bindNext.writeSlot.frame.showIdentity.setShadow.putAll.report

theorem Canon.setUpd {u : Nat} (h : Canon μ s) : Canon μ (s.setUpd u) := .ite h.put.setCause h.put
theorem Canon.startUpdate (h : Canon μ s) : Canon μ (startUpdate s) :=
  .ite h (h.norErase.setUpd.put.frame (nor := rfl))
theorem Canon.stageBytes {off : Nat} {bs : List Byte} (h : Canon μ s) : Canon μ (s.stageBytes off bs) :=
  h.norWrite.frame

theorem Canon.validate {trigger : Nat} (h : Canon μ s) : Canon μ (s.validate trigger).2 := by
  unfold State.validate
  split
  · exact h.runCheckOn
  · exact h.listRefs

theorem Canon.refuseImage {refs : List Ref} (h : Canon μ s) : Canon μ (s.refuseImage refs) := h.setUpd.report

theorem Canon.validationDone (h : Canon μ s) : Canon μ (validationDone s) := by
  refine .ite h ?_
  have hv : Canon μ (s.validate 0).2 := h.validate
  generalize s.validate 0 = p at hv
  exact .ite hv.frame.setUpd hv.refuseImage

theorem Canon.commitUpdate (h : Canon μ s) : Canon μ (commitUpdate s) :=
  .ite h (.ite h.setUpd (.ite h.runCheckOn.setUpd h.runCheckOn.refuseImage))

theorem Canon.writeStaged {kind prev : Nat} {fail : Option Nat} (h : Canon μ s) :
    Canon μ (s.writeStaged kind prev fail).2 := by
  unfold State.writeStaged
  dsimp only
  split
  · exact h.bindNext.writeSlot.setUpd.report
  · exact h.bindNext.writeSlot.setShadow.setUpd

theorem Canon.commitDone {fail : Option Nat} (h : Canon μ s) : Canon μ (commitDone fail s) :=
  .ite h (.ite h.writeStaged h.writeStaged.report)
theorem Canon.updateAbort (h : Canon μ s) : Canon μ (updateAbort s) :=
  .ite h (.ite h.frame.setUpd.putB.setCause h.frame.setUpd)
theorem Canon.recWrite (h : Canon μ s) : Canon μ (recWrite s) :=
  .ite h (.setUpd (.putB (.ite h (h.norErase.put.frame (nor := rfl)))))

theorem Canon.recChunkDone {fail : Option Nat} (h : Canon μ s) : Canon μ (recChunkDone fail s) := by
  refine .ite h (.setCause ?_)
  split
  · exact h.stageBytes.putB.incBy
  · exact h.stageBytes.putB.incBy.norSpoil.setUpd.report

theorem Canon.recCommit (h : Canon μ s) : Canon μ (recCommit s) := .ite h h.frame.setUpd

theorem Canon.recCommitDone {fail : Option Nat} (h : Canon μ s) : Canon μ (recCommitDone fail s) := by
  refine .ite h ?_
  have hv : Canon μ (State.validate { s with img := { s.img with recCommit := false } } 4).2 := h.frame.validate
  generalize State.validate { s with img := { s.img with recCommit := false } } 4 = p at hv
  exact .ite hv.refuseImage (.ite hv.writeStaged hv.writeStaged.report)

/-! ### The functions of Machine/CellUpdate -/

theorem Canon.finaliseWin {cell : Nat} {x : CellX} {r : CellRec} {start : Word} (h : Canon μ s) :
    Canon μ (s.finaliseWin cell x r start).1 := by
  unfold State.finaliseWin
  dsimp only
  split
  · refine .inc ?_
    split
    · exact h.inc
    · exact .ite h.inc.inc h.inc
  · refine .ite (.inc (.inc ?_)) (.inc ?_)
    · split
      · exact h.inc
      · exact .ite h.inc.inc h.inc
    · split
      · exact h.inc
      · exact .ite h.inc.inc h.inc

theorem Canon.lockIn {cell : Nat} {x : CellX} {r : CellRec} {u : Option Word} {filter : Nat} {toff : Int}
    (h : Canon μ s) :
    Canon μ (s.lockIn cell x r u filter toff).1 := by
  unfold State.lockIn
  split
  · exact h
  extract_lets ws fresh
  split
  next s1 x1 r1 hit hp =>
  have h1 : Canon μ s1 := by
    have e := congrArg Prod.fst hp
    dsimp only at e
    rw [← e]
    split
    · split
      · exact h.finaliseWin
      · exact h
    · exact h
  cases u <;> exact h1

theorem Canon.coreTemp {cell : Nat} {x : CellX} {r : CellRec} {mean dt r0 : Word} {hit : Bool} (h : Canon μ s) :
    Canon μ (s.coreTemp cell x r mean dt r0 hit).1 := by
  unfold State.coreTemp
  dsimp only
  split
  · exact h
  · refine .ite (.report ?_) ?_
    · split
      · exact h
      · split
        · exact h.inc
        · exact h
    · split
      · exact h
      · split
        · exact h.inc
        · exact h

theorem Canon.updateCell {cell : Nat} (h : Canon μ s) : Canon μ (s.updateCell cell) := by
  refine .ite (.ite h.writeCell.setCell h.writeCell.setCell) (.ite ?_ ?_)
  · exact .ite h.inc.report.writeCell.setCell h.inc.report.writeCell.setCell
  · refine .setCell (.writeCell (.coreTemp (.lockIn ?_)))
    exact .ite (.report (.inc (.ite h.inc (.ite h h.inc)))) (.ite h.inc (.ite h h.inc))

/-! ### The functions of Machine/Sop -/

theorem Canon.sopScanDone {us : Nat} (h : Canon μ s) : Canon μ (sopScanDone us s) := .ite h h.frame.put.inc

theorem Canon.writeStrLimits {m : Nat} {n : Word} {x : StrLimits} (h : Canon μ s) :
    Canon μ (s.writeStrLimits m n x) := by
  unfold State.writeStrLimits
  extract_lets s1 s2 s3
  have h1 : Canon μ s1 := h.forAll fun _ _ h => h.setStrF
  have h3 : Canon μ s3 := h1.setStrF.setStrF.stoPut.stoPut
  exact .ite h3.report h3

theorem Canon.step8 {n : Word} {stepT top : Nat} (h : Canon μ s) : Canon μ (s.step8 n stepT top) := by
  unfold State.step8
  extract_lets i closed all s1
  have h1 : Canon μ s1 := h.forAll fun _ _ h1 => h1.writeStrLimits
  clear_value s1
  exact .putAll h1.frame

/-! ### The functions of Machine/Estimation -/

theorem Canon.enterRing {n : Word} {m : Nat} (h : Canon μ s) : Canon μ (s.enterRing n m) := .frame (.ite h h.inc)
theorem Canon.enterRings {n : Word} (h : Canon μ s) : Canon μ (s.enterRings n) := h.forAll fun _ _ h1 => h1.enterRing

theorem Canon.aggregate {n : Word} {m : Nat} (h : Canon μ s) : Canon μ (s.aggregate n m) := by
  refine .ite h (.stoPut (.stoPut (.setStrF ?_)))
  split
  · refine .setStrF ?_
    split
    · exact h.setStrF.setStrF.setStrF.setStrF
    · exact h.setStrF.setStrF.setStrF.setStrF.setStrF.setStrF.stoPut.stoPut
  · refine .stoPut (.setStrF (.setStrF (.setStrF ?_)))
    split
    · exact h.setStrF.setStrF.setStrF.setStrF
    · exact h.setStrF.setStrF.setStrF.setStrF.setStrF.setStrF.stoPut.stoPut

theorem Canon.cutUpdate {r : Nat} {k : Nat → Nat} (h : Canon μ s) : Canon μ (s.cutUpdate r k) :=
  ((h.put.forAll fun _ _ h1 => h1.updateCell).forAll fun _ _ h1 => h1.aggregate).frame
theorem Canon.spoil {cell : Nat} (h : Canon μ s) : Canon μ (s.spoil cell) := h.setCell
theorem Canon.updErrs {x : UpdErrs} (h : Canon μ s) : Canon μ (s.updErrs x) :=
  h.eccWords.forAll fun _ _ h1 => h1.spoil

theorem Canon.laneGroupUpdateDone {r us stepT top : Nat} (h : Canon μ s) :
    Canon μ (laneGroupUpdateDone r us stepT top s) := by
  unfold Machine.laneGroupUpdateDone
  extract_lets _ _ s1 s2 s3 _ s4
  have h1 : Canon μ s1 := h.put.forAll fun _ _ h1 => h1.updateCell
  have h2 : Canon μ s2 := h1.forAll fun _ _ h2 => h2.aggregate
  have h3 : Canon μ s3 := h2.putAll
  have h4 : Canon μ s4 := h3.frame
  exact .ite h (.ite h4.step8 h4)

theorem Canon.cellResetReq {cell : Nat} (h : Canon μ s) : Canon μ (cellResetReq cell s) := .ite h.setCell.report h

theorem Canon.cs1Write {a : Nat} {bs : List Byte} (h : Canon μ s) : Canon μ (s.cs1Write a bs) := by
  cases μ with
  | cs1 => exact Sparse.wf_setRun _ _ _ _ h
  | _ => exact h

theorem Canon.saveRegion {r kind seq : Nat} (h : Canon μ s) : Canon μ (s.saveRegion r kind seq) :=
  h.cs1Write.cs1Write.cs1Write.frame
theorem Canon.openBlock {r : Nat} (h : Canon μ s) : Canon μ (s.openBlock r) := h.cs1Write
theorem Canon.startSave {kind : Nat} (h : Canon μ s) : Canon μ (s.startSave kind) :=
  .ite h.putAll h.frame.openBlock.putAll
theorem Canon.saveState (h : Canon μ s) : Canon μ (saveState s) := .ite h.frame h.startSave
theorem Canon.sleepSave (h : Canon μ s) : Canon μ s.sleepSave := .ite h.frame h.startSave
theorem Canon.periodicSave (h : Canon μ s) : Canon μ (periodicSave s) := .ite h h.startSave
theorem Canon.saveNext (h : Canon μ s) : Canon μ s.saveNext :=
  .ite h.frame.putAll.startSave (.ite h.frame.putAll.startSave h.frame.putAll)
theorem Canon.saveAborted {kind : Nat} (h : Canon μ s) : Canon μ (s.saveAborted kind) := h.putAll.saveNext

theorem Canon.saveMs (h : Canon μ s) : Canon μ s.saveMs := by
  unfold State.saveMs
  dsimp only
  split
  · exact h
  · exact .ite h (.ite h.saveRegion.saveAborted h.saveRegion.frame.openBlock.put)

theorem Canon.saveTo {kind n : Nat} (h : Canon μ s) : Canon μ (s.saveTo kind n) :=
  h.forAll fun _ _ h1 => h1.saveRegion

theorem Canon.saveDone {fail : Option Nat} (h : Canon μ s) : Canon μ (saveDone fail s) := by
  unfold Machine.saveDone
  dsimp only
  split
  · exact h
  · split
    · exact .ite h.saveTo.saveAborted (.saveNext (.ite h.saveTo.putAll.frame.report h.saveTo.putAll.frame))
    · exact h.saveTo.openBlock.putAll.report.saveNext

theorem Canon.restoreCell {cell a kind : Nat} (h : Canon μ s) : Canon μ (s.restoreCell cell a kind) :=
  .ite h.reject (.ite h.writeCell.setCell h.bareStart.inc)

theorem Canon.restoreRegion {r : Nat} (h : Canon μ s) : Canon μ (s.restoreRegion r) := by
  unfold State.restoreRegion
  dsimp only
  split
  · exact h.putBit.report.forAll fun _ _ h1 => h1.restoreCell
  · exact h.putBit.putAll.frame.report.forAll fun _ _ h1 => h1.restoreCell

theorem Canon.stateRestoreDone {mbit : Nat} (h : Canon μ s) : Canon μ (stateRestoreDone mbit s) := by
  unfold Machine.stateRestoreDone
  extract_lets _ s1 _ s2
  have h1 : Canon μ s1 := .ite h.put.report h.frame
  have h2 : Canon μ s2 :=
    h1.forAll fun _ _ h2 => .ite h2.restoreRegion (h2.putBit.report.forAll fun _ _ h3 => h3.restoreCell)
  exact .ite h h2.frame.put

/-! ### The functions of Machine/LogCmds -/

theorem Canon.readBackFails {old : State} {e : Event} (ho : Canon μ old) (h : Canon μ s) :
    Canon μ (readBackFails old s e) := by
  unfold Machine.readBackFails
  split
  · exact h
  · exact ho.logFail.take

theorem Canon.eventRecord {code source params : Nat} {ok : Bool} (h : Canon μ s) :
    Canon μ (eventRecord code source params ok s) := by
  unfold Machine.eventRecord
  split
  · exact h
  · exact .ite h.take (h.readBackFails h.take)

theorem Canon.queuedEventWrite {ok : Bool} (h : Canon μ s) : Canon μ (queuedEventWrite ok s) := by
  unfold Machine.queuedEventWrite
  dsimp only
  split
  · exact h.frame.readBackFails h.drainOne
  · exact h.drainOne

theorem Canon.logScan {bad : Option Nat} (h : Canon μ s) : Canon μ (logScan bad s) := by
  have h1 : Canon μ { s with log := s.log.scan } := h.frame (slots := rfl)
  refine .ite h ?_
  cases bad with
  | none => exact h1
  | some i => exact h1.logFail

theorem Canon.anchor {utc : BitVec 40} {nanos : Word} {quality : BitVec 8} (h : Canon μ s) :
    Canon μ (s.anchor utc nanos quality) := h.take

theorem LogState.wf_unmark {l : LogState} (h : Sparse.wf blankRec l.slots = true) (i : Nat) :
    Sparse.wf blankRec (l.unmark i).slots = true :=
  Sparse.wf_set _ _ _ _ h

theorem LogState.wf_unmarkAll {l : LogState} (h : Sparse.wf blankRec l.slots = true) (is : List Nat) :
    Sparse.wf blankRec (is.foldl LogState.unmark l).slots = true := by
  induction is generalizing l with
  | nil => exact h
  | cons i is ih => exact ih (wf_unmark h i)

theorem Canon.newLog {l : LogState} (h : Canon μ s)
    (hl : Sparse.wf blankRec s.log.slots = true → Sparse.wf blankRec l.slots = true) :
    Canon μ { s with log := l } := by
  cases μ with
  | slots => exact hl h
  | _ => exact h

theorem Canon.logClear (h : Canon μ s) : Canon μ (logClear s) :=
  .ite (Canon.record (h.newLog fun hl => LogState.wf_unmarkAll hl _)) h.report
theorem Canon.logWindow {slot : Nat} (h : Canon μ s) : Canon μ (logWindow slot s) := .putAll (.ite h.frame h)
theorem Canon.logHeadSeq (h : Canon μ s) : Canon μ (logHeadSeq s) := h.frame

theorem Canon.tearRecord (h : Canon μ s) : Canon μ s.tearRecord := by
  unfold State.tearRecord
  split
  · exact h.newLog fun hl => LogState.wf_unmark hl _
  · exact h

/-! ### The functions of Machine/HostPorts -/

theorem Canon.setRing {n : Nat} {x : RingX} (h : Canon μ s) : Canon μ (s.setRing n x) := h.frame
theorem Canon.dma {n addr : Nat} {bs : List Byte} (h : Canon μ s) : Canon μ (s.dma n addr bs) := h.emit
theorem Canon.ringVector {n : Nat} (h : Canon μ s) : Canon μ (s.ringVector n) :=
  .ite h (.ite h.setRing h.setRing.sendVector)

theorem Canon.returnEntry {n status : Nat} {ctl : Word} {fields : List (Nat × List Byte)} (h : Canon μ s) :
    Canon μ (s.returnEntry n status ctl fields) :=
  (h.forAll fun _ _ h1 => h1.dma).dma.put.inc.ringVector

theorem Canon.ringEvent {n : Nat} (h : Canon μ s) : Canon μ (s.ringEvent n) := h.report
theorem Canon.tailWrite {n tail : Nat} (h : Canon μ s) : Canon μ (tailWrite n tail s) := .ite h.report h.put
theorem Canon.dropWork {n : Nat} (h : Canon μ s) : Canon μ (s.dropWork n) := .ite h.setRing.putB h.setRing
theorem Canon.ringEnable {n : Nat} {on : Bool} (h : Canon μ s) : Canon μ (ringEnable n on s) :=
  .ite h (.ite h.putB.put.ringEvent h.dropWork.putB.putAll.ringEvent)

theorem Canon.ringStop {n : Nat} {ctls : List Word} (h : Canon μ s) : Canon μ (ringStop n ctls s) :=
  .ite (.ringEnable (.ite (h.dropWork.foldl fun _ _ h1 => h1.returnEntry) h))
    (.ite (h.dropWork.foldl fun _ _ h1 => h1.returnEntry) h)

theorem Canon.ringDmaError {n kind : Nat} {addr : BitVec 64} (h : Canon μ s) : Canon μ (ringDmaError n kind addr s) :=
  .ite h (.ite h.dropWork.putAll.report.updateAbort h.dropWork.putAll.report)
theorem Canon.holdoffEnd {n : Nat} (h : Canon μ s) : Canon μ (holdoffEnd n s) := .ite h.setRing.ringVector h.setRing
theorem Canon.ringNop {n : Nat} {ctl : Word} (h : Canon μ s) : Canon μ (ringNop n ctl s) := .ite h h.returnEntry
theorem Canon.sendNode {n : Nat} {x : NodeCmd} {payload : List Byte} (h : Canon μ s) :
    Canon μ (s.sendNode n x payload) := h.setRing.maintCmd

theorem Canon.nodeRead {n : Nat} {ctl : Word} {c hop addr count : Nat} (h : Canon μ s) :
    Canon μ (nodeRead n ctl c hop addr count s) :=
  .ite h (.ite h.returnEntry (.ite h.returnEntry h.sendNode))

theorem Canon.nodeWrite {n : Nat} {ctl : Word} {c hop addr count : Nat} {words : List (BitVec 16)} (h : Canon μ s) :
    Canon μ (nodeWrite n ctl c hop addr count words s) := by
  refine .ite h (.ite h.returnEntry (.ite h.returnEntry ?_))
  split
  · exact h.returnEntry.report
  · exact .ite h.returnEntry h.sendNode

theorem Canon.nodeCommandTimeout {n : Nat} (h : Canon μ s) : Canon μ (nodeCommandTimeout n s) := by
  unfold Machine.nodeCommandTimeout
  dsimp only
  split
  · exact .ite h.setRing.returnEntry h
  · exact h

theorem Canon.nodeAnswer {c hop opc : Nat} {payload : List Byte} (h : Canon μ s) :
    Canon μ (s.nodeAnswer c hop opc payload) := by
  unfold State.nodeAnswer
  dsimp only
  split
  · exact h
  · split
    · exact h
    · exact .ite h h.setRing.returnEntry

theorem Canon.timeAnchor {n : Nat} {ctl : Word} {utc : BitVec 64} {nanos : Word} {quality : BitVec 8}
    (h : Canon μ s) : Canon μ (timeAnchor n ctl utc nanos quality s) :=
  .ite h h.anchor.returnEntry

theorem Canon.setPub {x : PubX} (h : Canon μ s) : Canon μ (s.setPub x) := h.frame
theorem Canon.pubLast (h : Canon μ s) : Canon μ s.pubLast := .ite h.put h
theorem Canon.pubReturn {status bytes us : Nat} (h : Canon μ s) : Canon μ (s.pubReturn status bytes us) :=
  h.putB.returnEntry.pubLast
theorem Canon.pubFinish {us : Nat} (h : Canon μ s) : Canon μ (s.pubFinish us) := h.pubReturn.put
theorem Canon.pubAbort {bytes us : Nat} (h : Canon μ s) : Canon μ (s.pubAbort bytes us) :=
  .ite h h.pubReturn.inc.report
theorem Canon.publicationComplete {us : Nat} (h : Canon μ s) : Canon μ (publicationComplete us s) :=
  .ite h (.ite h.dma.setPub.pubFinish h.dma.setPub)
theorem Canon.publicationAngle {us : Nat} (h : Canon μ s) : Canon μ (publicationAngle us s) :=
  .ite h (.ite h.moveTo.setPub.pubFinish h.moveTo.setPub)

theorem Canon.pubTake {n : Nat} {l : List (Word × BitVec 64 × Word)} (h : Canon μ s) : Canon μ (s.pubTake n l).1 := by
  induction l generalizing s with
  | nil => exact h
  | cons e es ih =>
    unfold State.pubTake
    split
    · exact h
    · split
      · exact h
      · exact ih h.returnEntry

theorem Canon.pubStart {n : Word} {byAngle : Bool} {entries : List (Word × BitVec 64 × Word)} (h : Canon μ s) :
    Canon μ (s.pubStart n byAngle entries) := by
  refine .ite h ?_
  dsimp only
  split
  · refine .pubLast (.report (.inc ?_))
    split
    · exact h.frame.pubTake
    · exact h.frame
  · refine .putB (.setPub ?_)
    split
    · exact h.frame.pubTake
    · exact h.frame

theorem Canon.eventRingCopy {n : Nat} {ctl : Word} (h : Canon μ s) : Canon μ (eventRingCopy n ctl s) := by
  refine .ite h ?_
  dsimp only
  split
  · exact h
  · exact .returnEntry (.ite h.setRing h.setRing.incBy.report)

theorem Canon.bulkRead {n : Nat} {ctl : Word} {dest : BitVec 64} {len space : Nat} {off : BitVec 64} (h : Canon μ s) :
    Canon μ (bulkRead n ctl dest len space off s) :=
  .ite h (.ite h.returnEntry h.dma.returnEntry)

theorem Canon.imageChunk {n : Nat} {ctl : Word} {addr : BitVec 64} {len : Nat} {last : Bool} {data : List Byte}
    {fail : Option Nat} (h : Canon μ s) : Canon μ (imageChunk n ctl addr len last data fail s) := by
  refine .ite h (.ite h.returnEntry (.ite h.returnEntry.listRefs.refuseImage ?_))
  dsimp only
  split
  · exact h.stageBytes.put.norSpoil.setUpd.report
  · exact .ite h.stageBytes.put.returnEntry.setUpd h.stageBytes.put.returnEntry

theorem Canon.icauseWrite {clear same : BitVec 9} (h : Canon μ s) : Canon μ (icauseWrite clear same s) :=
  h.frame.forAll fun _ _ h1 => h1.setCause

theorem Canon.imaskWrite {v : Nat} (h : Canon μ s) : Canon μ (imaskWrite v s) :=
  .ite h.report (.ite (h.putAll.forAll fun _ _ h1 => h1.sendVector).sendVector
    (h.putAll.forAll fun _ _ h1 => h1.sendVector))

theorem Canon.flushPba (h : Canon μ s) : Canon μ s.flushPba := h.forAll fun _ _ h1 => h1.frame.sendVector
theorem Canon.pauseRings (h : Canon μ s) : Canon μ s.pauseRings := h.forAll fun _ _ h1 => h1.put
theorem Canon.resumeRings (h : Canon μ s) : Canon μ s.resumeRings := h.forAll fun _ _ h1 => h1.put
theorem Canon.stage4 {cause t : Nat} (h : Canon μ s) : Canon μ (s.stage4 cause t) :=
  .ite (.report (.resumeRings (.put (.ite h.put h)))) (.ite h.put.pauseRings.report h)

theorem Canon.filterRegs {p : Nat × Word → Bool} (h : Canon μ s) : Canon μ { s with regs := s.regs.filter p } := by
  cases μ with
  | regs => exact Sparse.wf_filter _ _ _ h
  | _ => exact h

theorem Canon.resetEndpoint (h : Canon μ s) : Canon μ s.resetEndpoint := h.filterRegs.putAll.frame
theorem Canon.endpointReset {perst : Bool} {t : Nat} (h : Canon μ s) : Canon μ (s.endpointReset perst t) :=
  .report (.stage4 (.ite h.resetEndpoint.frame h.resetEndpoint))
theorem Canon.perstN {high : Bool} {t : Nat} (h : Canon μ s) : Canon μ (perstN high t s) :=
  .ite h.frame.stage4 (.ite h.endpointReset h.frame)
theorem Canon.pcieLinkChange {link master : Bool} {t : Nat} (h : Canon μ s) :
    Canon μ (pcieLinkChange link master t s) := h.frame.stage4.flushPba
theorem Canon.ethLinkChange {eth1 up : Bool} {speed : Nat} (h : Canon μ s) :
    Canon μ (ethLinkChange eth1 up speed s) := .ite h.putAll h.putAll
theorem Canon.canBusOff {can1 off : Bool} (h : Canon μ s) : Canon μ (canBusOff can1 off s) := h.putB
theorem Canon.waitRx {m : Nat} {b : List Byte} (h : Canon μ s) : Canon μ (s.waitRx m b) := h.frame

theorem Canon.macFrameRx {m ident : Nat} {fd brs : Bool} {d : List Byte} (h : Canon μ s) :
    Canon μ (macFrameRx m ident fd brs d s) := by
  refine .ite h (.ite (.ite h.waitRx h) (.ite h ?_))
  dsimp only
  split
  · exact h.emit.frame (xram := rfl)
  · exact .ite h h.waitRx

theorem Canon.xputBytes {off : Nat} {bs : List Byte} (h : Canon μ s) : Canon μ (s.xputBytes off bs) :=
  h.foldl fun _ _ h1 => h1.setXword
theorem Canon.h2gOne {lost : List Nat} (h : Canon μ s) : Canon μ (State.h2gOne lost s) :=
  .ite h (.ite h.setXword (.setXword (.ite h.inc.emit h.inc)))

theorem Canon.g2hOne (h : Canon μ s) : Canon μ s.g2hOne := by
  unfold State.g2hOne
  dsimp only
  split
  · exact h
  · exact .ite h.frame.inc.report (.ite h.frame.xputBytes.setXword.inc.setCause h.frame.xputBytes.setXword.inc)

theorem Canon.hostQueues {ecc : List (Nat × Bool)} (h : Canon μ s) : Canon μ (State.hostQueues ecc s) :=
  .ite (h.forAll fun _ _ h1 => h1.eccX)
    (((h.forAll fun _ _ h1 => h1.eccX).foldl fun _ _ h1 => h1.h2gOne).foldl fun _ _ h1 => h1.g2hOne)

/-! ### The functions of Machine/Maint -/

theorem Canon.regRead {c hop : Nat} {w : List Byte} (h : Canon μ s) : Canon μ (s.regRead c hop w) := by
  unfold State.regRead
  extract_lets _ _ _ s1 s2 _ s3 s4
  have h1 : Canon μ s1 := h.stoPut.stoPut.stoPut.stoPut
  have h2 : Canon μ s2 := h1.stoPut
  have h3 : Canon μ s3 := .ite h2.stoPutBytes.setDuties h2
  have h4 : Canon μ s4 := .ite h3.report h3
  exact .ite h4.report h4

theorem Canon.configAnswer {c hop : Nat} {w : WaitCmd} {payload : List Byte} (h : Canon μ s) :
    Canon μ (s.configAnswer c hop w payload) :=
  .ite (.ite h.cfgFound h)
    (.ite (h.forAll fun _ _ h1 => h1.maintCmd) (.ite h.takeCorners (.ite h.cfgFound.maintCmd h.cfgFound)))

theorem Canon.noteSlp {c hop : Nat} {payload : List Byte} (h : Canon μ s) : Canon μ (s.noteSlp c hop payload) :=
  .ite h.setChain h

theorem Canon.maintAct {c hop : Nat} {w : WaitCmd} {quar : Bool} {payload : List Byte} (h : Canon μ s) :
    Canon μ (s.maintAct c hop w quar payload) := by
  unfold State.maintAct
  dsimp only
  split
  · exact .ite h.regRead h
  · refine .ite h ?_
    split
    · exact h.ctrSetDone
    · exact h
  · exact .nodeAnswer (.ite (.noteSlp (.ite h.setDuties h)) (.ite h.setDuties h))
  · exact h.configAnswer
  · exact h.sleepChain
  · exact .ite h h.testRefused

theorem Canon.maintResponse {c : Nat} {line : List (BitVec 10)} (h : Canon μ s) : Canon μ (maintResponse c line s) :=
  by
  refine .ite h ?_
  split
  · exact h.inc
  · extract_lets s0 _ _
    have h0 : Canon μ s0 := h.heardChain
    split
    · exact h0.inc
    · extract_lets s1 s2
      have h1 : Canon μ s1 := .ite h0 h0.setChain
      have h2 : Canon μ s2 := .ite h1 h1.report
      exact .ite h0.inc h2.maintAct.issue

/-! ### The functions of Machine/Ripple -/

theorem Canon.refreshRip (h : Canon μ s) : Canon μ s.refreshRip := .ite h.putAll.report h.putAll
theorem Canon.excStart (h : Canon μ s) : Canon μ s.excStart := h.frame.put.report

theorem Canon.excFinish {cause : Nat} (h : Canon μ s) : Canon μ (s.excFinish cause) :=
  .ite h (.put (.ite (.report (.ite h.frame.report.put.report h.frame.report.put))
    (.ite h.frame.report.put.report h.frame.report.put)))

theorem Canon.excEvaluate {n : Word} (h : Canon μ s) : Canon μ (s.excEvaluate n) :=
  .ite h.frame (.ite h.frame.put.excStart h.frame.put)
theorem Canon.excitationEnd (h : Canon μ s) : Canon μ (excitationEnd s) := h.excFinish
theorem Canon.excStopReq (h : Canon μ s) : Canon μ (excStopReq s) := h.frame.excFinish
theorem Canon.excEnWritten {on : Bool} (h : Canon μ s) : Canon μ (excEnWritten on s) :=
  .ite (.ite h.put h) (.put (.ite h.put h))

theorem State.addKind_est {k : Nat} {b : List Byte} : (s.addKind k b).est = s.est := by
  unfold State.addKind
  generalize s.carriers k = l
  induction l generalizing s with
  | nil => rfl
  | cons n l ih => exact ih

theorem Canon.excCycle (h : Canon μ s) : Canon μ s.excCycle :=
  have ha (b : List Byte) : Canon μ { s.addKind 4 b with est := s.est } :=
    h.addKind.frame (cs1 := by rw [State.addKind_est])
  .ite (.ite h.excFinish (.ite h (.ite h.excFinish (ha _).frame))) (.ite (ha _).frame h)

/-! ### The functions of Machine/Close -/

theorem Canon.cancelChain {c : Nat} (h : Canon μ s) : Canon μ (s.cancelChain c) := h.setChain

theorem Canon.closeChain {c : Nat} (h : Canon μ s) : Canon μ (s.closeChain c) := by
  unfold State.closeChain
  extract_lets _ s1 s2 s3
  have h1 : Canon μ s1 := h.put.putAll
  have h2 : Canon μ s2 := .ite h1.countSilent.judgeChain h1
  have h3 : Canon μ s3 := h2.cancelChain
  exact .ite h3.toEnum h3

theorem Canon.closeString {n : Nat} (h : Canon μ s) : Canon μ (s.closeString n) :=
  .ite (.exclude (.setStr (.ite h h.stoPut))) (.setStr (.ite h h.stoPut))
theorem Canon.applyPending {u : Nat} (h : Canon μ s) : Canon μ (s.applyPending u) :=
  .ite h (.report (.ite h.putAll h.putAll))
theorem Canon.handover {r : Nat} (h : Canon μ s) : Canon μ (s.handover r) :=
  (h.applyPending.applyPending.applyPending.forAll fun _ _ h1 => .ite h1 h1.put).frame
theorem Canon.shareCycle (h : Canon μ s) : Canon μ s.shareCycle := h.frame.putAll
theorem Canon.closeFigures {us unfinished : Nat} {byAngle : Bool} (h : Canon μ s) :
    Canon μ (s.closeFigures us unfinished byAngle) := h.putAll.putAll
theorem Canon.retain {k r : Nat} (h : Canon μ s) : Canon μ (s.retain k r) := .ite h h.frame
theorem Canon.retention (h : Canon μ s) : Canon μ s.retention := (h.forAll fun _ _ h1 => h1.retain).putAll
theorem Canon.fillSet {r : Nat} (h : Canon μ s) : Canon μ (s.fillSet r) := .ite h h.frame
theorem Canon.checkLanes {l : List (Nat × Nat)} (h : Canon μ s) : Canon μ (s.checkLanes l) :=
  ((h.forAll fun _ _ h1 => h1.replaceLane).forAll fun _ _ h1 => h1.put.put).frame
theorem Canon.overrun {r : Nat} (h : Canon μ s) : Canon μ (s.overrun r) :=
  .ite h (.ite h.put.inc.put.report.report.regionFault h.put.inc.put.report)

theorem Canon.overruns (h : Canon μ s) : Canon μ s.overruns := by
  unfold State.overruns
  dsimp only
  split
  · exact h.forAll fun _ _ h1 => h1.overrun
  · exact (h.forAll fun _ _ h1 => h1.overrun).frame.inc.report

theorem Canon.release (h : Canon μ s) : Canon μ s.release := .ite h.put (.ite h.put.frame.put.step8 h.put.frame.put)

theorem Canon.closeEpoch {byAngle : Bool} {e : CloseInfo} (h : Canon μ s) : Canon μ (s.closeEpoch byAngle e) := by
  unfold State.closeEpoch
  extract_lets _ _ s0 t s1 s2 s3 s4 s5 s6 s7 s8 s9 s10 _ _ s11
  have h0 : Canon μ s0 := h.eccWords.forAll fun _ _ h => h.cutUpdate
  have h1 : Canon μ s1 := .ite (.ite h0.inc h0.inc.report) h0
  have h2 : Canon μ s2 := h1.forAll fun _ _ h => h.closeChain
  have h3 : Canon μ s3 := h2.forAll fun _ _ h => h.closeString
  have h4 : Canon μ s4 := h3.forAll fun _ _ h => h.handover
  have h6 : Canon μ s6 := h4.closeFigures.shareCycle.retention.forAll fun _ _ h => h.fillSet
  have h7 : Canon μ s7 := h6.enterRings.overruns.checkLanes
  have h9 : Canon μ s9 := h7.pubAbort.pubStart.checkCompare
  have h11 : Canon μ s11 := h9.release.excEvaluate.refreshRip.ctrEpoch.frame
  exact h11.forAll fun _ _ h => h.issue

theorem Canon.epochClose {e : CloseInfo} (h : Canon μ s) : Canon μ (epochClose e s) := .ite h.closeEpoch h
theorem Canon.closeAngle {e : CloseInfo} (h : Canon μ s) : Canon μ (closeAngle e s) :=
  .ite h (.startSlot (.frame (.ite h.moveTo.closeEpoch h.moveTo)))

/-! ### The functions of Machine/SafetyCycle -/

theorem Canon.takeMeas {m : Meas} (h : Canon μ s) : Canon μ (s.takeMeas m) :=
  h.frame.putW.putW.putW.putW.putW.put.putB.traceBytes
theorem Canon.openCount {n : Nat} (h : Canon μ s) : Canon μ (s.openCount n) := h.setStr
theorem Canon.judgeClose {trigger : Bool} (h : Canon μ s) : Canon μ (s.judgeClose trigger) :=
  .ite h (.ite (.report (.ite h.frame.report h.frame)) h.frame.toSafety.acceptClose.closeDebug)

theorem Canon.refuseEarly (h : Canon μ s) : Canon μ s.refuseEarly := by
  unfold State.refuseEarly
  extract_lets s1 s2 s3
  have h1 : Canon μ s1 := .ite h.refuseReq h
  have h2 : Canon μ s2 := .ite h1.refuseReq h1
  have h3 : Canon μ s3 := .ite h2.refuseReq h2
  exact .dropRequests (.ite h3.refuseReq h3)

theorem Canon.decisions (h : Canon μ s) : Canon μ s.decisions :=
  .judgeClose (.judgeSplit (.ite h.decideCycle h.refuseEarly))
theorem Canon.endCycle (h : Canon μ s) : Canon μ s.endCycle := h.frame

theorem Canon.safetyCycle {m : Meas} (h : Canon μ s) : Canon μ (safetyCycle m s) := by
  unfold Machine.safetyCycle
  extract_lets s0 s1 s2 s3 s4
  have h0 : Canon μ s0 := h.cancelHalt.takeMode
  have h1 : Canon μ s1 := h.nextCycle.cancelHalt.takeMode.takeMeas.timeBase.sflReceive.inputsCycle
  have h2 : Canon μ s2 := h1.forAll fun _ _ h => h.openCount
  have h3 : Canon μ s3 := h2.lehrCycle.dscTimers.exclusionCycle.ctrCycle.verifyCycle.decisions
  have h4 : Canon μ s4 := h3.demandCycle.excCycle.limitCycle.lifeFrames.sendFrames.hostQueues
  exact .ite h (.ite h0 h4.endCycle.settle)

/-! ### The functions of Machine/Power -/

theorem Canon.loadRepair (h : Canon μ s) : Canon μ s.loadRepair := by
  unfold State.loadRepair
  extract_lets _ _ _ _ s1 s2 s3 s4
  have h1 : Canon μ s1 := h.putW.putW.put
  have h2 : Canon μ s2 := h1.putW
  have h3 : Canon μ s3 := h2.putAll
  have h4 : Canon μ s4 := .ite h3 h3.report
  exact .ite h4 h4.report

theorem Sparse.wfFrom_remap {α : Type} [DecidableEq α] (d : Nat → α) (g : Nat → α → α) (m : List (Nat × α))
    (lo : Option Nat) (h : Sparse.wfFrom d lo m = true) :
    Sparse.wfFrom d lo ((m.map (fun p => (p.1, g p.1 p.2))).filter (fun p => p.2 != d p.1)) = true := by
  induction m generalizing lo with
  | nil => rfl
  | cons p m ih =>
    obtain ⟨a, v⟩ := p
    obtain ⟨ha, -, hm⟩ := (Sparse.wfFrom_cons d lo a v m).1 h
    rw [List.map_cons]
    by_cases hg : g a v = d a
    · rw [List.filter_cons_of_neg (by simpa using hg)]
      exact Sparse.wfFrom_mono d (some a) lo _ (fun b hb l hl => Nat.lt_trans (ha l hl) (hb a rfl)) (ih _ hm)
    · rw [List.filter_cons_of_pos (by simpa using hg)]
      exact (Sparse.wfFrom_cons d lo a _ _).2 ⟨ha, hg, ih _ hm⟩

theorem Canon.coreReset (h : Canon μ s) : Canon μ s.coreReset := by
  refine Canon.putAll ?_
  cases μ with
  | regs => exact Sparse.wfFrom_remap resetWord startWord s.regs none h
  | xram | words => rfl
  | nor | cs1 | slots => exact h

theorem Canon.copyTimes (h : Canon μ s) : Canon μ s.copyTimes := h.frame
theorem Canon.powerDown (h : Canon μ s) : Canon μ s.powerDown := h.coreReset.frame
theorem Canon.enterStage0 {cause : Nat} {pulse : Bool} (h : Canon μ s) : Canon μ (s.enterStage0 cause pulse) :=
  h.coreReset.frame.putAll.loadRepair.settle
theorem Canon.coldStart {cause : Nat} (h : Canon μ s) : Canon μ (s.coldStart cause) := h.frame.enterStage0
theorem Canon.vbusStart (h : Canon μ s) : Canon μ (vbusStart s) := .ite h (.ite h.coldStart h.frame.putB.coldStart)
theorem Canon.dbgEnSample {high : Bool} (h : Canon μ s) : Canon μ (dbgEnSample high s) :=
  .ite h (.ite h.frame.putAll.settle h.frame)
theorem Canon.vout33Retry {mv : Nat} (h : Canon μ s) : Canon μ (vout33Retry mv s) :=
  .ite h.setVout33.putB.frame.report h.setVout33.putB
theorem Canon.brownOut (h : Canon μ s) : Canon μ (brownOut s) := h.logScan.report.drain.copyTimes.powerDown
theorem Canon.powerLoss (h : Canon μ s) : Canon μ (powerLoss s) := .frame (.ite h.tearRecord.powerDown h)

theorem Canon.vbusWarn {f : Fld} {code flag : Nat} {sets clears : Bool} {v : Nat} (h : Canon μ s) :
    Canon μ (s.vbusWarn f code flag sets clears v) :=
  .ite (.ite h.setVbus.putB.report h.setVbus) (.ite h.setVbus.putB.report h.setVbus)

theorem Canon.vbusLow {ms v : Nat} (h : Canon μ s) : Canon μ (vbusLow ms v s) := h.vbusWarn
theorem Canon.vbusHigh {ms v : Nat} (h : Canon μ s) : Canon μ (vbusHigh ms v s) := h.vbusWarn
theorem Canon.optimeCopy (h : Canon μ s) : Canon μ (optimeCopy s) := h.frame
theorem Canon.enterStage {n t deadline : Nat} (h : Canon μ s) : Canon μ (s.enterStage n t deadline) :=
  .ite h.put.put.report h.put.put
theorem Canon.stage1Entry {t : Nat} (h : Canon μ s) : Canon μ (stage1Entry t s) := .ite h.enterStage.frame.settle h
theorem Canon.stage2Entry {t : Nat} (h : Canon μ s) : Canon μ (stage2Entry t s) :=
  .ite h.enterStage.putAll.frame.settle.requestCheck h
theorem Canon.stage3Entry {t : Nat} (h : Canon μ s) : Canon μ (stage3Entry t s) :=
  .ite (h.enterStage.forAll fun _ _ h1 => h1.evalProof).startSfl.frame.stage4 h
theorem Canon.resetNLow (h : Canon μ s) : Canon μ (resetNLow s) := .ite h h.drain.enterStage0.frame
theorem Canon.resetNRelease (h : Canon μ s) : Canon μ (resetNRelease s) := .ite h.enterStage0 h
theorem Canon.stuckReset (h : Canon μ s) : Canon μ (stuckReset s) := .ite h.enterStage0.putB.report h
theorem Canon.stuckResetClear (h : Canon μ s) : Canon μ (stuckResetClear s) := h.putB
theorem Canon.restartReq (h : Canon μ s) : Canon μ (restartReq s) := .ite h.report.drain.enterStage0 h.report
theorem Canon.sendSlp {c hop : Nat} (h : Canon μ s) : Canon μ (s.sendSlp c hop) := .ite h.maintCmd h

theorem Canon.beginSleep (h : Canon μ s) : Canon μ s.beginSleep :=
  (((h.putB.forAll fun _ _ h1 => h1.put).forAll fun _ _ h1 => h1.forAll fun _ _ h2 => h2.sendSlp).forAll
    fun _ _ h1 => h1.sleepChain).sleepSave

theorem Canon.sleepReq (h : Canon μ s) : Canon μ (sleepReq s) := by
  refine .ite h ?_
  split
  · exact h.beginSleep
  · exact h.put.report

theorem Canon.sleepSequenceDone (h : Canon μ s) : Canon μ (sleepSequenceDone s) :=
  .ite h h.report.drain.copyTimes.powerDown.frame
theorem Canon.wake {e : WakeEvent} (h : Canon μ s) : Canon μ (s.wake e) := h.coldStart.putAll
theorem Canon.wakeEvent {e : WakeEvent} (h : Canon μ s) : Canon μ (s.wakeEvent e) := .ite h.wake (.ite h.frame h)
theorem Canon.wakeInEdge {high : Bool} {lowMs : Nat} (h : Canon μ s) : Canon μ (wakeInEdge high lowMs s) :=
  .ite h.putB.wakeEvent h.putB
theorem Canon.wakeTone {c port : Nat} (h : Canon μ s) : Canon μ (wakeTone c port s) := .ite h.wakeEvent h
theorem Canon.wakeTimer (h : Canon μ s) : Canon μ (wakeTimer s) := .ite h.wakeEvent h

theorem Canon.latchedWake (h : Canon μ s) : Canon μ (latchedWake s) := by
  unfold Machine.latchedWake
  split
  · exact .ite h.wake h
  · exact h

theorem Canon.wakePulse (h : Canon μ s) : Canon μ (wakePulse s) := h.frame
theorem Canon.wakeOutPulseEnd (h : Canon μ s) : Canon μ (wakeOutPulseEnd s) := h.frame

/-! ### The functions of Machine/Views -/

theorem Canon.whenRead {a : Nat} {f : State → State} (h : Canon μ s) (hf : ∀ s, Canon μ s → Canon μ (f s)) :
    Canon μ (whenRead s a f) :=
  .ite (hf s h) h

theorem Canon.pwrOptimeLo (h : Canon μ s) : Canon μ (pwrOptimeLo s) := h.frame
theorem Canon.pairRetireLo (h : Canon μ s) : Canon μ (pairRetireLo s) := h.frame

/-! ### The functions of Machine/HostWrites -/

theorem Canon.from1 {f : State → State} (h : Canon μ s) (hf : ∀ s, Canon μ s → Canon μ (f s)) : Canon μ (s.from1 f) :=
  .ite (hf s h) h

theorem Canon.fromPort {tap : Bool} {f : State → State} (h : Canon μ s) (hf : ∀ s, Canon μ s → Canon μ (f s)) :
    Canon μ (s.fromPort tap f) :=
  .ite (.ite (hf s h) h) (h.from1 hf)

theorem Canon.keepSession (h : Canon μ s) : Canon μ s.keepSession := h.frame
theorem Canon.attempt {a : Nat} (h : Canon μ s) : Canon μ (s.attempt a) := h.report

theorem Canon.rwp {a : Nat} {f : State → State} (h : Canon μ s) (hf : ∀ s, Canon μ s → Canon μ (f s)) :
    Canon μ (s.rwp a f) :=
  h.from1 fun _ h1 => .ite (hf _ h1.keepSession) h1.attempt

theorem Canon.undefinedCode {a : Nat} (h : Canon μ s) : Canon μ (s.undefinedCode a) := h.report
theorem Canon.srcOvrWrite {v : Nat} (h : Canon μ s) : Canon μ (srcOvrWrite v s) :=
  .ite h (h.rwp fun _ h1 => h1.put.srcOvr)
theorem Canon.goWrite {code chain : Nat} (h : Canon μ s) : Canon μ (goWrite code chain s) :=
  h.from1 fun _ h1 => h1.putAll.testGo
theorem Canon.ownerWrite {u v : Nat} (h : Canon μ s) : Canon μ (ownerWrite u v s) :=
  h.from1 fun _ h1 => .ite h1.undefinedCode (.ite h1.keepSession.ownerReq (.ite h1 h1.attempt))
theorem Canon.cellResetWrite {cell : Nat} (h : Canon μ s) : Canon μ (cellResetWrite cell s) :=
  .ite (h.rwp fun _ h1 => h1.put.cellResetReq) (h.from1 fun _ h1 => h1.undefinedCode)
theorem Canon.excEnWrite {on : Bool} (h : Canon μ s) : Canon μ (excEnWrite on s) :=
  .ite (h.from1 fun _ h1 => h1.excEnWritten) (h.rwp fun _ h1 => h1.putB.excEnWritten)
theorem Canon.excludeWrite {n : Nat} (h : Canon μ s) : Canon μ (excludeWrite n s) :=
  h.rwp fun _ h1 => h1.put.excludeReq
theorem Canon.includeWrite {n : Nat} (h : Canon μ s) : Canon μ (includeWrite n s) :=
  h.rwp fun _ h1 => h1.put.includeReq
theorem Canon.joinWrite {n : Nat} (h : Canon μ s) : Canon μ (joinWrite n s) := h.from1 fun _ h1 => h1.put.joinReq
theorem Canon.weldClrWrite {mask : Nat} (h : Canon μ s) : Canon μ (weldClrWrite mask s) :=
  h.rwp fun _ h1 => h1.put.weldClrReq
theorem Canon.weldStrClrWrite {n : Nat} (h : Canon μ s) : Canon μ (weldStrClrWrite n s) :=
  (h.from1 fun _ h1 => h1.put).rwp fun _ h1 => h1.weldStrClrReq
theorem Canon.campWrite {code : Nat} (h : Canon μ s) : Canon μ (campWrite code s) :=
  h.from1 fun _ h1 => .ite h1.undefinedCode (h1.rwp fun _ h2 => h2.put.campGo)
theorem Canon.genWrite {g : Nat} {phase : Bool} {v : Nat} (h : Canon μ s) : Canon μ (genWrite g phase v s) :=
  h.from1 fun _ h1 => .ite h1.undefinedCode (.ite h1 (.ite h1.attempt h1.put))
theorem Canon.ringCtl {n : Nat} {on intEn : Bool} (h : Canon μ s) : Canon μ (ringCtl n on intEn s) :=
  h.putB.ringEnable
theorem Canon.rdIdxWrite {slot : Nat} (h : Canon μ s) : Canon μ (rdIdxWrite slot s) :=
  h.from1 fun _ h1 => .ite h1.undefinedCode h1.put.logWindow

theorem Canon.debugOp {op : Nat} (h : Canon μ s) : Canon μ (debugOp op s) := by
  unfold Machine.debugOp
  dsimp only
  split
  · exact h.haltGaffer
  · exact h.resumeGaffer
  · exact h.stepGaffer
  · exact h.debugRead
  · exact h.debugWrite
  · exact h.debugRead
  · exact h.debugWrite
  · exact h.setBreakpoint
  · exact h.clearBreakpoint
  · exact h

theorem Canon.drawBool (h : Canon μ s) : Canon μ s.drawBool.2 := by
  unfold State.drawBool
  exact h.frame

theorem Canon.withTripTest {f : Bool → Bool → State → State} (h : Canon μ s)
    (hf : ∀ a b s, Canon μ s → Canon μ (f a b s)) :
    Canon μ (s.withTripTest f) := hf _ _ _ h.drawBool.drawBool

theorem Canon.followUp {a old v : Nat} {ok : Bool} (h : Canon μ s) : Canon μ (s.followUp a old v ok) :=
  .ite (.ite h.srcOvr h) (.ite (.ite h.excEnWritten h) (.ite (.ite h h.relSlots) (.ite h.flushPba h)))
theorem Canon.endsFirst {a v : Nat} (h : Canon μ s) : Canon μ (s.endsFirst a v) := .ite h.closeSession h

/-- The actions of a list keep the maps canonical. -/
def CanonActions (μ : Mem) (l : List (Nat × Bool × (State → State))) : Prop :=
  ∀ p ∈ l, ∀ s, Canon μ s → Canon μ (p.2.2 s)

theorem CanonActions.nil : CanonActions μ [] := fun _ hp => (List.not_mem_nil hp).elim

theorem CanonActions.cons {n : Nat} {b : Bool} {f : State → State} {l : List (Nat × Bool × (State → State))}
    (hf : ∀ s, Canon μ s → Canon μ (f s))
    (hl : CanonActions μ l) : CanonActions μ ((n, b, f) :: l) := List.forall_mem_cons.2 ⟨hf, hl⟩

theorem CanonActions.ite {c : Prop} {_ : Decidable c} {l m : List (Nat × Bool × (State → State))}
    (hl : CanonActions μ l) (hm : CanonActions μ m) :
    CanonActions μ (if c then l else m) := by
  split
  · exact hl
  · exact hm

theorem canonActions_actionsOf (a : Nat) : CanonActions μ (actionsOf a) := by
  unfold actionsOf
  refine .ite (.cons (fun _ h => h.sleepReq)
    (.cons (fun _ h => h.wakePulse) (.cons (fun _ h => h.saveState) (.cons (fun _ h => h.restartReq) .nil)))) ?_
  refine .ite (.cons (fun _ h => h.openSession)
    (.cons (fun _ h => h.closeSession) (.cons (fun _ h => h.recommission) .nil))) ?_
  refine .ite (.cons (fun _ h => h.startUpdate)
    (.cons (fun _ h => h.commitUpdate) (.cons (fun _ h => h.updateAbort) .nil))) ?_
  refine .ite (.cons (fun _ h => h.recWrite) (.cons (fun _ h => h.recCommit) .nil)) ?_
  refine .ite (.cons (fun _ h => h.runCheck) .nil) ?_
  refine .ite (.cons (fun _ h => h.acquireLock) .nil) ?_
  refine .ite (.cons (fun _ h => h.testGo) (.cons (fun _ h => h.testAbort) .nil)) ?_
  refine .ite (.cons (fun _ h => h.reenum) (.cons (fun _ h => h.unmuteAll) .nil)) ?_
  refine .ite (.cons (fun _ h => h.cellResetReq) .nil) ?_
  refine .ite (.cons (fun _ h => h.excStopReq) .nil) ?_
  refine .ite (.cons (fun _ h => h.openReq) (.cons (fun _ h => h.withTripTest fun _ _ _ h => h.ackReq)
      (.cons (fun _ h => h.withTripTest fun _ _ _ h => h.ackSd0Req) (.cons (fun _ h => h.maintReq)
      (.cons (fun _ h => h.withTripTest fun _ _ _ h => h.maintExitReq) .nil))))) ?_
  refine .ite (.cons (fun _ h => h.excludeReq) (.cons (fun _ h => h.includeReq) .nil)) ?_
  refine .ite (.cons (fun _ h => h.closeReq) (.cons (fun _ h => h.abortReq) (.cons (fun _ h => h.joinReq)
      (.cons (fun _ h => h.weldClrReq) (.cons (fun _ h => h.weldStrClrReq) .nil))))) ?_
  refine .ite (.cons (fun _ h => h.splitReq) (.cons (fun _ h => h.rejoinReq) (.cons (fun _ h => h.campGo) .nil))) ?_
  refine .ite (.cons (fun _ h => h.logClear) .nil) ?_
  refine .ite (.cons (fun _ h => h.trigSnap) (.cons (fun _ h => h.ackFirst) .nil)) ?_
  refine .ite (.cons (fun _ h => h.unlockPort)
    (.cons (fun _ h => h.lockPort) (.cons (fun _ h => h.claimPort) (.cons (fun _ h => h.releasePort) .nil)))) ?_
  exact .nil

theorem Canon.plainWrite {r : RegSpec} {a v : Nat} (h : Canon μ s) : Canon μ (s.plainWrite r a v) := by
  have h0 := h.endsFirst (a := a) (v := v)
  refine .ite h.undefinedCode
    (.ite h.attempt (.followUp (.forAllMem (.setWord (.ite (.ite h0.keepSession h0.attempt) h0)) fun p hp => ?_)))
  exact canonActions_actionsOf a p (List.mem_filter.1 hp).1

theorem Canon.ringWrite {r : RegSpec} {a v : Nat} (h : Canon μ s) : Canon μ (s.ringWrite r a v) := by
  unfold State.ringWrite
  dsimp only
  split
  · exact h.tailWrite
  · exact .ite h.ringCtl.frame.ringStop h.ringCtl
  · exact .ite h.report h.plainWrite

theorem Canon.regWrite {a v : Nat} (h : Canon μ s) : Canon μ (s.regWrite a v) := by
  unfold State.regWrite
  dsimp only
  split
  · exact h
  · exact .ite h.ringWrite
      (.ite h.icauseWrite (.ite h.imaskWrite
      (.ite h.ownerWrite (.ite (.ite h.writeOn.clr h.writeOn)
      (.ite h.wdWrite (.ite h.genWrite
      (.ite h.frame (.ite h.frame (.ite h.rdIdxWrite (.ite (.ite h.debugOp h.undefinedCode) h.plainWrite))))))))))

theorem Canon.hostWrite {a be v : Nat} (h : Canon μ s) : Canon μ (hostWrite a be v s) :=
  .ite h (.ite h.exchangeRamWrite (.ite h.regWrite h))

/-! ### The functions of Machine/Tick -/

theorem Canon.step8Ms (h : Canon μ s) : Canon μ s.step8Ms := by
  unfold State.step8Ms
  split
  · exact h
  · exact .ite h.step8 h

theorem Canon.tick (h : Canon μ s) : Canon μ (tick s) := .ite h.frame.angleMs.drain.regainMs.saveMs.step8Ms h

/-! ### The functions of Machine/Step -/

theorem Canon.withFetchWord {nbits w : Nat} (h : Canon μ s) : Canon μ (s.withFetchWord nbits w) := by
  unfold State.withFetchWord
  split
  · exact h
  · exact h.frame

end Sys2Proof.Machine
end

section
set_option Elab.async false
namespace Sys2Proof.Machine

variable {μ : Mem} {s t : State}

/-! ### Commands and steps -/

theorem Canon.finish {r : State} (h : Canon μ t) : Gives (finish r t) (Canon μ) := gives_finish r t _ h.riseCause

/-- Every command completes, with the maps as canonical as they were. -/
theorem Canon.exec (h : Canon μ s) : ∀ i, Gives (exec i s) (Canon μ)
  | .vbusStart => h.vbusStart.finish
  | .dbgEnSample _ => (h.whenOn fun _ h1 => h1.dbgEnSample).finish
  | .vout33Retry _ => (h.whenOn fun _ h1 => h1.vout33Retry).finish
  | .brownOut => (h.whenOn fun _ h1 => h1.brownOut).finish
  | .powerLoss => h.powerLoss.finish
  | .vbusLow _ _ => (h.whenOn fun _ h1 => h1.vbusLow).finish
  | .vbusHigh _ _ => (h.whenOn fun _ h1 => h1.vbusHigh).finish
  | .vswSupplyLost _ _ => (h.whenOn fun _ h1 => h1.vswLost).finish
  | .vswSupplyRegained _ _ => (h.whenOn fun _ h1 => h1.vswRegained).finish
  | .optimeCopy => (h.whenOn fun _ h1 => h1.optimeCopy).finish
  | .stage1Entry _ => (h.whenOn fun _ h1 => h1.stage1Entry).finish
  | .stage2Entry _ => (h.whenOn fun _ h1 => h1.stage2Entry).finish
  | .stage3Entry _ => (h.whenOn fun _ h1 => h1.stage3Entry).finish
  | .resetNLow => (h.whenOn fun _ h1 => h1.resetNLow).finish
  | .resetNRelease => (h.whenOn fun _ h1 => h1.resetNRelease).finish
  | .stuckReset => (h.whenOn fun _ h1 => h1.stuckReset).finish
  | .stuckResetClear => (h.whenOn fun _ h1 => h1.stuckResetClear).finish
  | .restartModule => (h.whenOn fun _ h1 => h1.rwp fun _ h2 => h2.restartReq).finish
  | .sleepReq => (h.whenOn fun _ h1 => h1.from1 fun _ h2 => h2.sleepReq).finish
  | .sleepSequenceDone => (h.whenOn fun _ h1 => h1.sleepSequenceDone).finish
  | .wakeInEdge _ => h.wakeInEdge.finish
  | .wakeToneDetected _ _ => h.wakeTone.finish
  | .wakeTimerExpiry => h.wakeTimer.finish
  | .latchedWake => h.latchedWake.finish
  | .wakePulse => (h.whenOn fun _ h1 => h1.from1 fun _ h2 => h2.wakePulse).finish
  | .wakeOutPulseEnd => (h.whenOn fun _ h1 => h1.wakeOutPulseEnd).finish
  | .saveState => (h.whenOn fun _ h1 => h1.from1 fun _ h2 => h2.saveState).finish
  | .imageLoad _ => (h.whenOn fun _ h1 => h1.imageLoad).finish
  | .startupTests _ => (h.whenOn fun _ h1 => h1.startupTests).finish
  | .startupInjection _ _ _ _ _ => (h.whenOn fun _ h1 => h1.startupInjection).finish
  | .logScan _ => (h.whenOn fun _ h1 => h1.logScan).finish
  | .openSession => (h.whenOn fun _ h1 => h1.from1 fun _ h2 => h2.openSession).finish
  | .passwordCompareDone => (h.whenOn fun _ h1 => h1.passwordCompareDone).finish
  | .closeSession => (h.whenOn fun _ h1 => h1.from1 fun _ h2 => h2.closeSession).finish
  | .sessionExpiry => (h.whenOn fun _ h1 => h1.sessionExpiry).finish
  | .lockoutEnd => (h.whenOn fun _ h1 => h1.lockoutEnd).finish
  | .recommission => (h.whenOn fun _ h1 => h1.rwp fun _ h2 => h2.recommission).finish
  | .recommissionDone _ => (h.whenOn fun _ h1 => h1.recommissionDone).finish
  | .startUpdate => (h.whenOn fun _ h1 => h1.rwp fun _ h2 => h2.startUpdate).finish
  | .validationDone => (h.whenOn fun _ h1 => h1.validationDone).finish
  | .commitUpdate => (h.whenOn fun _ h1 => h1.rwp fun _ h2 => h2.commitUpdate).finish
  | .commitDone _ => (h.whenOn fun _ h1 => h1.commitDone).finish
  | .updateAbort => (h.whenOn fun _ h1 => h1.rwp fun _ h2 => h2.updateAbort).finish
  | .recWrite => (h.whenOn fun _ h1 => h1.rwp fun _ h2 => h2.recWrite).finish
  | .recChunkDone _ => (h.whenOn fun _ h1 => h1.recChunkDone).finish
  | .recCommit => (h.whenOn fun _ h1 => h1.rwp fun _ h2 => h2.recCommit).finish
  | .recCommitDone _ => (h.whenOn fun _ h1 => h1.recCommitDone).finish
  | .runCheck => (h.whenOn fun _ h1 => h1.from1 fun _ h2 => h2.runCheck).finish
  | .deadlineCheckDone => (h.whenOn fun _ h1 => h1.deadlineCheckDone).finish
  | .syncInEdge _ => (h.whenOn fun _ h1 => h1.syncInEdge).finish
  | .lockAcquired _ _ _ => (h.whenOn fun _ h1 => h1.lockAcquired).finish
  | .lockLost _ => (h.whenOn fun _ h1 => h1.lockLost).finish
  | .imageSourceRestored _ => (h.whenOn fun _ h1 => h1.imageSourceRestored).finish
  | .frequencyClamp _ _ => (h.whenOn fun _ h1 => h1.frequencyClamp).finish
  | .slipResolved _ _ => (h.whenOn fun _ h1 => h1.slipResolved).finish
  | .acquireLock => (h.whenOn fun _ h1 => h1.from1 fun _ h2 => h2.acquireLock).finish
  | .srcOvr _ => (h.whenOn fun _ h1 => h1.srcOvrWrite).finish
  | .scheduleCycleBoundary => (h.whenOn fun _ h1 => h1.scheduleCycleBoundary).finish
  | .sweepAngle => (h.whenOn fun _ h1 => h1.sweepAngle).finish
  | .tokenDeadline _ _ => (h.whenOn fun _ h1 => h1.tokenDeadline).finish
  | .closeAngle _ => (h.whenOn fun _ h1 => h1.closeAngle).finish
  | .epochClose _ => (h.whenOn fun _ h1 => h1.epochClose).finish
  | .responseFrame _ _ _ _ _ _ _ _ => (h.whenOn fun _ h1 => h1.responseFrame.eccWords).finish
  | .transactionTimeout _ _ _ _ => (h.whenOn fun _ h1 => h1.transactionTimeout).finish
  | .tagQuarantineEnd _ _ => (h.whenOn fun _ h1 => h1.tagQuarantineEnd).finish
  | .maintResponse _ _ _ => (h.whenOn fun _ h1 => h1.maintResponse).finish
  | .nodeMute _ _ => (h.whenOn fun _ h1 => h1.nodeMute).finish
  | .muteProbe _ _ _ => (h.whenOn fun _ h1 => h1.muteProbe).finish
  | .unmuteAll _ => (h.whenOn fun _ h1 => h1.from1 fun _ h2 => h2.unmuteAll).finish
  | .enumeration _ => (h.whenOn fun _ h1 => h1.enumeration).finish
  | .enumerationDone _ _ => (h.whenOn fun _ h1 => h1.enumerationDone).finish
  | .reenum _ => (h.whenOn fun _ h1 => h1.from1 fun _ h2 => h2.reenum).finish
  | .breakDetected _ _ _ => (h.whenOn fun _ h1 => h1.breakDetected).finish
  | .segmentCollectionDone _ => (h.whenOn fun _ h1 => h1.segmentCollectionDone).finish
  | .gapProbe _ _ _ _ => (h.whenOn fun _ h1 => h1.gapProbe).finish
  | .ringProbe _ _ => (h.whenOn fun _ h1 => h1.ringProbe).finish
  | .sweepFrame _ _ _ _ => h.sweepFrame.finish
  | .balanceGate _ _ => h.balanceGate.finish
  | .conversion _ _ _ _ => h.conversion.finish
  | .dataBuild _ _ _ => h.dataBuild.finish
  | .collectFrame _ _ _ => h.collectFrame.finish
  | .collectSeg _ _ _ _ => h.collectSeg.finish
  | .enumFrame _ _ _ _ => h.enumFrame.finish
  | .assignNode _ _ _ _ => h.assignNode.finish
  | .echoFrame _ _ _ => h.echoFrame.finish
  | .readReg _ _ _ _ => h.readReg.finish
  | .writeReg _ _ _ _ => h.writeReg.finish
  | .balSet _ _ _ _ => h.balSet.finish
  | .ctrSet _ _ _ _ _ => h.ctrSet.finish
  | .selftest _ _ _ _ => h.selftest.finish
  | .selftestDone _ _ _ _ => h.selftestDone.finish
  | .sleepFrame _ _ _ _ => h.sleepFrame.finish
  | .clearNode _ _ _ => h.clearNode.finish
  | .commTimeout _ _ => h.commTimeout.finish
  | .tokenTimeout _ _ => h.tokenTimeout.finish
  | .secondaryFlag _ _ _ _ => h.secondaryFlag.finish
  | .sleepCheck _ _ _ => h.sleepCheck.finish
  | .nodeWakeTone _ _ _ _ _ => h.nodeWakeTone.finish
  | .nodeSleepReturn _ _ => h.nodeSleepReturn.finish
  | .testResultRead _ _ _ => (h.whenOn fun _ h1 => h1.testResultRead).finish
  | .testGo _ _ => (h.whenOn fun _ h1 => h1.goWrite).finish
  | .testRequestAbort => (h.whenOn fun _ h1 => h1.from1 fun _ h2 => h2.testAbort).finish
  | .campaignPeriodEnd _ => (h.whenOn fun _ h1 => h1.campaignPeriodEnd).finish
  | .owner _ _ => (h.whenOn fun _ h1 => h1.ownerWrite).finish
  | .bar2Write _ _ _ => (h.whenOn fun _ h1 => h1.bar2Write).finish
  | .exchangeRamWrite _ _ _ _ => (h.whenOn fun _ h1 => h1.exchangeRamWrite).finish
  | .backgroundTestStep _ _ => (h.whenOn fun _ h1 => h1.backgroundTestStep.eccWords).finish
  | .bankTestPhaseEnd _ => (h.whenOn fun _ h1 => h1.bankTestPhaseEnd).finish
  | .lentWindowAccess => (h.whenOn fun _ h1 => h1.lentWindowAccess).finish
  | .windowStepDone _ => (h.whenOn fun _ h1 => h1.windowStepDone).finish
  | .laneGroupUpdateDone _ _ _ _ _ => (h.whenOn fun _ h1 => h1.updErrs.laneGroupUpdateDone).finish
  | .cellReset _ => (h.whenOn fun _ h1 => h1.cellResetWrite).finish
  | .periodicSave => (h.whenOn fun _ h1 => h1.periodicSave).finish
  | .saveDone _ => (h.whenOn fun _ h1 => h1.saveDone).finish
  | .stateRestoreDone _ => (h.whenOn fun _ h1 => h1.stateRestoreDone).finish
  | .excitationEnd => (h.whenOn fun _ h1 => h1.excitationEnd).finish
  | .excitationStop => (h.whenOn fun _ h1 => h1.from1 fun _ h2 => h2.excStopReq).finish
  | .excEn _ => (h.whenOn fun _ h1 => h1.excEnWrite).finish
  | .sopScanDone _ => (h.whenOn fun _ h1 => h1.sopScanDone).finish
  | .derateHoldEnd _ _ => (h.whenOn fun _ h1 => h1.derateHoldEnd).finish
  | .safetyCycle _ => (h.whenOn fun _ h1 => h1.safetyCycle).finish
  | .sd0Decision _ _ => (h.whenOn fun _ h1 => h1.sd0Decision).finish
  | .overcurrent _ => (h.whenOn fun _ h1 => h1.overcurrent).finish
  | .channelDisagreement _ => (h.whenOn fun _ h1 => h1.channelDisagreement).finish
  | .followTimeout _ _ _ => (h.whenOn fun _ h1 => h1.followTimeout).finish
  | .envelopeCompare _ _ => (h.whenOn fun _ h1 => h1.envelopeCompare).finish
  | .breakCondition => (h.whenOn fun _ h1 => h1.breakCondition).finish
  | .graceEnd => (h.whenOn fun _ h1 => h1.graceEnd).finish
  | .verifyTimeout => (h.whenOn fun _ h1 => h1.verifyTimeout).finish
  | .lehrDurationEnd => (h.whenOn fun _ h1 => h1.lehrDurationEnd).finish
  | .lehrBudgetMinute => (h.whenOn fun _ h1 => h1.lehrBudgetMinute).finish
  | .lehrClearTimeout => (h.whenOn fun _ h1 => h1.lehrClearTimeout).finish
  | .openReq => (h.whenOn fun _ h1 => h1.from1 fun _ h2 => h2.openReq).finish
  | .ackTrip _ _ => (h.whenOn fun _ h1 => h1.from1 fun _ h2 => h2.ackReq).finish
  | .ackSd0 _ _ => (h.whenOn fun _ h1 => h1.rwp fun _ h2 => h2.ackSd0Req).finish
  | .maintReq => (h.whenOn fun _ h1 => h1.rwp fun _ h2 => h2.maintReq).finish
  | .maintExit _ _ => (h.whenOn fun _ h1 => h1.from1 fun _ h2 => h2.maintExitReq).finish
  | .excludeString _ => (h.whenOn fun _ h1 => h1.excludeWrite).finish
  | .includeString _ => (h.whenOn fun _ h1 => h1.includeWrite).finish
  | .closeReq => (h.whenOn fun _ h1 => h1.from1 fun _ h2 => h2.closeReq).finish
  | .abortPrecharge => (h.whenOn fun _ h1 => h1.from1 fun _ h2 => h2.abortReq).finish
  | .joinString _ => (h.whenOn fun _ h1 => h1.joinWrite).finish
  | .weldClr _ => (h.whenOn fun _ h1 => h1.weldClrWrite).finish
  | .weldStrClr _ => (h.whenOn fun _ h1 => h1.weldStrClrWrite).finish
  | .auxTimeout => (h.whenOn fun _ h1 => h1.auxTimeout).finish
  | .weldCheckEnd => (h.whenOn fun _ h1 => h1.weldCheckEnd).finish
  | .preEarlyCheck => (h.whenOn fun _ h1 => h1.preEarlyCheck).finish
  | .preMaxTimeout => (h.whenOn fun _ h1 => h1.preMaxTimeout).finish
  | .overlapEnd => (h.whenOn fun _ h1 => h1.overlapEnd).finish
  | .strCloseTimeout _ => (h.whenOn fun _ h1 => h1.strCloseTimeout).finish
  | .strPreTimeout _ => (h.whenOn fun _ h1 => h1.strPreTimeout).finish
  | .strVerifyTimeout _ => (h.whenOn fun _ h1 => h1.strVerifyTimeout).finish
  | .preCoolEnd => (h.whenOn fun _ h1 => h1.preCoolEnd).finish
  | .digestCompare _ _ _ _ _ _ => (h.whenOn fun _ h1 => h1.digestCompare).finish
  | .digestTimeout _ => (h.whenOn fun _ h1 => h1.digestTimeout).finish
  | .exchangeLate _ => (h.whenOn fun _ h1 => h1.exchangeLate).finish
  | .backstopExpiry => (h.whenOn fun _ h1 => h1.backstopExpiry).finish
  | .backstopDisarm => (h.whenOn fun _ h1 => h1.backstopDisarm).finish
  | .splitPair => (h.whenOn fun _ h1 => h1.rwp fun _ h2 => h2.splitReq).finish
  | .rejoin => (h.whenOn fun _ h1 => h1.rwp fun _ h2 => h2.rejoinReq).finish
  | .rejoinReloadDone => (h.whenOn fun _ h1 => h1.rejoinReloadDone).finish
  | .campGo _ => (h.whenOn fun _ h1 => h1.campWrite).finish
  | .campaignDone _ _ => (h.whenOn fun _ h1 => h1.campaignDone).finish
  | .replayApply => (h.whenOn fun _ h1 => h1.replayApply).finish
  | .dsmLost _ => (h.whenOn fun _ h1 => h1.dsmLost).finish
  | .hallRangeLost => (h.whenOn fun _ h1 => h1.hallRangeLost).finish
  | .hallOpenTest _ => (h.whenOn fun _ h1 => h1.hallOpenTest).finish
  | .sinFilterChange _ _ _ => (h.whenOn fun _ h1 => h1.sinFilterChange).finish
  | .discrepancyTimeout _ => (h.whenOn fun _ h1 => h1.discrepancyTimeout).finish
  | .tpoTestPulse _ => (h.whenOn fun _ h1 => h1.tpoTestPulse).finish
  | .tpoPulseCheck _ _ _ => (h.whenOn fun _ h1 => h1.tpoPulseCheck).finish
  | .tpoCurrentLimit _ => (h.whenOn fun _ h1 => h1.tpoCurrentLimit).finish
  | .tpoRetry _ => (h.whenOn fun _ h1 => h1.tpoRetry).finish
  | .offPulse _ _ => (h.whenOn fun _ h1 => h1.offPulse).finish
  | .offPulseReadback _ _ _ => (h.whenOn fun _ h1 => h1.offPulseReadback).finish
  | .coilReadbackFault _ _ _ => (h.whenOn fun _ h1 => h1.coilReadbackFault).finish
  | .coilTestfailClear _ _ => (h.whenOn fun _ h1 => h1.coilTestfailClear).finish
  | .proofIntervalExpired _ => (h.whenOn fun _ h1 => h1.proofIntervalExpired).finish
  | .proofGraceExpired _ => (h.whenOn fun _ h1 => h1.proofGraceExpired).finish
  | .safeFrameArrival _ _ _ _ _ _ => (h.whenOn fun _ h1 => h1.safeFrameArrival).finish
  | .connectFrameTimer _ => (h.whenOn fun _ h1 => h1.connectFrameTimer).finish
  | .sflWatchdogExpiry _ => (h.whenOn fun _ h1 => h1.sflWatchdogExpiry).finish
  | .inPinEdge _ _ => (h.whenOn fun _ h1 => h1.inPinEdge).finish
  | .generatorEdge _ _ _ => (h.whenOn fun _ h1 => h1.generatorEdge).finish
  | .chanOn _ _ => (h.whenOn fun _ h1 => h1.from1 fun _ h2 => h2.writeOn).finish
  | .chanClr _ => (h.whenOn fun _ h1 => h1.from1 fun _ h2 => h2.clr).finish
  | .swWd _ => (h.whenOn fun _ h1 => h1.from1 fun _ h2 => h2.wdWrite).finish
  | .swWdExpiry => (h.whenOn fun _ h1 => h1.swWdExpiry).finish
  | .swGenWrite _ _ _ => (h.whenOn fun _ h1 => h1.genWrite).finish
  | .currentLimiting _ _ => (h.whenOn fun _ h1 => h1.currentLimiting).finish
  | .shedTimer _ _ => (h.whenOn fun _ h1 => h1.shedTimer).finish
  | .thermalLatchSet _ _ _ => (h.whenOn fun _ h1 => h1.thermalLatchSet).finish
  | .thermalLatchClear _ _ _ => (h.whenOn fun _ h1 => h1.thermalLatchClear).finish
  | .retryWindowExpiry _ => (h.whenOn fun _ h1 => h1.retryWindowExpiry).finish
  | .caseOvertemp _ _ => (h.whenOn fun _ h1 => h1.caseOvertemp).finish
  | .offStateCheck _ _ _ _ _ => (h.whenOn fun _ h1 => h1.offStateCheck).finish
  | .freewheelCheck _ _ => (h.whenOn fun _ h1 => h1.freewheelCheck).finish
  | .ringTail _ _ => (h.whenOn fun _ h1 => h1.from1 fun _ h2 => h2.tailWrite).finish
  | .ringEnable _ _ _ => (h.whenOn fun _ h1 => h1.from1 fun _ h2 => h2.ringCtl).finish
  | .ringStop _ _ => (h.whenOn fun _ h1 => h1.from1 fun _ h2 => h2.ringStop).finish
  | .ringDmaError _ _ _ => (h.whenOn fun _ h1 => h1.ringDmaError).finish
  | .ringNop _ _ => (h.whenOn fun _ h1 => h1.ringNop).finish
  | .nodeRead _ _ _ _ _ _ => (h.whenOn fun _ h1 => h1.nodeRead).finish
  | .nodeWrite _ _ _ _ _ _ _ => (h.whenOn fun _ h1 => h1.nodeWrite).finish
  | .nodeCommandTimeout _ => (h.whenOn fun _ h1 => h1.nodeCommandTimeout).finish
  | .timeAnchor _ _ _ _ _ => (h.whenOn fun _ h1 => h1.timeAnchor).finish
  | .publicationAngle _ => (h.whenOn fun _ h1 => h1.publicationAngle).finish
  | .publicationComplete _ => (h.whenOn fun _ h1 => h1.publicationComplete).finish
  | .publicationAbort _ _ => (h.whenOn fun _ h1 => .ite h1.pubAbort h1).finish
  | .eventRingCopy _ _ => (h.whenOn fun _ h1 => h1.eventRingCopy).finish
  | .bulkRead _ _ _ _ _ _ _ => (h.whenOn fun _ h1 => h1.bulkRead.eccWords).finish
  | .imageChunk _ _ _ _ _ _ _ => (h.whenOn fun _ h1 => h1.imageChunk).finish
  | .msiXHoldoffEnd _ => (h.whenOn fun _ h1 => h1.holdoffEnd).finish
  | .hostIcause _ _ => (h.whenOn fun _ h1 => h1.from1 fun _ h2 => h2.icauseWrite).finish
  | .hostImask _ => (h.whenOn fun _ h1 => h1.from1 fun _ h2 => h2.imaskWrite).finish
  | .perstN _ => h.perstN.finish
  | .functionLevelReset => (h.whenOn fun _ h1 => h1.endpointReset).finish
  | .pcieLinkChange _ _ => (h.whenOn fun _ h1 => h1.pcieLinkChange).finish
  | .macFrameRx _ _ _ _ _ => (h.whenOn fun _ h1 => h1.macFrameRx).finish
  | .eventRecord _ _ _ _ => (h.whenOn fun _ h1 => h1.eventRecord).finish
  | .queuedEventWrite _ => (h.whenOn fun _ h1 => h1.queuedEventWrite).finish
  | .logClear => (h.whenOn fun _ h1 => h1.rwp fun _ h2 => h2.logClear).finish
  | .logRdIdx _ => (h.whenOn fun _ h1 => h1.rdIdxWrite).finish
  | .logHeadSeq => (h.whenRead fun _ h1 => h1.logHeadSeq).finish
  | .pwrOptimeLo => (h.whenRead fun _ h1 => h1.pwrOptimeLo).finish
  | .angNowAu _ => (h.whenRead fun _ h1 => h1.angNowAu).finish
  | .pairRetireLo => (h.whenRead fun _ h1 => h1.pairRetireLo).finish
  | .snapIn _ => (h.whenOn fun _ h1 => h1.snapIn).finish
  | .trigSnap => (h.whenOn fun _ h1 => h1.from1 fun _ h2 => h2.trigSnap).finish
  | .snapOutEnd => (h.whenOn fun _ h1 => h1.snapOutEnd).finish
  | .ackFirst => (h.whenOn fun _ h1 => h1.from1 fun _ h2 => h2.ackFirst).finish
  | .relSlot _ => (h.whenOn fun _ h1 => h1.from1 fun _ h2 => h2.relSlots).finish
  | .claimPort => (h.whenOn fun _ h1 => h1.from1 fun _ h2 => h2.claimPort).finish
  | .releasePort => (h.whenOn fun _ h1 => h1.from1 fun _ h2 => h2.releasePort).finish
  | .tapReset => (h.whenOn fun _ h1 => h1.tapReset).finish
  | .unlockPort => (h.whenOn fun _ h1 => h1.rwp fun _ h2 => h2.unlockPort).finish
  | .lockPort => (h.whenOn fun _ h1 => h1.from1 fun _ h2 => h2.lockPort).finish
  | .haltGaffer _ => (h.whenOn fun _ h1 => h1.fromPort fun _ h2 => h2.haltGaffer).finish
  | .resumeGaffer _ => (h.whenOn fun _ h1 => h1.fromPort fun _ h2 => h2.resumeGaffer).finish
  | .stepGaffer _ => (h.whenOn fun _ h1 => h1.fromPort fun _ h2 => h2.stepGaffer).finish
  | .readMemory _ _ => (h.whenOn fun _ h1 => h1.fromPort fun _ h2 => h2.debugRead).finish
  | .writeMemory _ _ _ => (h.whenOn fun _ h1 => h1.fromPort fun _ h2 => h2.debugWrite).finish
  | .readRegister _ _ => (h.whenOn fun _ h1 => h1.fromPort fun _ h2 => h2.debugRead).finish
  | .writeRegister _ _ _ => (h.whenOn fun _ h1 => h1.fromPort fun _ h2 => h2.debugWrite).finish
  | .setBreakpoint _ _ => (h.whenOn fun _ h1 => h1.fromPort fun _ h2 => h2.setBreakpoint).finish
  | .clearBreakpoint _ _ => (h.whenOn fun _ h1 => h1.fromPort fun _ h2 => h2.clearBreakpoint).finish
  | .registerWrite _ _ _ => (h.whenOn fun _ h1 => h1.hostWrite).finish
  | .breakMark _ _ => h.breakMark.finish
  | .channelValidAgain _ => (h.whenOn fun _ h1 => h1.channelValidAgain).finish
  | .nodePowerLoss _ _ => h.nodePowerLoss.finish
  | .overloadEnd _ => (h.whenOn fun _ h1 => h1.overloadEnd).finish
  | .dieTemperatureMeasurement _ _ _ => h.dieTemperature.finish
  | .ethLinkChange _ _ _ => (h.whenOn fun _ h1 => h1.ethLinkChange).finish
  | .canBusOff _ _ => (h.whenOn fun _ h1 => h1.canBusOff).finish

end Sys2Proof.Machine
end

section
set_option Elab.async false
namespace Sys2Proof.Machine
variable {μ : Mem} {s t : State}

/-- No step takes one of the six maps out of its canonical form. -/
theorem Canon.next (h : Canon μ s) (e : step s = .next t) : Canon μ t := by
  have hs : Gives (step s) (Canon μ) := by
    unfold step
    split
    · exact h.tick.finish
    · exact Canon.exec h.frame _
  obtain ⟨u, hu, hc⟩ := hs
  obtain rfl : u = t := Host.Outcome.next.inj (hu.symm.trans e)
  exact hc

/-- `memoriesWf` speaks of every map but the register file. -/
theorem State.memoriesWf_iff : s.memoriesWf = true ↔ ∀ μ, μ ≠ .regs → Canon μ s := by
  simp only [State.memoriesWf, Bool.and_eq_true]
  constructor
  · rintro ⟨⟨⟨⟨nor, cs1⟩, xram⟩, words⟩, slots⟩ μ hμ
    cases μ with
    | regs => exact absurd rfl hμ
    | nor => exact nor
    | cs1 => exact cs1
    | xram => exact xram
    | words => exact words
    | slots => exact slots
  · intro h
    exact ⟨⟨⟨⟨h .nor nofun, h .cs1 nofun⟩, h .xram nofun⟩, h .words nofun⟩, h .slots nofun⟩

end Sys2Proof.Machine

section
open Sys2Proof Sys2Proof.Machine

/-- Settles O59: the register file's case of `Canon.next`. -/
theorem registersStayCanonical : Obligations.RegistersStayCanonical :=
  fun _ _ h e => Canon.next (μ := .regs) h e

/-- Settles O60: the other five cases of `Canon.next`. -/
theorem memoriesStayCanonical : Obligations.MemoriesStayCanonical :=
  fun _ _ h e => State.memoriesWf_iff.mpr fun μ hμ => (State.memoriesWf_iff.mp h μ hμ).next e

end
end

section
set_option Elab.async false
/-! ## The publication's angle (O50) -/

namespace Sys2Proof.Machine

/-- Stage 4 with a publication in progress, its streams not complete and its angle 100 au ahead. The schedule runs 2 %
below the mains against a slip of 65 au, so the correction ends on the way (R163); INT_CLASS asks for a message at every
record. -/
def slewingPublication : State :=
  { State.reset with
    pwr := { alwaysOn := true, mainOn := true }
    host := { linkUp := true, busMaster := true, perstHigh := true, pub := { angle := 65 } }
    ang := { sched := 65 * 65536 }
    log := { scanDone := true } }.putAll
  [(R.GLOBAL_STAGE_STAGE, 4), (R.HOST_PUB_STAT_ACTIVE, 1), (R.HOST_PUB_STAT_RING, 0), (R.RING_STAT_STATE 0, 1),
    (R.SWP_SCHED2_Q, 100), (R.ANG_STAT_LOCKED, 1), (R.ANG_STAT_SLEWING, 1), (R.ANG_FREQ, 500000), (R.ANG_SFREQ, 490000),
    (R.LOG_CTRL_INT_CLASS, 0)]

/-- HOST_ICAUSE as a command leaves it. -/
def icauseAfter (i : Instr) (s : State) : Option (BitVec 9) :=
  match exec i s with
  | .next t => some t.host.icause
  | _ => none

/-- 0x0305, which the end of the correction logs, sets the log's cause (R551). -/
theorem icauseAfter_slewingPublication : icauseAfter (.publicationAngle 0) slewingPublication = some 4#9 := by
  decide +kernel

end Sys2Proof.Machine

section
open Sys2Proof Sys2Proof.Machine

/-- Refutes O50: its second clause, on a publication's angle that comes before the streams are complete, lets nothing of the
host's state change but the angle's mark. The move of the schedule to that angle can end a slip correction, whose event
then sets a cause of HOST_ICAUSE: `slewingPublication` does so. -/
theorem not_publicationAndEndpoint : ¬ Obligations.PublicationAndEndpoint := by
  intro h
  obtain ⟨-, hAngle, -⟩ := h
  obtain ⟨t, ht, hHost, -⟩ := hAngle slewingPublication 0 (by decide +kernel) (by decide +kernel) (by decide +kernel)
    (by decide +kernel) (by decide +kernel)
  have hCause : icauseAfter (.publicationAngle 0) slewingPublication = some t.host.icause := by simp only [icauseAfter, ht]
  have hKept : t.host.icause = 0#9 := by
    rw [hHost]
    decide +kernel
  rw [icauseAfter_slewingPublication, hKept] at hCause
  exact absurd hCause (by decide)

end
end

section
set_option Elab.async false
/-! ## STOP by a register write (O54) -/

namespace Sys2Proof.Machine

/-- Stage 1 with EXC_EN 0 and no request active, but with the excitation's state at 1. -/
def staleExcitation : State :=
  { State.reset with
    pwr := { alwaysOn := true, mainOn := true }
    host := { perstHigh := true } }.putAll [(R.GLOBAL_STAGE_STAGE, 1), (R.EST_EXC_STAT_STATE, 1)]

/-- The excitation's state as an outcome shows it. -/
def excStateOf : Host.Outcome State Fault Refusal → Option Nat
  | .next t => some (t.get R.EST_EXC_STAT_STATE)
  | _ => none

/-- A write of STOP to EST_EXC_CTRL also writes EXC_EN, and the state follows EXC_EN. -/
theorem excStateOf_stopWritten :
    excStateOf (exec (.registerWrite 0x210b0#32 15#4 2#32) staleExcitation) = some 0 := by
  decide +kernel

/-- EXCITATION_STOP writes no EXC_EN. -/
theorem excStateOf_excitationStop : excStateOf (exec .excitationStop staleExcitation) = some 1 := by
  decide +kernel

end Sys2Proof.Machine

section
open Sys2Proof Sys2Proof.Machine

/-- Refutes O54: its 39th clause has a write of STOP at EXC_EN 0 do in every state what EXCITATION_STOP does. The write also
carries EXC_EN, which renews the excitation's state even where it stays 0 (R341): in `staleExcitation` the two differ. -/
theorem not_hostRegisterWrites : ¬ Obligations.HostRegisterWrites := by
  intro h
  unfold Obligations.HostRegisterWrites at h
  iterate 38 replace h := h.2
  obtain ⟨hStop, -⟩ := h
  obtain ⟨t, hWrite, hRow⟩ := hStop staleExcitation (by decide +kernel)
  have hSame := excStateOf_stopWritten
  rw [hWrite, ← hRow, excStateOf_excitationStop] at hSame
  exact absurd hSame (by decide)

end
end
